-- ==== Sys2Proof/Word.lean ====
section
/-! DEFINITION. The word types of the keeper and their plainest arithmetic (00_scope.md R2: everything on chip is
little-endian; 03_tender_isa_core.md R35: general registers are 64 bits, keeper addresses 48 bits). -/

namespace Sys2Proof

/-- A 64-bit word: a general register or a register of register space. -/
abbrev Word := BitVec 64

/-- One byte of memory. -/
abbrev Byte := BitVec 8

/-- The number of a tender core, 0 to 23. -/
abbrev Tender := Fin 24

/-- The number of a slot, S00 to S15. -/
abbrev Slot := Fin 16

/-- The number of a KCP session, 0 to 7. -/
abbrev Sess := Fin 8

end Sys2Proof
end

