-- ==== Sys2Proof/Syntax.lean ====
section
/-! DEFINITION. The commands of the keeper: one constructor of `Instr` for each row of spec/opcode_table.json, with the row's
operands. The sender of a command is whatever makes the row happen: a tender that executes an instruction (the operand `t`),
a Buoy, a host, the other keeper, a pin, or a time that the state holds. The instruction formats are those of 03 ("Instruction
formats"); the operands of messages are the fields the chapters give them. -/

namespace Sys2Proof

/-- What the ECC of a load's data shows (03 R46, 17 R343): nothing, a corrected error, an uncorrectable one. -/
inductive Ecc
  | clean | corrected | uncorrectable
  deriving DecidableEq, Repr

/-- What a KCP LOAD transfers (16 R332). -/
inductive LoadKind
  | program | trussMap | formatPlan | arrangement
  /-- bytes of the boot flash map at a flash offset: a Standing Orders image, an owner record, the owner configuration or a
  stored owner program (18 R364) -/
  | flash (off : Nat)
  deriving DecidableEq, Repr

/-- A KCP command as its handler takes it (16 R332): the fields of its body. -/
inductive KcpCmd
  | attest (nonce : List Byte)
  | regRead (addrs : List Nat)
  | regWrite (pairs : List (Nat × Word))
  | peg (op : Nat)
  | readMem (addr len : Nat)
  | subscribe (events slots : Nat) (owner time telemetry : Bool) (start : Nat)
  | arm (cls slots ms : Nat)
  | renew (token ms : Nat)
  | disarm (byToken : Bool) (key : Nat)
  | act (major fn : Nat) (ga gb : Word)
  | load (kind : LoadKind) (off total : Nat) (data : List Byte)
  | unbind (pid : Nat)
  | bindJob (digest : List Byte)
  | buddy (tray addrA addrB : Nat) (identA identB : List Byte)
  | noticeSub (addr : Nat) (identity : List Byte)
  | custody (take : Bool)
  | floor (f : Nat)
  | seal (dumps : Bool)
  | release
  | debug (slot : Nat)
  | tenderReset (mask : Nat)
  | macsecSa (channel : Nat) (tx : Bool) (an : Nat) (key salt : List Byte) (ssci : Nat)
  | owner (code : Nat) (body : List Byte)
  | flashWrite (image off : Nat) (data : List Byte)
  | restart
  /-- a CLOSE frame (16 R324), which stands in the same sequence as the commands -/
  | close
  deriving DecidableEq, Repr

/-- What an AUDIT message of a Buoy carries (07 R134, R135): samples skipped, or a sample's header and sections, whether it came whole
and what the memory met. -/
inductive AuditMsg
  | skipped (count : Nat)
  | sample (hdr a b c d : List Byte) (whole : Bool) (ecc : Ecc)
  deriving DecidableEq, Repr

/-- One engine's counters in a COUNTERS message (09 R183). -/
structure CounterSample where
  engine : Nat
  coincident : Bool
  cmdCycles : Nat
  done : Nat
  busy : Nat
  time : Nat
  deriving DecidableEq, Repr

/-- An identity as a Buoy announced it (13 R278). -/
structure Ident where
  maker : Nat
  part : Nat
  major : Nat
  minor : Nat
  /-- position straps -/
  slot : Nat
  serialLo : Word
  serialHi : Word
  /-- firmware digest, 48 bytes -/
  fw : List Byte
  /-- Δ in 1/16 tick -/
  delta : Int
  cores : Nat
  engines : Nat
  contexts : Nat
  deriving DecidableEq, Repr

/-- Who makes a MARK (09 R169): a tender by a store to TRC_SLOT_nn_MARK, or an engine's firmware, whose Buoy brings it in the class TRACE (13 R277). -/
inductive MarkBy
  | store (t : Tender)
  | firmware (engine : BitVec 10) (ctx : BitVec 12) (time : Word)
  deriving DecidableEq, Repr

/-- The pins that are read when PWROK rises (19 R377, R384): PAIR_ROLE high on the relief, TEST_MODE. -/
structure PowerPins where
  relief : Bool
  testMode : Bool
  deriving DecidableEq, Repr

/-- An ACCEPT with the frame that follows it (16 R326, 11 R236): its body, and the attestation report of the keeper that sends it. -/
structure AcceptFrames where
  body : List Byte
  report : List Byte
  deriving DecidableEq, Repr

/-- How the beats of a transfer went (17 R343, R344, R354): the elements converted when it pauses next, none where it goes on to its end; the element at which
an uncorrectable error showed, the elements at which one was corrected, and the pauses before. -/
structure DmaBeats where
  upTo : Option Nat := none
  ue : Option Nat
  ce : List Nat
  pauses : Nat
  deriving DecidableEq, Repr

/-- What a receiver made of a frame that did not pass as sent (13 R274, R275). -/
inductive FrameFault
  /-- codewords corrected: the frame is good -/
  | corrected (k : Nat)
  /-- a failed CRC, an uncorrectable codeword or a gap in sequence: the frame is discarded -/
  | discarded
  /-- a good frame after one discarded that is not the one expected: discarded too (R275) -/
  | late
  /-- the frame expected arrives by replay: delivery goes on (R275) -/
  | expected
  /-- a good frame of a reserved class: discarded and counted (R277) -/
  | reservedClass
  /-- a message of a reserved type: discarded with an ALARM (R277) -/
  | reservedType
  deriving DecidableEq, Repr

/-- The header of a replication frame (11 R228); `assoc` names the association it came on: 0 the counterpart's, 1 to 4 those of the
restore sources, 5 the pair link, 6 and up those of requesters this keeper serves. -/
structure ReplHdr where
  assoc : Nat
  magic : Nat
  version : Nat
  kind : Nat
  src : Nat
  dst : Nat
  jobId : Nat
  step : Nat
  seq : Nat
  seg : Nat
  off : Nat
  len : Nat
  flags : Nat
  value : Nat
  /-- the bits that the layout gives as zero are zero -/
  clean : Bool
  deriving DecidableEq, Repr

/-- A SEGMENT message of a Buoy (11 R214): its coordinates, the sections it holds (tensor_id, bytes, whether it is a scale array) and the raw
bytes; or a segment forwarded by the other keeper over the pair link in stored form with its record (R215). -/
inductive SegMsg
  | raw (grain tensor toff : Nat) (sections : List (Nat × Nat × Bool)) (data : List Byte)
  | forwarded (rcd stored : List Byte)
  deriving DecidableEq, Repr

/-- The transport of a KCP frame: a UDP datagram to a port, over IP version 6 or 4, or the Ethertype 0x88B5 (16 R323). -/
inductive KcpVia
  | udp (v6 : Bool) (port : Nat)
  | ether
  deriving DecidableEq, Repr

/-- The MACsec tag of a frame: its receive channel, association number, packet number (16 R322). -/
structure SecTag where
  channel : Nat
  an : Nat
  pn : Nat
  deriving DecidableEq, Repr

/-- What stands before the body of a KCP frame that arrives: the VID of its VLAN tag, its MACsec tag, whether it came to the station address, its
transport, and of the KCP header the version, the sequence number (zero in an unsequenced class) and the cumulative acknowledgement (16 R319 to R323). -/
structure KcpHead where
  vid : Option Nat := none
  sec : Option SecTag := none
  station : Bool := false
  via : KcpVia := .udp false 7461
  version : Nat := 1
  seq : Nat := 0
  ack : Nat := 0
  deriving DecidableEq, Repr

/-- A NOTICE frame and the address that its sender is to be reached at (16 R335). -/
structure NoticeFrom where
  head : KcpHead
  addr : Nat
  deriving DecidableEq, Repr

/-- A NOTICE frame: what stands before its body, and its body (16 R335). -/
structure NoticeFrame where
  head : KcpHead
  body : List Byte
  deriving DecidableEq, Repr

/-- What a CLOSE ends: a session, or an association of this keeper with another, by its number (16 R328, 11 R236). -/
inductive CloseWhat
  | sess (x : Sess)
  | assoc (n : Nat)
  deriving DecidableEq, Repr

/-- Who sends an OPEN (16 R326, R335; 11 R236): a host; another keeper, whose first frame carries its
attestation report with its device certificate, for the replication association (0) or a restore association (6 and up). -/
inductive OpenKind
  | host
  | assoc (n : Nat) (report : List Byte)
  deriving DecidableEq, Repr

/-- What is wrong with a frame at the host port (16 R319 to R322, R324, R325, R338): nothing, a bad FCS, uncorrectable FEC codewords, a frame above
the MTU, stacked VLAN tags, an IPv4 packet with options or a fragment or an IPv6 packet with extension headers, a wrong UDP checksum, a MACsec ICV
failure, a failed tag, a reserved class. -/
inductive PortFault
  | none | badFcs | fecUncorr (k : Nat) | oversize | stackedTags | ipForm | udpSum | icv | badTag | dropped
  deriving DecidableEq, Repr

/-- A frame of a session as it is mirrored: its seq (0 where it waits for room in the window), class, ref, code, body (16 R329). -/
structure SentFrame where
  seq : Nat
  cls : Nat
  ref : Nat
  code : Nat
  body : List Byte
  deriving DecidableEq, Repr

/-- A session's position (14 R287). -/
structure SessPos where
  isOpen : Bool
  priv : Nat
  key : Nat
  slots : Nat
  /-- incarnation at ACCEPT -/
  inc : Nat
  keyIn : List Byte
  keyOut : List Byte
  /-- the transport and the address (station or service) at which the host reached the keeper last -/
  via : KcpVia
  station : Bool
  /-- next host frame -/
  rxNext : Nat
  /-- next keeper frame -/
  txNext : Nat
  /-- next command number -/
  nextCmd : Nat
  /-- the lowest command whose completion the host has not acknowledged -/
  owed : Nat
  /-- the cursor of its log window -/
  cursor : Nat
  /-- frames not acknowledged, and after them those that wait for the window -/
  window : List SentFrame
  /-- subscription: events, slots, owner, time, telemetry, next record -/
  sub : Option (Nat × Nat × Bool × Bool × Bool × Nat)
  deriving DecidableEq, Repr

/-- An item that the keeper in control mirrors (14 R287, R295). -/
inductive MirrorMsg
  /-- a logbook record: its 120 ring bytes -/
  | record (ring : List Byte)
  /-- an accepted command of a session -/
  | command (x num frame handle : Nat) (cmd : KcpCmd)
  /-- the completion of a command -/
  | completion (x num status : Nat) (body : List Byte)
  /-- an acting instruction accepted: ticket, major, fn, target slots, slot of its records, issuer (none the hardware stop path), instruction word, pc,
  operands, arming word, the session command it answers -/
  | action (ticket major fn mask recSlot : Nat) (tender : Option Tender) (iword pc : Nat) (ga gb arming : Word) (cmd : Option (Nat × Nat))
  /-- the end of an action and its result -/
  | actionEnd (ticket result : Nat)
  | ticket (t : Nat)
  /-- an arming entry: valid, class, slots, session, generation, expiry -/
  | arming (e : Fin 16) (valid : Bool) (cls slots sess gen expiry : Nat)
  | session (x : Sess) (p : SessPos)
  /-- the commit record, its 416 bytes (11 R224) -/
  | commit (bytes : List Byte)
  /-- a slot's phase, stop mask bit, PWR_GOOD seen, W1 held by the other keeper, levels of W0, W2 and W3, and the row of the power-on or reset sequence
  that is to come (0 none, then 1 to 8 in the order of 13 R268) with the beacon time at which it falls due -/
  | slot (n : Slot) (phase : Nat) (stopped powered w1 w0 w2 w3 : Bool) (row : Nat) (due : Option Nat)
  /-- the slot sequence of the staggered start: begun, done (13 R273) -/
  | sequence (begun done : Bool)
  /-- no mirrored item: the other keeper has accepted a slot's Buoy with this serial (13 R279) -/
  | accepted (n : Slot) (lo hi : Word)
  /-- a subscriber to the keeper's notices: address, identity digest, SESSION key; false: it is dropped (16 R335) -/
  | subscriber (on : Bool) (addr : Nat) (identity key : List Byte)
  /-- what BUDDY named: tray, station addresses and identity digests (01 R8) -/
  | buddyIds (tray addrA addrB : Nat) (identA identB : List Byte)
  /-- the entries that each staging set holds at a PEG, sets 0 to 63 (14 R287) -/
  | setCounts (counts : List Nat)
  /-- no mirrored item: the other keeper reports a mooring wire of its own that has failed (13 R270) -/
  | wireFault (n : Slot) (w : Fin 4)
  /-- no mirrored item: an ALARM edge, a HEARTBEAT edge or a W3 echo with its tick at the other keeper's wire, forwarded (13 R270) -/
  | proxyAlarm (n : Slot)
  | proxyHeartbeat (n : Slot)
  | proxyEcho (n : Slot) (a : Nat)
  /-- a committed value of a register's ST fields -/
  | stField (off : Nat) (mask val : Word)
  /-- an image: an owner program -/
  | program (image : List Byte)
  /-- the floor record: program_id and floor of each of its 32 entries, and the count -/
  | floors (entries : Vector (Option (Nat × Nat)) 32) (count : Nat)
  /-- the job's truss map and format plan, each with the address it lies at -/
  | truss (mapAt planAt : Nat) (map plan : List Byte)
  /-- an arrangement table with its generation and its step, pending or in force -/
  | arrangement (gen step : Nat) (table : List Nat) (active : Bool)
  /-- the job that is loaded is bound, and the data-order digest of BIND_JOB (08 R159) -/
  | job (bound : Bool) (dataOrder : Option (List Byte))
  /-- the session that holds custody, and LOG_FLOOR (15 R309) -/
  | custody (holder : Option Nat) (floor : Nat)
  /-- the committed values of registers' ST fields: offset, mask, value of each -/
  | stFields (l : List (Nat × Word × Word))
  /-- a ledger snapshot of a slot: its open entries, each with its place and in the 16-byte form of 09 R164, and the untracked counts of its engines -/
  | ledger (n : Slot) (entries : List (Nat × List Byte)) (untracked : List (Nat × Nat))
  /-- a drain point of a trace stream: the places, among the records received since the last one, of those that have landed or been dropped (09 R172) -/
  | drained (n : Slot) (gone : List Nat)
  /-- no mirrored item: the other keeper tells whether its link to a slot is up (09 R163) -/
  | link (n : Slot) (up : Bool)
  /-- no mirrored item: bytes of the logbook mirror or of the load area that this keeper lost with a channel, copied at their address (17 R348) -/
  | copied (addr : Nat) (bytes : List Byte)
  /-- no mirrored item: the other keeper asks for its copy of what it lost with a channel: the logbook mirror, or the load area (17 R348) -/
  | copyAsk (loadArea : Bool) (channel : Nat)
  /-- no mirrored item: a health record of the relief, its 120 ring bytes (15 R308) -/
  | health (ring : List Byte)
  /-- no mirrored item: the other keeper reports that its counterpart is lost, or answers again (11 R233) -/
  | buddy (lost : Bool)
  /-- no mirrored item: the follower tells whether it has committed the image of a step that the keeper in control has committed (11 R223) -/
  | image (step : Nat) (committed : Bool)
  /-- a keeper to whose notices this pair has subscribed, as a subscriber is told; false: the subscription has ended (16 R335) -/
  | subscribed (on : Bool) (addr : Nat) (identity key : List Byte)
  /-- the dump index, its 512 bytes (10 R202) -/
  | dumpIndex (bytes : List Byte)
  /-- LOG_NEXT (15 R308) -/
  | logNext (n : Nat)
  /-- the KCP incarnation (16 R331) -/
  | incarnation (k : Nat)
  /-- the copying of R295 begins: what the follower held as mirrored stands no longer -/
  | resyncBegin
  /-- no mirrored item: a copy of R295 or of the SNAPSHOT class, kept and not acknowledged -/
  | copy (m : MirrorMsg)
  /-- the resynchronisation is complete -/
  | synced
  deriving DecidableEq, Repr

/-- A link of R275: to the Buoy on a port, or to the other keeper, whose frames are the same (14). -/
inductive LinkEnd
  | buoy (p : Slot)
  | pair
  deriving DecidableEq, Repr

/-- The commands: one constructor for each row of the opcode table, in the table's order. -/
inductive Instr
  /-- ALU (R42): Register-register operation selected by fn on g[ra] and g[rb], result written to rd. -/
  | alu (t : Tender) (rd ra rb : Fin 32) (fn : BitVec 10)
  /-- ADDI (R41): Adds the sign-extended 15-bit immediate to g[ra]. -/
  | addi (t : Tender) (rd ra : Fin 32) (imm : BitVec 15)
  /-- ANDI (R41): ANDs g[ra] with the zero-extended immediate. -/
  | andi (t : Tender) (rd ra : Fin 32) (imm : BitVec 15)
  /-- ORI (R41): ORs g[ra] with the zero-extended immediate. -/
  | ori (t : Tender) (rd ra : Fin 32) (imm : BitVec 15)
  /-- XORI (R41): XORs g[ra] with the zero-extended immediate. -/
  | xori (t : Tender) (rd ra : Fin 32) (imm : BitVec 15)
  /-- SLTI (R41): Sets rd to 1 if g[ra] is less than the sign-extended immediate, signed. -/
  | slti (t : Tender) (rd ra : Fin 32) (imm : BitVec 15)
  /-- SLTIU (R41): Sets rd to 1 if g[ra] is less than the sign-extended immediate, unsigned. -/
  | sltiu (t : Tender) (rd ra : Fin 32) (imm : BitVec 15)
  /-- SHI (R43): Shifts or rotates g[ra] by an immediate amount. -/
  | shi (t : Tender) (rd ra : Fin 32) (imm : BitVec 15)
  /-- EXTU (R43): Extracts a bit field of g[ra], zero-extended. -/
  | extu (t : Tender) (rd ra : Fin 32) (imm : BitVec 15)
  /-- EXTS (R43): Extracts a bit field of g[ra], sign-extended. -/
  | exts (t : Tender) (rd ra : Fin 32) (imm : BitVec 15)
  /-- INS (R43): Inserts the low bits of g[ra] into a bit field of rd. -/
  | ins (t : Tender) (rd ra : Fin 32) (imm : BitVec 15)
  /-- LUI (R44): Loads a sign-extended upper immediate into bits [31:12]. -/
  | lui (t : Tender) (rd : Fin 32) (imm : BitVec 20)
  /-- LUH (R44): Replaces bits [63:32] of rd with the sign-extended immediate. -/
  | luh (t : Tender) (rd : Fin 32) (imm : BitVec 20)
  /-- AUIPC (R44): Adds an upper immediate to pc. -/
  | auipc (t : Tender) (rd : Fin 32) (imm : BitVec 20)
  /-- LDB (R45): Loads one byte, sign-extended, after the address checks. -/
  | ldb (t : Tender) (rd ra : Fin 32) (imm : BitVec 15) (ecc : Ecc)
  /-- LDH (R45): Loads two bytes, sign-extended. -/
  | ldh (t : Tender) (rd ra : Fin 32) (imm : BitVec 15) (ecc : Ecc)
  /-- LDW (R45): Loads four bytes, sign-extended. -/
  | ldw (t : Tender) (rd ra : Fin 32) (imm : BitVec 15) (ecc : Ecc)
  /-- LDD (R45): Loads eight bytes. -/
  | ldd (t : Tender) (rd ra : Fin 32) (imm : BitVec 15) (ecc : Ecc)
  /-- LDBU (R45): Loads one byte, zero-extended. -/
  | ldbu (t : Tender) (rd ra : Fin 32) (imm : BitVec 15) (ecc : Ecc)
  /-- LDHU (R45): Loads two bytes, zero-extended. -/
  | ldhu (t : Tender) (rd ra : Fin 32) (imm : BitVec 15) (ecc : Ecc)
  /-- LDWU (R45): Loads four bytes, zero-extended. -/
  | ldwu (t : Tender) (rd ra : Fin 32) (imm : BitVec 15) (ecc : Ecc)
  /-- LDP (R45): Loads 16 bytes into an even-odd register pair. -/
  | ldp (t : Tender) (rd ra : Fin 32) (imm : BitVec 15) (ecc : Ecc)
  /-- STB (R45): Stores one byte, posted if to LPDDR5X. -/
  | stb (t : Tender) (rt ra : Fin 32) (imm : BitVec 15)
  /-- STH (R45): Stores two bytes. -/
  | sth (t : Tender) (rt ra : Fin 32) (imm : BitVec 15)
  /-- STW (R45): Stores four bytes. -/
  | stw (t : Tender) (rt ra : Fin 32) (imm : BitVec 15)
  /-- STD (R45): Stores eight bytes. -/
  | std (t : Tender) (rt ra : Fin 32) (imm : BitVec 15)
  /-- STP (R45): Stores 16 bytes from an even-odd register pair. -/
  | stp (t : Tender) (rt ra : Fin 32) (imm : BitVec 15)
  /-- AMO (R47): Atomic read-modify-write of a naturally aligned word, returning the old value. -/
  | amo (t : Tender) (rd ra rb : Fin 32) (fn : BitVec 10) (ecc : Ecc)
  /-- FENCE (R50): Orders memory accesses; with sync set waits for posted stores and may raise POSTERR. -/
  | fence (t : Tender) (rd ra : Fin 32) (imm : BitVec 15)
  /-- BEQ (R41): Branches if equal. -/
  | beq (t : Tender) (ra rb : Fin 32) (off : BitVec 15)
  /-- BNE (R41): Branches if not equal. -/
  | bne (t : Tender) (ra rb : Fin 32) (off : BitVec 15)
  /-- BLT (R41): Branches if less, signed. -/
  | blt (t : Tender) (ra rb : Fin 32) (off : BitVec 15)
  /-- BGE (R41): Branches if greater or equal, signed. -/
  | bge (t : Tender) (ra rb : Fin 32) (off : BitVec 15)
  /-- BLTU (R41): Branches if less, unsigned. -/
  | bltu (t : Tender) (ra rb : Fin 32) (off : BitVec 15)
  /-- BGEU (R41): Branches if greater or equal, unsigned. -/
  | bgeu (t : Tender) (ra rb : Fin 32) (off : BitVec 15)
  /-- JAL (R41): Jumps pc-relative and links. -/
  | jal (t : Tender) (rd : Fin 32) (off : BitVec 20)
  /-- JALR (R41): Jumps to register plus offset and links. -/
  | jalr (t : Tender) (rd ra : Fin 32) (imm : BitVec 15)
  /-- TSR (R48): Reads a tender state register. -/
  | tsr (t : Tender) (rd ra : Fin 32) (imm : BitVec 15)
  /-- TSW (R48): Writes a tender state register at ORDER. -/
  | tsw (t : Tender) (rd ra : Fin 32) (imm : BitVec 15)
  /-- TRET (R54): Returns from a trap to TS_TPC and restores privilege. -/
  | tret (t : Tender) (rd ra rb : Fin 32) (fn : BitVec 10)
  /-- BRK (R59): Takes the BRK trap. -/
  | brk (t : Tender) (rd ra : Fin 32) (imm : BitVec 15)
  /-- TRAPI (R59): Takes a software trap with a code. -/
  | trapi (t : Tender) (rd ra : Fin 32) (imm : BitVec 15)
  /-- BUSTIMEOUT (R39): A register-space access unanswered within 4 us raises BUSTIMEOUT. -/
  | bustimeout (t : Tender) (major : BitVec 7) (rd ra : Fin 32) (imm : BitVec 15)
  /-- WATCHDOG (R58): The tender watchdog expires and traps or halts the tender. -/
  | watchdog (t : Tender)
  /-- POSTED_STORE_FAIL (R46): A posted LPDDR5X store fails later and sets TS_STATUS.posterr. -/
  | postedStoreFail (t : Tender) (addr : Nat)
  /-- WAIT (R67): Delivers and removes the oldest highest-priority event, or sleeps. -/
  | waitEv (t : Tender) (rd ra rb : Fin 32) (fn : BitVec 10)
  /-- PEEK (R67): Delivers the next event without removing it. -/
  | peek (t : Tender) (rd ra rb : Fin 32) (fn : BitVec 10)
  /-- WAIT_TIMEOUT (R67): A sleeping WAIT reaches its timeout and returns no event. -/
  | waitTimeout (t : Tender)
  /-- EVENT_ENQUEUE (R65): A raised event enters its routed tender's queue and wakes a waiting tender. -/
  | eventEnqueue (t : Tender)
  /-- RAISE (R69): Raises an event along its route. -/
  | raise (t : Tender) (rd ra rb : Fin 32) (fn : BitVec 10)
  /-- RAISE_DIRECT (R69): Raises an event directly to a named tender at a given priority. -/
  | raiseDirect (t : Tender) (rd ra rb : Fin 32) (fn : BitVec 10)
  /-- STG (R72): Stages a value into a register's ST fields in a named set. -/
  | stg (t : Tender) (rd ra rb : Fin 32) (fn : BitVec 10)
  /-- PEG_COMMIT (R73): Applies every entry of a staging set on one PCLK edge. -/
  | pegCommit (t : Tender) (rd ra rb : Fin 32) (fn : BitVec 10)
  /-- PEG_DISCARD (R73): Empties a staging set with no effect. -/
  | pegDiscard (t : Tender) (rd ra rb : Fin 32) (fn : BitVec 10)
  /-- PEG_COUNT (R73): Returns the number of pending entries of a set. -/
  | pegCount (t : Tender) (rd ra rb : Fin 32) (fn : BitVec 10)
  /-- MOOR_READ (R75): Reads a slot's mooring wire levels and phase. -/
  | moorRead (t : Tender) (rd ra rb : Fin 32) (fn : BitVec 10) (levels : Nat)
  /-- MOOR_PHASE (R75): Moves a slot between mooring phases by phase command. -/
  | moorPhase (t : Tender) (rd ra rb : Fin 32) (fn : BitVec 10)
  /-- MOOR_SHIFT (R75): Shifts bits out on W2 and samples W3 in dump phase. -/
  | moorShift (t : Tender) (rd ra rb : Fin 32) (fn : BitVec 10) (sampled : Word)
  /-- LEDG_LOOKUP (R76): Writes the ledger entry at a key. -/
  | ledgLookup (t : Tender) (rd ra rb : Fin 32) (fn : BitVec 10)
  /-- LEDG_OLDEST (R76): Writes the earliest-begun open entry of an engine. -/
  | ledgOldest (t : Tender) (rd ra rb : Fin 32) (fn : BitVec 10)
  /-- LEDG_COUNT (R76): Writes an engine's count record. -/
  | ledgCount (t : Tender) (rd ra rb : Fin 32) (fn : BitVec 10)
  /-- LEDG_NEXTOUT (R76): Writes the next timed-out entry of a slot at or after the key. -/
  | ledgNextout (t : Tender) (rd ra rb : Fin 32) (fn : BitVec 10)
  /-- LEDG_SNAPSHOT (R76): Writes all entries of a slot as of one PCLK cycle. -/
  | ledgSnapshot (t : Tender) (rd ra rb : Fin 32) (fn : BitVec 10)
  /-- DMOV_START (R77): Queues a DMA descriptor on a channel. -/
  | dmovStart (t : Tender) (rd ra rb : Fin 32) (fn : BitVec 10)
  /-- DMOV_QUERY (R77): Returns a channel's queue depth and last completed sequence. -/
  | dmovQuery (t : Tender) (rd ra rb : Fin 32) (fn : BitVec 10)
  /-- DMOV_ABORT (R77): Ends a channel's running and queued transfers as aborted. -/
  | dmovAbort (t : Tender) (rd ra rb : Fin 32) (fn : BitVec 10)
  /-- DMOV_PACED (R77): Queues a descriptor for an event-paced start. -/
  | dmovPaced (t : Tender) (rd ra rb : Fin 32) (fn : BitVec 10)
  /-- PLMB_ISSUE (R78): Queues a Plumb op and returns a ticket. -/
  | plmbIssue (t : Tender) (rd ra rb : Fin 32) (fn : BitVec 10)
  /-- PLMB_QUERY (R78): Returns the state of a Plumb op by ticket. -/
  | plmbQuery (t : Tender) (rd ra rb : Fin 32) (fn : BitVec 10)
  /-- DGST (R79): Submits a SHA-384 digest request to the security block. -/
  | dgst (t : Tender) (rd ra rb : Fin 32) (fn : BitVec 10)
  /-- SIGN (R79): Submits an ECDSA P-384 signing request under a keeper key. -/
  | sign (t : Tender) (rd ra rb : Fin 32) (fn : BitVec 10)
  /-- VRFY (R79): Submits an ECDSA P-384 verification request. -/
  | vrfy (t : Tender) (rd ra rb : Fin 32) (fn : BitVec 10)
  /-- SEC_REQUEST_DONE (R79): A queued digest, signature or verification completes and the issuing tender resumes. -/
  | secRequestDone
  /-- LOGW (R81): Writes a logbook record with its snapshot into the retained ring. -/
  | logw (t : Tender) (rd ra rb : Fin 32) (fn : BitVec 10)
  /-- SEND_COMPLETE (R82): Queues a COMPLETE frame ending a session command. -/
  | sendComplete (t : Tender) (rd ra rb : Fin 32) (fn : BitVec 10)
  /-- SEND_RESPONSE (R82): Queues a RESPONSE frame for a session command. -/
  | sendResponse (t : Tender) (rd ra rb : Fin 32) (fn : BitVec 10)
  /-- SEND_NOTICE (R82): Sends a signed pod notice to subscribed keepers. -/
  | sendNotice (t : Tender) (rd ra rb : Fin 32) (fn : BitVec 10)
  /-- RSET_CORE (R86): Acting: resets one core through the Buoy. -/
  | rsetCore (t : Tender) (rd ra rb : Fin 32) (fn : BitVec 10)
  /-- RSET_LINKS (R86): Acting: resets and retrains an accelerator's links. -/
  | rsetLinks (t : Tender) (rd ra rb : Fin 32) (fn : BitVec 10)
  /-- RSET_MEMORY (R86): Acting: resets and retrains an accelerator's memory. -/
  | rsetMemory (t : Tender) (rd ra rb : Fin 32) (fn : BitVec 10)
  /-- RSET_WARM (R86): Acting: resets the accelerator through the Buoy, link kept up. -/
  | rsetWarm (t : Tender) (rd ra rb : Fin 32) (fn : BitVec 10)
  /-- RSET_COLD (R86): Acting: moves the slot to stagger and holds RESET_L for a hold time. -/
  | rsetCold (t : Tender) (rd ra rb : Fin 32) (fn : BitVec 10)
  /-- RSET_HOLD (R86): Acting: as COLD but holds reset until RELEASE. -/
  | rsetHold (t : Tender) (rd ra rb : Fin 32) (fn : BitVec 10)
  /-- RSET_RELEASE (R86): Acting: releases a held reset and returns the slot to run. -/
  | rsetRelease (t : Tender) (rd ra rb : Fin 32) (fn : BitVec 10)
  /-- PWR_ON (R86): Acting: powers slots in the owner's stagger order. -/
  | pwrOn (t : Tender) (rd ra rb : Fin 32) (fn : BitVec 10)
  /-- PWR_OFF (R86): Acting: holds W0 low on both keepers. -/
  | pwrOff (t : Tender) (rd ra rb : Fin 32) (fn : BitVec 10)
  /-- PWR_CYCLE (R86): Acting: powers slots off, then on after the off time. -/
  | pwrCycle (t : Tender) (rd ra rb : Fin 32) (fn : BitVec 10)
  /-- PWR_CAP (R86): Acting: sets the accelerator power cap through the Buoy. -/
  | pwrCap (t : Tender) (rd ra rb : Fin 32) (fn : BitVec 10)
  /-- FENC_FENCE (R86): Acting: fences one core. -/
  | fencFence (t : Tender) (rd ra rb : Fin 32) (fn : BitVec 10)
  /-- FENC_UNFENCE (R86): Acting: returns a fenced core to service. -/
  | fencUnfence (t : Tender) (rd ra rb : Fin 32) (fn : BitVec 10)
  /-- OCLT_STOP (R190): Acting: drives OCCULT low on W1 of each slot in the issue cycle. -/
  | ocltStop (t : Tender) (rd ra rb : Fin 32) (fn : BitVec 10)
  /-- OCLT_AT (R193): Acting: schedules a stop of slots at a beacon tick. -/
  | ocltAt (t : Tender) (rd ra rb : Fin 32) (fn : BitVec 10)
  /-- OCLT_CANCEL (R86): Acting: cancels the pending scheduled stop. -/
  | ocltCancel (t : Tender) (rd ra rb : Fin 32) (fn : BitVec 10)
  /-- OCLT_RELEASE (R192): Acting: sends a resume tick and releases OCCULT. -/
  | ocltRelease (t : Tender) (rd ra rb : Fin 32) (fn : BitVec 10)
  /-- ROLL_ROLLBACK (R234): Acting: reloads slots from the last committed own image. -/
  | rollRollback (t : Tender) (rd ra rb : Fin 32) (fn : BitVec 10)
  /-- ROLL_RESTORE (R238): Acting: loads slots from named copies under a new arrangement. -/
  | rollRestore (t : Tender) (rd ra rb : Fin 32) (fn : BitVec 10)
  /-- QUAR_LINK (R86): Acting: quarantines this keeper's Buoy link of a slot. -/
  | quarLink (t : Tender) (rd ra rb : Fin 32) (fn : BitVec 10)
  /-- QUAR_SLOT (R86): Acting: takes an accelerator out of the job. -/
  | quarSlot (t : Tender) (rd ra rb : Fin 32) (fn : BitVec 10)
  /-- QUAR_RELEASE (R280): Acting: ends a quarantine without retraining, refused after a disagreeing identity. -/
  | quarRelease (t : Tender) (rd ra rb : Fin 32) (fn : BitVec 10)
  /-- ACTION_DONE (R85): The Buoy reports the outcome of an action and ACT_DONE or ACT_FAILED is delivered. -/
  | actionDone (n : Slot) (ticket : Nat) (ok : Bool)
  /-- ACTION_READY_TIMEOUT (R204): A Buoy fails to report ready in time and the action ends ACT_FAILED TIMEOUT. -/
  | actionReadyTimeout (n : Slot)
  /-- COLD_HOLD_EXPIRED (R86): The hold time of RSET COLD ends and RESET_L is released. -/
  | coldHoldExpired (n : Slot)
  /-- PWR_CYCLE_OFF_EXPIRED (R86): The off time of PWR CYCLE ends and the slot is powered on. -/
  | pwrCycleOffExpired (n : Slot)
  /-- PWR_OFF_DONE (R86): Both W0 lines have been low for 1 ms and PWR OFF completes. -/
  | pwrOffDone (n : Slot)
  /-- ARM (R101): KCP command asking tender 23 to arm a class for slots. -/
  | kcpArm (x : Sess) (h : KcpHead) (cls slots ms : Nat)
  /-- RENEW (R101): KCP command asking to renew an arming entry by token. -/
  | kcpRenew (x : Sess) (h : KcpHead) (token ms : Nat)
  /-- DISARM (R101): KCP command removing an arming entry or class. -/
  | kcpDisarm (x : Sess) (h : KcpHead) (byToken : Bool) (key : Nat)
  /-- GRANT (R370): EVT_GRANT store with op GRANT writes an arming entry with a new generation. -/
  | grant (t : Tender) (value : Word)
  /-- GRANT_RENEW (R370): EVT_GRANT store with op RENEW changes only an entry's expiry. -/
  | grantRenew (t : Tender) (value : Word)
  /-- GRANT_REMOVE (R370): EVT_GRANT store with op REMOVE invalidates an entry. -/
  | grantRemove (t : Tender) (value : Word)
  /-- ARM_EXPIRED (R103): An arming entry reaches its expiry at the end of a PCLK cycle. -/
  | armExpired (e : Fin 16)
  /-- LOAD (R91): KCP LOAD of image fragments, checked when whole and bound or refused. -/
  | kcpLoad (x : Sess) (h : KcpHead) (kind : LoadKind) (off total : Nat) (data : List Byte)
  /-- UNBIND (R92): KCP command unbinding an owner program. -/
  | kcpUnbind (x : Sess) (h : KcpHead) (pid : Nat)
  /-- BINDING_TAKES_EFFECT (R92): A pending binding or unbinding applies on a tender once its running handler ends. -/
  | bindingTakesEffect (t : Tender)
  /-- HANDLER_BUDGET_EXPIRED (R97): An owner handler overruns its budget and is ended with a record. -/
  | handlerBudgetExpired (t : Tender)
  /-- PLB_ENV_SAMPLE (R126): Every 10 us the tile sensors are sampled against the envelope. -/
  | plbEnvSample (temps volts : Vector (BitVec 8) 8)
  /-- TILE_SETTLED (R127): A tile has stayed within margins for settle_ms and its return canary is run. -/
  | tileSettled (k : Fin 8)
  /-- PLB_TILE_DISABLE (R127): Clearing a tile_en bit takes the tile out of rotation with reason 1. -/
  | plbTileDisable (t : Tender) (value : Word)
  /-- PLB_OP_DEQUEUE (R130): A tile dequeues an op, validates it and starts it. -/
  | plbOpDequeue (k : Fin 8)
  /-- PLB_OP_COMPLETE (R141): A Plumb op or confirming run ends, its outcome is decided and recorded. -/
  | plbOpComplete (k : Fin 8) (wrong : Option (List Byte)) (ecc : Ecc)
  /-- PLB_RES_HEAD_WRITE (R142): Advancing the result ring head frees space for a waiting record. -/
  | plbResHeadWrite (t : Tender) (value : Word)
  /-- SAMPLE (R135): An audit sample arrives from a Buoy and is turned into an op or skipped. -/
  | plbSample (n : Slot) (msg : AuditMsg)
  /-- CREDIT (R132): The keeper grants a capture credit once operand SRAM is reserved. -/
  | plbCredit (n : Slot) (pages : Nat)
  /-- KEY_DRAIN_DONE (R139): Earlier-step samples drain and key_pending returns to 0. -/
  | keyDrainDone
  /-- CANARY_GATE_TIMEOUT (R145): A gated canary's bins are not met in time and it completes CANARY_TIMEOUT. -/
  | canaryGateTimeout (k : Fin 8)
  /-- CANARY (R145): A Buoy returns a core canary digest, compared with the expected one. -/
  | plbCanary (n : Slot) (ticket : Nat) (digest : BitVec 128)
  /-- TRS_LOAD (R152): TRS_CTL.load takes the truss map and format plan or refuses them. -/
  | trsLoad (t : Tender) (value : Word)
  /-- TRS_BIND (R148): TRS_CTL.bind binds the loaded job, refused without an arrangement. -/
  | trsBind (t : Tender) (value : Word)
  /-- TRS_UNBIND (R148): TRS_CTL.unbind ends the job and Buoys drop their schedules. -/
  | trsUnbind (t : Tender) (value : Word)
  /-- SCHEDULE_ACK (R157): A Buoy acknowledges a distributed arrangement. -/
  | scheduleAck (n : Slot) (gen : Nat)
  /-- LEDGER_BEGIN (R165): A begin message takes a ledger entry or counts untracked, and is staged to trace. -/
  | ledgerBegin (n : Slot) (engine : BitVec 10) (ctx : BitVec 12) (cseq : BitVec 32) (time : BitVec 64) (core kind : BitVec 16) (tclass : BitVec 2)
  /-- LEDGER_END (R165): An end message frees its entry or counts orphan, and is staged to trace. -/
  | ledgerEnd (n : Slot) (engine : BitVec 10) (ctx : BitVec 12) (cseq : BitVec 32) (time : BitVec 64) (core : BitVec 16) (status : BitVec 8)
  /-- LEDGER_TIMEOUT (R166): An open entry passes its timeout, is marked and raises LEDGER_TIMEOUT. -/
  | ledgerTimeout (n : Slot) (engine : BitVec 10) (idx : Fin 16)
  /-- TRC_TRIG (R175): A store to TRC_SLOT_nn_CTL.trig fires a trace trigger. -/
  | trcTrig (t : Tender) (n : Slot) (value : Word)
  /-- TRACE_ANCHOR_TICK (R171): The beacon passes a whole second and an ANCHOR is written to each stream. -/
  | traceAnchorTick
  /-- TRACE_ROOM_RETURN (R174): Room returns to a dropping stream, which writes GAP, ANCHOR and the record. -/
  | traceRoomReturn (n : Slot)
  /-- TRC_RESERVE_DRAINED (R176): A trigger window's last record lands and the reserve is freed. -/
  | trcReserveDrained (n : Slot)
  /-- TRC_REARM (R177): A store to rearm unfreezes a flight-recorder segment and ends its drop. -/
  | trcRearm (t : Tender) (n : Slot) (value : Word)
  /-- TRC_STREAM_ENABLE (R171): Enabling a trace stream writes an ANCHOR. -/
  | trcStreamEnable (t : Tender) (n : Slot) (value : Word)
  /-- TRC_MARK (R169): A write to TRC_SLOT_nn_MARK stages a MARK record. -/
  | trcMark (m : MarkBy) (n : Slot) (value : Word)
  /-- TRC_HEAD_WRITE (R174): Advancing a trace segment head frees space and lets the drain resume. -/
  | trcHeadWrite (t : Tender) (n : Slot) (value : Word)
  /-- LENS_CREDIT (R178): A capture unit credit returns and the next frame opens with a GAP. -/
  | lensCredit (k : Fin 4)
  /-- LENS_DOWN (R178): The Lens link is lost. -/
  | lensDown
  /-- SIGHT_ANNOUNCE (R180): A Buoy announces a sighting's size and space is reserved or the holder refused. -/
  | sightAnnounce (k : Fin 8) (n : Slot) (bytes : Nat)
  /-- SIGHT (R181): A sighting section arrives from a Buoy. -/
  | sight (k : Fin 8) (n : Slot) (data : List Byte)
  /-- COUNTER_SAMPLE_TICK (R183): The counter sampling period elapses and selected engines are sampled. -/
  | counterSampleTick
  /-- COUNTERS (R183): Counter samples arrive, are written as COUNTER records and coded for telemetry. -/
  | counters (n : Slot) (samples : List CounterSample)
  /-- HEARTBEAT_EDGE (R186): A HEARTBEAT edge on W3 restarts the slot's heartbeat timeout. -/
  | heartbeatEdge (n : Slot)
  /-- HEARTBEAT_LOST (R187): W3 shows no edge for hb_us and an identity probe is sent. -/
  | heartbeatLost (n : Slot)
  /-- CHIP_DOWN (R187): The identity probe is unanswered and CHIP_DOWN is raised. -/
  | chipDown (n : Slot)
  /-- ALARM_WIRE (R189): The ALARM wire is asserted and ALARM is raised. -/
  | alarmWire (n : Slot) (fwdDiscards : Nat)
  /-- STOP_ACK (R190): A Buoy acknowledges a stop with its stop tick. -/
  | stopAck (n : Slot) (tick : Nat)
  /-- STOP_ACK_TIMEOUT (R190): A slot has not acknowledged within ack_us and the stop ends NOREPLY. -/
  | stopAckTimeout (ticket : Nat)
  /-- OCLT_AT_FIRE (R193): The beacon reaches a scheduled stop time and W1 is pulled low. -/
  | ocltAtFire
  /-- STOP_AT (R193): A Buoy acknowledges a scheduled stop time. -/
  | stopAt (n : Slot)
  /-- OCC_DUMP_START (R197): A store to OCC_DUMP_GO.start begins a dump of slots. -/
  | occDumpStart (t : Tender) (value : Word)
  /-- OCC_DUMP_ABORT (R202): A store to OCC_DUMP_GO.abort ends a slot's dump after its current read. -/
  | occDumpAbort (t : Tender) (value : Word)
  /-- UNIT_DATA (R197): A dump reply arrives and the next read is issued. -/
  | unitData (n : Slot) (ok : Bool) (data : List Byte)
  /-- DUMP_READ_TIMEOUT (R197): A unit read has no reply after read_tmo_us and is marked unreadable. -/
  | dumpReadTimeout
  /-- STEP_BOUNDARY (R213): A Buoy's boundary tag arrives and Scarf takes or skips the boundary. -/
  | stepBoundary (n : Slot) (step : Nat)
  /-- SHARD_ANNOUNCE (R212): A Buoy announces its shard size, checked against the budget. -/
  | shardAnnounce (n : Slot) (refused : Bool) (raw count : Nat)
  /-- SEGMENT (R215): A shard segment arrives and is digested, coded and written. -/
  | scfSegment (n : Slot) (msg : SegMsg)
  /-- SEGMENT_DURABLE (R215): A segment's write completes and its digests agree, making it durable. -/
  | segmentDurable (n : Slot) (index : Nat) (agree : Bool)
  /-- HELLO (R232): A counterpart's HELLO opens or resumes replication. -/
  | hello (h : ReplHdr)
  /-- SEG_HEAD (R230): A segment record precedes replicated segment data. -/
  | segHead (h : ReplHdr) (data : List Byte)
  /-- SEG_DATA (R230): A fragment of a replicated segment is stored and checked when whole. -/
  | segData (h : ReplHdr) (data : List Byte)
  /-- SEG_REF (R231): A segment is copied from the committed buddy image instead of sent. -/
  | segRef (h : ReplHdr) (data : List Byte)
  /-- SEG_ACK (R230): The counterpart acknowledges a durable replicated segment. -/
  | segAck (h : ReplHdr)
  /-- SEG_NAK (R230): The counterpart asks for a segment to be sent again. -/
  | segNak (h : ReplHdr)
  /-- PREPARE (R230): A manifest fragment arrives and is verified when whole. -/
  | prepare (h : ReplHdr) (data : List Byte)
  /-- PREPARED (R223): The counterpart acknowledges the whole manifest; commit follows if the peer is ready. -/
  | prepared (h : ReplHdr)
  /-- COMMIT (R230): The receiver swaps its buddy commit word and answers COMMITTED. -/
  | scfCommitFrame (h : ReplHdr)
  /-- COMMITTED (R223): The counterpart confirms the commit and the image returns to IDLE. -/
  | committed (h : ReplHdr)
  /-- ABORT (R229): The receiver discards the receiving or prepared image. -/
  | scfAbort (h : ReplHdr)
  /-- FETCH (R229): A request for manifests or segments, answered from held images. -/
  | scfFetch (h : ReplHdr) (data : List Byte)
  /-- KEEPALIVE (R229): A keepalive frame is received, keeping the counterpart alive. -/
  | keepalive (h : ReplHdr)
  /-- KEEPALIVE_TIMER (R229): 1 ms passes with no frame sent and a KEEPALIVE is sent. -/
  | keepaliveTimer
  /-- SEG_INCOMPLETE_TIMER (R230): A segment stays incomplete for nak_ms and SEG_NAK reason 1 is sent. -/
  | segIncompleteTimer
  /-- SEG_RESEND_TIMER (R230): No answer within rto_ms and the segment is resent. -/
  | segResendTimer
  /-- SCF_BUDDY_LOST (R232): No frame for lost_ms and the counterpart is declared lost. -/
  | scfBuddyLost
  /-- HELLO_RETRY (R232): Every 10 ms a HELLO is resent to a lost counterpart. -/
  | helloRetry
  /-- PEER_PREPARED (R223): The other keeper of the pair reports PREPARED and the controller may commit. -/
  | peerPrepared (step : Nat)
  /-- RELIEF_WAIT_EXPIRED (R223): relief_wait_ms passes in PREPARED and the controller commits alone. -/
  | reliefWaitExpired
  /-- MIRRORED_COMMIT (R223): The follower receives the mirrored commit and commits or discards its image. -/
  | mirroredCommit (step : Nat)
  /-- SCF_DISCARD (R226): A store to SCF_CTL.discard discards the image in progress. -/
  | scfDiscard (t : Tender) (value : Word)
  /-- SCF_FULL (R231): A store to SCF_CTL.full makes the next image replicate in full. -/
  | scfFull (t : Tender) (value : Word)
  /-- SCF_HOLD_CLEAR (R225): Clearing SCF_CTL.hold lets a HELD image continue from READY. -/
  | scfHoldClear (t : Tender) (value : Word)
  /-- RST_PLAN (R237): A store to SCF_RST_CTL.plan opens associations and plans a restore. -/
  | rstPlan (t : Tender) (value : Word)
  /-- RST_CANCEL (R237): A store to SCF_RST_CTL.cancel drops the plan. -/
  | rstCancel (t : Tender) (value : Word)
  /-- SHARD_LOAD_ACK (R234): A Buoy acknowledges loaded segments; when all ack the load action ends. -/
  | shardLoadAck (n : Slot)
  /-- RESTORE_ASSOC_IDLE (R236): A restore association sees no frame for 10 s and ends. -/
  | restoreAssocIdle
  /-- W0_MARK (R245): At each mark a W0 frame is launched to each slot and compensation slews a tick. -/
  | w0Mark
  /-- CAL_ECHO (R248): The W3 echo edge arrives and the new delay compensation is computed. -/
  | calEcho (n : Slot) (a : Nat)
  /-- CAL_PERIOD (R248): The calibration period elapses and an echo is requested. -/
  | calPeriod
  /-- BCN_CAL_NOW (R248): A store to BCN_CAL.now calibrates slots at the next mark. -/
  | bcnCalNow (t : Tender) (value : Word)
  /-- BEACON_TIE_WAIT_EXPIRED (R244): No domain locks within wait_s and the beacon runs untied. -/
  | beaconTieWaitExpired
  /-- HEALTH_WORD_SEND (R286): Every 10 us a health word with beacon sync is sent to the peer. -/
  | healthWordSend (failing : Bool)
  /-- HEALTH_WORD (R286): A peer health word arrives and skew, state and failing are taken. -/
  | healthWord (t1 e2 e3 seq state thermal : Nat)
  /-- PTP_SYNC (R252): A PTP Sync message is received and stamped. -/
  | ptpSync (d : Fin 2) (source seq : Nat) (corr : Int) (t1 : Option Int) (logInt : Nat)
  /-- PTP_FOLLOW_UP (R252): A Follow_Up gives the master's precise transmit time. -/
  | ptpFollowUp (d : Fin 2) (source seq : Nat) (corr t1 : Int)
  /-- PTP_ANNOUNCE (R252): An Announce feeds master selection by the best master clock algorithm. -/
  | ptpAnnounce (d : Fin 2) (source gm : Nat) (rank : List Nat)
  /-- PTP_DELAY_REQ (R252): The keeper sends a Delay_Req and stamps it. -/
  | ptpDelayReq (d : Fin 2)
  /-- PTP_DELAY_RESP (R254): A Delay_Resp completes an exchange and updates offset, delay and lock state. -/
  | ptpDelayResp (d : Fin 2) (source seq : Nat) (corr t4 : Int)
  /-- PTP_SYNC_LOSS (R254): No valid Sync for loss_ms and the domain is LOST. -/
  | ptpSyncLoss (d : Fin 2)
  /-- PTP_REVERT (R255): The preferred domain has been LOCKED 60 s and the tie returns to it. -/
  | ptpRevert
  /-- PPS_OUT_EDGE (R256): The beacon reaches a whole second and 1PPS out rises. -/
  | ppsOutEdge
  /-- PPS_IN_EDGE (R256): A 1PPS input rising edge is stamped. -/
  | ppsInEdge
  /-- PPS_IN_LOST (R256): No 1PPS input edge for 1.1 s. -/
  | ppsInLost
  /-- PTP_TSQ_TAG_READ (R257): Reading PTP_TSQ_TAG returns and removes the head timestamp entry. -/
  | ptpTsqTagRead (t : Tender) (rd : Fin 32)
  /-- STRAP_SAMPLE (R264): Straps are sampled with pull-up and pull-down in their windows. -/
  | strapSample (pullUp : Bool) (levels : Vector (BitVec 4) 16)
  /-- STRAP_PHASE_END (R266): 1 ms after reset release present positions move to stagger phase. -/
  | strapPhaseEnd
  /-- STAGGER_STEP (R273): The next unit or slot of the staggered start begins. -/
  | staggerStep
  /-- PWR_GOOD_RISE (R268): PWR_GOOD rises on W1 during power-on. -/
  | pwrGoodRise (n : Slot)
  /-- PWR_GOOD_TIMEOUT (R268): PWR_GOOD has not risen by pg_ms; W0 falls and the action fails. -/
  | pwrGoodTimeout (n : Slot)
  /-- REFCLK_ENABLE_STEP (R268): 1 ms after PWR_GOOD REFCLK_EN rises. -/
  | refclkEnableStep (n : Slot)
  /-- RESET_RELEASE_STEP (R268): 2 ms after PWR_GOOD RESET_L rises unless held. -/
  | resetReleaseStep (n : Slot)
  /-- RUN_ENTRY (R268): 100 us after RESET_L the turnaround and mark put the slot in run phase. -/
  | runEntry (n : Slot)
  /-- POWER_FAULT (R282): PWR_GOOD falls, or a PMBus fault, raises POWER_FAULT. -/
  | powerFault (n : Slot) (pgFell : Bool)
  /-- PMBUS_POLL (R283): Every 10 ms each PMBus stage is polled. -/
  | pmbusPoll (n : Slot) (reading : Option (Nat × Nat × Nat))
  /-- PMBUS_ALERT (R283): SMBALERT# asserts and PMBUS_FAULT is raised. -/
  | pmbusAlert (n : Slot)
  /-- AVS_STEP (R380): At most once per ms the core voltage set point is adjusted over PMBus. -/
  | avsStep (mv : Nat) (answers : Bool)
  /-- MOR_WIRE_FAULT (R270): A driven wire reads against its drive for 100 ns and its function passes to the peer. -/
  | morWireFault (n : Slot) (w : Fin 4)
  /-- W1_STUCK_LOW (R271): A released W1 reads low; W1_MASK is sent and its stop released. -/
  | w1StuckLow (n : Slot) (peer : Bool)
  /-- W1_UNMASK (R271): A masked W1 follows its drive for 100 ms and is unmasked. -/
  | w1Unmask (n : Slot)
  /-- W1_PROXY_REQUEST (R270): A peer's PROXY request makes this keeper drive W1 for it. -/
  | w1ProxyRequest (n : Slot) (low : Bool)
  /-- PHASE_PULSE_RETRY (R282): A cut phase command pulse is repeated 10 us later. -/
  | phasePulseRetry (n : Slot)
  /-- LINK_LOCK (R274): A Buoy link lane locks after 64 good frames and IDENT is sent. -/
  | linkLock (p : Slot) (lane : Fin 2)
  /-- LINK_FRAME_ERROR (R275): A bad or out-of-sequence frame is discarded and nak is sent. -/
  | linkFrameError (l : LinkEnd) (f : FrameFault)
  /-- LINK_NAK (R275): A nak from the peer starts a replay from ack + 1. -/
  | linkNak (l : LinkEnd) (ack : Nat)
  /-- LINK_REPLAY_TIMEOUT (R275): A frame unacknowledged for 4 us is replayed. -/
  | linkReplayTimeout (l : LinkEnd)
  /-- LINK_CREDIT (R277): An IDLE frame grants class credits. -/
  | linkCredit (l : LinkEnd) (ack : Nat) (counts : Vector (BitVec 8) 16)
  /-- LANE_FAIL (R276): A lane loses lock; traffic moves to the other lane and LANE_DEGRADE is raised. -/
  | laneFail (p : Slot) (lane : Fin 2)
  /-- LANE_RESTORED (R276): A failed lane holds lock for 100 ms and returns. -/
  | laneRestored (p : Slot)
  /-- LINK_DOWN (R276): No valid frame on either lane for 20 us. -/
  | linkDown (p : Slot)
  /-- IDENT (R279): A Buoy's identity arrives and the link is accepted or quarantined. -/
  | buoyIdent (p : Slot) (id : Ident)
  /-- NOTE (R394): A NOTE message is placed in gallery memory and raises CONTROL_MSG. -/
  | buoyNote (n : Slot) (ref step time kind : Nat) (data : List Byte)
  /-- BLK_WIN_READ (R281): Reading BLK_WIN_DATA sends WIN_READ to the Buoy. -/
  | blkWinRead (t : Tender) (rd : Fin 32) (p : Slot)
  /-- BLK_WIN_WRITE (R281): Writing BLK_WIN_DATA sends WIN_WRITE to the Buoy. -/
  | blkWinWrite (t : Tender) (p : Slot) (value : Word)
  /-- WIN_REPLY (R281): A window reply returns the Buoy register value. -/
  | winReply (p : Slot) (data : Word)
  /-- WIN_REPLY_TIMEOUT (R281): No window reply in 2 us; the read returns all ones and sets win_err. -/
  | winReplyTimeout (p : Slot)
  /-- BLK_RETRAIN (R283): A store to BLK_CTL.retrain retrains both lanes. -/
  | blkRetrain (t : Tender) (p : Slot) (value : Word)
  /-- PAIR_LIVE_LOST (R284): PAIR_LIVE_IN shows no edge for 5 us. -/
  | pairLiveLost
  /-- HEALTH_SILENCE (R289): No health word for silence_us; with the live wire lost, failure is established. -/
  | healthSilence
  /-- TAKEOVER (R290): The follower takes control, drives mirrored stops and raises TAKEOVER. -/
  | takeover
  /-- MIRROR_ITEM (R287): A mirrored item arrives at the follower and is stored and acknowledged. -/
  | mirrorItem (m : MirrorMsg)
  /-- MIRROR_ACK (R287): The follower acknowledges a mirrored item and the held step proceeds. -/
  | mirrorAck
  /-- MIRROR_LAG (R288): An acknowledgement is overdue by lag_us. -/
  | mirrorLag
  /-- FOLLOWER_DETACH (R288): The pair link is silent for silence_us with the live wire up; the follower is detached. -/
  | followerDetach
  /-- PEER_HEALTHY (R293): The rejoined principal has been healthy for 30 s. -/
  | peerHealthy
  /-- ROLE_REQUEST (R293): The relief receives a takeback request and hands over or refuses. -/
  | roleRequest
  /-- TAKEBACK (R293): The principal receives the handover and takes control. -/
  | takeback
  /-- PAR_YIELD (R293): A store to PAR_CTL.yield hands control over at the next quiet point. -/
  | parYield (t : Tender) (value : Word)
  /-- PAR_RESYNC (R295): The controller copies its mirrored state to a joining follower. -/
  | parResync (t : Tender) (value : Word)
  /-- ALONE_WAIT_EXPIRED (R294): A relief sees no peer for alone_ms and takes control. -/
  | aloneWaitExpired
  /-- SPLIT_RESOLVE (R292): A path returns after a split and the later controller yields. -/
  | splitResolve (peerLast peerNext : Nat)
  /-- PAIR_LINK_UP (R285): The pair link trains. -/
  | pairLinkUp (lanes : Nat)
  /-- PAIR_LINK_DOWN (R289): The pair link is lost. -/
  | pairLinkDown
  /-- EMERGENCY_ENTRY (R297): The keeper enters emergency-light mode and keeps only hardware paths. -/
  | emergencyEntry
  /-- RESTART (R298): Responder command reloading the Standing Orders without warm reset. -/
  | kcpRestart (x : Sess) (h : KcpHead)
  /-- FLASH_WRITE (R337): Responder command writing a Standing Orders image to boot flash. -/
  | flashWrite (x : Sess) (h : KcpHead) (image off : Nat) (data : List Byte)
  /-- LOG_MIRROR_WRITE (R306): A record's mirror write completes and its ring entry may free. -/
  | logMirrorWrite (ok : Bool)
  /-- LOG_WIN_READ (R311): Reading LOG_WIN_00 latches the next record at or above the cursor and floor. -/
  | logWinRead (t : Tender) (rd : Fin 32)
  /-- LOG_FWIN_READ (R313): Reading LOG_FWIN_00 latches a record in the forerunner view. -/
  | logFwinRead (t : Tender) (rd : Fin 32)
  /-- LOG_SNAP_WRITE (R303): A store to a LOG_SNAP entry, counted when newly ignored. -/
  | logSnapWrite (t : Tender) (e : Fin 32) (value : Word)
  /-- HOUR_TICK (R313): A full hour of powered time adds one operating hour. -/
  | hourTick
  /-- CUSTODY (R309): KCP command taking logbook custody. -/
  | kcpCustody (x : Sess) (h : KcpHead) (take : Bool)
  /-- FLOOR (R309): KCP command raising the logbook floor. -/
  | kcpFloor (x : Sess) (h : KcpHead) (f : Nat)
  /-- SEAL (R314): KCP command freezing logbook and dumps for a custody seal. -/
  | kcpSeal (x : Sess) (h : KcpHead) (dumps : Bool)
  /-- CUSTODY_SEALED (R314): The seal block is signed and written. -/
  | custodySealed
  /-- KCP_RELEASE (R315): KCP RELEASE ends the seal and custody. -/
  | kcpRelease (x : Sess) (h : KcpHead)
  /-- OPEN (R326): A session request is verified and answered with ACCEPT or REFUSE. -/
  | kcpOpen (k : OpenKind) (h : KcpHead) (body : List Byte)
  /-- ACCEPT (R236): An ACCEPT answers this keeper's OPEN of an association. -/
  | kcpAccept (assoc : Nat) (a : AcceptFrames)
  /-- REFUSE (R236): A REFUSE answers this keeper's OPEN of an association. -/
  | kcpRefuse (assoc : Nat) (reason : Nat)
  /-- KCP_ACK (R329): An acknowledgement frame advances the window. -/
  | kcpAck (x : Sess) (h : KcpHead) (f : PortFault)
  /-- CLOSE (R328): A CLOSE ends a session. -/
  | kcpClose (x : CloseWhat) (h : KcpHead)
  /-- INFO (R337): An INFO request is answered with identification. -/
  | kcpInfo (h : KcpHead)
  /-- SESSION_IDLE (R328): No valid host frame for idle_s ends the session. -/
  | sessionIdle (x : Sess)
  /-- ACK_DELAY (R329): ack_us passes after a sequenced frame and a standalone ACK is sent. -/
  | ackDelay (x : Sess)
  /-- KCP_RETRANSMIT (R330): A frame unacknowledged for the retransmission time is resent. -/
  | kcpRetransmit (x : Sess) (seq : Nat)
  /-- EVENT_BATCH_EXPIRED (R333): batch_us passes and a partly filled EVENT frame is sent. -/
  | eventBatchExpired (x : Sess)
  /-- ATTEST (R369): KCP command returning a signed attestation report. -/
  | kcpAttest (x : Sess) (h : KcpHead) (nonce : List Byte)
  /-- REG_READ (R362): KCP command reading registers. -/
  | regRead (x : Sess) (h : KcpHead) (addrs : List Nat)
  /-- REG_WRITE (R362): KCP command writing registers, staging ST fields. -/
  | regWrite (x : Sess) (h : KcpHead) (pairs : List (Nat × Word))
  /-- KCP_PEG (R332): KCP command applying a PEG operation to the session's set. -/
  | kcpPeg (x : Sess) (h : KcpHead) (op : Nat)
  /-- READ_MEM (R332): KCP command streaming LPDDR5X data in RESPONSE frames. -/
  | readMem (x : Sess) (h : KcpHead) (addr len : Nat)
  /-- SUBSCRIBE (R332): KCP command replacing a session's event subscription. -/
  | kcpSubscribe (x : Sess) (h : KcpHead) (events slots : Nat) (owner time telemetry : Bool) (start : Nat)
  /-- ACT (R332): KCP command having a slot tender issue an acting instruction. -/
  | kcpAct (x : Sess) (h : KcpHead) (major fn : Nat) (ga gb : Word)
  /-- BIND_JOB (R332): KCP command supplying the data-order digest. -/
  | bindJob (x : Sess) (h : KcpHead) (digest : List Byte)
  /-- BUDDY (R8): KCP command setting the buddy tray. -/
  | kcpBuddy (x : Sess) (h : KcpHead) (tray addrA addrB : Nat) (identA identB : List Byte)
  /-- NOTICE_SUB (R335): KCP command subscribing this keeper to another keeper's notices. -/
  | noticeSub (x : Sess) (h : KcpHead) (addr : Nat) (identity : List Byte)
  /-- DEBUG (R332): KCP command attaching a session to a slot's tenders. -/
  | kcpDebug (x : Sess) (h : KcpHead) (slot : Nat)
  /-- TENDER_RESET (R57): KCP command resetting a tender. -/
  | tenderReset (x : Sess) (h : KcpHead) (mask : Nat)
  /-- MACSEC_SA (R322): KCP command installing a MACsec secure association key. -/
  | macsecSa (x : Sess) (h : KcpHead) (channel : Nat) (tx : Bool) (an : Nat) (key salt : List Byte) (ssci : Nat)
  /-- OWNER_COMMAND (R332): KCP owner command delivered to a bound owner program. -/
  | ownerCommand (x : Sess) (h : KcpHead) (code : Nat) (body : List Byte)
  /-- NOTICE_SUBSCRIBE (R335): A SUBSCRIBE notice adds the sender to the subscriber table. -/
  | noticeSubscribe (n : NoticeFrom) (body : List Byte)
  /-- NOTICE_SUBSCRIBED (R335): A SUBSCRIBED notice confirms a subscription. -/
  | noticeSubscribed (n : NoticeFrom) (body : List Byte)
  /-- NOTICE_UNSUBSCRIBE (R335): An UNSUBSCRIBE notice removes a subscriber. -/
  | noticeUnsubscribe (f : NoticeFrame)
  /-- POD_NOTICE_IN (R335): A loss or occult notice is verified, deduplicated and raised. -/
  | podNoticeIn (f : NoticeFrame)
  /-- NOTICE_REPEAT (R335): 10 us passes and another copy of a notice is sent. -/
  | noticeRepeat
  /-- ETH_DOWN (R318): A lane in use loses lock and the port goes down and retrains. -/
  | ethDown (lost : Nat)
  /-- ETH_UP (R318): Port retraining completes in a mode. -/
  | ethUp (good : Nat)
  /-- MAC_UPGRADE (R318): A store to MAC_CTL.upgrade retrains at max_mode. -/
  | macUpgrade (t : Tender) (value : Word)
  /-- MODULE_INT (R318): Module IntL asserts and its flags are read. -/
  | moduleInt (asserted : Bool)
  /-- MODULE_MONITOR (R318): Every 1 s the module monitors are read. -/
  | moduleMonitor
  /-- GRATUITOUS_ARP_REPEAT (R321): The service address claim is repeated at 1 ms intervals. -/
  | gratuitousArpRepeat
  /-- ARP_REQUEST (R320): An ARP or neighbour solicitation for a keeper address is answered. -/
  | arpRequest (v6 : Bool) (addr asker mac : Nat)
  /-- PHY_LOCK_LOSS (R341): A channel PHY loses lock and enters self-refresh for relock. -/
  | phyLockLoss (c : Fin 64)
  /-- PHY_RELOCK (R341): A channel relocks and its held requests proceed. -/
  | phyRelock (c : Fin 64)
  /-- RELOCK_TIMEOUT (R346): A channel fails to relock within 10 ms and leaves service. -/
  | relockTimeout (c : Fin 64)
  /-- REDIRECTION_READY (R347): Redirection of a lost channel is in force. -/
  | redirectionReady
  /-- PATROL_SCRUB (R343): Patrol scrub reads and corrects lines over its pass. -/
  | patrolScrub (a : Nat) (ecc : Ecc)
  /-- DMA_DONE (R355): A DMA transfer ends and DMA_DONE_cc is raised; the next queued one starts. -/
  | dmaDone (c : Fin 32) (b : DmaBeats) (port : Option (List Byte))
  /-- DMA_PACED_START (R356): A paced descriptor's timer or channel trigger starts it. -/
  | dmaPacedStart (c : Fin 32)
  /-- DMA_MODE_WRITE (R356): A write of DMA_CTL.mode; SERVICE aborts unstarted paced descriptors. -/
  | dmaModeWrite (t : Tender) (value : Word)
  /-- GLB_RESET (R363): Writing the warm key orders a keeper warm reset. -/
  | glbReset (t : Tender) (value : Word)
  /-- GLB_BLKRST (R363): Writing the block key resets one block. -/
  | glbBlkrst (t : Tender) (value : Word)
  /-- TND_RESET (R57): Writing TND_RESET resets the named tenders. -/
  | tndReset (t : Tender) (value : Word)
  /-- SEC_FLOOR_RAISE (R367): Raises the selected floor entry to the epoch in force. -/
  | secFloorRaise (t : Tender) (value : Word)
  /-- SEC_FLOOR_CLEAR (R367): Frees a floor entry whose program is unbound. -/
  | secFloorClear (t : Tender) (value : Word)
  /-- THM_SAMPLE (R371): Every 10 us thermal sensors are sampled against warn and trip. -/
  | thmSample (temps : Vector (BitVec 8) 24)
  /-- THERMAL_SHUTDOWN (R388): 20 us after a trip, blocks stop and THERM_TRIP_L is driven low. -/
  | thermalShutdown
  /-- REGISTER_WRITE (R3): A write to a register with no row of its own, by access type. -/
  | registerWrite (t : Tender) (off : Nat) (value : Word) (wide : Bool)
  /-- PWROK_RISE (R384): PWROK rises and power-on reset begins. -/
  | pwrokRise (pins : PowerPins)
  /-- INTERNAL_RESET_RELEASE (R384): The internal reset is released, strap phase and secure boot start. -/
  | internalResetRelease
  /-- TENDERS_RELEASED (R90): Secure boot verifies images and releases tenders at their entry. -/
  | tendersReleased (pufOk : Bool)
  /-- PWROK_FALL (R379): PWROK falls and the keeper releases every pin. -/
  | pwrokFall
  /-- WARM_RESET_PIN (R384): WARM_RESET_L falls and the keeper enters warm reset. -/
  | warmResetPin
  /-- WARM_RESET_RELEASE (R384): WARM_RESET_L rises and the internal reset is released after 50 us. -/
  | warmResetRelease
  /-- REFCLK_LOSS (R383): REFCLK stops or drifts for 1 us; SerDes and PHY PLLs lose lock. -/
  | refclkLoss
  /-- REFCLK_RETURN (R383): REFCLK returns, PLLs lock and links retrain. -/
  | refclkReturn
  /-- PAIR_LIVE_EDGE (R284): An edge on PAIR_LIVE_IN restarts the 5 us live-wire timeout and marks the peer's live wire as toggling. -/
  | pairLiveEdge
  /-- LENS_LINK_UP (R178): The Lens port link finishes training and the first frame after a loss opens with a GAP of cause 3. -/
  | lensLinkUp
  /-- MODULE_PRESENCE_CHANGE (R318): MOD_PRES_L changes as the Ethernet module is inserted or removed, and the port is trained or left DOWN. -/
  | modulePresenceChange (present : Bool)
  /-- LPDDR_TRAINING_DONE (R341): A group of eight LPDDR5X channels completes or fails training, putting channels in service or out of service. -/
  | lpddrTrainingDone (g : Fin 8) (failed : Nat)
  /-- BOOT_FLASH_WRITE_DONE (R363): A boot flash write of an owner, floor or hour record or an image completes, releasing a waiting warm reset and clearing floor_conflict. -/
  | bootFlashWriteDone
  /-- LEDGER_SNAPSHOT_PERIOD (R287): Every 100 us the keeper in control sends a ledger snapshot of every slot to the follower. -/
  | ledgerSnapshotPeriod
  /-- KCP_IDLE_ACK (R328): After 1 s without sending on a session, the keeper sends a standalone ACK. -/
  | kcpIdleAck (x : Sess)
  deriving DecidableEq, Repr

end Sys2Proof
end

