-- ==== Sys2Proof/Machine/Bits.lean ====
section
/-! DEFINITION. Bit fields, signed readings, byte order and slot masks: the plain helpers every other file of the machine
uses (00_scope.md R2). -/

namespace Sys2Proof

/-- The bits `lo` to `lo + len - 1` of a natural number, as a natural number. -/
def bits (x lo len : Nat) : Nat := (x >>> lo) % 2 ^ len

/-- One bit of a natural number. -/
def bitOf (x i : Nat) : Bool := x.testBit i

/-- 1 for true, 0 for false. -/
def b2n (b : Bool) : Nat := if b then 1 else 0

/-- A natural number placed at bit `lo` of a field of `len` bits. -/
def place (x lo len : Nat) : Nat := (x % 2 ^ len) <<< lo

/-- `n` counted up by `k` and held at the limit `top`: a saturating counter. -/
def satAdd (n k top : Nat) : Nat := min (n + k) top

/-- The signed reading of the low `len` bits of a natural number. -/
def signedOf (x len : Nat) : Int :=
  let v := x % 2 ^ len
  if len = 0 then 0 else if v < 2 ^ (len - 1) then (v : Int) else (v : Int) - (2 ^ len : Nat)

/-- An integer taken modulo `2 ^ len`, as the two's complement pattern of that width. -/
def wrapInt (z : Int) (len : Nat) : Nat := (z % ((2 ^ len : Nat) : Int)).toNat

/-- An integer held between two limits. -/
def clampInt (z lo hi : Int) : Int := if z < lo then lo else if hi < z then hi else z

/-- A natural number held between two limits. -/
def clampNat (n lo hi : Nat) : Nat := if n < lo then lo else if hi < n then hi else n

/-- The little-endian bytes of a number, `n` of them (00_scope.md R2). -/
def leBytes (x : Nat) : Nat → List Byte
  | 0 => []
  | n + 1 => BitVec.ofNat 8 x :: leBytes (x >>> 8) n

/-- The number that a little-endian list of bytes spells (00_scope.md R2). -/
def leNat : List Byte → Nat
  | [] => 0
  | b :: bs => b.toNat + 256 * leNat bs

/-- The number that a big-endian list of bytes spells: digests, keys and signatures (04 R79). -/
def beNat (bs : List Byte) : Nat := bs.foldl (fun a b => 256 * a + b.toNat) 0

/-- The big-endian bytes of a number, `n` of them. -/
def beBytes (x n : Nat) : List Byte := (leBytes x n).reverse

/-- The slots of a 16-bit slot mask, lowest first. -/
def maskSlots (m : Nat) : List Slot := (List.finRange 16).filter (fun i => m.testBit i.val)

/-- The mask of a list of slots. -/
def slotsMask (l : List Slot) : Nat := l.foldl (fun m i => m ||| (1 <<< i.val)) 0

/-- The number of set bits among the low `n` bits. -/
def popCount (x : Nat) : Nat → Nat
  | 0 => 0
  | n + 1 => popCount x n + b2n (x.testBit n)

/-- The lowest set bit among the low `n` bits. -/
def lowestBit (x n : Nat) : Option Nat := (List.range n).find? (fun i => x.testBit i)

/-- A number rounded up to a multiple of 64. -/
def up64 (n : Nat) : Nat := (n + 63) / 64 * 64

end Sys2Proof
end

