-- ==== Sys2Proof/Machine/Encode.lean ====
section
/-! DEFINITION. The instruction words of the Tender ISA (03 "Instruction formats", R41): a trap that reports the instruction word
in TS_TVAL, and a record of an acting instruction, compute it here from the command's fields. -/

namespace Sys2Proof.Machine

/-- Format A: major, rd, ra, rb, fn. -/
def encA (major : Nat) (rd ra rb : Fin 32) (fn : BitVec 10) : Word :=
  BitVec.ofNat 64 (place major 25 7 + place rd.val 20 5 + place ra.val 15 5 + place rb.val 10 5 + fn.toNat)

/-- Formats I, M and B: major, two register fields, 15 low bits. -/
def encI (major : Nat) (r1 r2 : Fin 32) (imm : BitVec 15) : Word :=
  BitVec.ofNat 64 (place major 25 7 + place r1.val 20 5 + place r2.val 15 5 + imm.toNat)

/-- A signed 15-bit immediate as a 64-bit word (03 `sext(imm15, 15)`). -/
def sext15 (imm : BitVec 15) : Word := imm.signExtend 64

/-- A zero-extended 15-bit immediate as a 64-bit word. -/
def zext15 (imm : BitVec 15) : Word := imm.zeroExtend 64

/-- A signed 20-bit immediate as a 64-bit word. -/
def sext20 (imm : BitVec 20) : Word := imm.signExtend 64

/-- `sext(imm20 << 12, 32)` (03 R44). -/
def upper20 (imm : BitVec 20) : Word := ((imm.zeroExtend 32) <<< 12 : BitVec 32).signExtend 64

end Sys2Proof.Machine
end

