-- ==== Sys2Proof/Machine/RegMap.lean ====
section
/-! DEFINITION. The register map: every register of register space with its fields, access types, reset values and store
rules, written down from the register tables of the chapters (00 R3; 07 R147; 08 R162; 09 R185; 10 R209; 11 R240; 12 R260;
13 R283; 14 R299; 15 R316; 16 R338; 17 R358; 18 R359 to R371). An offset is the address within register space, the register's
address less 0x0000_4000_0000. -/

namespace Sys2Proof.Machine

/-- The access types of R3. -/
inductive Access
  | ro | rw | wo | w1c | w1s | rc | st
  deriving DecidableEq, Repr

/-- What a store of a value outside a field's range leaves in the field, as the field's Meaning states. -/
inductive Norm
  /-- stored as written -/
  | keep
  /-- a smaller value is stored as the limit -/
  | atLeast (lo : Nat)
  /-- a larger value is stored as the limit -/
  | atMost (hi : Nat)
  /-- other values are stored as the nearer limit -/
  | clamp (lo hi : Nat)
  /-- a signed value beyond plus or minus the limit is stored as the limit -/
  | signedClamp (m : Nat)
  /-- one value is stored as another -/
  | subst (bad good : Nat)
  /-- values outside the range are stored as the given one -/
  | outside (lo hi dflt : Nat)
  /-- the low bits read as zero -/
  | align (k : Nat)
  /-- the bit is stored as 0 -/
  | clearBit (k : Nat)
  /-- sampling rates of PLB_SLOT_nn_RATE: 0 off, 1 and 2 store 3, above 16 store 16 -/
  | rate
  deriving DecidableEq, Repr

/-- One field of a register: its low bit, its width, its access type, whether its Meaning begins "ORDER:" (R147), whether its
reads return zero, its store rule and its reset value. -/
structure FieldDesc where
  lo : Nat
  len : Nat
  acc : Access
  ord : Bool
  rz : Bool
  norm : Norm
  reset : Nat
  deriving DecidableEq, Repr

/-- One register table row: a name, the offset of instance 0 within its block, the distance between instances, the number of
instances, the fields. -/
structure RegDesc where
  name : String
  off : Nat
  stride : Nat
  count : Nat
  fields : List FieldDesc
  deriving DecidableEq, Repr

/-- A field the machine's own rules name: the offset in register space of instance 0, the distance between instances, the low
bit and the width. -/
structure Fld where
  base : Nat
  stride : Nat
  lo : Nat
  len : Nat
  deriving DecidableEq, Repr

/-- A field row without a store rule of its own. -/
def fd (lo len : Nat) (acc : Access) (ord : Bool) (reset : Nat) : FieldDesc := ⟨lo, len, acc, ord, false, .keep, reset⟩

/-- A field row with a store rule. -/
def fn (lo len : Nat) (acc : Access) (ord : Bool) (reset : Nat) (n : Norm) : FieldDesc := ⟨lo, len, acc, ord, false, n, reset⟩

/-- A field row whose reads return zero. -/
def fz (lo len : Nat) (acc : Access) (ord : Bool) (reset : Nat) : FieldDesc := ⟨lo, len, acc, ord, true, .keep, reset⟩

/-- The registers of block PLB. -/
def regsPLB : List RegDesc :=
  [⟨"PLB_CTL", 0, 0, 1, [fd 0 8 .rw true 0xFF, fd 8 1 .rw true 0, fd 9 1 .rw true 1]⟩,
   ⟨"PLB_STATUS", 8, 0, 1, [fd 0 8 .ro false 0, fd 8 8 .ro false 0, fd 16 8 .ro false 0, fd 24 1 .ro false 0]⟩,
   ⟨"PLB_DKEY_LO", 0x10, 0, 1, [fz 0 64 .st true 0]⟩,
   ⟨"PLB_DKEY_HI", 0x18, 0, 1, [fz 0 64 .st true 0]⟩,
   ⟨"PLB_DKEY_STEP", 0x20, 0, 1, [fd 0 64 .st true 0]⟩,
   ⟨"PLB_SSEED", 0x28, 0, 1, [fd 0 64 .st true 0]⟩,
   ⟨"PLB_ENV", 0x30, 0, 1, [fn 0 8 .rw true 0x19 (.atMost 25), fn 8 8 .rw true 0x1E (.atMost 30), fn 16 8 .rw true 0x69 (.atMost 105), fd 24 8 .rw true 5, fd 32 8 .rw true 5, fd 40 16 .rw true 0x64]⟩,
   ⟨"PLB_RES_BASE", 0x38, 0, 1, [fn 0 48 .rw true 0 (.align 16)]⟩,
   ⟨"PLB_RES_HEAD", 0x40, 0, 1, [fd 0 12 .rw false 0]⟩,
   ⟨"PLB_RES_TAIL", 0x48, 0, 1, [fd 0 12 .ro false 0]⟩,
   ⟨"PLB_RES_STALL", 0x50, 0, 1, [fd 0 32 .rc false 0]⟩,
   ⟨"PLB_WOUT_BASE", 0x58, 0, 1, [fd 0 48 .rw true 0]⟩,
   ⟨"PLB_CLIB_BASE", 0x60, 0, 1, [fd 0 48 .rw true 0]⟩,
   ⟨"PLB_SLOT_RATE", 0x100, 16, 16, [fn 0 5 .rw true 9 (.rate), fn 8 5 .rw true 3 (.rate), fd 13 1 .rw false 0, fd 16 16 .rw false 0xFFFF, fn 32 8 .rw true 0x24 (.clamp 1 47), fn 40 3 .rw true 4 (.atLeast 1)]⟩,
   ⟨"PLB_SLOT_CNT", 0x108, 16, 16, [fd 0 32 .rc false 0, fd 32 32 .rc false 0]⟩,
   ⟨"PLB_TILE_STAT", 0x200, 8, 8, [fd 0 1 .ro false 0, fd 1 3 .ro false 5, fd 8 8 .ro false 0, fd 16 8 .ro false 0, fd 24 7 .ro false 0, fd 32 32 .ro false 0]⟩,
   ⟨"PLB_IBASE", 0x300, 8, 24, [fn 0 48 .rw true 0 (.align 6)]⟩]

/-- The registers of block TRS. DESIGN CHOICE: TRS_PLAN_SRC and TRS_ARR_SRC keep bits [5:0] as stored and are read from there (only of TRS_MAP_SRC does
the table say that they read as zero). -/
def regsTRS : List RegDesc :=
  [⟨"TRS_CTL", 0, 0, 1, [fd 0 1 .w1s true 0, fd 1 1 .w1s true 0, fd 2 1 .w1s true 0, fd 3 1 .rw true 1]⟩,
   ⟨"TRS_STATUS", 8, 0, 1, [fd 0 2 .ro false 0, fd 2 5 .ro false 0, fd 7 1 .ro false 0, fd 8 1 .w1c false 0, fd 12 4 .ro false 0]⟩,
   ⟨"TRS_MAP_SRC", 0x10, 0, 1, [fn 0 48 .rw true 0 (.align 6)]⟩,
   ⟨"TRS_PLAN_SRC", 0x18, 0, 1, [fd 0 48 .rw true 0]⟩,
   ⟨"TRS_ARR_SRC", 0x20, 0, 1, [fd 0 48 .st true 0]⟩,
   ⟨"TRS_ARR_STEP", 0x28, 0, 1, [fd 0 64 .st true 0]⟩,
   ⟨"TRS_ARR_GEN", 0x30, 0, 1, [fd 0 32 .ro false 0, fd 32 32 .ro false 0]⟩,
   ⟨"TRS_DIST", 0x38, 0, 1, [fd 0 16 .ro false 0, fd 16 16 .ro false 0, fd 32 16 .ro false 0]⟩,
   ⟨"TRS_FWD_ERR", 0x40, 0, 1, [fd 0 32 .rc false 0]⟩,
   ⟨"TRS_SCHED", 0x100, 8, 16, [fd 0 18 .ro false 0, fd 18 17 .ro false 0]⟩]

/-- The registers of block LDG. -/
def regsLDG : List RegDesc :=
  [⟨"LDG_CTL", 0, 0, 1, [fd 0 1 .rw true 1]⟩,
   ⟨"LDG_TMO", 0x10, 8, 4, [fd 0 32 .rw true 0]⟩,
   ⟨"LDG_SLOT_STAT", 0x100, 16, 16, [fd 0 15 .ro false 0, fd 15 15 .ro false 0, fd 32 12 .ro false 0, fd 44 1 .ro false 0]⟩,
   ⟨"LDG_SLOT_CNT", 0x108, 16, 16, [fd 0 32 .ro false 0, fd 32 16 .rc false 0, fd 48 16 .rc false 0]⟩]

/-- The registers of block TRC. -/
def regsTRC : List RegDesc :=
  [⟨"TRC_REGION", 0, 0, 1, [fd 0 48 .rw true 0]⟩,
   ⟨"TRC_LENS_CTL", 8, 0, 1, [fd 0 1 .rw true 0, fd 1 1 .ro false 0, fd 32 32 .ro false 0]⟩,
   ⟨"TRC_LENS_SEL", 0x10, 8, 4, [fd 0 4 .rw true 0, fd 4 1 .rw true 0]⟩,
   ⟨"TRC_SIGHT_BASE", 0x40, 0, 1, [fd 0 48 .rw true 0]⟩,
   ⟨"TRC_SIGHT_HEAD", 0x48, 0, 1, [fd 0 32 .rw false 0]⟩,
   ⟨"TRC_SIGHT_TAIL", 0x50, 0, 1, [fd 0 32 .ro false 0]⟩,
   ⟨"TRC_CNT_CTL", 0x58, 0, 1, [fd 0 24 .rw true 0, fd 24 10 .rw true 0, fd 34 10 .rw true 0x3FF, fd 44 16 .rw true 0]⟩,
   ⟨"TRC_SLOT_CTL", 0x100, 64, 16, [fd 0 1 .rw true 0, fd 1 1 .rw true 0, fd 2 1 .rw true 0, fd 3 1 .w1s false 0, fd 4 1 .rw true 1, fd 5 1 .rw true 1, fd 6 1 .rw false 0, fd 7 1 .w1s false 0, fn 8 16 .rw false 0x1000 (.atLeast 1)]⟩,
   ⟨"TRC_SLOT_MATCH", 0x108, 64, 16, [fd 0 4 .rw false 0, fd 4 10 .rw false 0, fd 14 12 .rw false 0, fd 26 1 .rw false 0, fd 27 1 .rw false 0]⟩,
   ⟨"TRC_SLOT_HEAD", 0x110, 64, 16, [fd 0 30 .rw false 0]⟩,
   ⟨"TRC_SLOT_TAIL", 0x118, 64, 16, [fd 0 30 .ro false 0]⟩,
   ⟨"TRC_SLOT_STAT", 0x120, 64, 16, [fd 0 19 .ro false 0, fd 19 1 .ro false 0, fd 20 1 .ro false 0, fd 21 1 .ro false 0, fd 22 4 .ro false 0, fd 32 32 .rc false 0]⟩,
   ⟨"TRC_SLOT_MARK", 0x128, 64, 16, [fd 0 32 .wo false 0, fd 32 32 .wo false 0]⟩,
   ⟨"TRC_SIGHT_REQ", 0x600, 32, 8, [fd 0 32 .st false 0, fd 32 1 .st false 0, fd 33 2 .st false 0, fn 35 5 .st false 5 (.outside 5 20 5), fd 40 8 .st false 1, fd 48 16 .st false 0]⟩,
   ⟨"TRC_SIGHT_STEP", 0x608, 32, 8, [fd 0 64 .st false 0]⟩,
   ⟨"TRC_SIGHT_STAT", 0x610, 32, 8, [fd 0 3 .ro false 0, fd 16 16 .ro false 0, fd 32 16 .ro false 0]⟩]

/-- The registers of block OCC. -/
def regsOCC : List RegDesc :=
  [⟨"OCC_CTL", 0, 0, 1, [fd 0 1 .rw true 0]⟩,
   ⟨"OCC_STATUS", 8, 0, 1, [fd 0 16 .ro false 0, fd 16 16 .ro false 0, fd 32 16 .ro false 0, fd 48 1 .ro false 0, fd 49 6 .ro false 0]⟩,
   ⟨"OCC_TRIG", 0x10, 0, 1, [fd 0 5 .st true 0, fd 16 16 .st true 0, fd 32 16 .st true 0]⟩,
   ⟨"OCC_HB", 0x18, 0, 1, [fn 0 16 .rw true 0x19 (.clamp 15 1000), fn 16 16 .rw true 0xA (.clamp 1 1000), fn 32 16 .rw true 0x14 (.clamp 2 1000)]⟩,
   ⟨"OCC_AT_TIME", 0x20, 0, 1, [fd 0 64 .ro false 0]⟩,
   ⟨"OCC_DUMP_BASE", 0x28, 0, 1, [fn 0 48 .rw true 0 (.align 33)]⟩,
   ⟨"OCC_DUMP_CTL", 0x30, 0, 1, [fn 0 4 .rw true 6 (.atMost 12), fd 4 12 .ro false 0, fn 16 8 .rw true 0xA (.atLeast 1), fd 24 1 .rw true 1, fd 25 1 .rw true 0]⟩,
   ⟨"OCC_DUMP_GO", 0x38, 0, 1, [fd 0 16 .wo true 0, fd 16 16 .wo true 0]⟩,
   ⟨"OCC_REPLAY_TMO", 0x40, 0, 1, [fn 0 24 .rw true 0x64 (.atLeast 1)]⟩,
   ⟨"OCC_CNT", 0x48, 0, 1, [fd 0 16 .rc false 0, fd 16 16 .rc false 0, fd 32 16 .rc false 0]⟩,
   ⟨"OCC_SNAP", 0x100, 8, 16, [fd 0 64 .ro false 0]⟩,
   ⟨"OCC_DUMP_STAT", 0x200, 16, 16, [fd 0 3 .ro false 0, fd 3 1 .ro false 0, fd 4 1 .ro false 0, fd 5 1 .ro false 0, fd 6 13 .ro false 0, fd 19 13 .ro false 0, fd 32 30 .ro false 0]⟩,
   ⟨"OCC_REPLAY", 0x208, 16, 16, [fd 0 12 .st true 0, fd 12 12 .st true 0, fd 24 12 .st true 0, fd 36 12 .st true 0, fn 48 3 .st true 0 (.atMost 4)]⟩]

/-- The registers of block SCF. -/
def regsSCF : List RegDesc :=
  [⟨"SCF_CTL", 0, 0, 1, [fd 0 1 .rw true 0, fn 1 16 .rw false 1 (.atLeast 1), fd 17 1 .rw false 0, fd 18 1 .w1s true 0, fd 19 1 .w1s true 0, fd 20 1 .rw true 0, fn 32 16 .rw true 0x64 (.clamp 1 60000)]⟩,
   ⟨"SCF_STATUS", 8, 0, 1, [fd 0 3 .ro false 0, fd 3 1 .ro false 0, fd 4 1 .ro false 0, fd 5 1 .ro false 0, fd 6 1 .ro false 0, fd 7 2 .ro false 0, fd 9 1 .ro false 0, fd 10 1 .ro false 0, fd 11 1 .ro false 0]⟩,
   ⟨"SCF_STEP", 0x10, 0, 1, [fd 0 64 .ro false 0]⟩,
   ⟨"SCF_PSTEP", 0x18, 0, 1, [fd 0 64 .ro false 0]⟩,
   ⟨"SCF_BSTEP", 0x20, 0, 1, [fd 0 64 .ro false 0]⟩,
   ⟨"SCF_IMG_BASE", 0x40, 8, 4, [fn 0 48 .rw true 0 (.align 30)]⟩,
   ⟨"SCF_MAN_BASE", 0x60, 0, 1, [fd 0 48 .rw true 0]⟩,
   ⟨"SCF_BUDDY", 0x68, 0, 1, [fd 0 12 .st false 0, fd 12 1 .st false 0]⟩,
   ⟨"SCF_REPL", 0x70, 0, 1, [fn 0 8 .rw true 0x40 (.clamp 1 128), fn 8 8 .rw true 0xA (.atLeast 1), fn 16 8 .rw true 2 (.atLeast 1), fn 24 16 .rw true 0x64 (.clamp 10 10000)]⟩,
   ⟨"SCF_REPL_CNT", 0x78, 0, 1, [fd 0 16 .rc false 0, fd 16 16 .rc false 0, fd 32 16 .rc false 0, fd 48 16 .rc false 0]⟩,
   ⟨"SCF_CNT", 0x80, 0, 1, [fd 0 16 .rc false 0, fd 16 16 .rc false 0, fd 32 16 .rc false 0, fd 48 16 .rc false 0]⟩,
   ⟨"SCF_RST_DESC", 0x88, 0, 1, [fn 0 48 .rw true 0 (.align 6)]⟩,
   ⟨"SCF_RST_CTL", 0x90, 0, 1, [fd 0 1 .w1s true 0, fd 1 1 .w1s true 0]⟩,
   ⟨"SCF_RST_STATUS", 0x98, 0, 1, [fd 0 3 .ro false 0, fd 3 4 .ro false 0, fd 7 4 .ro false 0, fd 16 16 .ro false 0]⟩,
   ⟨"SCF_RST_STEP", 0xA0, 0, 1, [fd 0 64 .ro false 0]⟩,
   ⟨"SCF_SLOT_STAT", 0x100, 16, 16, [fd 0 3 .ro false 0, fd 3 1 .ro false 0, fd 4 1 .ro false 0, fd 8 24 .ro false 0, fd 32 32 .ro false 0]⟩,
   ⟨"SCF_SLOT_BUDGET", 0x108, 16, 16, [fn 0 36 .rw true 0x3C0000000 (.atMost 0x3C0000000)]⟩]

/-- The registers of block BCN. -/
def regsBCN : List RegDesc :=
  [⟨"BCN_CTL", 0, 0, 1, [fd 0 2 .st true 0, fd 2 1 .rw true 1, fd 3 1 .rw true 0, fn 4 6 .rw true 0xA (.clamp 1 50), fd 16 16 .rw true 0xA]⟩,
   ⟨"BCN_STATUS", 8, 0, 1, [fd 0 1 .ro false 0, fd 1 1 .ro false 0, fd 2 1 .ro false 0, fd 3 1 .ro false 0, fd 4 1 .w1c false 0, fd 5 1 .ro false 0, fd 6 1 .ro false 0]⟩,
   ⟨"BCN_NOW", 0x10, 0, 1, [fd 0 64 .ro false 0]⟩,
   ⟨"BCN_EPOCH", 0x18, 0, 1, [fd 0 48 .st true 0]⟩,
   ⟨"BCN_TRIM", 0x20, 0, 1, [fn 0 32 .rw true 0 (.signedClamp 429497)]⟩,
   ⟨"BCN_SLEW", 0x28, 0, 1, [fd 0 32 .st true 0]⟩,
   ⟨"BCN_SET", 0x30, 0, 1, [fd 0 64 .st true 0]⟩,
   ⟨"BCN_PAIR", 0x38, 0, 1, [fd 0 32 .ro false 0, fd 32 1 .ro false 0]⟩,
   ⟨"BCN_CAL", 0x40, 0, 1, [fd 0 16 .rw true 0x3C, fd 16 16 .w1s true 0]⟩,
   ⟨"BCN_SLOT", 0x100, 8, 16, [fd 0 10 .ro false 0, fd 10 16 .ro false 0, fd 26 1 .ro false 0, fd 27 1 .ro false 0, fd 32 16 .ro false 0, fd 48 16 .rc false 0]⟩]

/-- The registers of block PTP. DESIGN CHOICE: a PTP_PPS.width_us above 500,000 is stored as 500,000 (the table gives the range and no rule for it). -/
def regsPTP : List RegDesc :=
  [⟨"PTP_CORR", 0, 0, 1, [fd 0 16 .ro false 0, fd 16 16 .ro false 0]⟩,
   ⟨"PTP_MOD_DLY", 8, 0, 1, [fd 0 16 .rw true 0, fd 16 16 .rw true 0]⟩,
   ⟨"PTP_TSQ_TIME", 0x10, 0, 1, [fd 0 64 .ro false 0]⟩,
   ⟨"PTP_TSQ_TAG", 0x18, 0, 1, [fd 0 16 .rc false 0, fd 16 1 .rc false 0]⟩,
   ⟨"PTP_TSQ_STAT", 0x20, 0, 1, [fd 0 7 .ro false 0, fd 32 32 .rc false 0]⟩,
   ⟨"PTP_PPS", 0x28, 0, 1, [fd 0 1 .rw true 0, fd 1 1 .rw true 0, fn 8 20 .rw true 0xA (.clamp 1 500000)]⟩,
   ⟨"PTP_PPS_IN", 0x30, 0, 1, [fd 0 64 .ro false 0]⟩,
   ⟨"PTP_DOM_CFG", 0x100, 64, 2, [fd 0 8 .rw true 0, fn 8 2 .rw true 1 (.subst 3 1), fd 10 1 .rw true 0, fd 12 12 .rw true 0, fn 24 8 .rw true 0x32 (.atLeast 1), fn 32 16 .rw true 0xBB8 (.atLeast 1)]⟩,
   ⟨"PTP_DOM_STAT", 0x108, 64, 2, [fd 0 2 .ro false 0, fd 2 1 .ro false 0, fd 8 8 .ro false 0, fd 16 32 .ro false 0]⟩,
   ⟨"PTP_DOM_OFS", 0x110, 64, 2, [fd 0 64 .ro false 0]⟩,
   ⟨"PTP_DOM_DLY", 0x118, 64, 2, [fd 0 64 .ro false 0]⟩,
   ⟨"PTP_DOM_GM", 0x120, 64, 2, [fd 0 64 .ro false 0]⟩]

/-- The registers of block MOR. -/
def regsMOR : List RegDesc :=
  [⟨"MOR_PHASE", 0, 0, 1, [fd 0 32 .ro false 0]⟩,
   ⟨"MOR_FAULT", 8, 0, 1, [fd 0 64 .w1c false 0]⟩,
   ⟨"MOR_PROXY", 0x10, 0, 1, [fd 0 16 .ro false 0, fd 16 16 .ro false 0]⟩,
   ⟨"MOR_STRAP", 0x100, 8, 16, [fd 0 5 .ro false 0, fd 5 1 .ro false 0, fd 6 1 .ro false 0, fd 7 1 .ro false 0, fd 8 4 .ro false 0, fd 12 4 .ro false 0]⟩]

/-- The registers of block PWR. -/
def regsPWR : List RegDesc :=
  [⟨"PWR_CTL", 0, 0, 1, [fn 0 16 .rw true 0x19 (.atLeast 1), fn 16 8 .rw true 0x14 (.atLeast 1), fd 24 1 .rw true 1]⟩,
   ⟨"PWR_ORDER", 8, 0, 1, [fd 0 64 .rw true 0xFEDCBA9876543210]⟩,
   ⟨"PWR_STATUS", 0x10, 0, 1, [fd 0 16 .ro false 0, fd 16 16 .ro false 0, fd 32 1 .w1c false 0, fd 33 1 .ro false 0]⟩,
   ⟨"PWR_STAGE", 0x100, 8, 16, [fn 0 7 .rw true 0 (.subst 64 0), fd 8 16 .ro false 0, fd 24 16 .ro false 0, fd 40 8 .ro false 0, fd 48 16 .rc false 0]⟩]

/-- The registers of block BLK. -/
def regsBLK : List RegDesc :=
  [⟨"BLK_CTL", 0, 0, 1, [fd 0 1 .rw true 1, fd 1 1 .w1s true 0, fd 2 2 .rw true 3]⟩,
   ⟨"BLK_STATUS", 8, 0, 1, [fd 0 3 .ro false 0, fd 3 2 .ro false 0, fd 5 3 .ro false 0, fd 8 8 .ro false 0, fd 16 8 .ro false 0, fd 24 4 .ro false 0, fd 28 1 .w1c false 0]⟩,
   ⟨"BLK_SERIAL_LO", 0x10, 0, 1, [fd 0 64 .ro false 0]⟩,
   ⟨"BLK_SERIAL_HI", 0x18, 0, 1, [fd 0 64 .ro false 0]⟩,
   ⟨"BLK_MAP", 0x20, 0, 1, [fd 0 4 .st false 0, fd 4 1 .ro false 0]⟩,
   ⟨"BLK_ERR", 0x28, 0, 1, [fd 0 16 .rc false 0, fd 16 16 .rc false 0, fd 32 16 .rc false 0, fd 48 16 .rc false 0]⟩,
   ⟨"BLK_WIN_ADDR", 0x30, 0, 1, [fn 0 12 .rw false 0 (.align 3)]⟩,
   ⟨"BLK_WIN_DATA", 0x38, 0, 1, [fd 0 64 .rw false 0]⟩]

/-- The registers of block PAR. -/
def regsPAR : List RegDesc :=
  [⟨"PAR_CTL", 0, 0, 1, [fd 0 1 .rw true 1, fd 1 1 .w1s true 0, fd 2 1 .w1s true 0]⟩,
   ⟨"PAR_STATUS", 8, 0, 1, [fd 0 1 .ro false 0, fd 1 1 .ro false 0, fd 2 2 .ro false 0, fd 4 1 .ro false 0, fd 5 1 .ro false 0, fd 6 1 .ro false 0, fd 7 1 .ro false 0, fd 8 1 .ro false 0, fd 9 1 .ro false 0, fd 10 1 .ro false 0, fd 16 16 .ro false 0, fd 32 3 .ro false 0]⟩,
   ⟨"PAR_CFG", 0x10, 0, 1, [fn 0 16 .rw true 0xFA (.clamp 50 400), fn 16 8 .rw true 0x14 (.atLeast 1), fn 24 16 .rw true 0x64 (.clamp 10 60000)]⟩,
   ⟨"PAR_LAG", 0x18, 0, 1, [fd 0 32 .rc false 0, fd 32 32 .rc false 0]⟩,
   ⟨"PAR_CNT", 0x20, 0, 1, [fd 0 16 .rc false 0, fd 16 16 .rc false 0, fd 32 16 .rc false 0, fd 48 16 .rc false 0]⟩,
   ⟨"PAR_LAST", 0x28, 0, 1, [fd 0 64 .ro false 0]⟩]

/-- The registers of block LOG. -/
def regsLOG : List RegDesc :=
  [⟨"LOG_CTL", 0, 0, 1, [fd 0 1 .rw true 1]⟩,
   ⟨"LOG_STATUS", 8, 0, 1, [fd 0 1 .ro false 0, fd 1 1 .ro false 0, fd 2 3 .ro false 0, fd 5 1 .ro false 0, fd 6 1 .ro false 0]⟩,
   ⟨"LOG_NEXT", 0x10, 0, 1, [fd 0 64 .ro false 1]⟩,
   ⟨"LOG_FLOOR", 0x18, 0, 1, [fd 0 64 .ro false 1]⟩,
   ⟨"LOG_MIRRORED", 0x20, 0, 1, [fd 0 64 .ro false 0]⟩,
   ⟨"LOG_MIRROR_BASE", 0x28, 0, 1, [fn 0 48 .rw true 0 (.align 31)]⟩,
   ⟨"LOG_SEAL_SEQ", 0x30, 0, 1, [fd 0 64 .ro false 0]⟩,
   ⟨"LOG_SEAL_BASE", 0x38, 0, 1, [fn 0 48 .rw true 0 (.align 6)]⟩,
   ⟨"LOG_HOURS", 0x40, 0, 1, [fd 0 32 .ro false 0, fd 32 32 .ro false 0]⟩,
   ⟨"LOG_HBASE", 0x48, 0, 1, [fd 0 64 .ro false 0]⟩,
   ⟨"LOG_CNT", 0x50, 0, 1, [fd 0 32 .rc false 0, fd 32 16 .rc false 0, fd 48 16 .rc false 0]⟩,
   ⟨"LOG_CUR", 0x58, 0, 1, [fd 0 64 .rw false 1]⟩,
   ⟨"LOG_RSTAT", 0x60, 0, 1, [fd 0 1 .w1c false 0]⟩,
   ⟨"LOG_WIN", 0x80, 8, 16, [fd 0 64 .ro false 0]⟩,
   ⟨"LOG_FWIN", 0x100, 8, 8, [fd 0 64 .ro false 0]⟩,
   ⟨"LOG_SNAP", 0x200, 8, 32, [fd 0 10 .rw true 0, fd 10 4 .rw true 0, fd 14 1 .rw true 0, fd 15 1 .ro false 0, fd 16 22 .rw true 0]⟩]

/-- The registers of block KCP. -/
def regsKCP : List RegDesc :=
  [⟨"KCP_CTL", 0, 0, 1, [fd 0 1 .rw true 0, fn 8 8 .rw true 0x14 (.atLeast 1), fn 16 8 .rw true 2 (.atLeast 1), fn 24 8 .rw true 0xA (.atLeast 2), fd 32 8 .rw true 0, fd 40 8 .rw true 0]⟩,
   ⟨"KCP_STATUS", 8, 0, 1, [fd 0 8 .ro false 0, fd 8 8 .ro false 0, fd 16 1 .ro false 0, fd 17 1 .ro false 0]⟩,
   ⟨"KCP_PORT", 0x10, 0, 1, [fd 0 16 .rw true 0x1D25, fd 16 1 .rw true 1, fd 17 1 .rw true 1, fd 18 1 .rw true 1, fd 19 1 .rw true 1, fn 20 6 .rw true 0x18 (.atMost 32), fn 26 8 .rw true 0x40 (.atMost 128)]⟩,
   ⟨"KCP_IP4", 0x18, 0, 1, [fd 0 32 .rw true 0, fd 32 32 .rw true 0]⟩,
   ⟨"KCP_GW4", 0x20, 0, 1, [fd 0 32 .rw true 0]⟩,
   ⟨"KCP_IP6_STA_LO", 0x28, 0, 1, [fd 0 64 .rw true 0]⟩,
   ⟨"KCP_IP6_STA_HI", 0x30, 0, 1, [fd 0 64 .rw true 0]⟩,
   ⟨"KCP_IP6_SVC_LO", 0x38, 0, 1, [fd 0 64 .rw true 0]⟩,
   ⟨"KCP_IP6_SVC_HI", 0x40, 0, 1, [fd 0 64 .rw true 0]⟩,
   ⟨"KCP_GW6_LO", 0x48, 0, 1, [fd 0 64 .rw true 0]⟩,
   ⟨"KCP_GW6_HI", 0x50, 0, 1, [fd 0 64 .rw true 0]⟩,
   ⟨"KCP_NRING", 0x58, 0, 1, [fn 0 48 .rw true 0 (.align 14), fd 48 6 .rw true 0, fd 54 6 .ro false 0]⟩,
   ⟨"KCP_CNT", 0x60, 0, 1, [fd 0 16 .rc false 0, fd 16 16 .rc false 0, fd 32 16 .rc false 0, fd 48 16 .rc false 0]⟩,
   ⟨"KCP_SESS", 0x100, 8, 8, [fd 0 1 .ro false 0, fd 1 2 .ro false 0, fd 3 5 .ro false 0, fd 8 7 .ro false 0, fd 16 16 .ro false 0, fd 32 7 .ro false 0, fd 39 1 .ro false 0, fd 40 1 .ro false 0]⟩]

/-- The registers of block MAC. -/
def regsMAC : List RegDesc :=
  [⟨"MAC_CTL", 0, 0, 1, [fd 0 1 .rw true 1, fn 1 2 .rw true 1 (.atLeast 1), fd 3 1 .w1s true 0, fn 4 14 .rw true 0x2400 (.clamp 1500 9216), fd 18 1 .rw true 1]⟩,
   ⟨"MAC_STATUS", 8, 0, 1, [fd 0 2 .ro false 0, fd 2 8 .ro false 0, fd 10 1 .ro false 0, fd 11 1 .ro false 0, fd 12 1 .ro false 0]⟩,
   ⟨"MAC_STA", 0x10, 0, 1, [fn 0 48 .rw true 0 (.clearBit 40)]⟩,
   ⟨"MAC_SVC", 0x18, 0, 1, [fn 0 48 .rw true 0 (.clearBit 40)]⟩,
   ⟨"MAC_VLAN", 0x20, 0, 1, [fd 0 12 .rw true 0, fd 12 3 .rw true 0, fd 15 1 .rw true 1]⟩,
   ⟨"MACSEC_CTL", 0x28, 0, 1, [fn 0 2 .rw true 0 (.subst 3 2), fd 2 2 .st true 0, fd 4 32 .rw true 0]⟩,
   ⟨"MAC_CNT", 0x30, 0, 1, [fd 0 16 .rc false 0, fd 16 16 .rc false 0, fd 32 16 .rc false 0, fd 48 16 .rc false 0]⟩,
   ⟨"MACSEC_CNT", 0x38, 0, 1, [fd 0 32 .rc false 0, fd 32 32 .rc false 0]⟩]

/-- The registers of block MEM. -/
def regsMEM : List RegDesc :=
  [⟨"MEM_CTL", 0, 0, 1, [fd 0 1 .rw true 1, fn 8 8 .rw true 0x18 (.atLeast 1), fd 16 16 .rw true 0x3E8, fn 32 8 .rw true 4 (.atLeast 1)]⟩,
   ⟨"MEM_STATUS", 8, 0, 1, [fd 0 6 .ro false 0, fd 6 1 .ro false 0, fd 7 1 .ro false 0, fd 8 1 .ro false 0, fd 16 7 .ro false 0]⟩,
   ⟨"MEM_CH_UP", 0x10, 0, 1, [fd 0 64 .ro false 0]⟩,
   ⟨"MEM_SHARE", 0x18, 0, 1, [fd 0 6 .rw true 2, fd 8 6 .rw true 4, fd 16 6 .rw true 0x10, fd 24 6 .rw true 0]⟩,
   ⟨"MEM_ERR_ADDR", 0x20, 0, 1, [fd 0 48 .ro false 0]⟩,
   ⟨"MEM_ERR_INFO", 0x28, 0, 1, [fd 0 3 .ro false 0, fd 3 5 .ro false 0, fd 8 2 .ro false 0, fd 10 6 .ro false 0, fd 32 32 .rc false 0]⟩,
   ⟨"MEM_SRAM_CNT", 0x30, 0, 1, [fd 0 16 .rc false 0, fd 16 16 .rc false 0, fd 32 16 .rc false 0, fd 48 16 .rc false 0]⟩,
   ⟨"MEM_OWNER", 0x38, 0, 1, [fn 0 48 .rw true 0 (.align 29)]⟩,
   ⟨"MEM_LOAD", 0x40, 0, 1, [fn 0 48 .rw true 0 (.align 26)]⟩,
   ⟨"MEM_CH_CNT", 0x100, 8, 64, [fd 0 32 .rc false 0, fd 32 16 .rc false 0, fd 48 8 .rc false 0]⟩]

/-- The registers of block DMA. -/
def regsDMA : List RegDesc :=
  [⟨"DMA_CTL", 0, 0, 1, [fd 0 2 .rw true 1]⟩,
   ⟨"DMA_STATUS", 8, 0, 1, [fd 0 32 .ro false 0, fd 32 32 .ro false 0]⟩,
   ⟨"DMA_CH_CTL", 0x100, 32, 32, [fd 0 2 .rw true 0, fd 2 1 .rw true 1, fd 8 1 .ro false 0]⟩,
   ⟨"DMA_CH_STAT", 0x108, 32, 32, [fd 0 5 .ro false 0, fd 5 1 .ro false 0, fd 6 1 .ro false 0, fd 7 1 .ro false 0, fd 8 8 .ro false 0, fd 16 48 .ro false 0]⟩,
   ⟨"DMA_CH_CNT", 0x110, 32, 32, [fd 0 48 .rc false 0, fd 48 16 .rc false 0]⟩,
   ⟨"DMA_CH_NEXT", 0x118, 32, 32, [fd 0 48 .ro false 0]⟩]

/-- The registers of block GLB. -/
def regsGLB : List RegDesc :=
  [⟨"GLB_ID", 0, 0, 1, [fd 0 16 .ro false 0xA1E, fd 16 16 .ro false 0x1620, fd 32 8 .ro false 0xB1, fd 40 8 .ro false 1, fd 48 8 .ro false 0]⟩,
   ⟨"GLB_SERIAL_LO", 8, 0, 1, [fd 0 64 .ro false 0]⟩,
   ⟨"GLB_SERIAL_HI", 0x10, 0, 1, [fd 0 64 .ro false 0]⟩,
   ⟨"GLB_TRAY", 0x18, 0, 1, [fn 0 12 .rw true 0 (.subst 0xFFF 0), fd 12 1 .rw true 0]⟩,
   ⟨"GLB_STATUS", 0x20, 0, 1, [fd 0 1 .ro false 0, fd 1 1 .ro false 0, fd 2 1 .ro false 0, fd 3 1 .ro false 0, fd 4 1 .ro false 0]⟩,
   ⟨"GLB_RESET", 0x28, 0, 1, [fd 0 16 .wo true 0]⟩,
   ⟨"GLB_BLKRST", 0x30, 0, 1, [fd 0 6 .wo true 0, fd 16 16 .wo true 0]⟩,
   ⟨"GLB_CAUSE", 0x38, 0, 1, [fd 0 2 .ro false 0, fd 8 8 .ro false 0]⟩,
   ⟨"GLB_LMEM_CNT", 0x40, 0, 1, [fd 0 32 .rc false 0, fd 32 32 .rc false 0]⟩,
   ⟨"GLB_SCRATCH", 0x48, 0, 1, [fd 0 64 .rw true 0]⟩]

/-- The registers of block SEC. -/
def regsSEC : List RegDesc :=
  [⟨"SEC_STATUS", 0, 0, 1, [fd 0 1 .ro false 0, fd 1 1 .ro false 0, fd 2 1 .ro false 0, fd 3 1 .ro false 0, fd 4 1 .ro false 0, fd 5 1 .ro false 0]⟩,
   ⟨"SEC_ID", 0x10, 8, 6, [fd 0 64 .ro false 0]⟩,
   ⟨"SEC_OWNER", 0x40, 8, 6, [fd 0 64 .ro false 0]⟩,
   ⟨"SEC_FLOOR_CNT", 0x70, 0, 1, [fd 0 32 .ro false 0]⟩,
   ⟨"SEC_FLOOR_SEL", 0x78, 0, 1, [fd 0 5 .rw true 0]⟩,
   ⟨"SEC_FLOOR", 0x80, 0, 1, [fd 0 32 .ro false 0, fd 32 1 .ro false 0]⟩,
   ⟨"SEC_FLOOR_RAISE", 0x88, 0, 1, [fd 0 1 .wo true 0, fd 1 1 .wo true 0]⟩,
   ⟨"SEC_KEY_SEL", 0x90, 0, 1, [fd 0 6 .rw true 0, fd 6 2 .rw true 0]⟩,
   ⟨"SEC_KEY_INFO", 0x98, 0, 1, [fd 0 64 .ro false 0]⟩,
   ⟨"SEC_RNG", 0xA0, 0, 1, [fd 0 64 .ro false 0]⟩,
   ⟨"SEC_CNT", 0xA8, 0, 1, [fd 0 16 .rc false 0, fd 16 16 .rc false 0]⟩]

/-- The registers of block TND. -/
def regsTND : List RegDesc :=
  [⟨"TND_RESET", 0, 0, 1, [fd 0 24 .wo true 0]⟩,
   ⟨"TND_STATUS", 8, 0, 1, [fd 0 24 .ro false 0, fd 24 24 .ro false 0]⟩,
   ⟨"TND_TENDER_ENTRY", 0x100, 32, 24, [fn 0 18 .rw true 0 (.align 2)]⟩,
   ⟨"TND_TENDER_STAT", 0x108, 32, 24, [fd 0 2 .ro false 3, fd 2 1 .ro false 1, fd 3 1 .ro false 0, fd 4 8 .ro false 0, fd 16 8 .ro false 0xFF, fd 24 10 .ro false 0]⟩,
   ⟨"TND_TENDER_HPC", 0x110, 32, 24, [fd 0 48 .ro false 0]⟩,
   ⟨"TND_TENDER_HVAL", 0x118, 32, 24, [fd 0 64 .ro false 0]⟩]

/-- The registers of block EVT. -/
def regsEVT : List RegDesc :=
  [⟨"EVT_OPMASK", 0, 0, 1, [fd 0 6 .rw true 0x3F]⟩,
   ⟨"EVT_GRANT", 8, 0, 1, [fd 0 24 .wo true 0, fd 24 4 .wo true 0, fd 28 3 .wo true 0, fd 31 1 .wo true 0, fd 32 16 .wo true 0, fd 48 3 .wo true 0, fd 51 2 .wo true 0]⟩,
   ⟨"EVT_GRANT_EXP", 0x10, 0, 1, [fd 0 64 .rw true 0]⟩,
   ⟨"EVT_STG_Q", 0x18, 0, 1, [fd 0 48 .rw false 0, fd 48 6 .ro false 0, fd 54 1 .ro false 0]⟩,
   ⟨"EVT_CNT", 0x20, 0, 1, [fd 0 32 .rc false 0, fd 32 16 .rc false 0]⟩,
   ⟨"EVT_ARM", 0x100, 16, 16, [fd 0 3 .ro false 0, fd 3 1 .ro false 0, fd 4 3 .ro false 0, fd 16 16 .ro false 0, fd 32 32 .ro false 0]⟩,
   ⟨"EVT_ARM_EXP", 0x108, 16, 16, [fd 0 64 .ro false 0]⟩,
   ⟨"EVT_TND", 0x200, 8, 24, [fd 0 10 .ro false 0, fd 10 11 .ro false 0, fd 32 32 .rc false 0]⟩,
   ⟨"EVT_STG", 0x300, 8, 64, [fd 0 7 .ro false 0]⟩,
   ⟨"EVT_ROUTE", 0x1000, 8, 1024, [fd 0 5 .st true 0, fd 5 2 .st true 2]⟩]

/-- The registers of block THM. -/
def regsTHM : List RegDesc :=
  [⟨"THM_CTL", 0, 0, 1, [fn 0 8 .rw true 0x5F (.clamp 60 105), fn 8 8 .rw true 0x6E (.atMost 110)]⟩,
   ⟨"THM_STATUS", 8, 0, 1, [fd 0 8 .ro false 0, fd 8 5 .ro false 0, fd 13 1 .ro false 0, fd 14 1 .ro false 0]⟩,
   ⟨"THM_SENSOR", 0x100, 8, 24, [fd 0 8 .ro false 0, fd 8 8 .rc false 0]⟩]

/-- The registers of the block at a block offset; none where R359 leaves the offset unassigned. -/
def blockRegs (b : Nat) : List RegDesc :=
  match b with
  | 4 => regsPLB
  | 5 => regsTRS
  | 6 => regsLDG
  | 7 => regsTRC
  | 8 => regsOCC
  | 9 => regsSCF
  | 10 => regsBCN
  | 11 => regsPTP
  | 12 => regsMOR
  | 13 => regsPWR
  | 14 => regsPAR
  | 15 => regsLOG
  | 16 => regsKCP
  | 17 => regsMAC
  | 19 => regsMEM
  | 18 => regsDMA
  | 0 => regsGLB
  | 1 => regsSEC
  | 2 => regsTND
  | 3 => regsEVT
  | 21 => regsTHM
  | b => if 0x20 ≤ b ∧ b ≤ 0x2F then regsBLK else []

/-- The bits of a register's ST fields (00 R3). -/
def RegDesc.stMask (d : RegDesc) : Word :=
  BitVec.ofNat 64 ((d.fields.filter (fun f => decide (f.acc = .st))).map (fun f => place (2 ^ f.len - 1) f.lo f.len)).sum

/-- Every register with ST fields: its offset and their bits. -/
def stRegs : List (Nat × Word) :=
  (List.range 0x30).flatMap (fun b => (blockRegs b).flatMap (fun d =>
    if d.stMask = 0 then [] else (List.range d.count).map (fun i => (b * 0x10000 + d.off + d.stride * i, d.stMask))))

/-- The register that an offset of register space names, with its instance number: the start of an 8-byte register (R360). -/
def regAt (off : Nat) : Option (RegDesc × Nat) :=
  let b := off / 0x10000
  let r := off % 0x10000
  let hit := fun (d : RegDesc) =>
    if d.count = 1 then r = d.off
    else d.off ≤ r ∧ (r - d.off) % d.stride = 0 ∧ (r - d.off) / d.stride < d.count
  match (blockRegs b).find? (fun d => decide (hit d)) with
  | none => none
  | some d => some (d, if 0x20 ≤ b then b - 0x20 else if d.count = 1 then 0 else (r - d.off) / d.stride)

/-- Reset routes of R93 and R94: the tender and the priority of an event. -/
def routeReset (e : Nat) : Nat × Nat :=
  let t :=
    if e < 0x100 then e / 16
    else if e < 0x140 then 17
    else if e < 0x180 then 16
    else if e < 0x200 then 21
    else if e < 0x240 then 19
    else if e < 0x2C0 then 21
    else if e < 0x300 then 20
    else if e < 0x340 then 18
    else if e < 0x380 then 16
    else if e < 0x3C0 then 21
    else 22
  let hi := (0x1C0 ≤ e ∧ e < 0x200) ∨ (0x280 ≤ e ∧ e < 0x2C0) ∨ (0x380 ≤ e ∧ e < 0x3C4) ∨
    (e < 0x100 ∧ (e % 16 = 0 ∨ e % 16 = 2 ∨ e % 16 = 11))
  (t, if hi then 3 else 2)

/-- The reset value of one field of one instance: the table's, but for the fields whose reset depends on the instance
(LDG_TMO_c, PTP_DOM_d_CFG.domain, BLK_MAP, EVT_ROUTE_nnn). -/
def fieldReset (d : RegDesc) (i : Nat) (f : FieldDesc) : Nat :=
  if d.name = "EVT_ROUTE" then (if f.lo = 0 then (routeReset i).1 else (routeReset i).2)
  else if d.name = "LDG_TMO" then (match i with | 0 => 10000 | 1 => 100000 | 2 => 1000000 | _ => 0)
  else if d.name = "PTP_DOM_CFG" ∧ f.lo = 0 then i
  else if d.name = "BLK_MAP" ∧ f.lo = 0 then i
  else f.reset

/-- The reset value of the register at an offset, zero where none is assigned. -/
def regReset (off : Nat) : Word :=
  match regAt off with
  | none => 0
  | some (d, i) => d.fields.foldl (fun v f => v ||| BitVec.ofNat 64 (place (fieldReset d i f) f.lo f.len)) 0

/-- What a store rule leaves of a value. -/
def Norm.apply (n : Norm) (len v : Nat) : Nat :=
  match n with
  | .keep => v
  | .atLeast lo => if v < lo then lo else v
  | .atMost hi => if hi < v then hi else v
  | .clamp lo hi => clampNat v lo hi
  | .signedClamp m => wrapInt (clampInt (signedOf v len) (-(m : Int)) m) len
  | .subst bad good => if v = bad then good else v
  | .outside lo hi d => if v < lo ∨ hi < v then d else v
  | .align k => (v >>> k) <<< k
  | .clearBit k => if v.testBit k then v - 2 ^ k else v
  | .rate => if v = 0 then 0 else if v < 3 then 3 else if 16 < v then 16 else v

end Sys2Proof.Machine
end

