-- ==== Sys2Proof/Machine/RegFields.lean ====
section
/-! DEFINITION. The fields of register space by name, one constant for each field of each register table (the tables that
RegMap.lean follows), so that a rule of the machine names the field that the spec names. -/

namespace Sys2Proof.Machine.F

/-- PLB_CTL: bit t permits tile t in rotation; clearing a bit takes the tile out under R127 with reason -/
def PLB_CTL_tile_en : Fld := ⟨0x40000, 0x0, 0, 8⟩

/-- PLB_CTL: 1 lets Buoys capture; no effect while the active key is zero or PLB_RES_BASE is zero -/
def PLB_CTL_capture_en : Fld := ⟨0x40000, 0x0, 8, 1⟩

/-- PLB_CTL: 0 treats every op as if nocfm were set -/
def PLB_CTL_confirm : Fld := ⟨0x40000, 0x0, 9, 1⟩

/-- PLB_STATUS: bit t: tile t in rotation; tiles enter after their start-up self-test -/
def PLB_STATUS_in_rot : Fld := ⟨0x40008, 0x0, 0, 8⟩

/-- PLB_STATUS: bit t: tile t running an op -/
def PLB_STATUS_busy : Fld := ⟨0x40008, 0x0, 8, 8⟩

/-- PLB_STATUS: bit t: tile t out under R126 -/
def PLB_STATUS_envelope : Fld := ⟨0x40008, 0x0, 16, 8⟩

/-- PLB_STATUS: a new key is in force while the previous key still serves earlier steps -/
def PLB_STATUS_key_pending : Fld := ⟨0x40008, 0x0, 24, 1⟩

/-- PLB_DKEY_LO: H[63:0]; reads return zero -/
def PLB_DKEY_LO_key_lo : Fld := ⟨0x40010, 0x0, 0, 64⟩

/-- PLB_DKEY_HI: H[127:64]; reads return zero -/
def PLB_DKEY_HI_key_hi : Fld := ⟨0x40018, 0x0, 0, 64⟩

/-- PLB_DKEY_STEP: first step that uses the staged key -/
def PLB_DKEY_STEP_key_step : Fld := ⟨0x40020, 0x0, 0, 64⟩

/-- PLB_SSEED: sampling seed of R131 -/
def PLB_SSEED_sseed : Fld := ⟨0x40028, 0x0, 0, 64⟩

/-- PLB_ENV: neighbour voltage limit, mV -/
def PLB_ENV_dv_mv : Fld := ⟨0x40030, 0x0, 0, 8⟩

/-- PLB_ENV: neighbour temperature limit, °C -/
def PLB_ENV_dt_c : Fld := ⟨0x40030, 0x0, 8, 8⟩

/-- PLB_ENV: tile temperature limit, °C -/
def PLB_ENV_tmax : Fld := ⟨0x40030, 0x0, 16, 8⟩

/-- PLB_ENV: return margin, mV -/
def PLB_ENV_hyst_mv : Fld := ⟨0x40030, 0x0, 24, 8⟩

/-- PLB_ENV: return margin, °C -/
def PLB_ENV_hyst_c : Fld := ⟨0x40030, 0x0, 32, 8⟩

/-- PLB_ENV: time within margins before the return canary, ms -/
def PLB_ENV_settle_ms : Fld := ⟨0x40030, 0x0, 40, 16⟩

/-- PLB_RES_BASE: gallery address of the 256 KiB result ring, 64 KiB-aligned; bits [15:0] read as zero -/
def PLB_RES_BASE_base : Fld := ⟨0x40038, 0x0, 0, 48⟩

/-- PLB_RES_HEAD: next record the consumer will read -/
def PLB_RES_HEAD_head : Fld := ⟨0x40040, 0x0, 0, 12⟩

/-- PLB_RES_TAIL: next record the array will write; the ring is full when tail + 1 equals head, modulo 4,096 -/
def PLB_RES_TAIL_tail : Fld := ⟨0x40048, 0x0, 0, 12⟩

/-- PLB_RES_STALL: records that waited for ring space; saturates -/
def PLB_RES_STALL_stall : Fld := ⟨0x40050, 0x0, 0, 32⟩

/-- PLB_WOUT_BASE: LPDDR5X address of the 1 GiB write-out region, 1 GiB-aligned; D of an op with wout set goe -/
def PLB_WOUT_BASE_wout : Fld := ⟨0x40058, 0x0, 0, 48⟩

/-- PLB_CLIB_BASE: gallery address of the canary library, 128-byte-aligned -/
def PLB_CLIB_BASE_clib : Fld := ⟨0x40060, 0x0, 0, 48⟩

/-- PLB_SLOT_RATE: base rate 1 in 2^base_log2; 0 off; 3–16; writes of 1 or 2 store 3, and writes above 16 sto -/
def PLB_SLOT_RATE_base_log2 : Fld := ⟨0x40100, 0x10, 0, 5⟩

/-- PLB_SLOT_RATE: suspect rate, same encoding -/
def PLB_SLOT_RATE_susp_log2 : Fld := ⟨0x40100, 0x10, 8, 5⟩

/-- PLB_SLOT_RATE: whole slot at the suspect rate -/
def PLB_SLOT_RATE_suspect : Fld := ⟨0x40100, 0x10, 13, 1⟩

/-- PLB_SLOT_RATE: core whose engines sample at the suspect rate; 0xFFFF none -/
def PLB_SLOT_RATE_susp_core : Fld := ⟨0x40100, 0x10, 16, 16⟩

/-- PLB_SLOT_RATE: capture cap, GB/s, 1–47; 0 is stored as 1 and values above 47 as 47 -/
def PLB_SLOT_RATE_cap : Fld := ⟨0x40100, 0x10, 32, 8⟩

/-- PLB_SLOT_RATE: capture credits, 1–7; 0 is stored as 1 -/
def PLB_SLOT_RATE_credits : Fld := ⟨0x40100, 0x10, 40, 3⟩

/-- PLB_SLOT_CNT: samples turned into ops; saturates -/
def PLB_SLOT_CNT_captured : Fld := ⟨0x40108, 0x10, 0, 32⟩

/-- PLB_SLOT_CNT: samples skipped under R133 and R134; saturates -/
def PLB_SLOT_CNT_skipped : Fld := ⟨0x40108, 0x10, 32, 32⟩

/-- PLB_TILE_STAT: tile in rotation -/
def PLB_TILE_STAT_in_rot : Fld := ⟨0x40200, 0x8, 0, 1⟩

/-- PLB_TILE_STAT: why out: 0 none; 1 disabled in PLB_CTL; 2 envelope; 3 PLUMB_FAULT; 4 self-test canary fail -/
def PLB_TILE_STAT_reason : Fld := ⟨0x40200, 0x8, 1, 3⟩

/-- PLB_TILE_STAT: last temperature sample, °C -/
def PLB_TILE_STAT_temp : Fld := ⟨0x40200, 0x8, 8, 8⟩

/-- PLB_TILE_STAT: last voltage sample, mV above 0.60 V -/
def PLB_TILE_STAT_volt : Fld := ⟨0x40200, 0x8, 16, 8⟩

/-- PLB_TILE_STAT: ops queued, 0–64 -/
def PLB_TILE_STAT_depth : Fld := ⟨0x40200, 0x8, 24, 7⟩

/-- PLB_TILE_STAT: ops completed, modulo 2^32 -/
def PLB_TILE_STAT_ops : Fld := ⟨0x40200, 0x8, 32, 32⟩

/-- PLB_IBASE: base of tender nn's issued-op offsets, 64-byte-aligned; bits [5:0] read as zero -/
def PLB_IBASE_base : Fld := ⟨0x40300, 0x8, 0, 48⟩

/-- TRS_CTL: takes the images at TRS_MAP_SRC and TRS_PLAN_SRC under R152; hardware clears it when done -/
def TRS_CTL_load : Fld := ⟨0x50000, 0x0, 0, 1⟩

/-- TRS_CTL: binds the loaded job; refused with NOARR unless an arrangement has been committed; hardwar -/
def TRS_CTL_bind : Fld := ⟨0x50000, 0x0, 1, 1⟩

/-- TRS_CTL: ends the job; Buoys drop their schedules; hardware clears it when done -/
def TRS_CTL_unbind : Fld := ⟨0x50000, 0x0, 2, 1⟩

/-- TRS_CTL: 0 holds distribution; commits still derive schedules -/
def TRS_CTL_dist_en : Fld := ⟨0x50000, 0x0, 3, 1⟩

/-- TRS_STATUS: 0 EMPTY; 1 LOADED; 2 BOUND; 3 reserved -/
def TRS_STATUS_state : Fld := ⟨0x50008, 0x0, 0, 2⟩

/-- TRS_STATUS: lgG of the loaded truss map; 0 when EMPTY -/
def TRS_STATUS_lg_g : Fld := ⟨0x50008, 0x0, 2, 5⟩

/-- TRS_STATUS: an arrangement awaits its step -/
def TRS_STATUS_arr_pending : Fld := ⟨0x50008, 0x0, 7, 1⟩

/-- TRS_STATUS: a step boundary passed before every holding slot acknowledged, R158 -/
def TRS_STATUS_arr_late : Fld := ⟨0x50008, 0x0, 8, 1⟩

/-- TRS_STATUS: reason for the last refused load, bind or commit -/
def TRS_STATUS_reason : Fld := ⟨0x50008, 0x0, 12, 4⟩

/-- TRS_MAP_SRC: address of the truss map image, 64-byte-aligned; bits [5:0] read as zero -/
def TRS_MAP_SRC_map : Fld := ⟨0x50010, 0x0, 0, 48⟩

/-- TRS_PLAN_SRC: address of the format plan image, 64-byte-aligned -/
def TRS_PLAN_SRC_plan : Fld := ⟨0x50018, 0x0, 0, 48⟩

/-- TRS_ARR_SRC: gallery address of the arrangement table, 64-byte-aligned -/
def TRS_ARR_SRC_arr : Fld := ⟨0x50020, 0x0, 0, 48⟩

/-- TRS_ARR_STEP: first step that uses the staged arrangement -/
def TRS_ARR_STEP_step : Fld := ⟨0x50028, 0x0, 0, 64⟩

/-- TRS_ARR_GEN: generation in force at the last boundary -/
def TRS_ARR_GEN_active : Fld := ⟨0x50030, 0x0, 0, 32⟩

/-- TRS_ARR_GEN: generation awaiting its step; equal to active when none -/
def TRS_ARR_GEN_pending : Fld := ⟨0x50030, 0x0, 32, 32⟩

/-- TRS_DIST: bit nn: slot Snn acknowledged the pending generation -/
def TRS_DIST_acked : Fld := ⟨0x50038, 0x0, 0, 16⟩

/-- TRS_DIST: bit nn: schedule sent to Snn -/
def TRS_DIST_sent : Fld := ⟨0x50038, 0x0, 16, 16⟩

/-- TRS_DIST: bit nn: distribution to Snn waits for LINK_UP -/
def TRS_DIST_held : Fld := ⟨0x50038, 0x0, 32, 16⟩

/-- TRS_FWD_ERR: partials discarded by this tray's Buoys under R156; saturates -/
def TRS_FWD_ERR_discards : Fld := ⟨0x50040, 0x0, 0, 32⟩

/-- TRS_SCHED: entries in Snn's schedule for the active generation -/
def TRS_SCHED_entries : Fld := ⟨0x50100, 0x8, 0, 18⟩

/-- TRS_SCHED: grains held by Snn, 0–65,536 -/
def TRS_SCHED_grains : Fld := ⟨0x50100, 0x8, 18, 17⟩

/-- LDG_CTL: 0 stops timeout examination; tracking continues -/
def LDG_CTL_tmo_en : Fld := ⟨0x60000, 0x0, 0, 1⟩

/-- LDG_TMO: timeout of class c in µs; 0 never -/
def LDG_TMO_tmo_us : Fld := ⟨0x60010, 0x8, 0, 32⟩

/-- LDG_SLOT_STAT: open tracked entries of the slot, 0–16,384 -/
def LDG_SLOT_STAT_open : Fld := ⟨0x60100, 0x10, 0, 15⟩

/-- LDG_SLOT_STAT: open entries with timed_out set -/
def LDG_SLOT_STAT_timed_out : Fld := ⟨0x60100, 0x10, 15, 15⟩

/-- LDG_SLOT_STAT: context of the earliest-begun timed-out entry; among equal begin times, the one with the l -/
def LDG_SLOT_STAT_oldest_ctx : Fld := ⟨0x60100, 0x10, 32, 12⟩

/-- LDG_SLOT_STAT: 1: oldest_ctx is valid -/
def LDG_SLOT_STAT_any_out : Fld := ⟨0x60100, 0x10, 44, 1⟩

/-- LDG_SLOT_CNT: untracked commands now open, summed over the slot's engines -/
def LDG_SLOT_CNT_untracked : Fld := ⟨0x60108, 0x10, 0, 32⟩

/-- LDG_SLOT_CNT: ends with no entry and no untracked count, and repeated begins; saturates -/
def LDG_SLOT_CNT_orphan : Fld := ⟨0x60108, 0x10, 32, 16⟩

/-- LDG_SLOT_CNT: ends of timed-out entries; saturates -/
def LDG_SLOT_CNT_late : Fld := ⟨0x60108, 0x10, 48, 16⟩

/-- TRC_REGION: LPDDR5X base of the 16 GiB trace region, 16 GiB-aligned; slot nn's segment starts at regio -/
def TRC_REGION_region : Fld := ⟨0x70000, 0x0, 0, 48⟩

/-- TRC_LENS_CTL: 1 trains and runs the Lens port -/
def TRC_LENS_CTL_en : Fld := ⟨0x70008, 0x0, 0, 1⟩

/-- TRC_LENS_CTL: 1: Lens link trained -/
def TRC_LENS_CTL_up : Fld := ⟨0x70008, 0x0, 1, 1⟩

/-- TRC_LENS_CTL: frames sent, modulo 2^32 -/
def TRC_LENS_CTL_frames : Fld := ⟨0x70008, 0x0, 32, 32⟩

/-- TRC_LENS_SEL: slot carried by stream k -/
def TRC_LENS_SEL_slot : Fld := ⟨0x70010, 0x8, 0, 4⟩

/-- TRC_LENS_SEL: 1 enables stream k -/
def TRC_LENS_SEL_sel_en : Fld := ⟨0x70010, 0x8, 4, 1⟩

/-- TRC_SIGHT_BASE: LPDDR5X base of the 4 GiB sighting region, 4 GiB-aligned -/
def TRC_SIGHT_BASE_sbase : Fld := ⟨0x70040, 0x0, 0, 48⟩

/-- TRC_SIGHT_HEAD: byte offset of the oldest sighting section not yet freed -/
def TRC_SIGHT_HEAD_shead : Fld := ⟨0x70048, 0x0, 0, 32⟩

/-- TRC_SIGHT_TAIL: byte offset at which the next reservation begins -/
def TRC_SIGHT_TAIL_stail : Fld := ⟨0x70050, 0x0, 0, 32⟩

/-- TRC_CNT_CTL: sample period in µs; 0 off -/
def TRC_CNT_CTL_period_us : Fld := ⟨0x70058, 0x0, 0, 24⟩

/-- TRC_CNT_CTL: first engine sampled -/
def TRC_CNT_CTL_first : Fld := ⟨0x70058, 0x0, 24, 10⟩

/-- TRC_CNT_CTL: last engine sampled -/
def TRC_CNT_CTL_last : Fld := ⟨0x70058, 0x0, 34, 10⟩

/-- TRC_CNT_CTL: bit nn: slot Snn sampled -/
def TRC_CNT_CTL_slots : Fld := ⟨0x70058, 0x0, 44, 16⟩

/-- TRC_SLOT_CTL: 1 enables the stream; enabling writes an ANCHOR -/
def TRC_SLOT_CTL_en : Fld := ⟨0x70100, 0x40, 0, 1⟩

/-- TRC_SLOT_CTL: 0 raw; 1 delta, under R170 -/
def TRC_SLOT_CTL_fmt : Fld := ⟨0x70100, 0x40, 1, 1⟩

/-- TRC_SLOT_CTL: 0 drop mode; 1 flight-recorder mode -/
def TRC_SLOT_CTL_flight : Fld := ⟨0x70100, 0x40, 2, 1⟩

/-- TRC_SLOT_CTL: fires a trigger; reads 0 -/
def TRC_SLOT_CTL_trig : Fld := ⟨0x70100, 0x40, 3, 1⟩

/-- TRC_SLOT_CTL: trigger on the slot's LEDGER_TIMEOUT -/
def TRC_SLOT_CTL_auto_tmo : Fld := ⟨0x70100, 0x40, 4, 1⟩

/-- TRC_SLOT_CTL: trigger on the slot's ALARM -/
def TRC_SLOT_CTL_auto_alarm : Fld := ⟨0x70100, 0x40, 5, 1⟩

/-- TRC_SLOT_CTL: trigger on a record matching TRC_SLOT_nn_MATCH -/
def TRC_SLOT_CTL_match_en : Fld := ⟨0x70100, 0x40, 6, 1⟩

/-- TRC_SLOT_CTL: flight-recorder mode: unfreezes the segment and ends the drop; reads 0 -/
def TRC_SLOT_CTL_rearm : Fld := ⟨0x70100, 0x40, 7, 1⟩

/-- TRC_SLOT_CTL: records after a trigger that close its window, 1–65,535; 0 is stored as 1 -/
def TRC_SLOT_CTL_post : Fld := ⟨0x70100, 0x40, 8, 16⟩

/-- TRC_SLOT_MATCH: record type matched; a delta record matches as its raw type -/
def TRC_SLOT_MATCH_type : Fld := ⟨0x70108, 0x40, 0, 4⟩

/-- TRC_SLOT_MATCH: engine matched -/
def TRC_SLOT_MATCH_engine : Fld := ⟨0x70108, 0x40, 4, 10⟩

/-- TRC_SLOT_MATCH: context matched -/
def TRC_SLOT_MATCH_context : Fld := ⟨0x70108, 0x40, 14, 12⟩

/-- TRC_SLOT_MATCH: 1: every engine matches -/
def TRC_SLOT_MATCH_any_engine : Fld := ⟨0x70108, 0x40, 26, 1⟩

/-- TRC_SLOT_MATCH: 1: every context matches -/
def TRC_SLOT_MATCH_any_context : Fld := ⟨0x70108, 0x40, 27, 1⟩

/-- TRC_SLOT_HEAD: byte offset in the segment of the oldest unread record, 8-byte-aligned; in flight-recorder -/
def TRC_SLOT_HEAD_head : Fld := ⟨0x70110, 0x40, 0, 30⟩

/-- TRC_SLOT_TAIL: byte offset of the next drained byte; equal to head when the segment is empty -/
def TRC_SLOT_TAIL_tail : Fld := ⟨0x70118, 0x40, 0, 30⟩

/-- TRC_SLOT_STAT: bytes in the staging buffer, 0–262,144 -/
def TRC_SLOT_STAT_occupancy : Fld := ⟨0x70120, 0x40, 0, 19⟩

/-- TRC_SLOT_STAT: a trigger window is open or draining -/
def TRC_SLOT_STAT_window : Fld := ⟨0x70120, 0x40, 19, 1⟩

/-- TRC_SLOT_STAT: flight-recorder segment frozen -/
def TRC_SLOT_STAT_frozen : Fld := ⟨0x70120, 0x40, 20, 1⟩

/-- TRC_SLOT_STAT: records are being dropped -/
def TRC_SLOT_STAT_dropping : Fld := ⟨0x70120, 0x40, 21, 1⟩

/-- TRC_SLOT_STAT: causes of the last trigger: [22] trig, [23] match, [24] timeout, [25] alarm -/
def TRC_SLOT_STAT_cause : Fld := ⟨0x70120, 0x40, 22, 4⟩

/-- TRC_SLOT_STAT: records dropped; saturates -/
def TRC_SLOT_STAT_dropped : Fld := ⟨0x70120, 0x40, 32, 32⟩

/-- TRC_SLOT_MARK: a write stages a MARK with this value as arg -/
def TRC_SLOT_MARK_value : Fld := ⟨0x70128, 0x40, 0, 32⟩

/-- TRC_SLOT_MARK: mark identifier, written into the MARK's cseq -/
def TRC_SLOT_MARK_id : Fld := ⟨0x70128, 0x40, 32, 32⟩

/-- TRC_SIGHT_REQ: tensor sighted -/
def TRC_SIGHT_REQ_tensor_id : Fld := ⟨0x70600, 0x20, 0, 32⟩

/-- TRC_SIGHT_REQ: 0 full; 1 summary -/
def TRC_SIGHT_REQ_mode : Fld := ⟨0x70600, 0x20, 32, 1⟩

/-- TRC_SIGHT_REQ: 0 step boundary; 1 after the nwrite-th write; 2–3 reserved -/
def TRC_SIGHT_REQ_point : Fld := ⟨0x70600, 0x20, 33, 2⟩

/-- TRC_SIGHT_REQ: summary block size, log2, 5–20; other values are stored as 5 -/
def TRC_SIGHT_REQ_lgb : Fld := ⟨0x70600, 0x20, 35, 5⟩

/-- TRC_SIGHT_REQ: write count for point 1, 1–255 -/
def TRC_SIGHT_REQ_nwrite : Fld := ⟨0x70600, 0x20, 40, 8⟩

/-- TRC_SIGHT_REQ: bit nn: slot Snn sighted; 0 cancels the request -/
def TRC_SIGHT_REQ_slots : Fld := ⟨0x70600, 0x20, 48, 16⟩

/-- TRC_SIGHT_STEP: step sighted -/
def TRC_SIGHT_STEP_step : Fld := ⟨0x70608, 0x20, 0, 64⟩

/-- TRC_SIGHT_STAT: 0 idle; 1 armed; 2 capturing; 3 done; 4 LATE; 5–7 reserved -/
def TRC_SIGHT_STAT_state : Fld := ⟨0x70610, 0x20, 0, 3⟩

/-- TRC_SIGHT_STAT: bit nn: Snn captured -/
def TRC_SIGHT_STAT_captured : Fld := ⟨0x70610, 0x20, 16, 16⟩

/-- TRC_SIGHT_STAT: bit nn: Snn refused or not reached, R180 -/
def TRC_SIGHT_STAT_refused : Fld := ⟨0x70610, 0x20, 32, 16⟩

/-- OCC_CTL: 1 enables the hardware stop path of R189 -/
def OCC_CTL_hw_en : Fld := ⟨0x80000, 0x0, 0, 1⟩

/-- OCC_STATUS: bit nn: Snn acknowledged a stop and is not yet released -/
def OCC_STATUS_stopped : Fld := ⟨0x80008, 0x0, 0, 16⟩

/-- OCC_STATUS: bit nn: this keeper holds MOOR_Snn_W1 low -/
def OCC_STATUS_driven : Fld := ⟨0x80008, 0x0, 16, 16⟩

/-- OCC_STATUS: slot mask of the pending OCLT AT -/
def OCC_STATUS_sched : Fld := ⟨0x80008, 0x0, 32, 16⟩

/-- OCC_STATUS: an OCLT AT is pending -/
def OCC_STATUS_at_pending : Fld := ⟨0x80008, 0x0, 48, 1⟩

/-- OCC_STATUS: causes of the last stop: [49] instruction; [50] ALARM; [51] HEARTBEAT_LOST; [52] LINK_DOWN -/
def OCC_STATUS_cause : Fld := ⟨0x80008, 0x0, 49, 6⟩

/-- OCC_TRIG: [0] ALARM; [1] HEARTBEAT_LOST; [2] LINK_DOWN; [3] CHIP_DOWN; [4] LEDGER_TIMEOUT -/
def OCC_TRIG_src : Fld := ⟨0x80010, 0x0, 0, 5⟩

/-- OCC_TRIG: bit nn: events of Snn are watched -/
def OCC_TRIG_watch : Fld := ⟨0x80010, 0x0, 16, 16⟩

/-- OCC_TRIG: bit nn: Snn is stopped by a trigger -/
def OCC_TRIG_stop : Fld := ⟨0x80010, 0x0, 32, 16⟩

/-- OCC_HB: heartbeat timeout in µs, 15–1,000; other values are stored as the nearer limit -/
def OCC_HB_hb_us : Fld := ⟨0x80018, 0x0, 0, 16⟩

/-- OCC_HB: identity probe timeout in µs, 1–1,000; other values are stored as the nearer limit -/
def OCC_HB_probe_us : Fld := ⟨0x80018, 0x0, 16, 16⟩

/-- OCC_HB: stop acknowledgement bound in µs, 2–1,000; other values are stored as the nearer limit -/
def OCC_HB_ack_us : Fld := ⟨0x80018, 0x0, 32, 16⟩

/-- OCC_AT_TIME: beacon time of the pending OCLT AT; zero when none -/
def OCC_AT_TIME_at_time : Fld := ⟨0x80020, 0x0, 0, 64⟩

/-- OCC_DUMP_BASE: LPDDR5X base of the 8 GiB dump region, 8 GiB-aligned; bits [32:0] read as zero -/
def OCC_DUMP_BASE_base : Fld := ⟨0x80028, 0x0, 0, 48⟩

/-- OCC_DUMP_CTL: scratchpad sampling s of R200, 0–12; values above 12 are stored as 12 -/
def OCC_DUMP_CTL_sp_log2 : Fld := ⟨0x80030, 0x0, 0, 4⟩

/-- OCC_DUMP_CTL: phase p of the next dump -/
def OCC_DUMP_CTL_sp_phase : Fld := ⟨0x80030, 0x0, 4, 12⟩

/-- OCC_DUMP_CTL: per-read timeout in µs, 1–255; 0 is stored as 1 -/
def OCC_DUMP_CTL_read_tmo_us : Fld := ⟨0x80030, 0x0, 16, 8⟩

/-- OCC_DUMP_CTL: retry unreadable units on the mooring path -/
def OCC_DUMP_CTL_moor_retry : Fld := ⟨0x80030, 0x0, 24, 1⟩

/-- OCC_DUMP_CTL: retry every unit, not only essential ones -/
def OCC_DUMP_CTL_moor_all : Fld := ⟨0x80030, 0x0, 25, 1⟩

/-- OCC_DUMP_GO: bit nn: begin a dump of Snn; ignored for a slot whose dump runs -/
def OCC_DUMP_GO_start : Fld := ⟨0x80038, 0x0, 0, 16⟩

/-- OCC_DUMP_GO: bit nn: abort the dump of Snn under R202 -/
def OCC_DUMP_GO_abort : Fld := ⟨0x80038, 0x0, 16, 16⟩

/-- OCC_REPLAY_TMO: suspect replay timeout per context, in ms, 1–16,777,215; 0 is stored as 1 -/
def OCC_REPLAY_TMO_ms : Fld := ⟨0x80040, 0x0, 0, 24⟩

/-- OCC_CNT: stops driven; saturates -/
def OCC_CNT_stops : Fld := ⟨0x80048, 0x0, 0, 16⟩

/-- OCC_CNT: hardware triggers withheld for want of arming; saturates -/
def OCC_CNT_withheld : Fld := ⟨0x80048, 0x0, 16, 16⟩

/-- OCC_CNT: triggers merged under R195; saturates -/
def OCC_CNT_merged : Fld := ⟨0x80048, 0x0, 32, 16⟩

/-- OCC_SNAP: stop tick of Snn's last acknowledged stop -/
def OCC_SNAP_tick : Fld := ⟨0x80100, 0x8, 0, 64⟩

/-- OCC_DUMP_STAT: 0 idle; 1 reading on the link; 2 mooring retries; 3 done; 4 SEALED; 5 ABORTED; 6–7 reserve -/
def OCC_DUMP_STAT_state : Fld := ⟨0x80200, 0x10, 0, 3⟩

/-- OCC_DUMP_STAT: the last dump was live -/
def OCC_DUMP_STAT_live : Fld := ⟨0x80200, 0x10, 3, 1⟩

/-- OCC_DUMP_STAT: the last scheduled stop took effect on the edge, R193 -/
def OCC_DUMP_STAT_edge : Fld := ⟨0x80200, 0x10, 4, 1⟩

/-- OCC_DUMP_STAT: neither path answered -/
def OCC_DUMP_STAT_unreachable : Fld := ⟨0x80200, 0x10, 5, 1⟩

/-- OCC_DUMP_STAT: units read, by either path, 0–4,096 -/
def OCC_DUMP_STAT_read : Fld := ⟨0x80200, 0x10, 6, 13⟩

/-- OCC_DUMP_STAT: units marked UNREADABLE, 0–4,096 -/
def OCC_DUMP_STAT_unreadable : Fld := ⟨0x80200, 0x10, 19, 13⟩

/-- OCC_DUMP_STAT: bytes written to the segment -/
def OCC_DUMP_STAT_bytes : Fld := ⟨0x80200, 0x10, 32, 30⟩

/-- OCC_REPLAY: first suspect context -/
def OCC_REPLAY_ctx0 : Fld := ⟨0x80208, 0x10, 0, 12⟩

/-- OCC_REPLAY: second suspect context -/
def OCC_REPLAY_ctx1 : Fld := ⟨0x80208, 0x10, 12, 12⟩

/-- OCC_REPLAY: third suspect context -/
def OCC_REPLAY_ctx2 : Fld := ⟨0x80208, 0x10, 24, 12⟩

/-- OCC_REPLAY: fourth suspect context -/
def OCC_REPLAY_ctx3 : Fld := ⟨0x80208, 0x10, 36, 12⟩

/-- OCC_REPLAY: contexts in the list, 0–4; values above 4 are stored as 4 -/
def OCC_REPLAY_count : Fld := ⟨0x80208, 0x10, 48, 3⟩

/-- SCF_CTL: 1 lets Scarf take boundaries -/
def SCF_CTL_en : Fld := ⟨0x90000, 0x0, 0, 1⟩

/-- SCF_CTL: checkpoint interval, 1–65,535; 0 is stored as 1 -/
def SCF_CTL_k : Fld := ⟨0x90000, 0x0, 1, 16⟩

/-- SCF_CTL: commit hold, R225 -/
def SCF_CTL_hold : Fld := ⟨0x90000, 0x0, 17, 1⟩

/-- SCF_CTL: discards the image in progress; reads 0 -/
def SCF_CTL_discard : Fld := ⟨0x90000, 0x0, 18, 1⟩

/-- SCF_CTL: the next image is replicated in full; reads 0 -/
def SCF_CTL_full : Fld := ⟨0x90000, 0x0, 19, 1⟩

/-- SCF_CTL: commit without waiting for the other keeper -/
def SCF_CTL_solo : Fld := ⟨0x90000, 0x0, 20, 1⟩

/-- SCF_CTL: wait of R223, 1–60,000 ms; 0 is stored as 1 -/
def SCF_CTL_relief_wait_ms : Fld := ⟨0x90000, 0x0, 32, 16⟩

/-- SCF_STATUS: own image state, R222 -/
def SCF_STATUS_state : Fld := ⟨0x90008, 0x0, 0, 3⟩

/-- SCF_STATUS: committed own slot, 0 A, 1 B -/
def SCF_STATUS_own_slot : Fld := ⟨0x90008, 0x0, 3, 1⟩

/-- SCF_STATUS: a committed own image exists -/
def SCF_STATUS_own_valid : Fld := ⟨0x90008, 0x0, 4, 1⟩

/-- SCF_STATUS: committed buddy slot -/
def SCF_STATUS_buddy_slot : Fld := ⟨0x90008, 0x0, 5, 1⟩

/-- SCF_STATUS: a committed buddy image exists -/
def SCF_STATUS_buddy_valid : Fld := ⟨0x90008, 0x0, 6, 1⟩

/-- SCF_STATUS: receiving buddy image: 0 none, 1 receiving, 2 prepared, 3 reserved -/
def SCF_STATUS_recv : Fld := ⟨0x90008, 0x0, 7, 2⟩

/-- SCF_STATUS: the counterpart answers -/
def SCF_STATUS_buddy_up : Fld := ⟨0x90008, 0x0, 9, 1⟩

/-- SCF_STATUS: the other keeper's committed image is older, R223 -/
def SCF_STATUS_peer_stale : Fld := ⟨0x90008, 0x0, 10, 1⟩

/-- SCF_STATUS: the committed own image has segments on a lost channel -/
def SCF_STATUS_lost_segs : Fld := ⟨0x90008, 0x0, 11, 1⟩

/-- SCF_STEP: step of the committed own image; valid when own_valid is 1 -/
def SCF_STEP_step : Fld := ⟨0x90010, 0x0, 0, 64⟩

/-- SCF_PSTEP: step of the image in progress; valid when state is not IDLE -/
def SCF_PSTEP_pstep : Fld := ⟨0x90018, 0x0, 0, 64⟩

/-- SCF_BSTEP: step of the committed buddy image; valid when buddy_valid is 1 -/
def SCF_BSTEP_bstep : Fld := ⟨0x90020, 0x0, 0, 64⟩

/-- SCF_IMG_BASE: LPDDR5X base of image slot i, 1 GiB-aligned; bits [29:0] read as zero -/
def SCF_IMG_BASE_base : Fld := ⟨0x90040, 0x8, 0, 48⟩

/-- SCF_MAN_BASE: LPDDR5X base of the 64 MiB manifest area, 64 MiB-aligned; slot i's manifest at mbase + 16  -/
def SCF_MAN_BASE_mbase : Fld := ⟨0x90060, 0x0, 0, 48⟩

/-- SCF_BUDDY: buddy tray, set under R8; takes effect under R9 -/
def SCF_BUDDY_tray : Fld := ⟨0x90068, 0x0, 0, 12⟩

/-- SCF_BUDDY: a buddy is set -/
def SCF_BUDDY_valid : Fld := ⟨0x90068, 0x0, 12, 1⟩

/-- SCF_REPL: unacknowledged segments, 1–128; 0 is stored as 1, above 128 as 128 -/
def SCF_REPL_window : Fld := ⟨0x90070, 0x0, 0, 8⟩

/-- SCF_REPL: resend time, 1–255 ms; 0 is stored as 1 -/
def SCF_REPL_rto_ms : Fld := ⟨0x90070, 0x0, 8, 8⟩

/-- SCF_REPL: incomplete-segment time, 1–255 ms; 0 is stored as 1 -/
def SCF_REPL_nak_ms : Fld := ⟨0x90070, 0x0, 16, 8⟩

/-- SCF_REPL: counterpart loss time, 10–10,000 ms; other values are stored as the nearer limit -/
def SCF_REPL_lost_ms : Fld := ⟨0x90070, 0x0, 24, 16⟩

/-- SCF_REPL_CNT: segments resent; saturates -/
def SCF_REPL_CNT_resent : Fld := ⟨0x90078, 0x0, 0, 16⟩

/-- SCF_REPL_CNT: SEG_NAK received; saturates -/
def SCF_REPL_CNT_naks : Fld := ⟨0x90078, 0x0, 16, 16⟩

/-- SCF_REPL_CNT: segments sent as SEG_REF; saturates -/
def SCF_REPL_CNT_refs : Fld := ⟨0x90078, 0x0, 32, 16⟩

/-- SCF_REPL_CNT: frames dropped under R229 and R230; saturates -/
def SCF_REPL_CNT_foreign : Fld := ⟨0x90078, 0x0, 48, 16⟩

/-- SCF_CNT: boundaries skipped; saturates -/
def SCF_CNT_skipped : Fld := ⟨0x90080, 0x0, 0, 16⟩

/-- SCF_CNT: images discarded; saturates -/
def SCF_CNT_discards : Fld := ⟨0x90080, 0x0, 16, 16⟩

/-- SCF_CNT: segments failing a digest at ingest, receipt or load; saturates -/
def SCF_CNT_bad : Fld := ⟨0x90080, 0x0, 32, 16⟩

/-- SCF_CNT: segments pulled again after channel loss; saturates -/
def SCF_CNT_rewrites : Fld := ⟨0x90080, 0x0, 48, 16⟩

/-- SCF_RST_DESC: gallery address of the restore descriptor, 64-byte-aligned; bits [5:0] read as zero -/
def SCF_RST_DESC_desc : Fld := ⟨0x90088, 0x0, 0, 48⟩

/-- SCF_RST_CTL: plans under R237; reads 0 -/
def SCF_RST_CTL_plan : Fld := ⟨0x90090, 0x0, 0, 1⟩

/-- SCF_RST_CTL: drops the plan; a running restore is not affected; reads 0 -/
def SCF_RST_CTL_cancel : Fld := ⟨0x90090, 0x0, 1, 1⟩

/-- SCF_RST_STATUS: 0 none; 1 planning; 2 planned; 3 loading; 4 done; 5 failed; 6–7 reserved -/
def SCF_RST_STATUS_state : Fld := ⟨0x90098, 0x0, 0, 3⟩

/-- SCF_RST_STATUS: 0 none; 1 no step complete; 2 source unreachable; 3 descriptor invalid; 4 arrangement gene -/
def SCF_RST_STATUS_reason : Fld := ⟨0x90098, 0x0, 3, 4⟩

/-- SCF_RST_STATUS: bit i: source i answered -/
def SCF_RST_STATUS_answered : Fld := ⟨0x90098, 0x0, 7, 4⟩

/-- SCF_RST_STATUS: manifests and segments reported under R237 and R238; saturates -/
def SCF_RST_STATUS_mismatches : Fld := ⟨0x90098, 0x0, 16, 16⟩

/-- SCF_RST_STEP: step chosen by the last plan -/
def SCF_RST_STEP_step : Fld := ⟨0x900A0, 0x0, 0, 64⟩

/-- SCF_SLOT_STAT: 0 not in the image; 1 awaiting tag; 2 ingesting; 3 durable; 4 acknowledged by the counterp -/
def SCF_SLOT_STAT_state : Fld := ⟨0x90100, 0x10, 0, 3⟩

/-- SCF_SLOT_STAT: segments arriving over the pair link, R215 -/
def SCF_SLOT_STAT_pair : Fld := ⟨0x90100, 0x10, 3, 1⟩

/-- SCF_SLOT_STAT: the slot carries the replicated tensors -/
def SCF_SLOT_STAT_repl : Fld := ⟨0x90100, 0x10, 4, 1⟩

/-- SCF_SLOT_STAT: segments durable -/
def SCF_SLOT_STAT_segs : Fld := ⟨0x90100, 0x10, 8, 24⟩

/-- SCF_SLOT_STAT: raw MiB durable -/
def SCF_SLOT_STAT_mib : Fld := ⟨0x90100, 0x10, 32, 32⟩

/-- SCF_SLOT_BUDGET: raw shard budget, R212; values above 15 GiB are stored as 15 GiB -/
def SCF_SLOT_BUDGET_bytes : Fld := ⟨0x90108, 0x10, 0, 36⟩

/-- BCN_CTL: 0 FREE; 1 A; 2 B; 3 PPS -/
def BCN_CTL_tie : Fld := ⟨0xA0000, 0x0, 0, 2⟩

/-- BCN_CTL: return to the preferred domain, R255 -/
def BCN_CTL_revert : Fld := ⟨0xA0000, 0x0, 2, 1⟩

/-- BCN_CTL: preferred domain, 0 A, 1 B -/
def BCN_CTL_prefer : Fld := ⟨0xA0000, 0x0, 3, 1⟩

/-- BCN_CTL: slew rate, 1–50 ppm; 0 is stored as 1, above 50 as 50 -/
def BCN_CTL_slew_ppm : Fld := ⟨0xA0000, 0x0, 4, 6⟩

/-- BCN_CTL: start-up wait for a lock, s -/
def BCN_CTL_wait_s : Fld := ⟨0xA0000, 0x0, 16, 16⟩

/-- BCN_STATUS: R243 -/
def BCN_STATUS_in_service : Fld := ⟨0xA0008, 0x0, 0, 1⟩

/-- BCN_STATUS: R244 holds -/
def BCN_STATUS_tied : Fld := ⟨0xA0008, 0x0, 1, 1⟩

/-- BCN_STATUS: tie source lost; trim frozen -/
def BCN_STATUS_holdover : Fld := ⟨0xA0008, 0x0, 2, 1⟩

/-- BCN_STATUS: BCN_SLEW remainder non-zero -/
def BCN_STATUS_slewing : Fld := ⟨0xA0008, 0x0, 3, 1⟩

/-- BCN_STATUS: a BCN_SET or BCN_EPOCH commit was discarded -/
def BCN_STATUS_set_refused : Fld := ⟨0xA0008, 0x0, 4, 1⟩

/-- BCN_STATUS: this keeper sends frames with ctl = 1 -/
def BCN_STATUS_ctl : Fld := ⟨0xA0008, 0x0, 5, 1⟩

/-- BCN_STATUS: this keeper follows its peer, R250 -/
def BCN_STATUS_following : Fld := ⟨0xA0008, 0x0, 6, 1⟩

/-- BCN_NOW: current beacon value -/
def BCN_NOW_now : Fld := ⟨0xA0010, 0x0, 0, 64⟩

/-- BCN_EPOCH: TAI seconds at beacon zero; R243 -/
def BCN_EPOCH_sec : Fld := ⟨0xA0018, 0x0, 0, 48⟩

/-- BCN_TRIM: signed, units 2^−32; values beyond ±429,497 (±100 ppm) are stored as the limit -/
def BCN_TRIM_trim : Fld := ⟨0xA0020, 0x0, 0, 32⟩

/-- BCN_SLEW: signed ticks to gain or lose; reads return the remainder -/
def BCN_SLEW_slew : Fld := ⟨0xA0028, 0x0, 0, 32⟩

/-- BCN_SET: beacon value applied at PEG, R243; loaded with bits [2:0] cleared, R390 -/
def BCN_SET_set : Fld := ⟨0xA0030, 0x0, 0, 64⟩

/-- BCN_PAIR: signed, 1/16 tick: own beacon less peer's -/
def BCN_PAIR_skew : Fld := ⟨0xA0038, 0x0, 0, 32⟩

/-- BCN_PAIR: pair sync words received within the last 100 µs -/
def BCN_PAIR_ok : Fld := ⟨0xA0038, 0x0, 32, 1⟩

/-- BCN_CAL: calibration period, s; 0 off -/
def BCN_CAL_period_s : Fld := ⟨0xA0040, 0x0, 0, 16⟩

/-- BCN_CAL: bit nn: calibrate Snn at the next mark; reads 0 -/
def BCN_CAL_now : Fld := ⟨0xA0040, 0x0, 16, 16⟩

/-- BCN_SLOT: compensation d in ticks, R248 -/
def BCN_SLOT_dly : Fld := ⟨0xA0100, 0x8, 0, 10⟩

/-- BCN_SLOT: Buoy's Δ, signed, 1/16 tick -/
def BCN_SLOT_delta : Fld := ⟨0xA0100, 0x8, 10, 16⟩

/-- BCN_SLOT: a calibration has completed since run-phase entry -/
def BCN_SLOT_valid : Fld := ⟨0xA0100, 0x8, 26, 1⟩

/-- BCN_SLOT: the Buoy follows this keeper's frames -/
def BCN_SLOT_followed : Fld := ⟨0xA0100, 0x8, 27, 1⟩

/-- BCN_SLOT: last echo's a − M1 − 1,600, ticks -/
def BCN_SLOT_rtt : Fld := ⟨0xA0100, 0x8, 32, 16⟩

/-- BCN_SLOT: frame errors the Buoy reported; saturates -/
def BCN_SLOT_errors : Fld := ⟨0xA0100, 0x8, 48, 16⟩

/-- PTP_CORR: transmit correction of the current mode, ticks; 0 while the port is down -/
def PTP_CORR_tx : Fld := ⟨0xB0000, 0x0, 0, 16⟩

/-- PTP_CORR: receive correction of the current mode, ticks -/
def PTP_CORR_rx : Fld := ⟨0xB0000, 0x0, 16, 16⟩

/-- PTP_MOD_DLY: module transmit latency, ticks -/
def PTP_MOD_DLY_tx : Fld := ⟨0xB0008, 0x0, 0, 16⟩

/-- PTP_MOD_DLY: module receive latency, ticks -/
def PTP_MOD_DLY_rx : Fld := ⟨0xB0008, 0x0, 16, 16⟩

/-- PTP_TSQ_TIME: transmit stamp of the head entry; zero when empty -/
def PTP_TSQ_TIME_time : Fld := ⟨0xB0010, 0x0, 0, 64⟩

/-- PTP_TSQ_TAG: stamp identifier of the head entry; the read removes it -/
def PTP_TSQ_TAG_tag : Fld := ⟨0xB0018, 0x0, 0, 16⟩

/-- PTP_TSQ_TAG: 1: an entry was removed by this read -/
def PTP_TSQ_TAG_valid : Fld := ⟨0xB0018, 0x0, 16, 1⟩

/-- PTP_TSQ_STAT: entries held, 0–64 -/
def PTP_TSQ_STAT_depth : Fld := ⟨0xB0020, 0x0, 0, 7⟩

/-- PTP_TSQ_STAT: stamps dropped, R257; saturates -/
def PTP_TSQ_STAT_dropped : Fld := ⟨0xB0020, 0x0, 32, 32⟩

/-- PTP_PPS: drive 1PPS out -/
def PTP_PPS_out_en : Fld := ⟨0xB0028, 0x0, 0, 1⟩

/-- PTP_PPS: stamp 1PPS in -/
def PTP_PPS_in_en : Fld := ⟨0xB0028, 0x0, 1, 1⟩

/-- PTP_PPS: output high time, 1–500,000 µs; 0 is stored as 1 -/
def PTP_PPS_width_us : Fld := ⟨0xB0028, 0x0, 8, 20⟩

/-- PTP_PPS_IN: beacon value of the last 1PPS in rising edge -/
def PTP_PPS_IN_time : Fld := ⟨0xB0030, 0x0, 0, 64⟩

/-- PTP_DOM_CFG: domainNumber -/
def PTP_DOM_CFG_domain : Fld := ⟨0xB0100, 0x40, 0, 8⟩

/-- PTP_DOM_CFG: 0 IEEE 802.3; 1 UDP/IPv4; 2 UDP/IPv6; 3 reserved, stored as 1 -/
def PTP_DOM_CFG_transport : Fld := ⟨0xB0100, 0x40, 8, 2⟩

/-- PTP_DOM_CFG: run the engine -/
def PTP_DOM_CFG_en : Fld := ⟨0xB0100, 0x40, 10, 1⟩

/-- PTP_DOM_CFG: VLAN ID; 0 untagged -/
def PTP_DOM_CFG_vlan : Fld := ⟨0xB0100, 0x40, 12, 12⟩

/-- PTP_DOM_CFG: lock threshold, ns; 0 is stored as 1 -/
def PTP_DOM_CFG_lock_ns : Fld := ⟨0xB0100, 0x40, 24, 8⟩

/-- PTP_DOM_CFG: Sync loss time, ms; 0 is stored as 1 -/
def PTP_DOM_CFG_loss_ms : Fld := ⟨0xB0100, 0x40, 32, 16⟩

/-- PTP_DOM_STAT: 0 OFF; 1 ACQUIRING; 2 LOCKED; 3 LOST -/
def PTP_DOM_STAT_state : Fld := ⟨0xB0108, 0x40, 0, 2⟩

/-- PTP_DOM_STAT: the master sends Follow_Up -/
def PTP_DOM_STAT_two_step : Fld := ⟨0xB0108, 0x40, 2, 1⟩

/-- PTP_DOM_STAT: logSyncInterval of the master, signed -/
def PTP_DOM_STAT_sync_log : Fld := ⟨0xB0108, 0x40, 8, 8⟩

/-- PTP_DOM_STAT: completed exchanges, modulo 2^32 -/
def PTP_DOM_STAT_exchanges : Fld := ⟨0xB0108, 0x40, 16, 32⟩

/-- PTP_DOM_OFS: signed, 2^−16 ns: PTP time less keeper time, last exchange -/
def PTP_DOM_OFS_ofs : Fld := ⟨0xB0110, 0x40, 0, 64⟩

/-- PTP_DOM_DLY: mean path delay, 2^−16 ns, last exchange -/
def PTP_DOM_DLY_dly : Fld := ⟨0xB0118, 0x40, 0, 64⟩

/-- PTP_DOM_GM: clockIdentity of the selected grandmaster -/
def PTP_DOM_GM_gm : Fld := ⟨0xB0120, 0x40, 0, 64⟩

/-- MOR_PHASE: bits [2nn+1:2nn]: phase of Snn, codes of R75 -/
def MOR_PHASE_phase : Fld := ⟨0xC0000, 0x0, 0, 32⟩

/-- MOR_FAULT: bit 4nn + w: MOOR_Snn_Ww failed under R270 -/
def MOR_FAULT_fault : Fld := ⟨0xC0008, 0x0, 0, 64⟩

/-- MOR_PROXY: bit nn: this keeper drives Snn's W1 for its peer -/
def MOR_PROXY_out : Fld := ⟨0xC0010, 0x0, 0, 16⟩

/-- MOR_PROXY: bit nn: the peer drives Snn's W1 for this keeper -/
def MOR_PROXY_in : Fld := ⟨0xC0010, 0x0, 16, 16⟩

/-- MOR_STRAP: strap code of R264 -/
def MOR_STRAP_code : Fld := ⟨0xC0100, 0x8, 0, 5⟩

/-- MOR_STRAP: W0 read L -/
def MOR_STRAP_present : Fld := ⟨0xC0100, 0x8, 5, 1⟩

/-- MOR_STRAP: code 16 -/
def MOR_STRAP_blank : Fld := ⟨0xC0100, 0x8, 6, 1⟩

/-- MOR_STRAP: strap error -/
def MOR_STRAP_error : Fld := ⟨0xC0100, 0x8, 7, 1⟩

/-- MOR_STRAP: W3–W0 sampled at 404 µs -/
def MOR_STRAP_up : Fld := ⟨0xC0100, 0x8, 8, 4⟩

/-- MOR_STRAP: W3–W0 sampled at 804 µs -/
def MOR_STRAP_dn : Fld := ⟨0xC0100, 0x8, 12, 4⟩

/-- PWR_CTL: slot spacing, 1–65,535 ms; 0 is stored as 1 -/
def PWR_CTL_spacing_ms : Fld := ⟨0xD0000, 0x0, 0, 16⟩

/-- PWR_CTL: PWR_GOOD wait, 1–255 ms; 0 is stored as 1 -/
def PWR_CTL_pg_ms : Fld := ⟨0xD0000, 0x0, 16, 8⟩

/-- PWR_CTL: poll the stages -/
def PWR_CTL_pmb_en : Fld := ⟨0xD0000, 0x0, 24, 1⟩

/-- PWR_ORDER: [4p+3:4p] slot at position p; a value that is not a permutation runs ascending and sets or -/
def PWR_ORDER_order : Fld := ⟨0xD0008, 0x0, 0, 64⟩

/-- PWR_STATUS: bit nn: Snn powered and PWR_GOOD seen -/
def PWR_STATUS_on : Fld := ⟨0xD0010, 0x0, 0, 16⟩

/-- PWR_STATUS: bit nn: Snn awaits its sequence step -/
def PWR_STATUS_queued : Fld := ⟨0xD0010, 0x0, 16, 16⟩

/-- PWR_STATUS: PWR_ORDER was not a permutation -/
def PWR_STATUS_order_bad : Fld := ⟨0xD0010, 0x0, 32, 1⟩

/-- PWR_STATUS: the sequence is running -/
def PWR_STATUS_busy : Fld := ⟨0xD0010, 0x0, 33, 1⟩

/-- PWR_STAGE: PMBus address of Snn's stage; 0 none -/
def PWR_STAGE_addr : Fld := ⟨0xD0100, 0x8, 0, 7⟩

/-- PWR_STAGE: last STATUS_WORD -/
def PWR_STAGE_status : Fld := ⟨0xD0100, 0x8, 8, 16⟩

/-- PWR_STAGE: last READ_POUT, W, saturating -/
def PWR_STAGE_pout : Fld := ⟨0xD0100, 0x8, 24, 16⟩

/-- PWR_STAGE: last READ_TEMPERATURE_1, °C -/
def PWR_STAGE_temp : Fld := ⟨0xD0100, 0x8, 40, 8⟩

/-- PWR_STAGE: PMBus faults and alerts; saturates -/
def PWR_STAGE_faults : Fld := ⟨0xD0100, 0x8, 48, 16⟩

/-- BLK_CTL: train and run the link -/
def BLK_CTL_en : Fld := ⟨0x200000, 0x10000, 0, 1⟩

/-- BLK_CTL: retrain both lanes; reads 0 -/
def BLK_CTL_retrain : Fld := ⟨0x200000, 0x10000, 1, 1⟩

/-- BLK_CTL: lanes permitted -/
def BLK_CTL_lanes : Fld := ⟨0x200000, 0x10000, 2, 2⟩

/-- BLK_STATUS: 0 DOWN; 1 TRAINING; 2 IDENT; 3 UP; 4 QUARANTINED; 5 DISABLED; 6–7 reserved -/
def BLK_STATUS_state : Fld := ⟨0x200008, 0x10000, 0, 3⟩

/-- BLK_STATUS: lanes in lock -/
def BLK_STATUS_lanes_up : Fld := ⟨0x200008, 0x10000, 3, 2⟩

/-- BLK_STATUS: 0 none; 1 identity; 2 version; 3 QUAR LINK; 4 remap refused; 5–7 reserved -/
def BLK_STATUS_qreason : Fld := ⟨0x200008, 0x10000, 5, 3⟩

/-- BLK_STATUS: protocol minor in use -/
def BLK_STATUS_minor : Fld := ⟨0x200008, 0x10000, 8, 8⟩

/-- BLK_STATUS: protocol major announced -/
def BLK_STATUS_major : Fld := ⟨0x200008, 0x10000, 16, 8⟩

/-- BLK_STATUS: slot announced -/
def BLK_STATUS_slot : Fld := ⟨0x200008, 0x10000, 24, 4⟩

/-- BLK_STATUS: a window access failed, R281 -/
def BLK_STATUS_win_err : Fld := ⟨0x200008, 0x10000, 28, 1⟩

/-- BLK_SERIAL_LO: serial bytes 0–7 of the accepted identity -/
def BLK_SERIAL_LO_serial_lo : Fld := ⟨0x200010, 0x10000, 0, 64⟩

/-- BLK_SERIAL_HI: serial bytes 8–15 -/
def BLK_SERIAL_HI_serial_hi : Fld := ⟨0x200018, 0x10000, 0, 64⟩

/-- BLK_MAP: slot served by this port; OWNER KCP writes only, R280 -/
def BLK_MAP_slot : Fld := ⟨0x200020, 0x10000, 0, 4⟩

/-- BLK_MAP: slot differs from nn -/
def BLK_MAP_remapped : Fld := ⟨0x200020, 0x10000, 4, 1⟩

/-- BLK_ERR: codewords corrected; saturates -/
def BLK_ERR_corrected : Fld := ⟨0x200028, 0x10000, 0, 16⟩

/-- BLK_ERR: frames discarded; saturates -/
def BLK_ERR_uncorrectable : Fld := ⟨0x200028, 0x10000, 16, 16⟩

/-- BLK_ERR: replays; saturates -/
def BLK_ERR_replays : Fld := ⟨0x200028, 0x10000, 32, 16⟩

/-- BLK_ERR: lane failures; saturates -/
def BLK_ERR_lane_fail : Fld := ⟨0x200028, 0x10000, 48, 16⟩

/-- BLK_WIN_ADDR: window offset, 8-byte-aligned; bits [2:0] read as zero -/
def BLK_WIN_ADDR_offset : Fld := ⟨0x200030, 0x10000, 0, 12⟩

/-- BLK_WIN_DATA: a read returns the window register at offset; a write writes it, R281 -/
def BLK_WIN_DATA_data : Fld := ⟨0x200038, 0x10000, 0, 64⟩

/-- PAR_CTL: 1 lets the principal take control back under R293 -/
def PAR_CTL_takeback_en : Fld := ⟨0xE0000, 0x0, 0, 1⟩

/-- PAR_CTL: the keeper in control resynchronises its follower under R295; reads 0 -/
def PAR_CTL_resync : Fld := ⟨0xE0000, 0x0, 1, 1⟩

/-- PAR_CTL: the keeper in control hands over at its next quiet point, as in a takeback; ignored when n -/
def PAR_CTL_yield : Fld := ⟨0xE0000, 0x0, 2, 1⟩

/-- PAR_STATUS: 0 principal, 1 relief -/
def PAR_STATUS_strap : Fld := ⟨0xE0008, 0x0, 0, 1⟩

/-- PAR_STATUS: this keeper is in control -/
def PAR_STATUS_control : Fld := ⟨0xE0008, 0x0, 1, 1⟩

/-- PAR_STATUS: 0 START; 1 FOLLOW; 2 CONTROL; 3 EMERGENCY -/
def PAR_STATUS_state : Fld := ⟨0xE0008, 0x0, 2, 2⟩

/-- PAR_STATUS: PAIR_LIVE_IN toggles -/
def PAR_STATUS_peer_live : Fld := ⟨0xE0008, 0x0, 4, 1⟩

/-- PAR_STATUS: pair link trained -/
def PAR_STATUS_link_up : Fld := ⟨0xE0008, 0x0, 5, 1⟩

/-- PAR_STATUS: mirror in sync -/
def PAR_STATUS_in_sync : Fld := ⟨0xE0008, 0x0, 6, 1⟩

/-- PAR_STATUS: mirroring stopped under R288 -/
def PAR_STATUS_detached : Fld := ⟨0xE0008, 0x0, 7, 1⟩

/-- PAR_STATUS: running alone under R296 -/
def PAR_STATUS_solo : Fld := ⟨0xE0008, 0x0, 8, 1⟩

/-- PAR_STATUS: the last takeover was stale, R291 -/
def PAR_STATUS_stale : Fld := ⟨0xE0008, 0x0, 9, 1⟩

/-- PAR_STATUS: a quiet point holds this PCLK cycle -/
def PAR_STATUS_quiet : Fld := ⟨0xE0008, 0x0, 10, 1⟩

/-- PAR_STATUS: seconds of unbroken peer health, saturating at 65,535 -/
def PAR_STATUS_healthy_s : Fld := ⟨0xE0008, 0x0, 16, 16⟩

/-- PAR_STATUS: pair lanes in lock, 0–4 -/
def PAR_STATUS_lanes : Fld := ⟨0xE0008, 0x0, 32, 3⟩

/-- PAR_CFG: health-word silence of R288 and R289, 50–400 µs; other values are stored as the nearer lim -/
def PAR_CFG_silence_us : Fld := ⟨0xE0010, 0x0, 0, 16⟩

/-- PAR_CFG: acknowledgement lag of R288, 1–255 µs; 0 is stored as 1 -/
def PAR_CFG_lag_us : Fld := ⟨0xE0010, 0x0, 16, 8⟩

/-- PAR_CFG: wait of R294, 10–60,000 ms; other values are stored as the nearer limit -/
def PAR_CFG_alone_ms : Fld := ⟨0xE0010, 0x0, 24, 16⟩

/-- PAR_LAG: longest acknowledgement wait since the last read, ns; saturates -/
def PAR_LAG_max_ns : Fld := ⟨0xE0018, 0x0, 0, 32⟩

/-- PAR_LAG: MIRROR_LAG events; saturates -/
def PAR_LAG_lags : Fld := ⟨0xE0018, 0x0, 32, 32⟩

/-- PAR_CNT: takeovers by this keeper; saturates -/
def PAR_CNT_takeovers : Fld := ⟨0xE0020, 0x0, 0, 16⟩

/-- PAR_CNT: takebacks by this keeper; saturates -/
def PAR_CNT_takebacks : Fld := ⟨0xE0020, 0x0, 16, 16⟩

/-- PAR_CNT: detachments; saturates -/
def PAR_CNT_detaches : Fld := ⟨0xE0020, 0x0, 32, 16⟩

/-- PAR_CNT: resynchronisations; saturates -/
def PAR_CNT_resyncs : Fld := ⟨0xE0020, 0x0, 48, 16⟩

/-- PAR_LAST: beacon value of this keeper's last change of role -/
def PAR_LAST_beacon : Fld := ⟨0xE0028, 0x0, 0, 64⟩

/-- LOG_CTL: 0 pauses mirroring; records stay in the ring -/
def LOG_CTL_mirror_en : Fld := ⟨0xF0000, 0x0, 0, 1⟩

/-- LOG_STATUS: a seal is in force -/
def LOG_STATUS_sealed : Fld := ⟨0xF0008, 0x0, 0, 1⟩

/-- LOG_STATUS: a session holds custody -/
def LOG_STATUS_custody : Fld := ⟨0xF0008, 0x0, 1, 1⟩

/-- LOG_STATUS: session holding custody -/
def LOG_STATUS_holder : Fld := ⟨0xF0008, 0x0, 2, 3⟩

/-- LOG_STATUS: the condition of LOG_RING_HIGH holds -/
def LOG_STATUS_ring_high : Fld := ⟨0xF0008, 0x0, 5, 1⟩

/-- LOG_STATUS: a seal is being digested and signed -/
def LOG_STATUS_sealing : Fld := ⟨0xF0008, 0x0, 6, 1⟩

/-- LOG_NEXT: sequence number of the next record; kept through warm reset -/
def LOG_NEXT_next : Fld := ⟨0xF0010, 0x0, 0, 64⟩

/-- LOG_FLOOR: lowest sequence held, R309 and R310 -/
def LOG_FLOOR_floor : Fld := ⟨0xF0018, 0x0, 0, 64⟩

/-- LOG_MIRRORED: highest sequence mirrored -/
def LOG_MIRRORED_mirrored : Fld := ⟨0xF0020, 0x0, 0, 64⟩

/-- LOG_MIRROR_BASE: LPDDR5X base of the 2 GiB mirror, 2 GiB-aligned; bits [30:0] read as zero -/
def LOG_MIRROR_BASE_mbase : Fld := ⟨0xF0028, 0x0, 0, 48⟩

/-- LOG_SEAL_SEQ: last sealed sequence; 0 when no seal -/
def LOG_SEAL_SEQ_seal_seq : Fld := ⟨0xF0030, 0x0, 0, 64⟩

/-- LOG_SEAL_BASE: gallery address of the seal block, 64-byte-aligned; bits [5:0] read as zero -/
def LOG_SEAL_BASE_sbase : Fld := ⟨0xF0038, 0x0, 0, 48⟩

/-- LOG_HOURS: operating hours at LOG_HBASE -/
def LOG_HOURS_base : Fld := ⟨0xF0040, 0x0, 0, 32⟩

/-- LOG_HOURS: power-cycle count -/
def LOG_HOURS_pcc : Fld := ⟨0xF0040, 0x0, 32, 32⟩

/-- LOG_HBASE: beacon value at which base applies -/
def LOG_HBASE_hbase : Fld := ⟨0xF0048, 0x0, 0, 64⟩

/-- LOG_CNT: records removed under R310; saturates -/
def LOG_CNT_forced : Fld := ⟨0xF0050, 0x0, 0, 32⟩

/-- LOG_CNT: failed mirror writes; saturates -/
def LOG_CNT_mirror_err : Fld := ⟨0xF0050, 0x0, 32, 16⟩

/-- LOG_CNT: stores that left an enabled LOG_SNAP entry newly ignored, R303; saturates -/
def LOG_CNT_snap_ign : Fld := ⟨0xF0050, 0x0, 48, 16⟩

/-- LOG_CUR: cursor of the reader making the access, R311 and R312 -/
def LOG_CUR_cursor : Fld := ⟨0xF0058, 0x0, 0, 64⟩

/-- LOG_RSTAT: the reader's cursor lay below the floor at a latch -/
def LOG_RSTAT_passed : Fld := ⟨0xF0060, 0x0, 0, 1⟩

/-- LOG_WIN: word ii of the latched record; LOG_WIN_00 latches -/
def LOG_WIN_word : Fld := ⟨0xF0080, 0x8, 0, 64⟩

/-- LOG_FWIN: word ii of the forerunner view; LOG_FWIN_00 latches -/
def LOG_FWIN_word : Fld := ⟨0xF0100, 0x8, 0, 64⟩

/-- LOG_SNAP: event whose records take this word -/
def LOG_SNAP_event : Fld := ⟨0xF0200, 0x8, 0, 10⟩

/-- LOG_SNAP: word position, 2–11; 0, 1 and 12–15 make the entry ignored -/
def LOG_SNAP_pos : Fld := ⟨0xF0200, 0x8, 10, 4⟩

/-- LOG_SNAP: entry enabled -/
def LOG_SNAP_en : Fld := ⟨0xF0200, 0x8, 14, 1⟩

/-- LOG_SNAP: the entry is ignored under R303 -/
def LOG_SNAP_ignored : Fld := ⟨0xF0200, 0x8, 15, 1⟩

/-- LOG_SNAP: register offset within register space, 8-byte-aligned -/
def LOG_SNAP_reg : Fld := ⟨0xF0200, 0x8, 16, 22⟩

/-- KCP_CTL: serve KCP -/
def KCP_CTL_en : Fld := ⟨0x100000, 0x0, 0, 1⟩

/-- KCP_CTL: standalone ACK delay, 1–255 µs; 0 is stored as 1 -/
def KCP_CTL_ack_us : Fld := ⟨0x100000, 0x0, 8, 8⟩

/-- KCP_CTL: initial retransmission time, 1–255 ms; 0 is stored as 1 -/
def KCP_CTL_rto_ms : Fld := ⟨0x100000, 0x0, 16, 8⟩

/-- KCP_CTL: session idle limit, 2–255 s; below 2 is stored as 2 -/
def KCP_CTL_idle_s : Fld := ⟨0x100000, 0x0, 24, 8⟩

/-- KCP_CTL: event batching, 0–255 µs -/
def KCP_CTL_batch_us : Fld := ⟨0x100000, 0x0, 32, 8⟩

/-- KCP_CTL: stamp one replication frame in stamp_n; 0 none -/
def KCP_CTL_stamp_n : Fld := ⟨0x100000, 0x0, 40, 8⟩

/-- KCP_STATUS: bit s: session s open -/
def KCP_STATUS_open : Fld := ⟨0x100008, 0x0, 0, 8⟩

/-- KCP_STATUS: R331 -/
def KCP_STATUS_incarnation : Fld := ⟨0x100008, 0x0, 8, 8⟩

/-- KCP_STATUS: this keeper answers the service address -/
def KCP_STATUS_svc : Fld := ⟨0x100008, 0x0, 16, 1⟩

/-- KCP_STATUS: the responder of R337 runs -/
def KCP_STATUS_responder : Fld := ⟨0x100008, 0x0, 17, 1⟩

/-- KCP_PORT: UDP port -/
def KCP_PORT_udp : Fld := ⟨0x100010, 0x0, 0, 16⟩

/-- KCP_PORT: accept KCP over UDP -/
def KCP_PORT_udp_en : Fld := ⟨0x100010, 0x0, 16, 1⟩

/-- KCP_PORT: accept KCP on Ethertype 0x88B5 -/
def KCP_PORT_eth_en : Fld := ⟨0x100010, 0x0, 17, 1⟩

/-- KCP_PORT: IPv4 enabled -/
def KCP_PORT_ip4_en : Fld := ⟨0x100010, 0x0, 18, 1⟩

/-- KCP_PORT: IPv6 enabled -/
def KCP_PORT_ip6_en : Fld := ⟨0x100010, 0x0, 19, 1⟩

/-- KCP_PORT: IPv4 prefix length, 0–32; above 32 is stored as 32 -/
def KCP_PORT_pfx4 : Fld := ⟨0x100010, 0x0, 20, 6⟩

/-- KCP_PORT: IPv6 prefix length, 0–128; above 128 is stored as 128 -/
def KCP_PORT_pfx6 : Fld := ⟨0x100010, 0x0, 26, 8⟩

/-- KCP_IP4: KCP_IP4, station IPv4 address -/
def KCP_IP4_sta4 : Fld := ⟨0x100018, 0x0, 0, 32⟩

/-- KCP_IP4: KCP_IP4, service IPv4 address -/
def KCP_IP4_svc4 : Fld := ⟨0x100018, 0x0, 32, 32⟩

/-- KCP_GW4: KCP_GW4, IPv4 gateway; 0 none -/
def KCP_GW4_gw4 : Fld := ⟨0x100020, 0x0, 0, 32⟩

/-- KCP_IP6_STA_LO: KCP_IP6_* and KCP_GW6_*, bits [63:0] (LO) or [127:64] (HI) of the address; a zero gateway  -/
def KCP_IP6_STA_LO_addr : Fld := ⟨0x100028, 0x0, 0, 64⟩

/-- KCP_IP6_STA_HI: KCP_IP6_* and KCP_GW6_*, bits [63:0] (LO) or [127:64] (HI) of the address; a zero gateway  -/
def KCP_IP6_STA_HI_addr : Fld := ⟨0x100030, 0x0, 0, 64⟩

/-- KCP_IP6_SVC_LO: KCP_IP6_* and KCP_GW6_*, bits [63:0] (LO) or [127:64] (HI) of the address; a zero gateway  -/
def KCP_IP6_SVC_LO_addr : Fld := ⟨0x100038, 0x0, 0, 64⟩

/-- KCP_IP6_SVC_HI: KCP_IP6_* and KCP_GW6_*, bits [63:0] (LO) or [127:64] (HI) of the address; a zero gateway  -/
def KCP_IP6_SVC_HI_addr : Fld := ⟨0x100040, 0x0, 0, 64⟩

/-- KCP_GW6_LO: KCP_IP6_* and KCP_GW6_*, bits [63:0] (LO) or [127:64] (HI) of the address; a zero gateway  -/
def KCP_GW6_LO_addr : Fld := ⟨0x100048, 0x0, 0, 64⟩

/-- KCP_GW6_HI: KCP_IP6_* and KCP_GW6_*, bits [63:0] (LO) or [127:64] (HI) of the address; a zero gateway  -/
def KCP_GW6_HI_addr : Fld := ⟨0x100050, 0x0, 0, 64⟩

/-- KCP_NRING: gallery address of the notice ring, 64 entries of 256 bytes, 16 KiB-aligned; bits [13:0] r -/
def KCP_NRING_base : Fld := ⟨0x100058, 0x0, 0, 48⟩

/-- KCP_NRING: next entry the consumer reads -/
def KCP_NRING_head : Fld := ⟨0x100058, 0x0, 48, 6⟩

/-- KCP_NRING: next entry written; full when tail + 1 equals head, modulo 64 -/
def KCP_NRING_tail : Fld := ⟨0x100058, 0x0, 54, 6⟩

/-- KCP_CNT: frames failing their tag; saturates -/
def KCP_CNT_badtag : Fld := ⟨0x100060, 0x0, 0, 16⟩

/-- KCP_CNT: OPENs refused; saturates -/
def KCP_CNT_refused : Fld := ⟨0x100060, 0x0, 16, 16⟩

/-- KCP_CNT: duplicate frames; saturates -/
def KCP_CNT_dup : Fld := ⟨0x100060, 0x0, 32, 16⟩

/-- KCP_CNT: frames dropped under R321, R324 and R336, and ring-full notice bodies; saturates -/
def KCP_CNT_dropped : Fld := ⟨0x100060, 0x0, 48, 16⟩

/-- KCP_SESS: session open -/
def KCP_SESS_open : Fld := ⟨0x100100, 0x8, 0, 1⟩

/-- KCP_SESS: privilege, codes of R326 -/
def KCP_SESS_priv : Fld := ⟨0x100100, 0x8, 1, 2⟩

/-- KCP_SESS: enrolled key index -/
def KCP_SESS_key : Fld := ⟨0x100100, 0x8, 3, 5⟩

/-- KCP_SESS: keeper frames unacknowledged, 0–64 -/
def KCP_SESS_unacked : Fld := ⟨0x100100, 0x8, 8, 7⟩

/-- KCP_SESS: slot mask -/
def KCP_SESS_slots : Fld := ⟨0x100100, 0x8, 16, 16⟩

/-- KCP_SESS: commands not yet completed, 0–64 -/
def KCP_SESS_cmds : Fld := ⟨0x100100, 0x8, 32, 7⟩

/-- KCP_SESS: attached by DEBUG -/
def KCP_SESS_debug : Fld := ⟨0x100100, 0x8, 39, 1⟩

/-- KCP_SESS: telemetry subscribed -/
def KCP_SESS_telem : Fld := ⟨0x100100, 0x8, 40, 1⟩

/-- MAC_CTL: run the port -/
def MAC_CTL_en : Fld := ⟨0x110000, 0x0, 0, 1⟩

/-- MAC_CTL: widest mode, codes of R317; 0 is stored as 1 -/
def MAC_CTL_max_mode : Fld := ⟨0x110000, 0x0, 1, 2⟩

/-- MAC_CTL: retrain at max_mode; reads 0 -/
def MAC_CTL_upgrade : Fld := ⟨0x110000, 0x0, 3, 1⟩

/-- MAC_CTL: R319; other values are stored as the nearer limit -/
def MAC_CTL_mtu : Fld := ⟨0x110000, 0x0, 4, 14⟩

/-- MAC_CTL: manage the module over I²C -/
def MAC_CTL_cmis_en : Fld := ⟨0x110000, 0x0, 18, 1⟩

/-- MAC_STATUS: current mode, R317 -/
def MAC_STATUS_mode : Fld := ⟨0x110008, 0x0, 0, 2⟩

/-- MAC_STATUS: bit i: lane i in lock -/
def MAC_STATUS_lanes : Fld := ⟨0x110008, 0x0, 2, 8⟩

/-- MAC_STATUS: mode narrower than max_mode -/
def MAC_STATUS_degraded : Fld := ⟨0x110008, 0x0, 10, 1⟩

/-- MAC_STATUS: module present -/
def MAC_STATUS_module : Fld := ⟨0x110008, 0x0, 11, 1⟩

/-- MAC_STATUS: module IntL asserted -/
def MAC_STATUS_intl : Fld := ⟨0x110008, 0x0, 12, 1⟩

/-- MAC_STA: station or service MAC address; the group bit is stored as 0 -/
def MAC_STA_addr : Fld := ⟨0x110010, 0x0, 0, 48⟩

/-- MAC_SVC: station or service MAC address; the group bit is stored as 0 -/
def MAC_SVC_addr : Fld := ⟨0x110018, 0x0, 0, 48⟩

/-- MAC_VLAN: VLAN ID; 0 untagged -/
def MAC_VLAN_vid : Fld := ⟨0x110020, 0x0, 0, 12⟩

/-- MAC_VLAN: transmit priority -/
def MAC_VLAN_pcp : Fld := ⟨0x110020, 0x0, 12, 3⟩

/-- MAC_VLAN: accept untagged frames while vid is non-zero -/
def MAC_VLAN_untagged_ok : Fld := ⟨0x110020, 0x0, 15, 1⟩

/-- MACSEC_CTL: 0 off; 1 integrity only; 2 integrity and confidentiality; 3 is stored as 2 -/
def MACSEC_CTL_mode : Fld := ⟨0x110028, 0x0, 0, 2⟩

/-- MACSEC_CTL: transmit association number -/
def MACSEC_CTL_tx_an : Fld := ⟨0x110028, 0x0, 2, 2⟩

/-- MACSEC_CTL: replay window in frames; 0 strict order -/
def MACSEC_CTL_window : Fld := ⟨0x110028, 0x0, 4, 32⟩

/-- MAC_CNT: frames with a bad FCS; saturates -/
def MAC_CNT_rx_crc : Fld := ⟨0x110030, 0x0, 0, 16⟩

/-- MAC_CNT: frames above the MTU; saturates -/
def MAC_CNT_oversize : Fld := ⟨0x110030, 0x0, 16, 16⟩

/-- MAC_CNT: uncorrectable FEC codewords; saturates -/
def MAC_CNT_fec_uncorr : Fld := ⟨0x110030, 0x0, 32, 16⟩

/-- MAC_CNT: lane losses, R318; saturates -/
def MAC_CNT_lane_loss : Fld := ⟨0x110030, 0x0, 48, 16⟩

/-- MACSEC_CNT: MACsec ICV failures; saturates -/
def MACSEC_CNT_icv_fail : Fld := ⟨0x110038, 0x0, 0, 32⟩

/-- MACSEC_CNT: MACsec replay failures; saturates -/
def MACSEC_CNT_replay : Fld := ⟨0x110038, 0x0, 32, 32⟩

/-- MEM_CTL: patrol scrub, R343 -/
def MEM_CTL_scrub_en : Fld := ⟨0x130000, 0x0, 0, 1⟩

/-- MEM_CTL: hours per scrub pass, 1–255; 0 is stored as 1 -/
def MEM_CTL_scrub_h : Fld := ⟨0x130000, 0x0, 8, 8⟩

/-- MEM_CTL: correctable errors per channel per hour before MEM_CE_HIGH -/
def MEM_CTL_ce_thresh : Fld := ⟨0x130000, 0x0, 16, 16⟩

/-- MEM_CTL: uncorrectable errors in 1 s that remove a channel, 1–255; 0 is stored as 1 -/
def MEM_CTL_ue_limit : Fld := ⟨0x130000, 0x0, 32, 8⟩

/-- MEM_STATUS: channel out of service -/
def MEM_STATUS_lost : Fld := ⟨0x130008, 0x0, 0, 6⟩

/-- MEM_STATUS: a channel is out of service -/
def MEM_STATUS_lost_valid : Fld := ⟨0x130008, 0x0, 6, 1⟩

/-- MEM_STATUS: redirection is being set up, R347 -/
def MEM_STATUS_redirecting : Fld := ⟨0x130008, 0x0, 7, 1⟩

/-- MEM_STATUS: a second channel is lost, R349 -/
def MEM_STATUS_unabsorbed : Fld := ⟨0x130008, 0x0, 8, 1⟩

/-- MEM_STATUS: channels in service, 0–64 -/
def MEM_STATUS_trained : Fld := ⟨0x130008, 0x0, 16, 7⟩

/-- MEM_CH_UP: bit c: CHc in service -/
def MEM_CH_UP_up : Fld := ⟨0x130010, 0x0, 0, 64⟩

/-- MEM_SHARE: level 0 floor in sixty-fourths, R350 -/
def MEM_SHARE_floor0 : Fld := ⟨0x130018, 0x0, 0, 6⟩

/-- MEM_SHARE: level 1 floor -/
def MEM_SHARE_floor1 : Fld := ⟨0x130018, 0x0, 8, 6⟩

/-- MEM_SHARE: level 2 floor -/
def MEM_SHARE_floor2 : Fld := ⟨0x130018, 0x0, 16, 6⟩

/-- MEM_SHARE: level 3 floor; a write whose four floors sum above 48 is ignored -/
def MEM_SHARE_floor3 : Fld := ⟨0x130018, 0x0, 24, 6⟩

/-- MEM_ERR_ADDR: keeper address of the last memory error -/
def MEM_ERR_ADDR_addr : Fld := ⟨0x130020, 0x0, 0, 48⟩

/-- MEM_ERR_INFO: 0 none; 1 correctable; 2 uncorrectable; 3 posted store failed; 4 lost channel; 5 pool or p -/
def MEM_ERR_INFO_kind : Fld := ⟨0x130028, 0x0, 0, 3⟩

/-- MEM_ERR_INFO: tender, DMA channel or block offset -/
def MEM_ERR_INFO_requester : Fld := ⟨0x130028, 0x0, 3, 5⟩

/-- MEM_ERR_INFO: 0 tender; 1 DMA channel; 2 block; 3 scrub -/
def MEM_ERR_INFO_rkind : Fld := ⟨0x130028, 0x0, 8, 2⟩

/-- MEM_ERR_INFO: LPDDR channel; zero for SRAM -/
def MEM_ERR_INFO_channel : Fld := ⟨0x130028, 0x0, 10, 6⟩

/-- MEM_ERR_INFO: memory errors recorded since the last read; saturates -/
def MEM_ERR_INFO_errors : Fld := ⟨0x130028, 0x0, 32, 32⟩

/-- MEM_SRAM_CNT: gallery correctable errors; saturates -/
def MEM_SRAM_CNT_gal_ce : Fld := ⟨0x130030, 0x0, 0, 16⟩

/-- MEM_SRAM_CNT: gallery uncorrectable errors; saturates -/
def MEM_SRAM_CNT_gal_ue : Fld := ⟨0x130030, 0x0, 16, 16⟩

/-- MEM_SRAM_CNT: retained correctable errors; saturates -/
def MEM_SRAM_CNT_ret_ce : Fld := ⟨0x130030, 0x0, 32, 16⟩

/-- MEM_SRAM_CNT: retained uncorrectable errors; saturates -/
def MEM_SRAM_CNT_ret_ue : Fld := ⟨0x130030, 0x0, 48, 16⟩

/-- MEM_OWNER: base of the 512 MiB owner program region, 512 MiB-aligned; bits [28:0] read as zero -/
def MEM_OWNER_owner : Fld := ⟨0x130038, 0x0, 0, 48⟩

/-- MEM_LOAD: base of the 448 MiB load area, 64 MiB-aligned; bits [25:0] read as zero -/
def MEM_LOAD_load : Fld := ⟨0x130040, 0x0, 0, 48⟩

/-- MEM_CH_CNT: correctable errors on CHcc; saturates -/
def MEM_CH_CNT_ce : Fld := ⟨0x130100, 0x8, 0, 32⟩

/-- MEM_CH_CNT: uncorrectable errors on CHcc; saturates -/
def MEM_CH_CNT_ue : Fld := ⟨0x130100, 0x8, 32, 16⟩

/-- MEM_CH_CNT: relocks under R341; saturates -/
def MEM_CH_CNT_retrain : Fld := ⟨0x130100, 0x8, 48, 8⟩

/-- DMA_CTL: 0 SERVICE; 1 STARTUP; 2 TEST; 3 RECOVERY; R356 -/
def DMA_CTL_mode : Fld := ⟨0x120000, 0x0, 0, 2⟩

/-- DMA_STATUS: bit cc: the channel has a transfer running -/
def DMA_STATUS_busy : Fld := ⟨0x120008, 0x0, 0, 32⟩

/-- DMA_STATUS: bit cc: the channel has work and was granted no beat in the last FCLK cycle -/
def DMA_STATUS_paused : Fld := ⟨0x120008, 0x0, 32, 32⟩

/-- DMA_CH_CTL: ORDER, except under R358: priority level; the Standing Orders set the levels of R13 -/
def DMA_CH_CTL_prio : Fld := ⟨0x120100, 0x20, 0, 2⟩

/-- DMA_CH_CTL: 0 holds the channel between beats; queued transfers wait -/
def DMA_CH_CTL_en : Fld := ⟨0x120100, 0x20, 2, 1⟩

/-- DMA_CH_CTL: the channel is granted to a bound owner program -/
def DMA_CH_CTL_host : Fld := ⟨0x120100, 0x20, 8, 1⟩

/-- DMA_CH_STAT: descriptors queued, 0–16 -/
def DMA_CH_STAT_queued : Fld := ⟨0x120108, 0x20, 0, 5⟩

/-- DMA_CH_STAT: a transfer is running -/
def DMA_CH_STAT_running : Fld := ⟨0x120108, 0x20, 5, 1⟩

/-- DMA_CH_STAT: the head descriptor awaits its pace -/
def DMA_CH_STAT_paced_wait : Fld := ⟨0x120108, 0x20, 6, 1⟩

/-- DMA_CH_STAT: the holding register is not empty -/
def DMA_CH_STAT_holding : Fld := ⟨0x120108, 0x20, 7, 1⟩

/-- DMA_CH_STAT: status of the last transfer completed, R355 -/
def DMA_CH_STAT_status : Fld := ⟨0x120108, 0x20, 8, 8⟩

/-- DMA_CH_STAT: sequence number of the last transfer completed -/
def DMA_CH_STAT_done_seq : Fld := ⟨0x120108, 0x20, 16, 48⟩

/-- DMA_CH_CNT: destination bytes written; saturates -/
def DMA_CH_CNT_bytes : Fld := ⟨0x120110, 0x20, 0, 48⟩

/-- DMA_CH_CNT: pauses under R354; saturates -/
def DMA_CH_CNT_pauses : Fld := ⟨0x120110, 0x20, 48, 16⟩

/-- DMA_CH_NEXT: sequence number the next DMOV START or PACED receives -/
def DMA_CH_NEXT_next : Fld := ⟨0x120118, 0x20, 0, 48⟩

/-- GLB_ID: Ilupanex maker code, as BW_ID and INFO carry it -/
def GLB_ID_maker : Fld := ⟨0x0, 0x0, 0, 16⟩

/-- GLB_ID: part number -/
def GLB_ID_part : Fld := ⟨0x0, 0x0, 16, 16⟩

/-- GLB_ID: silicon stepping, R1 -/
def GLB_ID_stepping : Fld := ⟨0x0, 0x0, 32, 8⟩

/-- GLB_ID: Buoy link protocol major -/
def GLB_ID_buoy_major : Fld := ⟨0x0, 0x0, 40, 8⟩

/-- GLB_ID: Buoy link protocol minor -/
def GLB_ID_buoy_minor : Fld := ⟨0x0, 0x0, 48, 8⟩

/-- GLB_SERIAL_LO: serial bytes 0–7 -/
def GLB_SERIAL_LO_serial_lo : Fld := ⟨0x8, 0x0, 0, 64⟩

/-- GLB_SERIAL_HI: serial bytes 8–15 -/
def GLB_SERIAL_HI_serial_hi : Fld := ⟨0x10, 0x0, 0, 64⟩

/-- GLB_TRAY: tray number; loaded by the Standing Orders from the owner configuration; 0xFFF is stored a -/
def GLB_TRAY_tray : Fld := ⟨0x18, 0x0, 0, 12⟩

/-- GLB_TRAY: tray number set -/
def GLB_TRAY_valid : Fld := ⟨0x18, 0x0, 12, 1⟩

/-- GLB_STATUS: Standing Orders image in force: 0 A, 1 B -/
def GLB_STATUS_image : Fld := ⟨0x20, 0x0, 0, 1⟩

/-- GLB_STATUS: emergency-light mode -/
def GLB_STATUS_emergency : Fld := ⟨0x20, 0x0, 1, 1⟩

/-- GLB_STATUS: 0 principal, 1 relief -/
def GLB_STATUS_strap : Fld := ⟨0x20, 0x0, 2, 1⟩

/-- GLB_STATUS: device identity reconstructed -/
def GLB_STATUS_puf_ok : Fld := ⟨0x20, 0x0, 3, 1⟩

/-- GLB_STATUS: a valid owner record is in force -/
def GLB_STATUS_owned : Fld := ⟨0x20, 0x0, 4, 1⟩

/-- GLB_RESET: 0x5753 orders a keeper warm reset, R205; other values are ignored -/
def GLB_RESET_warm : Fld := ⟨0x28, 0x0, 0, 16⟩

/-- GLB_BLKRST: block offset to reset -/
def GLB_BLKRST_block : Fld := ⟨0x30, 0x0, 0, 6⟩

/-- GLB_BLKRST: 0x4252 resets the block named in [5:0]; other values are ignored -/
def GLB_BLKRST_key : Fld := ⟨0x30, 0x0, 16, 16⟩

/-- GLB_CAUSE: last reset: 0 power-on; 1 reset pin; 2 GLB_RESET; 3 reserved -/
def GLB_CAUSE_cause : Fld := ⟨0x38, 0x0, 0, 2⟩

/-- GLB_CAUSE: warm resets since power-on; saturates -/
def GLB_CAUSE_warm_count : Fld := ⟨0x38, 0x0, 8, 8⟩

/-- GLB_LMEM_CNT: tender local memory correctable errors, all tenders; saturates -/
def GLB_LMEM_CNT_ce : Fld := ⟨0x40, 0x0, 0, 32⟩

/-- GLB_LMEM_CNT: tender local memory uncorrectable errors; saturates -/
def GLB_LMEM_CNT_ue : Fld := ⟨0x40, 0x0, 32, 32⟩

/-- GLB_SCRATCH: free for the Standing Orders; cleared at warm reset -/
def GLB_SCRATCH_scratch : Fld := ⟨0x48, 0x0, 0, 64⟩

/-- SEC_STATUS: R365 -/
def SEC_STATUS_puf_ok : Fld := ⟨0x10000, 0x0, 0, 1⟩

/-- SEC_STATUS: an owner record is in force -/
def SEC_STATUS_owned : Fld := ⟨0x10000, 0x0, 1, 1⟩

/-- SEC_STATUS: an accepted record awaits reset, R366 -/
def SEC_STATUS_owner_pending : Fld := ⟨0x10000, 0x0, 2, 1⟩

/-- SEC_STATUS: vendor key 1 revoked -/
def SEC_STATUS_vkey1_revoked : Fld := ⟨0x10000, 0x0, 3, 1⟩

/-- SEC_STATUS: R368 -/
def SEC_STATUS_floor_conflict : Fld := ⟨0x10000, 0x0, 4, 1⟩

/-- SEC_STATUS: SFDP read and a valid floor record found -/
def SEC_STATUS_flash_ok : Fld := ⟨0x10000, 0x0, 5, 1⟩

/-- SEC_ID: device identity digest bytes 8i to 8i + 7, byte 8i in [7:0] -/
def SEC_ID_id : Fld := ⟨0x10010, 0x8, 0, 64⟩

/-- SEC_OWNER: owner record digest, same byte order -/
def SEC_OWNER_owner : Fld := ⟨0x10040, 0x8, 0, 64⟩

/-- SEC_FLOOR_CNT: count of the floor record in force -/
def SEC_FLOOR_CNT_count : Fld := ⟨0x10070, 0x0, 0, 32⟩

/-- SEC_FLOOR_SEL: floor entry shown in SEC_FLOOR -/
def SEC_FLOOR_SEL_entry : Fld := ⟨0x10078, 0x0, 0, 5⟩

/-- SEC_FLOOR: floor of the selected entry -/
def SEC_FLOOR_epoch : Fld := ⟨0x10080, 0x0, 0, 32⟩

/-- SEC_FLOOR: the entry is in use -/
def SEC_FLOOR_valid : Fld := ⟨0x10080, 0x0, 32, 1⟩

/-- SEC_FLOOR_RAISE: raises the selected entry under R367 -/
def SEC_FLOOR_RAISE_raise : Fld := ⟨0x10088, 0x0, 0, 1⟩

/-- SEC_FLOOR_RAISE: frees the selected entry if its program is unbound; entry 0 is never freed -/
def SEC_FLOOR_RAISE_clear : Fld := ⟨0x10088, 0x0, 1, 1⟩

/-- SEC_KEY_SEL: owner record index, or floor entry for kind 2 -/
def SEC_KEY_SEL_index : Fld := ⟨0x10090, 0x0, 0, 6⟩

/-- SEC_KEY_SEL: 0 owner key; 1 reserved; 2 floor entry program_id; 3 reserved -/
def SEC_KEY_SEL_kind : Fld := ⟨0x10090, 0x0, 6, 2⟩

/-- SEC_KEY_INFO: kind 0: [0] valid, [2:1] privilege, [31:16] slot mask, [63:32] the first 4 bytes of the ke -/
def SEC_KEY_INFO_info : Fld := ⟨0x10098, 0x0, 0, 64⟩

/-- SEC_RNG: 64 fresh bits from the SP 800-90A DRBG at each read; two reads never return the same draw -/
def SEC_RNG_random : Fld := ⟨0x100A0, 0x0, 0, 64⟩

/-- SEC_CNT: signatures and MACs that failed; saturates -/
def SEC_CNT_verify_fail : Fld := ⟨0x100A8, 0x0, 0, 16⟩

/-- SEC_CNT: refused loads and floor writes; saturates -/
def SEC_CNT_refused : Fld := ⟨0x100A8, 0x0, 16, 16⟩

/-- TND_RESET: bit n resets tender n under R57; a tender that resets itself does so after its store compl -/
def TND_RESET_reset : Fld := ⟨0x20000, 0x0, 0, 24⟩

/-- TND_STATUS: bit n: tender n halted, R55 -/
def TND_STATUS_halted : Fld := ⟨0x20008, 0x0, 0, 24⟩

/-- TND_STATUS: bit n − 24: tender n neither halted nor in reset -/
def TND_STATUS_running : Fld := ⟨0x20008, 0x0, 24, 24⟩

/-- TND_TENDER_ENTRY: entry address in local memory; bits [1:0] read as zero -/
def TND_TENDER_ENTRY_entry : Fld := ⟨0x20100, 0x20, 0, 18⟩

/-- TND_TENDER_STAT: 0 running; 1 asleep in WAIT; 2 halted; 3 in reset -/
def TND_TENDER_STAT_state : Fld := ⟨0x20108, 0x20, 0, 2⟩

/-- TND_TENDER_STAT: TS_STATUS.prv -/
def TND_TENDER_STAT_prv : Fld := ⟨0x20108, 0x20, 2, 1⟩

/-- TND_TENDER_STAT: TS_STATUS.intrap -/
def TND_TENDER_STAT_intrap : Fld := ⟨0x20108, 0x20, 3, 1⟩

/-- TND_TENDER_STAT: halting cause, codes of R53 and R62 -/
def TND_TENDER_STAT_cause : Fld := ⟨0x20108, 0x20, 4, 8⟩

/-- TND_TENDER_STAT: index of the bound owner program, 0–15; 0xFF none -/
def TND_TENDER_STAT_program : Fld := ⟨0x20108, 0x20, 16, 8⟩

/-- TND_TENDER_STAT: event queue entries, 0–512 -/
def TND_TENDER_STAT_depth : Fld := ⟨0x20108, 0x20, 24, 10⟩

/-- TND_TENDER_HPC: pc at the halt -/
def TND_TENDER_HPC_pc : Fld := ⟨0x20110, 0x20, 0, 48⟩

/-- TND_TENDER_HVAL: TS_TVAL at the halt -/
def TND_TENDER_HVAL_val : Fld := ⟨0x20118, 0x20, 0, 64⟩

/-- EVT_OPMASK: bit c: class c of R100 may be armed by OPERATOR sessions -/
def EVT_OPMASK_classes : Fld := ⟨0x30000, 0x0, 0, 6⟩

/-- EVT_GRANT: request handle -/
def EVT_GRANT_handle : Fld := ⟨0x30008, 0x0, 0, 24⟩

/-- EVT_GRANT: arming entry -/
def EVT_GRANT_entry : Fld := ⟨0x30008, 0x0, 24, 4⟩

/-- EVT_GRANT: class of R100; a store with 6 or 7 is ignored and counted in grant_rej, R370 -/
def EVT_GRANT_class : Fld := ⟨0x30008, 0x0, 28, 3⟩

/-- EVT_GRANT: must be zero; a store with 1 is ignored and counted in grant_rej -/
def EVT_GRANT_mbz : Fld := ⟨0x30008, 0x0, 31, 1⟩

/-- EVT_GRANT: slot mask; used by GRANT only -/
def EVT_GRANT_slots : Fld := ⟨0x30008, 0x0, 32, 16⟩

/-- EVT_GRANT: granting session; used by GRANT only -/
def EVT_GRANT_session : Fld := ⟨0x30008, 0x0, 48, 3⟩

/-- EVT_GRANT: 0 GRANT; 1 RENEW; 2 REMOVE; a store with 3 is ignored and counted in grant_rej -/
def EVT_GRANT_op : Fld := ⟨0x30008, 0x0, 51, 2⟩

/-- EVT_GRANT_EXP: expiry beacon time for the next grant -/
def EVT_GRANT_EXP_exp : Fld := ⟨0x30010, 0x0, 0, 64⟩

/-- EVT_STG_Q: register address queried -/
def EVT_STG_Q_addr : Fld := ⟨0x30018, 0x0, 0, 48⟩

/-- EVT_STG_Q: set in which a field of addr is pending -/
def EVT_STG_Q_set : Fld := ⟨0x30018, 0x0, 48, 6⟩

/-- EVT_STG_Q: some ST field of addr is pending -/
def EVT_STG_Q_pending : Fld := ⟨0x30018, 0x0, 54, 1⟩

/-- EVT_CNT: staged entries discarded under R74; saturates -/
def EVT_CNT_discards : Fld := ⟨0x30020, 0x0, 0, 32⟩

/-- EVT_CNT: EVT_GRANT stores ignored, R370; saturates -/
def EVT_CNT_grant_rej : Fld := ⟨0x30020, 0x0, 32, 16⟩

/-- EVT_ARM: class -/
def EVT_ARM_class : Fld := ⟨0x30100, 0x10, 0, 3⟩

/-- EVT_ARM: entry valid and not expired -/
def EVT_ARM_valid : Fld := ⟨0x30100, 0x10, 3, 1⟩

/-- EVT_ARM: granting session -/
def EVT_ARM_session : Fld := ⟨0x30100, 0x10, 4, 3⟩

/-- EVT_ARM: slot mask -/
def EVT_ARM_slots : Fld := ⟨0x30100, 0x10, 16, 16⟩

/-- EVT_ARM: token of R102 -/
def EVT_ARM_token : Fld := ⟨0x30100, 0x10, 32, 32⟩

/-- EVT_ARM_EXP: expiry beacon time -/
def EVT_ARM_EXP_exp : Fld := ⟨0x30108, 0x10, 0, 64⟩

/-- EVT_TND: queue entries held, 0–512 -/
def EVT_TND_depth : Fld := ⟨0x30200, 0x8, 0, 10⟩

/-- EVT_TND: event numbers with a non-zero merge counter, R68 -/
def EVT_TND_merging : Fld := ⟨0x30200, 0x8, 10, 11⟩

/-- EVT_TND: event instances merged; saturates -/
def EVT_TND_merged : Fld := ⟨0x30200, 0x8, 32, 32⟩

/-- EVT_STG: entries pending in set ss, 0–64 -/
def EVT_STG_pending : Fld := ⟨0x30300, 0x8, 0, 7⟩

/-- EVT_ROUTE: tender to which the event is delivered, 0–23. Values 24–31 are reserved: a staged write th -/
def EVT_ROUTE_tender : Fld := ⟨0x31000, 0x8, 0, 5⟩

/-- EVT_ROUTE: priority of the delivered entry -/
def EVT_ROUTE_prio : Fld := ⟨0x31000, 0x8, 5, 2⟩

/-- THM_CTL: warning threshold, °C, 60–105; other values are stored as the nearer limit -/
def THM_CTL_warn_c : Fld := ⟨0x150000, 0x0, 0, 8⟩

/-- THM_CTL: trip threshold, °C, R371 -/
def THM_CTL_trip_c : Fld := ⟨0x150000, 0x0, 8, 8⟩

/-- THM_STATUS: highest sensor reading, °C -/
def THM_STATUS_max_c : Fld := ⟨0x150008, 0x0, 0, 8⟩

/-- THM_STATUS: sensor of max_c -/
def THM_STATUS_max_sensor : Fld := ⟨0x150008, 0x0, 8, 5⟩

/-- THM_STATUS: warning active -/
def THM_STATUS_warn : Fld := ⟨0x150008, 0x0, 13, 1⟩

/-- THM_STATUS: trip fired since power-on; survives warm reset -/
def THM_STATUS_tripped : Fld := ⟨0x150008, 0x0, 14, 1⟩

/-- THM_SENSOR: last reading, °C, signed -/
def THM_SENSOR_temp : Fld := ⟨0x150100, 0x8, 0, 8⟩

/-- THM_SENSOR: highest reading since the last read, °C, signed -/
def THM_SENSOR_peak : Fld := ⟨0x150100, 0x8, 8, 8⟩

end Sys2Proof.Machine.F
end

