-- ==== Sys2Proof/Config.lean ====
section
/-! DEFINITION. What one part fixes and the spec does not state, and the free values: constants without a body, so that nothing
can be proved of what they are. -/

namespace Sys2Proof.Config

/-- A value that the spec leaves open, drawn by a step: applied to the counter of draws that the state holds. -/
opaque freeNat : Nat → Nat

/-- The value that the owner configuration in boot flash (its 256 KiB) gives a field of a register, by the register's offset and the field's lowest bit; none
where it is not validly signed under the owner record's program keys, or gives none. The spec gives its layout nowhere (18, flash offset 0x25_0000). -/
opaque ownerField : List (BitVec 8) → Nat → Nat → Option Nat

/-- The MACsec associations that the owner configuration gives: receive channel (none: transmit), association number, key, salt, SSCI (16 R322). -/
opaque ownerSas : List (BitVec 8) → List (Option Nat × Nat × List (BitVec 8) × List (BitVec 8) × Nat)

/-- The 16 bytes of the device serial (18, GLB_SERIAL: reset "device"). -/
opaque serial : BitVec 128

/-- The 256-bit root secret that the PUF yields (18 R365). -/
opaque rootSecret : BitVec 256

/-- The 97-byte public half of vendor key 0 or 1 (05 R89, 18 "trust anchor"). -/
opaque vendorKey : Nat → List Byte

/-- The device certificate of 256 bytes (18, flash offset 0xF000). -/
opaque deviceCert : List Byte

end Sys2Proof.Config
end

