-- ==== Sys2Proof/Machine/St/Act.lean ====
section
/-! DEFINITION. The state of acting instructions: running actions and the tray state the keeper keeps of each slot
(04 R84 to R88, 05 R391 SLOT_STATE). -/

namespace Sys2Proof.Machine

/-- The sub-actions of R86. -/
inductive SubAct
  | rsetCore | rsetLinks | rsetMemory | rsetWarm | rsetCold | rsetHold | rsetRelease
  | pwrOn | pwrOff | pwrCycle | pwrCap
  | fencFence | fencUnfence
  | ocltStop | ocltAt | ocltCancel | ocltRelease
  | rollRollback | rollRestore
  | quarLink | quarSlot | quarRelease
  deriving DecidableEq, Repr

/-- Where an accepted action stands. -/
inductive ActPhase
  /-- accepted, its mirror acknowledgement awaited before the tray is driven (R88) -/
  | accepted
  /-- the tray is driven; its end is awaited -/
  | driving
  /-- an OCLT AT that has not fired (R84) -/
  | pending
  /-- ended; its completion's mirror acknowledgement awaited before the event is delivered (R88) -/
  | ended
  deriving DecidableEq, Repr

/-- An action from its acceptance to the delivery of its end (04 R84, R85). -/
structure Action where
  /-- ticket, 48 bits -/
  ticket : Nat
  sub : SubAct
  /-- target slots -/
  mask : Nat
  /-- target core, where the sub-action names one -/
  core : Option Nat
  /-- issuing tender; none for the hardware stop path -/
  tender : Option Tender
  /-- instruction word, pc, g[ra], g[rb] -/
  iword : Nat
  pc : Nat
  ga : Word
  gb : Word
  /-- the class's arming state at the check (R84) -/
  arming : Word
  phase : ActPhase
  /-- result once ended: 0 done, else the code of ACT_FAILED -/
  result : Nat
  /-- first target slot -/
  first : Nat
  /-- slot named in the source of its records -/
  recSlot : Nat
  /-- beacon tick at which the tray was driven -/
  since : Nat
  /-- slots of the mask whose part is still open -/
  left : Nat
  /-- the KCP ACT command it answers, session and command number; none once a takeover has left it to be read back (02 R20) -/
  cmd : Option (Nat × Nat)
  deriving DecidableEq, Repr

structure ActSt where
  /-- actions accepted and not yet delivered as ended, in order of acceptance, 04 R84; reset empty -/
  running : List Action
  deriving DecidableEq, Repr

def ActSt.init : ActSt := ⟨[]⟩

end Sys2Proof.Machine
end

