-- ==== Sys2Proof/Machine/St/Bcn.lean ====
section
/-! DEFINITION. The state of beacon time and of PTP outside their registers (12 R241 to R259). -/

namespace Sys2Proof.Machine

/-- Delay compensation of one slot (12 R248). -/
structure CalSlot where
  /-- a calibration is asked for at the next mark; reset 0 -/
  want : Bool
  /-- a calibration falls due at this tick: 1 ms after entry to run phase; reset none -/
  due : Option Nat
  /-- the mark M1 whose echo is awaited; reset none -/
  echo : Option Nat
  /-- the value that dly moves to, and the one it moved from; reset none -/
  target : Option (Nat × Nat)
  deriving DecidableEq, Repr

/-- A PTP master as its Announce messages show it (12 R252). -/
structure PtpMaster where
  /-- sourcePortIdentity -/
  source : Nat
  /-- dataset in the order of comparison: priority1, clockClass, clockAccuracy, variance, priority2, grandmaster identity, steps removed -/
  rank : List Nat
  gm : Nat
  /-- Announce messages received from it -/
  heard : Nat
  /-- tick of the last one -/
  at_ : Nat
  deriving DecidableEq, Repr

/-- One PTP domain's engine (12 R252 to R254). -/
structure PtpDom where
  /-- foreign masters heard; reset empty -/
  masters : List PtpMaster
  /-- sourcePortIdentity of the selected master; reset none -/
  master : Option Nat
  /-- the Sync of the exchange under way: its sequence number, receive stamp, correction and, once known, the master's transmit time; reset none -/
  sync : Option (Nat × Nat × Int × Option Int)
  /-- the Delay_Req under way: sequence number and transmit stamp; reset none -/
  req : Option (Nat × Nat)
  /-- next Delay_Req sequence number; reset DESIGN CHOICE 0 -/
  seq : Nat
  /-- consecutive exchanges with an offset within lock_ns; reset 0 -/
  good : Nat
  /-- consecutive exchanges with an offset above 1,000 ns; reset 0 -/
  bad : Nat
  /-- tick of the last valid Sync; reset 0 -/
  lastSync : Nat
  /-- tick since which the domain is LOCKED; reset none -/
  lockedAt : Option Nat
  deriving DecidableEq, Repr

def PtpDom.init : PtpDom := ⟨[], none, none, none, 0, 0, 0, 0, none⟩

structure BcnSt where
  slots : Vector CalSlot 16
  /-- ticks at the slew rate counted towards the next tick gained or lost, in millionths, R242; reset 0 -/
  slewAcc : Nat
  /-- BCN_PAIR_SKEW has been raised and the skew has not yet stayed within 2 ticks for 1 ms, R250; reset 0 -/
  skewOut : Bool
  /-- tick since which the skew has been within 2 ticks, R250; reset none -/
  skewInSince : Option Nat
  /-- BCN_STATUS.tied, R244; reset 0 -/
  tied : Bool
  /-- tick at which the start-up wait for a lock began, R244; reset none -/
  waitFrom : Option Nat
  /-- an untied keeper is becoming tied by slewing, R244; reset 0 -/
  tieing : Bool
  /-- a hard-set that is loaded at the start of the next PCLK cycle, R390; reset none -/
  hardPend : Option Nat
  /-- this keeper follows from out of service, and its set with what the load cleared is not yet slewed away, R251; reset 0 -/
  starting : Bool
  /-- the mark of the last W0 frames, where no gap has ended them, R247; reset none -/
  framesAt : Option Nat
  /-- tick at which 1PPS out falls, R256; reset none -/
  ppsFall : Option Nat
  /-- the start-up wait is over, R244; reset 0 -/
  waitOver : Bool
  /-- tick of the last periodic calibration, R248; reset 0 -/
  calAt : Nat
  dom : Vector PtpDom 2
  /-- transmit timestamp queue: stamp and identifier, oldest first, up to 64, R257; reset empty -/
  tsq : List (Nat × Nat)
  /-- stamps dropped since the last PTP_TS_DROPPED, and its tick, R257; reset 0 and none -/
  tsDrop : Nat × Option Nat
  /-- tick of the last 1PPS input edge, or of the enable, R256; reset 0 -/
  ppsAt : Nat
  /-- PPS_IN_LOST has been raised since the last edge, R256; reset 0 -/
  ppsLost : Bool
  deriving DecidableEq, Repr

def BcnSt.init : BcnSt :=
  { slots := Vector.replicate 16 ⟨false, none, none, none⟩, slewAcc := 0, skewOut := false, skewInSince := none, tied := false, tieing := false
    hardPend := none, starting := false, framesAt := none, ppsFall := none, waitFrom := none, waitOver := false, calAt := 0, dom := Vector.replicate 2 PtpDom.init, tsq := [], tsDrop := (0, none)
    ppsAt := 0, ppsLost := false }

end Sys2Proof.Machine
end

