-- ==== Sys2Proof/Machine/St/Prog.lean ====
section
/-! DEFINITION. The state of programs: the Standing Orders in force and the owner programs with their bindings
(05 R89 to R98). -/

namespace Sys2Proof.Machine

/-- One entry of an owner program's handler table (05). -/
structure HandlerEnt where
  /-- event number or per-slot index -/
  event : Nat
  slotrel : Bool
  trap : Bool
  /-- byte offset in the code -/
  offset : Nat
  deriving DecidableEq, Repr

/-- An owner program held by the keeper (05 R89 to R92). -/
structure Program where
  pid : Nat
  version : Nat
  epoch : Nat
  /-- digest field of its image, 48 bytes -/
  digest : List Byte
  codeSize : Nat
  /-- code and data -/
  body : List Byte
  /-- the whole image, as it is mirrored (14 R287) -/
  image : List Byte
  /-- binding: tender mask -/
  tenders : Nat
  slots : Nat
  sessions : Nat
  /-- named staging sets granted: bit i is set 32 + i -/
  sets : Nat
  /-- DMA channels granted: bit c is DMA_CH_c, 27 to 31 -/
  dma : Nat
  trapPass : Bool
  trapResume : Bool
  raise : Nat
  /-- handler budget in µs -/
  budget : Nat
  /-- gallery windows: keeper address and size -/
  gallery : List (Nat × Nat)
  /-- LPDDR windows: keeper address and size -/
  lpddr : List (Nat × Nat)
  handlers : List HandlerEnt
  /-- beacon times at which its handlers were ended by budget or trap, 05 R97 -/
  endings : List Nat
  deriving DecidableEq, Repr

/-- The Standing Orders in force (05 R90, R91). -/
structure Orders where
  version : Nat
  epoch : Nat
  abi : Nat
  digest : List Byte
  entry : Nat
  /-- 0 image A, 1 image B -/
  image : Nat
  deriving DecidableEq, Repr

structure ProgSt where
  /-- the Standing Orders in force, 05 R90; reset none -/
  orders : Option Orders
  /-- up to 16 owner programs by index, 05; reset none -/
  owned : Vector (Option Program) 16
  /-- program_ids held for programs being bound, with what replaces them: bindings of a LOAD still to be reported, 05 R92; reset empty -/
  loading : List Nat
  deriving DecidableEq, Repr

def ProgSt.init : ProgSt := ⟨none, Vector.replicate 16 none, []⟩

end Sys2Proof.Machine
end

