-- ==== Sys2Proof/Machine/St/Tender.lean ====
section
/-! DEFINITION. The state of one tender core and of its event queue (03 R35 to R59, 04 R65 to R68; 18 TND registers). -/

namespace Sys2Proof.Machine

/-- What a tender is doing (18, TND_TENDER_nn_STAT.state; the last four are waits inside a running instruction). -/
inductive TRun
  /-- executing instructions -/
  | running
  /-- asleep in WAIT, R67 -/
  | asleep
  /-- halted, R55 -/
  | halted
  /-- in reset, before its release or while the keeper is in reset -/
  | inReset
  /-- waiting for its own DGST, SIGN or VRFY to complete, R79 -/
  | waitSec
  /-- waiting in LOGW for a ring entry to free, R307 -/
  | waitLog
  /-- waiting in a load for the reply of a Buoy window, 13 R281 -/
  | waitWin
  /-- waiting in MOOR PHASE for the phase command to be given, 13 R266 -/
  | waitMoor
  deriving DecidableEq, Repr

/-- One event as it stands in a queue, in a merge counter or on its way (04 R66, R68). -/
structure EvEntry where
  /-- event number, 10 bits -/
  event : Nat
  /-- priority, 2 bits -/
  prio : Nat
  /-- raised by RAISE -/
  sw : Bool
  /-- instances merged at queue overflow -/
  merged : Bool
  /-- source argument, 16 bits -/
  arg : Nat
  /-- instances carried, saturating at 0xFFFF -/
  count : Nat
  /-- raising tender when sw is set -/
  raiser : Nat
  /-- 64-bit payload -/
  payload : Word
  deriving DecidableEq, Repr

/-- A WAIT in which a tender sleeps (04 R67). -/
structure Waiting where
  /-- destination register -/
  rd : Fin 32
  /-- priorities that may be delivered -/
  mask : Nat
  /-- beacon tick of the timeout, if any -/
  tEnd : Option Nat
  deriving DecidableEq, Repr

/-- An owner handler in progress (05 R97). -/
structure Handler where
  /-- beacon tick at which the budget ends -/
  due : Nat
  /-- the program's trap entry runs for a trap of this handler, and the pc at which the handler resumes after it -/
  resume : Option (BitVec 48)
  deriving DecidableEq, Repr

/-- A LOGW that waits for room in the ring (15 R307): the record without its number, and rd where one is written. -/
structure LogWaiting where
  rd : Option (Fin 32)
  trigger : Nat
  source : Nat
  lit : Nat
  time : Nat
  snap : List Word
  deriving DecidableEq, Repr

/-- The architectural state of one tender (03 R35) and what the TND and EVT blocks hold for it. -/
structure TenderSt where
  /-- g0 to g31, 64 bits each, 03 R35; reset DESIGN CHOICE 0 -/
  g : Vector Word 32
  /-- pc, 48 bits, 03 R35; reset the entry address, 0 before the first release -/
  pc : BitVec 48
  /-- TS_STATUS.prv, 1 bit, 03 R48; reset 1 (ORDER) -/
  prv : Bool
  /-- TS_STATUS.pprv, 1 bit, 03 R48; reset 1 -/
  pprv : Bool
  /-- TS_STATUS.intrap, 1 bit, 03 R48; reset 0 -/
  intrap : Bool
  /-- TS_STATUS.posterr, 1 bit, 03 R48; reset 0 -/
  posterr : Bool
  /-- TS_STATUS.wdog_en, 1 bit, 03 R48; reset 0 -/
  wdogEn : Bool
  /-- TS_TVEC, 64 bits, 03 R48, R54; reset DESIGN CHOICE 0 -/
  tvec : Word
  /-- TS_TPC, 64 bits, 03 R48, R54; reset DESIGN CHOICE 0 -/
  tpc : Word
  /-- TS_TCAUSE, 8 bits, 03 R53; reset 0 -/
  tcause : Nat
  /-- TS_TVAL, 64 bits, 03 R48; reset DESIGN CHOICE 0 -/
  tval : Word
  /-- TS_TSCRATCH, 64 bits, 03 R48; reset DESIGN CHOICE 0 -/
  tscratch : Word
  /-- TS_CYCLE, 64 bits, 03 R48; reset 0 -/
  cycle : Word
  /-- TS_INSTRET, 64 bits, 03 R48; reset 0 -/
  instret : Word
  /-- TS_WDOG.period, 24 bits, 03 R48; reset 0 -/
  wdogPeriod : Nat
  /-- beacon tick at which the running watchdog count ends, 03 R58; reset 0 -/
  wdogDue : Nat
  /-- ticks left in the watchdog count while it is stopped, 03 R58; reset 0 -/
  wdogLeft : Nat
  /-- TS_CYCLE at a watchdog expiry that met the tender inside an instruction, whose trap is taken before its next one, 03 R53, R58; reset none -/
  wdogHit : Option Word
  /-- TND_TENDER_nn_STAT.state, 2 bits, and the waits of R79 and R307; reset 3 (in reset) -/
  run : TRun
  /-- the WAIT the tender sleeps in, 04 R67; reset none -/
  wait : Option Waiting
  /-- the LOGW the tender waits in, 15 R307; reset none -/
  logWait : Option LogWaiting
  /-- halting cause, 8 bits, 03 R55; reset 0 -/
  hcause : Nat
  /-- pc at the halt, 48 bits, 03 R55; reset 0 -/
  hpc : BitVec 48
  /-- TS_TVAL at the halt, 64 bits, 03 R55; reset 0 -/
  hval : Word
  /-- event queue, up to 512 entries, oldest first, 04 R65; reset empty -/
  queue : List EvEntry
  /-- merge counters in the order of first merged arrival, 04 R68; reset empty -/
  merges : List EvEntry
  /-- index of the bound owner program, 05 R92; reset none -/
  prog : Option Nat
  /-- pending binding (some (some p)) or unbinding (some none), 05 R92; reset none -/
  bindPend : Option (Option Nat)
  /-- the version of its program that still runs there while the LOAD that replaces it is pending, 05 R91, R92; reset none -/
  old : Option Program
  /-- the owner handler running on the tender, 05 R97; reset none -/
  handler : Option Handler
  deriving DecidableEq, Repr

/-- A tender as power-on reset leaves it. -/
def TenderSt.init : TenderSt :=
  { g := Vector.replicate 32 0, pc := 0, prv := true, pprv := true, intrap := false, posterr := false, wdogEn := false
    tvec := 0, tpc := 0, tcause := 0, tval := 0, tscratch := 0, cycle := 0, instret := 0, wdogPeriod := 0, wdogDue := 0
    wdogLeft := 0, wdogHit := none, run := .inReset, wait := none, logWait := none, hcause := 0, hpc := 0, hval := 0, queue := []
    merges := [], prog := none, bindPend := none, old := none, handler := none }

end Sys2Proof.Machine
end

