-- ==== Sys2Proof/Machine/St/Evt.lean ====
section
/-! DEFINITION. The state of the event network, of the staging sets and of arming (04 R65 to R74, 05 R94 to R104, 18 R370). -/

namespace Sys2Proof.Machine

/-- An event raised and not yet in its queue (04 R65): the target and the priority are those of the route in force when it
was raised (R73). -/
structure InFlight where
  /-- the tender that takes it -/
  target : Tender
  /-- the beacon tick at which it was raised -/
  tick : Nat
  ev : EvEntry
  deriving DecidableEq, Repr

/-- One entry of a staging set: one register's staged ST fields (04 R70). -/
structure Staged where
  /-- offset of the register in register space -/
  off : Nat
  /-- bits of the fields staged -/
  mask : Word
  /-- their pending values, at their places -/
  val : Word
  deriving DecidableEq, Repr

/-- One arming entry (05 R100, R102). -/
structure ArmEntry where
  valid : Bool
  /-- class, 3 bits: 0 RSET, 1 PWR, 2 FENC, 3 OCLT, 4 ROLL, 5 QUAR -/
  cls : Nat
  /-- slot mask, 16 bits -/
  slots : Nat
  /-- granting session -/
  sess : Nat
  /-- generation, 28 bits -/
  gen : Nat
  /-- expiry beacon time -/
  expiry : Nat
  deriving DecidableEq, Repr

/-- An entry as every keeper starts with it (05 R104). -/
def ArmEntry.none : ArmEntry := ⟨false, 0, 0, 0, 0, 0⟩

/-- The event network and arming. -/
structure EvtSt where
  /-- events raised and not yet in a queue, in the order raised, 04 R65; reset empty -/
  inflight : List InFlight
  /-- 16 arming entries, 05 R100; reset every entry invalid (R104), generation DESIGN CHOICE 0 -/
  arms : Vector ArmEntry 16
  /-- the entries as they stood at the end of the PCLK cycle before the one in which they last changed, and that cycle, 04 R87; reset none -/
  armsOld : Option (Vector ArmEntry 16 × Nat)
  deriving DecidableEq, Repr

def EvtSt.init : EvtSt := ⟨[], Vector.replicate 16 ArmEntry.none, none⟩

end Sys2Proof.Machine
end

