-- ==== Sys2Proof/Machine/St/Kcp.lean ====
section
/-! DEFINITION. The state of the host port: KCP sessions, their windows and commands, subscribers, associations, MACsec
(16 R317 to R338; 11 R236 for restore associations). -/

namespace Sys2Proof.Machine

/-- Where a session command stands (16 R332, 02 R20). -/
inductive CmdPhase
  /-- received; its acceptance is not yet acknowledged by the follower -/
  | received
  /-- handed to its handler -/
  | handed
  /-- completed; earlier commands of the session or the mirror are awaited (04 R83) -/
  | completed
  /-- reported: the COMPLETE frame is in the window -/
  | reported
  deriving DecidableEq, Repr

/-- A command of a session (16 R332). -/
structure SessCmd where
  /-- command number, from 1 -/
  num : Nat
  /-- host frame that carried it -/
  frame : Nat
  /-- request handle, 24 bits (05 R391) -/
  handle : Nat
  cmd : KcpCmd
  phase : CmdPhase
  /-- status of its COMPLETE once completed -/
  status : Nat
  /-- body of its COMPLETE -/
  body : List Byte
  /-- its completion has been mirrored -/
  mirrored : Bool
  /-- the report of the action that it issued, whose end was mirrored before the command's completion (02 R20); none else -/
  outcome : Option Word
  deriving DecidableEq, Repr

/-- A command accepted and not completed, which a new controller has still to carry on (02 R20). -/
structure Redo where
  num : Nat
  /-- the action it had issued, mirrored as accepted and not as complete -/
  action : Option Action
  /-- answers of Buoys still awaited of those asked for its effect; none while none has been asked -/
  awaited : Option Nat
  /-- every answer so far showed the effect -/
  shown : Bool
  /-- a Buoy did not answer: what this keeper holds of the tray decides -/
  silent : Bool
  deriving DecidableEq, Repr

/-- A frame sent on a session and not yet acknowledged, or waiting for the window (16 R329, R330). -/
structure TxFrame where
  seq : Nat
  /-- class code of R324 -/
  cls : Nat
  ref : Nat
  code : Nat
  body : List Byte
  /-- beacon tick of its last sending -/
  sentAt : Nat
  /-- retransmission interval in ms -/
  interval : Nat
  deriving DecidableEq, Repr

/-- An event subscription (16 R332, SUBSCRIBE). -/
structure Subscription where
  /-- 1,024-bit event bitmap -/
  events : Nat
  slots : Nat
  owner : Bool
  time : Bool
  telemetry : Bool
  /-- next logbook sequence number to consider -/
  next : Nat
  deriving DecidableEq, Repr

/-- Telemetry samples of one engine held while the window is full (16 R334). -/
structure TelemHeld where
  slot : Nat
  engine : Nat
  done : Nat
  busy : Nat
  cmdCycles : Nat
  coincident : Bool
  time : Nat
  deriving DecidableEq, Repr

/-- One session (16 R326 to R333). -/
structure Session where
  /-- KCP_SESS_s.open; reset 0 -/
  isOpen : Bool
  /-- privilege: 0 OWNER, 1 OPERATOR, 2 OBSERVER, 3 TENANT -/
  priv : Nat
  key : Nat
  slots : Nat
  /-- incarnation at ACCEPT -/
  incAt : Nat
  /-- host-to-keeper key, 32 bytes -/
  keyIn : List Byte
  /-- keeper-to-host key, 32 bytes -/
  keyOut : List Byte
  /-- the transport at which the host reached the keeper last, and whether at the station address (16 R323) -/
  via : KcpVia
  station : Bool
  /-- next host frame expected -/
  rxNext : Nat
  /-- host frames held ahead of the next expected one -/
  rxHeld : List (Nat × KcpCmd)
  /-- highest host frame acknowledgeable: its command is mirrored as accepted -/
  rxAck : Nat
  /-- next keeper frame number -/
  txNext : Nat
  /-- keeper frames unacknowledged, oldest first, at most 64 -/
  unacked : List TxFrame
  /-- frames waiting for room in the window, oldest first -/
  waiting : List TxFrame
  /-- a standalone ACK is due from this beacon tick on -/
  ackDue : Option Nat
  /-- beacon tick of the last valid frame from the host -/
  lastRx : Nat
  /-- beacon tick of the last frame sent -/
  lastTx : Nat
  cmds : List SessCmd
  nextCmd : Nat
  /-- commands that a takeover has still to carry on, in issue order, and those received behind them (02 R20) -/
  redo : List Redo
  sub : Option Subscription
  /-- records matched and waiting to fill an EVENT frame, and the beacon tick at which the batch ends -/
  batch : List Nat
  batchDue : Option Nat
  telem : List TelemHeld
  /-- slot whose tenders the session is attached to by DEBUG, and the DEBUG command's number -/
  attached : Option (Nat × Nat)
  deriving DecidableEq, Repr

def Session.closed : Session :=
  { isOpen := false, priv := 0, key := 0, slots := 0, incAt := 0, keyIn := [], keyOut := [], via := .ether, station := false
    rxNext := 1, rxHeld := []
    rxAck := 0, txNext := 1, unacked := [], waiting := [], ackDue := none, lastRx := 0, lastTx := 0, cmds := []
    nextCmd := 1, redo := [], sub := none, batch := [], batchDue := none, telem := [], attached := none }

/-- A keeper that subscribed to this keeper's notices, or to whose notices this keeper subscribed (16 R335). -/
structure NoticePeer where
  /-- address it is reached at -/
  addr : Nat
  /-- identity digest -/
  identity : List Byte
  /-- SESSION key learned from its attestation report -/
  key : List Byte
  /-- highest notice numbers seen from it -/
  seen : List Nat
  deriving DecidableEq, Repr

/-- A notice of which further copies are due (16 R335). -/
structure NoticeRepeat where
  number : Nat
  body : List Byte
  left : Nat
  due : Nat
  deriving DecidableEq, Repr

/-- A MACsec secure association (16 R322). -/
structure MacsecSa where
  /-- receive channel 0 to 3; transmit when none -/
  channel : Option Nat
  an : Nat
  key : List Byte
  salt : List Byte
  ssci : Nat
  /-- next packet number -/
  nextPn : Nat
  deriving DecidableEq, Repr

/-- A LOAD in progress: the fragments of one image received so far (16 R332). -/
structure LoadBuf where
  sess : Nat
  kind : LoadKind
  total : Nat
  /-- offset and bytes of each fragment -/
  parts : List (Nat × List Byte)
  deriving DecidableEq, Repr

structure KcpSt where
  /-- 8 sessions, 16 R326; reset all closed -/
  sess : Vector Session 8
  /-- next request handle, 24 bits, 05 R391; reset DESIGN CHOICE 1 -/
  nextHandle : Nat
  /-- request handles outstanding and not applied by a grant, 18 R370; reset empty -/
  handles : List Nat
  /-- table of 64 subscribers, 16 R335; reset empty -/
  subscribers : List NoticePeer
  /-- keepers whose notices this keeper subscribed to, 16 R335; reset empty -/
  subscribed : List NoticePeer
  /-- NOTICE_SUB commands awaiting SUBSCRIBED: address, identity digest named, session, command number, 16 R335; reset empty -/
  subPending : List (Nat × List Byte × Nat × Nat)
  /-- next notice number of this keeper, 16 R335; reset DESIGN CHOICE 1 -/
  noticeNext : Nat
  /-- notices with copies still to send, 16 R335; reset empty -/
  repeats : List NoticeRepeat
  /-- gratuitous claims of the service address left and the beacon tick of the next, 16 R321; reset none -/
  claims : Nat × Nat
  /-- MACsec associations installed, 16 R322; reset empty -/
  sas : List MacsecSa
  /-- MACsec failures since the last MACSEC_FAIL, and the beacon tick of that event, 16 R322; reset 0 and none -/
  macsecFails : Nat × Option Nat
  /-- lane groups that trained without error at the last attempt, as lane masks, 16 R318; reset empty -/
  trainedOk : List Nat
  /-- neighbour cache, up to 64 entries for each IP version: version, address, MAC, 16 R320; reset empty -/
  neighbours : List (Nat × Nat × Nat)
  /-- LOAD transfers in progress: session, kind, total length, fragments received, 16 R332; reset empty -/
  loads : List LoadBuf
  /-- what BUDDY named: station addresses and identity digests of the buddy tray's keepers, 01 R8, 16 R332; reset none -/
  buddyIds : Option (Nat × Nat × List Byte × List Byte)
  /-- what BUDDY named and the next boundary that Scarf takes puts in force, 01 R9; reset none -/
  buddyNext : Option (Nat × Nat × List Byte × List Byte)
  /-- command frames that have come since this keeper asked for the role, held for the handover: session, frame, command, 14 R293; reset empty -/
  heldCmds : List (Sess × KcpHead × KcpCmd)
  /-- widest mode that the next training may take once the port has gone down, until MAC_CTL.upgrade, 16 R318; reset none (max_mode) -/
  ethCap : Option Nat
  /-- mode whose application the module was last told to run, 16 R318; reset none -/
  ethApp : Option Nat
  /-- beacon tick of the last reading of the module's monitors, 16 R318; reset none -/
  monitorAt : Option Nat
  /-- READ_MEM commands that wait for a DMA channel: session, number, address, length, 16 R332; reset empty -/
  reads : List (Sess × Nat × Nat × Nat)
  deriving DecidableEq, Repr

def KcpSt.init : KcpSt :=
  { sess := Vector.replicate 8 Session.closed, nextHandle := 1, handles := [], subscribers := [], subscribed := []
    subPending := [], noticeNext := 1, repeats := [], claims := (0, 0), sas := [], macsecFails := (0, none)
    trainedOk := [], neighbours := [], loads := [], buddyIds := none, buddyNext := none, heldCmds := [], ethCap := none, ethApp := none, monitorAt := none, reads := [] }

end Sys2Proof.Machine
end

