-- ==== Sys2Proof/Machine/St/Log.lean ====
section
/-! DEFINITION. The state of the logbook outside its registers and outside memory (15 R300 to R316). The records themselves
stand in the retained ring, in retained SRAM, and in the mirror, in LPDDR5X. -/

namespace Sys2Proof.Machine

/-- A record before it has a number (15 R300). -/
structure LogDraft where
  trigger : Nat
  /-- source bits [15:0] as they stand in the record -/
  source : Nat
  /-- writing tender, 0x1F for hardware -/
  writer : Nat
  lit : Nat
  /-- beacon time of the snapshot's PCLK cycle -/
  time : Nat
  snap : List Word
  deriving DecidableEq, Repr

/-- A reader's cursor and latch (15 R311). -/
structure LogReader where
  /-- LOG_CUR.cursor, 64 bits; reset 1 -/
  cursor : Nat
  /-- LOG_RSTAT.passed, 1 bit; reset 0 -/
  passed : Bool
  /-- the latched record's bytes, none when nothing is latched -/
  latch : Option (List Byte)
  deriving DecidableEq, Repr

/-- A tender-written record that waits for room in the ring (15 R307): a tender in LOGW or in the Standing Orders' record of an event, by
number, or a record that the Standing Orders write beside their handler. -/
inductive LogWaiter where
  | logw (tender : Nat)
  | record (d : LogDraft)
  deriving DecidableEq, Repr

/-- The tender that writes it. -/
def LogWaiter.writer : LogWaiter → Nat
  | .logw i => i
  | .record d => d.writer

/-- A custody seal that is being digested and signed (15 R314): floor and beacon at the seal, the records it covers, dumps included. -/
structure SealSt where
  first : Nat
  time : Nat
  recs : List Nat
  dumps : Bool
  deriving DecidableEq, Repr

structure LogSt where
  /-- sequence numbers of ring records not yet mirrored to LPDDR5X, oldest first, 15 R306; reset empty -/
  unmirrored : List Nat
  /-- sequence numbers of ring records the relief has not acknowledged, 14 R287; reset empty -/
  unacked : List Nat
  /-- sequence numbers of the records the logbook holds, in order: those at or above the floor that were not removed, 15 R309, R310; reset empty -/
  held : List Nat
  /-- intake queue of up to 256 hardware records, 15 R307; reset empty -/
  intake : List LogDraft
  /-- hardware records not written because the intake queue was full: count, time of first, time of last, 15 R307; reset none -/
  lost : Option (Nat × Nat × Nat)
  /-- cursors and latches of readers 0 to 31, 15 R311; reset cursor 1, passed 0, no latch -/
  readers : Vector LogReader 32
  /-- literal words that the Standing Orders put into the record of an event still to be delivered: event number, payload, words (05 R96, 15 R302, 16 R335); reset empty -/
  notes : List (Nat × Word × List Word)
  /-- LOG_RING_HIGH has been raised and its condition still holds, 15 R306; reset 0 -/
  highRaised : Bool
  /-- tender-written records waiting for room, oldest first: tenders in LOGW, and records of the Standing Orders, 15 R307; reset empty -/
  waiters : List LogWaiter
  /-- beacon tick at which the next full hour of powered time ends, 15 R313; reset 5,760,000,000,000 -/
  hourDue : Nat
  /-- the seal being digested and signed, 15 R314; reset none -/
  sealing : Option SealSt
  deriving DecidableEq, Repr

def LogSt.init : LogSt :=
  { unmirrored := [], unacked := [], held := [], intake := [], lost := none
    readers := Vector.replicate 32 ⟨1, false, none⟩, notes := [], highRaised := false, waiters := [], hourDue := 5760000000000
    sealing := none }

end Sys2Proof.Machine
end

