-- ==== Sys2Proof/Machine/St/Mem.lean ====
section
/-! DEFINITION. The state of the memory controller and of the DMA channels outside their registers (17 R339 to R358). -/

namespace Sys2Proof.Machine

/-- A posted store that is not yet known to be written (03 R46): who stored, where, and what each byte would be without it. -/
structure Posted where
  tender : Tender
  addr : Nat
  /-- keeper address and byte of each byte of the store that no later store has overwritten, as it stood before it -/
  under : List (Nat × Byte)
  /-- the tender has been reset since (03 R57) -/
  stale : Bool
  deriving DecidableEq, Repr

structure MemSt where
  /-- channels in self-refresh for a relock, with the beacon tick of the loss of lock, 17 R341; reset empty -/
  relock : List (Nat × Nat)
  /-- the lost channel that redirection absorbs, 17 R347; reset none -/
  lost : Option Nat
  /-- redirection of the lost channel is in force, 17 R347; reset 0 -/
  redirected : Bool
  /-- further lost channels, not absorbed, 17 R349; reset empty -/
  second : List Nat
  /-- what has been written to the lost channel since the loss: keeper address and length of each write, 17 R347; reset empty -/
  fresh : List (Nat × Nat)
  /-- beacon times of uncorrectable errors of the last second, by channel, 17 R346; reset empty -/
  ueTimes : List (Nat × Nat)
  /-- correctable errors of the hour in progress, by channel: channel, beacon time the hour began, count, 17 R344; reset empty -/
  ceHour : List (Nat × Nat × Nat)
  /-- posted stores to LPDDR5X that may still fail, oldest first, 03 R46, R57; reset empty -/
  posted : List Posted
  /-- stores of blocks held while their channels relock, in order: keeper address, bytes, block, 17 R341; reset empty -/
  heldStores : List (Nat × List Byte × Nat)
  deriving DecidableEq, Repr

def MemSt.init : MemSt := ⟨[], none, false, [], [], [], [], [], []⟩

/-- A DMA descriptor as it was read at issue (17 R351). -/
structure DmaDesc where
  src : Nat
  dst : Nat
  count : Nat
  sstride : Nat
  dstride : Nat
  ws : Nat
  wd : Nat
  conv : Nat
  srcPort : Bool
  dstPort : Bool
  fill : Bool
  /-- issued by PACED -/
  paced : Bool
  /-- 0 timer, 1 after channel -/
  paceKind : Nat
  paceChan : Nat
  pacePeriod : Nat
  /-- sequence number on its channel, 48 bits -/
  seq : Nat
  /-- the channel the transfer belongs to was named by this tender; none for a block's own transfer -/
  by_ : Option Nat
  deriving DecidableEq, Repr

/-- One DMA channel (17 R351 to R356). -/
structure DmaChan where
  /-- queued descriptors, at most 16, oldest first; reset empty -/
  queue : List DmaDesc
  /-- the running transfer; reset none -/
  running : Option DmaDesc
  /-- the head descriptor of a paced start reached the head at this beacon tick; reset none -/
  headSince : Option Nat
  /-- its timer or its channel has started the head descriptor, which waits for the channel alone; reset 0 -/
  due : Bool := false
  /-- elements of the running transfer converted so far, 17 R354; reset 0 -/
  pos : Nat := 0
  /-- the holding register: converted bytes not yet written, by destination address, 17 R354; reset empty -/
  hold : List (Nat × List Byte) := []
  /-- the running transfer was granted no beat and pauses, 17 R354; reset 0 -/
  paused : Bool := false
  deriving DecidableEq, Repr

structure DmaSt where
  /-- 32 channels; reset all idle -/
  ch : Vector DmaChan 32
  deriving DecidableEq, Repr

def DmaSt.init : DmaSt := ⟨Vector.replicate 32 { queue := [], running := none, headSince := none }⟩

end Sys2Proof.Machine
end

