-- ==== Sys2Proof/Machine/St/Mor.lean ====
section
/-! DEFINITION. The state of the mooring, of power sequencing and of the Buoy links outside their registers (13 R261 to R283,
10 R186, R187, 12 R246 to R249). -/

namespace Sys2Proof.Machine

/-- A row of the power-on or reset sequence of a slot that is still to come (13 R268, 04 R86). -/
inductive SeqStep
  /-- the slot awaits its sequence step, R273 -/
  | queued
  /-- W0 is high and PWR_GOOD is awaited until pg_ms -/
  | pwrGood
  /-- REFCLK_EN rises 1 ms after PWR_GOOD -/
  | refclk
  /-- RESET_L rises 2 ms after PWR_GOOD -/
  | resetRise
  /-- RESET_L is held low: for the hold time of COLD, or until RELEASE -/
  | hold
  /-- the turnaround and mark put the slot in run phase 100 µs after RESET_L -/
  | runEntry
  /-- W0 is low; PWR OFF completes 1 ms later -/
  | off
  /-- the off time of PWR CYCLE runs -/
  | cycleOff
  deriving DecidableEq, Repr

/-- The number of a row in the mirror, from 1. -/
def SeqStep.code : SeqStep → Nat
  | .queued => 1
  | .pwrGood => 2
  | .refclk => 3
  | .resetRise => 4
  | .hold => 5
  | .runEntry => 6
  | .off => 7
  | .cycleOff => 8

/-- The row of a sequence by its number in the mirror. -/
def SeqStep.ofCode (k : Nat) : Option SeqStep :=
  [SeqStep.queued, .pwrGood, .refclk, .resetRise, .hold, .runEntry, .off, .cycleOff][k - 1]?.filter (fun _ => decide (k ≠ 0))

/-- What the keeper does on the wires of a slot once it stands in stagger phase, 3 µs after the command (13 R267, R268). -/
inductive StaggerThen
  /-- RESET_L is held low: for a time in µs, or until RELEASE -/
  | hold (us : Option Nat)
  /-- power goes off, for the off time in ms of PWR CYCLE, 0 of PWR OFF -/
  | off (cycleMs : Nat)
  deriving DecidableEq, Repr

/-- The phase command pulse on W1: W1 is low, goes high at `rise`, and low again at `fall`, when the command is given (13 R265, R282). -/
structure PhasePulse where
  /-- true for ENTER_DUMP, false for ENTER_STAGGER -/
  dump : Bool
  rise : Nat
  fall : Nat
  /-- the command has been given: the turnaround of R267 runs -/
  given : Bool
  /-- what follows ENTER_STAGGER -/
  after : Option StaggerThen
  /-- the pulse was cut by a stop and is repeated at this tick; 0 none -/
  again : Nat
  /-- repeats made -/
  cuts : Nat
  /-- the MOOR PHASE that asked for it, with its rd -/
  by_ : Option (Tender × Fin 32)
  deriving DecidableEq, Repr

/-- The classes of a hang (10 R188). -/
inductive HangClass
  /-- a timed-out command, heartbeat and link alive -/
  | engine
  /-- no heartbeat, and the link answers -/
  | firmware
  /-- no link, and the heartbeat alive -/
  | link
  | chip
  deriving DecidableEq, Repr

/-- One slot's mooring wires, phase and tray state as this keeper keeps them. -/
structure MorSlot where
  /-- MOR_PHASE: 0 strap, 1 stagger, 2 run, 3 dump, 13 R266; reset 0 -/
  phase : Nat
  /-- level this keeper drives on W0 outside strap phase, 13 R264; reset 0 -/
  w0 : Bool
  /-- this keeper holds W1 low, OCC_STATUS.driven, 10 R190; reset 0 -/
  w1low : Bool
  /-- this keeper pulls W1 low at this moment: as w1low says outside a phase command and its turnaround, 13 R265, R267; reset 0 -/
  w1pull : Bool
  /-- tick from which the stop mask is applied to W1 after run entry, 13 R267; reset 0 -/
  maskFrom : Nat
  /-- this keeper drives W2 and W3: between their turnarounds of stagger phase, 13 R267; reset 0 -/
  drv : Bool
  /-- a follower's run phase, mirrored and not entered before its beacon has slewed, 12 R251; reset 0 -/
  enterRun : Bool
  /-- wires of the slot that have failed at the other keeper, a bit for each, 13 R270; reset 0 -/
  peerFault : Nat
  /-- RESET_L as driven or last held on W2, 13 R268; reset 0 -/
  w2 : Bool
  /-- REFCLK_EN as driven or last held on W3, 13 R268; reset 0 -/
  w3 : Bool
  /-- the next row of the slot's sequence and the tick at which it falls due, 13 R268; reset none -/
  seq : Option (SeqStep × Option Nat)
  /-- PWR_STATUS.on: powered and PWR_GOOD seen, 13 R268; reset 0 -/
  powered : Bool
  /-- off time in ms of a PWR CYCLE under way, 04 R86; reset 0 -/
  offMs : Nat
  /-- tick from which the Buoy's readiness is timed, 10 R204; reset none -/
  readyFrom : Option Nat
  /-- OCC_STATUS.stopped: acknowledged a stop and not yet released, 10 R190; reset 0 -/
  stopped : Bool
  /-- resume tick of a release message sent, 10 R192; reset none -/
  resumeAt : Option Nat
  /-- cores fenced, 04 R86; reset empty -/
  fenced : List Nat
  /-- taken out of the job by QUAR SLOT, 04 R86; reset 0 -/
  quarSlot : Bool
  /-- state byte of the last SLOT_STATE, 05 R391; reset 0 -/
  lastState : Nat
  /-- tick of the last HEARTBEAT edge, 10 R187; reset 0 -/
  hbEdge : Nat
  /-- tick from which the heartbeat is watched in this run phase, 10 R186; reset 0 -/
  hbFrom : Nat
  /-- HEARTBEAT_LOST raised since the last edge, 10 R187; reset 0 -/
  hbLost : Bool
  /-- tick at which the identity probe was sent and is unanswered, 10 R187; reset none -/
  probeAt : Option Nat
  /-- CHIP_DOWN raised since the slot's last LINK_UP, 10 R187; reset 0 -/
  chipDown : Bool
  /-- ALARM asserted on W2, 13 R269; reset 0 -/
  alarm : Bool
  /-- keeper ports whose W1 the Buoy was told to leave out of stop_n: bit 0 principal, bit 1 relief, 13 R271; reset 0 -/
  masked : Nat
  /-- tick since which the masked W1 of a keeper port has followed its drive: of the principal's, of the relief's, 13 R271; reset none -/
  followSince : Option Nat × Option Nat
  /-- the last phase command pulse, 13 R265, R282; reset none -/
  pulse : Option PhasePulse
  /-- what a reset or a power action asks of the slot once the phase command under way is over, 13 R266; reset none -/
  nextStagger : Option StaggerThen
  /-- tick at which PWR_GOOD rose on W1, while it is high in stagger phase, 13 R268; reset none -/
  pwrGood : Option Nat
  /-- NOTE messages of the slot placed in gallery memory, 13 R394; reset 0 -/
  notes : Nat
  /-- serial that the other keeper accepted for the slot, 13 R279; reset none -/
  peerSerial : Option (Word × Word)
  /-- firmware digest that the slot's holder announced last, 48 bytes, 08 R159; reset none -/
  fw : Option (List Byte)
  /-- the other keeper has told that its link to the slot is up, 09 R163; reset 0 -/
  peerLink : Bool
  /-- class of the slot's last hang as its tender's record found it, 10 R188; reset none -/
  hang : Option HangClass
  /-- alarm code that the Buoy gave when it was last asked, 10 R188; reset none -/
  alarmCode : Option Nat
  deriving DecidableEq, Repr

def MorSlot.init : MorSlot :=
  { phase := 0, w0 := false, w1low := false, w1pull := false, maskFrom := 0, drv := false, enterRun := false, peerFault := 0, w2 := false, w3 := false, seq := none, powered := false, offMs := 0
    readyFrom := none, stopped := false, resumeAt := none, fenced := [], quarSlot := false, lastState := 0
    hbEdge := 0, hbFrom := 0, hbLost := false, probeAt := none, chipDown := false, alarm := false, masked := 0
    followSince := (none, none), pulse := none, nextStagger := none, pwrGood := none, notes := 0, peerSerial := none, fw := none, peerLink := false, hang := none, alarmCode := none }

/-- Who awaits a window reply (13 R281, 10 R187, R196). -/
inductive WinWho
  /-- a tender's load, with its rd -/
  | tender (i : Tender) (rd : Fin 32)
  /-- a tender's load of one half, with its rd: the upper half, sign-extended (18 R360) -/
  | half (i : Tender) (rd : Fin 32) (high signed : Bool)
  /-- a register read of a session: session, command number, place of the value in its body -/
  | sess (x : Sess) (num pos : Nat)
  /-- the identity probe -/
  | probe
  /-- the alarm code that the Standing Orders ask for (10 R188) -/
  | alarmCode
  /-- nobody any more: the tender that waited was reset -/
  | nobody
  /-- the stop state read at a takeover -/
  | stopState
  /-- the state read back for a command whose completion was not mirrored: session, command number, bits of the register, their value where the
  command had its effect (02 R20) -/
  | readback (x : Sess) (num : Nat) (mask want : Word)
  deriving DecidableEq, Repr

/-- One Buoy link (13 R274 to R281). -/
structure LinkSt where
  /-- next sequence number to send, 24 bits, R275; reset 0 -/
  txNext : Nat
  /-- frames sent and not acknowledged: sequence number and tick of the last sending, R275; reset empty -/
  unacked : List (Nat × Nat)
  /-- credits of each class, R277; reset 0 -/
  credits : Vector Nat 16
  /-- messages waiting for credit: class, kind and numbers, in issue order, R277; reset empty -/
  waiting : List (Nat × String × List Nat)
  /-- tick of the last valid frame, R276; reset 0 -/
  lastFrame : Nat
  /-- frames of the first waiting message of each class that have left, R277; reset 0 -/
  parts : Vector Nat 16
  /-- next sequence number expected from the peer: what was received in order ends below it, R275; reset 0 -/
  rxNext : Nat
  /-- a frame was discarded and nak sent, and the frame expected has not yet arrived, R275; reset 0 -/
  rxNak : Bool
  /-- lanes that lost lock while the other carried the traffic, each with the tick since which it has held lock again, R276; reset none -/
  lostLane : Vector (Option (Option Nat)) 2
  /-- the last identity announced, R278; reset none -/
  ident : Option Ident
  /-- an identity check has been made, R280; reset 0 -/
  checked : Bool
  /-- the last identity check agreed, R279; reset 0 -/
  agreed : Bool
  /-- the hold of a quarantine by identity, by version or by QUAR LINK is in force, R280; reset 0 -/
  hold : Bool
  /-- QUAR LINK is in force, 04 R86; reset 0 -/
  quarLink : Bool
  /-- window reads whose replies are awaited, oldest first: offset, tick, who waits, R281; reset empty -/
  windows : List (Nat × Nat × WinWho)
  /-- the link has been up and LINK_DOWN has not been raised since, R276; reset 0 -/
  serving : Bool
  deriving DecidableEq, Repr

def LinkSt.init : LinkSt :=
  { txNext := 0, unacked := [], credits := Vector.replicate 16 0, waiting := [], parts := Vector.replicate 16 0, rxNext := 0, rxNak := false, lastFrame := 0
    lostLane := Vector.replicate 2 none
    ident := none, checked := false, agreed := false, hold := false, quarLink := false, windows := [], serving := false }

structure MorSt where
  slots : Vector MorSlot 16
  ports : Vector LinkSt 16
  /-- next of the keeper's own 22 units to start and the tick at which it is due, 13 R273; reset 0 and none -/
  unit : Nat × Option Nat
  /-- the slot sequence has begun at this tick, 13 R273; reset none -/
  seqBase : Option Nat
  /-- STAGGER_DONE has been raised for the sequence, 13 R273; reset 0 -/
  seqDone : Bool
  /-- tick at which a slot was last started, 13 R273; reset none -/
  lastStart : Option Nat
  /-- the internal reset was released at this tick, 13 R264; reset none -/
  released : Option Nat
  /-- strap phase has ended, 13 R264; reset 0 -/
  strapsRead : Bool
  deriving DecidableEq, Repr

def MorSt.init : MorSt :=
  { slots := Vector.replicate 16 MorSlot.init, ports := Vector.replicate 16 LinkSt.init, unit := (0, none), seqBase := none
    seqDone := false, lastStart := none, released := none, strapsRead := false }

end Sys2Proof.Machine
end

