-- ==== Sys2Proof/Machine/St/Occ.lean ====
section
/-! DEFINITION. The state of the OCC block outside its registers: the scheduled stop and the dump sequencer (10 R189 to R203). -/

namespace Sys2Proof.Machine

/-- A unit of a dump: its table entry, what became of it and its data (10 R198, R201). -/
structure DumpUnit where
  /-- 16 bytes as read -/
  entry : List Byte
  /-- bytes that this dump reads of it -/
  want : Nat
  /-- none while unread; 0 READ_LINK, 1 READ_MOORING, 2 UNREADABLE, 3 SPACE, 4 ABORTED -/
  status : Option Nat
  data : List Byte
  deriving DecidableEq, Repr

/-- The dump of one slot (10 R197 to R203). -/
structure DumpSlot where
  /-- dump number -/
  seq : Nat
  live : Bool
  stopTick : Nat
  /-- beacon time at which it began -/
  start : Nat
  /-- the table has been read -/
  table : Option (List Byte)
  units : List DumpUnit
  /-- s and p of R200 -/
  s : Nat
  p : Nat
  /-- the mooring path is in use -/
  moor : Bool
  /-- neither path answered for the table -/
  unreachable : Bool
  /-- units that the mooring path has still to read, by position in the table; the table itself is 65535 -/
  retry : List Nat
  /-- an abort was asked for, R202 -/
  abort : Bool
  /-- the unit table as far as the mooring path has read it, R199 -/
  got : List Byte
  deriving DecidableEq, Repr

/-- A stop decided in a CCLK cycle (10 R195). -/
structure StopNow where
  /-- beacon tick of the decision -/
  tick : Nat
  mask : Nat
  ticket : Nat
  /-- the hardware path decided it -/
  hw : Bool
  deriving DecidableEq, Repr

structure OccSt where
  /-- slots that acknowledged the pending OCLT AT, 10 R193; reset 0 -/
  atAcked : Nat
  /-- dumps under way, 10 R197; reset none -/
  dumps : Vector (Option DumpSlot) 16
  /-- number of the next dump, keeper-wide, 10 R201; reset DESIGN CHOICE 1 -/
  dumpSeq : Nat
  /-- the read in flight: slot, position of its unit (65535 the table), tick of issue, 10 R197; reset none -/
  reading : Option (Slot × Nat × Nat)
  /-- slot served last, 10 R197; reset 15 -/
  last : Nat
  /-- ticket of the OCLT AT last scheduled, 10 R193; reset 0 -/
  atTicket : Nat
  /-- beacon tick and slots of the last stop that the hardware path decided, 10 R195; reset none -/
  trigAt : Option (Nat × Nat)
  /-- the last stop decided, 10 R195; reset none -/
  stopAt : Option StopNow
  deriving DecidableEq, Repr

def OccSt.init : OccSt :=
  { atAcked := 0, dumps := Vector.replicate 16 none, dumpSeq := 1, reading := none, last := 15, atTicket := 0, trigAt := none, stopAt := none }

end Sys2Proof.Machine
end

