-- ==== Sys2Proof/Machine/St/Out.lean ====
section
/-! DEFINITION. What the keeper sends: the messages that a command makes it put on a link, a wire, a pin or a bus. The list of
them is the model's own observer; no rule reads it. -/

namespace Sys2Proof.Machine

/-- What stands before the payload of a frame that leaves the Ethernet port: the source MAC, the VLAN tag (priority, VID), the MACsec tag (SCI, association
number, packet number, confidentiality), and the transport of a KCP frame of a session or a reply (16 R319, R321 to R323). -/
structure PortHead where
  src : Nat
  vlan : Option (Nat × Nat)
  sec : Option (Nat × Nat × Nat × Bool)
  via : Option KcpVia
  deriving DecidableEq, Repr

/-- One thing sent. -/
inductive Out
  /-- a frame that leaves the Ethernet port, with what stands before it -/
  | port (h : PortHead) (o : Out)
  /-- a session frame: session, the 40 bytes of its header, its encrypted body, the tag (16 R323, R325) -/
  | sessFrame (x : Nat) (header body tag : List Byte)
  /-- REFUSE, INFO or ACCEPT, whose trailer is zero: from the station address, the transport, header, body (16 R323, R324) -/
  | kcpFrame (station : Bool) (via : KcpVia) (header body : List Byte)
  /-- a notice frame to one subscriber's address: header, signed body (16 R335) -/
  | notice (addr : Nat) (header body : List Byte)
  /-- an item sent to the follower: row of R287, and the item -/
  | mirror (row : Nat) (m : MirrorMsg)
  /-- a copy sent to the follower in the class SNAPSHOT (14 R285, R295) -/
  | snapshot (m : MirrorMsg)
  /-- frames of the pair link sent again: first sequence number, count (14, 13 R275) -/
  | pairReplay (first count : Nat)
  /-- a health record of the relief, sent to the keeper in control (04 R64, 15 R308): its 120 ring bytes -/
  | healthRecord (bytes : List Byte)
  /-- a frame of the Lens port (09 R178) -/
  | lens (bytes : List Byte)
  /-- a message to the Buoy on a port: its kind, its 32-byte header and its numbers (13 R277); or a NAK or an IDLE frame, or a mooring exchange -/
  | buoy (port : Nat) (msg : String) (header : List Byte) (args : List Nat)
  /-- frames of a Buoy link sent again: port, first sequence number, count (13 R275) -/
  | replay (port first count : Nat)
  /-- a message over the pair link: its kind and its numbers (14) -/
  | pair (msg : String) (args : List Nat)
  /-- a time frame on W0 of a slot: the tick at which its mark pulse falls, its 80 bits (12 R245) -/
  | w0 (slot : Nat) (launch : Int) (frame : Nat)
  /-- the frame under way on a slot's W0 ends after so many of its cells, and W0 rests high (12 R247) -/
  | w0Cut (slot cells : Nat)
  /-- a pin of the keeper takes a level (19) -/
  | pin (name : String) (high : Bool)
  /-- a Delay_Req of a PTP domain: domain, sequence number, transmit stamp (12 R252, R253) -/
  | delayReq (d seq stamp : Nat)
  /-- a replication frame: association (0 the counterpart, 1 to 4 a restore source, 5 the pair link, 6 and up a requester served), the 64 bytes of its
  header, data (11 R228), and the KCP frame that carries them sealed on the port, empty on the pair link (16 R325) -/
  | scf (assoc : Nat) (header data frame : List Byte)
  /-- bytes that a DMA transfer gives to a destination port: its kind in [15:8] and index in [7:0] (17 R352) -/
  | dmaPort (port : Nat) (data : List Byte)
  /-- OPEN of an association with another keeper: its number, address kind and station address, UDP port, the frame's header, the 256 bytes of its body
  (11 R236) -/
  | assocOpen (assoc : Nat) (addr : List Byte) (port : Nat) (header body : List Byte)
  /-- a restore association ends (11 R236) -/
  | assocClose (assoc : Nat)
  /-- a reply to an address question, or a claim of the service address: IP version 6, address, MAC, gratuitous (16 R320, R321) -/
  | arp (v6 : Bool) (addr mac : Nat) (claim : Bool)
  /-- an address question for the next hop of a frame: IP version 6, address (16 R320) -/
  | neighbourAsk (v6 : Bool) (addr : Nat)
  /-- a transfer on the module's I²C bus (16 R318) or on PMBus (19 R380): what is read or written -/
  | i2c (what : String) (value : Nat)
  deriving DecidableEq, Repr

end Sys2Proof.Machine
end

