-- ==== Sys2Proof/Machine/St/Par.lean ====
section
/-! DEFINITION. The state of the pair of keepers (14 R284 to R299): role, control, the mirror queue and the health of the
peer. -/

namespace Sys2Proof.Machine

/-- The step that the keeper in control does not take until a mirrored item is acknowledged (14 R287). -/
inductive HeldStep
  /-- a logbook record may be put into event frames -/
  | record (seq : Nat)
  /-- an accepted session command is executed -/
  | cmdExec (x num : Nat)
  /-- a completion is reported -/
  | cmdReport (x num : Nat)
  /-- an accepted action drives the tray -/
  | actDrive (ticket : Nat)
  /-- the end of an action is delivered -/
  | actDeliver (ticket : Nat)
  /-- SCF_COMMIT is raised and COMMIT sent -/
  | scfCommit
  /-- PROGRAM_LOADED is raised -/
  | programLoaded (idx : Nat)
  /-- schedules are distributed under R157 -/
  | trsDistribute
  /-- ACCEPT is answered for a session -/
  | sessionAccept (x : Nat) (body : List Byte)
  /-- the next wire change of a slot -/
  | slotWire (slot : Nat)
  /-- an uncorrectable error that a block has met: keeper address, requester, its kind (17 R344) -/
  | memUe (a req rkind : Nat)
  /-- a READ_MEM command that waited for a DMA channel is run: session, number, address, length -/
  | readMem (x num addr len : Nat)
  /-- a pod notice leaves: kind, slot, time, mask -/
  | podNotice (kind slot time mask : Nat)
  /-- nothing is held for the item -/
  | nothing
  deriving DecidableEq, Repr

/-- An item mirrored and not yet acknowledged (14 R287). -/
structure MirrorItem where
  /-- row of the table of R287, from 0 -/
  row : Nat
  /-- what was sent, sent again where the link has come back -/
  msg : MirrorMsg
  held : HeldStep
  /-- beacon tick at which it was sent -/
  sentAt : Nat
  /-- MIRROR_LAG has been raised for it -/
  lagged : Bool
  deriving DecidableEq, Repr

/-- A message given to the pair link and not yet sent whole: its class, the frames still to leave, what it is (14 R285). -/
structure PairMsg where
  cls : Nat
  frames : Nat
  what : Out
  deriving DecidableEq, Repr

/-- The pair link's frames, which are those of R274 to R277 (14). -/
structure PairWire where
  /-- next sequence number to send, 24 bits, 13 R275; reset 0 -/
  txNext : Nat
  /-- frames sent and not acknowledged: sequence number and tick of the last sending, 13 R275; reset empty -/
  unacked : List (Nat × Nat)
  /-- credits of each class, 14 R285, 13 R277; reset 0 -/
  credits : Vector Nat 16
  /-- messages waiting for credit or for room in the replay buffer, in issue order, 14 R285; reset empty -/
  waiting : List PairMsg
  /-- next sequence number expected from the peer, 13 R275; reset 0 -/
  rxNext : Nat
  /-- a frame was discarded and nak sent, and the frame expected has not yet arrived, 13 R275; reset 0 -/
  rxNak : Bool
  /-- frames discarded, those of the reserved classes among them, 14 R285; reset 0 -/
  discarded : Nat
  deriving DecidableEq, Repr

def PairWire.init : PairWire :=
  { txNext := 0, unacked := [], credits := Vector.replicate 16 0, waiting := [], rxNext := 0, rxNak := false, discarded := 0 }

structure ParSt where
  /-- mirrored records whose places in the follower's ring are not free yet, oldest first, 15 R307; reset empty -/
  recWait : List (List Byte)
  /-- the frames of the pair link, 14 R285; reset idle -/
  wire : PairWire
  /-- level of PAIR_LIVE_OUT, 14 R284; reset 0 -/
  liveLevel : Bool
  /-- beacon tick at which PAIR_LIVE_OUT toggles next, while it toggles, 14 R284; reset none -/
  liveNext : Option Nat
  /-- the mirrored commit record, 14 R287, 11 R224; reset empty (none mirrored) -/
  commitMirror : List Byte
  /-- a live wire or a health word has appeared since strap phase ended, 14 R294; reset 0 -/
  peerSeen : Bool
  /-- the peer's health words: last state byte, and beacon tick of its arrival, 14 R286; reset none -/
  lastHealth : Option (Nat × Nat)
  /-- beacon tick of the last edge on PAIR_LIVE_IN while it toggles, 14 R284; reset none -/
  liveEdge : Option Nat
  /-- the live wire was lost, 14 R284; reset 0 -/
  liveLost : Bool
  /-- the peer's last health word in full, for the echo of R250: t1 and arrival t2 (12 R250); reset none -/
  lastT : Option (Nat × Nat)
  /-- items mirrored and not acknowledged, oldest first, 14 R287; reset empty -/
  queue : List MirrorItem
  /-- the peer follows and mirroring runs (in sync), 14 R287, R295; reset 0 -/
  mirroring : Bool
  /-- beacon tick since which the peer has been healthy, 14 R293; reset none -/
  healthySince : Option Nat
  /-- PEER_HEALTHY has been raised for this run of health, 14 R293; reset 0 -/
  healthyRaised : Bool
  /-- a handover ordered by PAR_CTL.yield or a role request waits for a quiet point, 14 R293; reset 0 -/
  yieldPending : Bool
  /-- this keeper asked for the role and awaits the handover, 14 R293; reset 0 -/
  roleAsked : Bool
  /-- both keepers hold control after the loss of both paths, 14 R292; reset 0 -/
  split : Bool
  /-- the failing word has been sent, 14 R286; reset 0 -/
  failing : Bool
  /-- cause of emergency-light mode that is established and not yet entered, 1 no image, 2 tender cluster, 3 both keepers lost their programs, 14 R297, 05 R90, 03 R56; reset 0 -/
  emergDue : Nat
  /-- PAIR_LINK_DOWN since this beacon tick, 14 R288; reset none -/
  downSince : Option Nat
  /-- strap phase ended at this beacon tick, 14 R294; reset none -/
  strapEnd : Option Nat
  /-- the failure of the keeper in control is established: 1 a failing word, 2 silence, 14 R289; reset none -/
  failedBy : Option Nat
  /-- PEER_LOST has been raised for this loss of the live wire, 14 R289; reset 0 -/
  wireTold : Bool
  /-- beacon times at which the last two health words left, newest first, 12 R250; reset empty -/
  sentT : List Nat
  /-- W0 rests high after a hand-over of control until the other keeper's word shows it in control, 14 R293; reset 0 -/
  gap : Bool
  /-- entries that each staging set held at the last mirrored PEG, 14 R287; reset empty (none mirrored) -/
  setCounts : List Nat
  /-- beacon tick since which this keeper, following, has met the conditions of health itself, 14 R293; reset none -/
  ownSince : Option Nat
  /-- images A and B, a bit each, that the responder has written since emergency-light mode was entered, 14 R298; reset 0 -/
  flashed : Nat
  deriving DecidableEq, Repr

def ParSt.init : ParSt :=
  { recWait := [], wire := PairWire.init, liveLevel := false, liveNext := none, commitMirror := [], peerSeen := false, lastHealth := none, liveEdge := none, liveLost := false, lastT := none, queue := [], mirroring := false
    healthySince := none, healthyRaised := false, yieldPending := false, roleAsked := false, split := false
    failing := false, emergDue := 0, downSince := none, strapEnd := none, failedBy := none, wireTold := false, sentT := [], gap := false, setCounts := [], ownSince := none
    flashed := 0 }

end Sys2Proof.Machine
end

