-- ==== Sys2Proof/Machine/St/Plb.lean ====
section
/-! DEFINITION. The state of the Plumb audit array (07 R125 to R147). -/

namespace Sys2Proof.Machine

/-- Where a Plumb op came from. -/
inductive PlbSrc
  /-- PLMB of a tender at a privilege, true for ORDER (04 R78) -/
  | issued (t : Tender) (prv : Bool)
  /-- an audit sample of a slot: core, bins, pages of operand SRAM, step (07 R135) -/
  | captured (n : Slot) (core bins pages step : Nat)
  /-- a self-test canary of a tile (07 R127, R140) -/
  | selfTest
  /-- the canary that the Standing Orders queue on a suspect core of a slot (07 R143) -/
  | suspect (n : Slot)
  deriving DecidableEq, Repr

/-- A Plumb op from its queueing to its completion (07 R128). -/
structure PlbOp where
  /-- ticket, 48 bits -/
  ticket : Nat
  /-- descriptor, 64 bytes -/
  desc : List Byte
  src : PlbSrc
  /-- tile it was directed to -/
  tile : Option (Fin 8)
  /-- copies in operand SRAM of A, B, C and the reported digest -/
  a : List Byte
  b : List Byte
  c : List Byte
  r : List Byte
  /-- the copies are usable: neither incomplete nor uncorrectable -/
  good : Bool
  /-- a confirming run: the first tile, its D and its digest -/
  first : Option (Fin 8 × List Byte × Nat)
  /-- a COMPARE that waits for the D of this ticket -/
  dOf : Option Nat
  /-- beacon tick at which it started -/
  startedAt : Nat
  /-- seed base of stochastic rounding taken when it started -/
  seed : Nat
  /-- digest key taken for it -/
  key : Nat
  /-- it was dequeued and validated, and its operands lie in operand SRAM: a run on another tile takes them as they are (07 R127) -/
  loaded : Bool
  /-- a canary whose gate has been met, or another op -/
  open_ : Bool
  deriving DecidableEq, Repr

/-- A result record that waits for ring space, with the events to raise once it is written: event, arg, payload, note (07 R142). -/
structure PlbRecord where
  tile : Fin 8
  bytes : List Byte
  event : Option (Nat × Nat × Word)
  noted : Bool
  ticket : Nat
  deriving DecidableEq, Repr

structure PlbTile where
  /-- in rotation; reset 0 -/
  inRot : Bool
  /-- reason why out, 3 bits; reset 5 -/
  reason : Nat
  /-- out under R126; reset 0 -/
  envelope : Bool
  /-- last temperature sample, °C, 8 bits; reset 0 -/
  temp : BitVec 8
  /-- last voltage sample, mV above 0.60 V, 8 bits; reset 0 -/
  volt : BitVec 8
  /-- started in the stagger (13), so that its sensors and self-test run; reset 0 -/
  started : Bool
  /-- ops completed, modulo 2^32; reset 0 -/
  ops : Nat
  /-- queued ops, head first, at most 64 besides confirming runs; reset empty -/
  queue : List PlbOp
  /-- op in progress; reset none -/
  running : Option PlbOp
  /-- beacon tick since which an out tile has stayed within the margins; reset none -/
  settled : Option Nat
  deriving DecidableEq, Repr

/-- A suspect marked by the Standing Orders (07 R143). -/
structure Suspect where
  bins : Nat
  /-- consecutive matches of the suspect engines -/
  matches_ : Nat
  /-- gated canaries passed -/
  passes : Nat
  deriving DecidableEq, Repr

structure PlbSt where
  /-- 8 tiles -/
  tiles : Vector PlbTile 8
  /-- next ticket, 48 bits, R135; reset DESIGN CHOICE 1 -/
  nextTicket : Nat
  /-- captured ops that wait in operand SRAM for a queue with space, R392; reset empty -/
  waiting : List PlbOp
  /-- result records that wait for ring space, in completion order, R142; reset empty -/
  records : List PlbRecord
  /-- pages reserved by each capture credit that a slot's Buoy holds, R132; reset empty -/
  credits : Vector (List Nat) 16
  /-- samples skipped since the last PLB_SAMPLE_SKIPPED of a slot, R134; reset 0 -/
  skips : Vector Nat 16
  /-- beacon tick of the last PLB_SAMPLE_SKIPPED of a slot, R134; reset none -/
  skipAt : Vector (Option Nat) 16
  /-- digest key in force, 128 bits, R139; reset 0 -/
  key : Nat
  /-- previous digest key, 128 bits, R139; reset 0 -/
  oldKey : Nat
  /-- a new key is in force while the previous one serves earlier steps (PLB_STATUS.key_pending), R139; reset 0 -/
  keyPending : Bool
  /-- beacon tick from which a key may be staged again, R139; reset 0 -/
  keyFreeAt : Nat
  /-- step of the last STEP_BOUNDARY each slot reported, R139; reset none -/
  boundary : Vector (Option Nat) 16
  /-- confirmed and unresolved mismatches not yet handled by the slot tender: payload ticket, core, bins, sample step, R143, 11 R225; reset empty -/
  mismatches : List (Nat × Nat × Nat × Nat)
  /-- suspects marked by the Standing Orders, R143; reset none -/
  suspects : Vector (Option Suspect) 16
  /-- bins of the last sample that each slot's Buoy sent, R136, R145; reset none -/
  bins : Vector (Option Nat) 16
  deriving DecidableEq, Repr

def PlbTile.init : PlbTile :=
  { inRot := false, reason := 5, envelope := false, temp := 0, volt := 0, started := false, ops := 0, queue := []
    running := none, settled := none }

def PlbSt.init : PlbSt :=
  { tiles := Vector.replicate 8 PlbTile.init, nextTicket := 1, waiting := [], records := []
    credits := Vector.replicate 16 [], skips := Vector.replicate 16 0, skipAt := Vector.replicate 16 none, key := 0
    oldKey := 0, keyPending := false, keyFreeAt := 0, boundary := Vector.replicate 16 none, mismatches := []
    suspects := Vector.replicate 16 none, bins := Vector.replicate 16 none }

end Sys2Proof.Machine
end

