-- ==== Sys2Proof/Machine/St/Scf.lean ====
section
/-! DEFINITION. The state of Scarf outside its registers, the commit record and the image slots (11 R210 to R238). -/

namespace Sys2Proof.Machine

/-- A segment record (11 R216). -/
structure SegRec where
  off : Nat
  stored : Nat
  raw : Nat
  grain : Nat
  tensor : Nat
  toff : Nat
  slot : Nat
  isRaw : Bool
  index : Nat
  digest : List Byte
  deriving DecidableEq, Repr

/-- A segment of the image in progress (11 R215, R230). -/
structure ScfSeg where
  rcd : SegRec
  /-- raw bytes, kept until the segment is durable -/
  data : List Byte
  durable : Bool
  /-- attempts at coding it -/
  tries : Nat
  /-- sent to the counterpart at this tick -/
  sentAt : Option Nat
  acked : Bool
  /-- the counterpart has asked for the segment again: sent with its data, R229, R230 -/
  noRef : Bool
  deriving DecidableEq, Repr

/-- The own image in progress (11 R213 to R223). -/
structure ScfImage where
  step : Nat
  seq : Nat
  /-- buddy tray at the boundary -/
  buddy : Nat
  /-- own image slot, 0 or 1 -/
  place : Nat
  /-- beacon time of the first boundary tag taken -/
  boundary : Nat
  /-- grains that each of the 16 slots held at the boundary -/
  grains : List Nat
  /-- image slots -/
  mask : Nat
  /-- the slot that carries the replicated tensors -/
  repl : Nat
  /-- slots whose tag has arrived -/
  tags : Nat
  /-- what the slots announced: slot, raw bytes, segments -/
  announced : List (Nat × Nat × Nat)
  /-- segments, by slot and then by index -/
  segs : List ScfSeg
  lgG : Nat
  jobId : Nat
  arrGen : Nat
  arrDigest : List Byte
  tuple : List Byte
  /-- the manifest once built and signed -/
  manifest : Option (List Byte)
  /-- beacon tick at which PREPARED was reached -/
  preparedAt : Option Nat
  /-- replicated in full, without SEG_REF -/
  full : Bool
  /-- the Buoys have been told to release their shards -/
  released : Bool
  /-- SCF_BUDDY_ACKED has been raised -/
  told : Bool
  /-- segments asked for and not yet sent by their Buoys, oldest request first: slot and index, R213, R227 -/
  asked : List (Nat × Nat)
  deriving DecidableEq, Repr

/-- A segment of the receiving buddy image (11 R230). -/
structure RecvSeg where
  no : Nat
  rcd : SegRec
  /-- bytes of its stored form received, by fragment: offset and length -/
  parts : List (Nat × Nat)
  /-- beacon tick of the last fragment -/
  last : Nat
  durable : Bool
  deriving DecidableEq, Repr

/-- The receiving or prepared buddy image (11 R230, R232). -/
structure ScfRecv where
  seq : Nat
  step : Nat
  /-- buddy image slot, 0 or 1 -/
  place : Nat
  segs : List RecvSeg
  /-- manifest fragments: offset and bytes -/
  parts : List (Nat × List Byte)
  /-- the manifest, once whole, verified and answered PREPARED -/
  prepared : Option (List Byte)
  deriving DecidableEq, Repr

/-- A source of a restore plan (11 R235 to R237). -/
structure RstSrc where
  /-- tray and strap of the keeper that holds the copy -/
  holder : Nat
  /-- tray whose image it is -/
  tray : Nat
  /-- it is that keeper's buddy copy -/
  copy : Bool
  /-- it is this keeper -/
  here : Bool
  /-- MANIFEST key of the image's maker -/
  key : List Byte
  /-- 0 opening, 1 fetching, 2 answered, 3 unreachable or refused -/
  phase : Nat
  /-- manifests fetched and still to be fetched: FETCH values -/
  asked : List Nat
  /-- fragments of the manifest that is arriving -/
  parts : List (Nat × List Byte)
  /-- manifests fetched, each with the image slot it stands in at a local source -/
  mans : List (List Byte × Nat)
  /-- beacon tick of the last frame -/
  last : Nat
  deriving DecidableEq, Repr

/-- A restore plan (11 R237). -/
structure RstPlan where
  addr : Nat
  desc : List Byte
  srcs : List RstSrc
  /-- the chosen step -/
  step : Option Nat
  deriving DecidableEq, Repr

/-- One copy of a segment that a load may take: the source (0 to 3 those of a plan, 8 this keeper's image slot, 9 the counterpart's buddy
copy, 10 the peer's image), the image slot where it is local, the manifest's step, image_seq and tray, the record number and the record. -/
structure SegCand where
  src : Nat
  place : Nat
  step : Nat
  seq : Nat
  tray : Nat
  no : Nat
  rcd : SegRec
  deriving DecidableEq, Repr

/-- A segment that a load still has to send: to these slots, from one of these copies in order. -/
structure LoadItem where
  dests : Nat
  cands : List SegCand
  deriving DecidableEq, Repr

/-- A rollback or restore under way (11 R234, R238). -/
structure ScfLoad where
  ticket : Nat
  restore : Bool
  mask : Nat
  items : List LoadItem
  /-- stored bytes of the segment being fetched, by fragment; none while nothing is fetched -/
  fetch : Option (List (Nat × List Byte))
  /-- the peer's manifest is being fetched for a rollback under R233: fragments -/
  peerMan : Option (List (Nat × List Byte))
  /-- slots that have not acknowledged -/
  left : Nat
  /-- beacon tick of the last answer -/
  last : Nat
  deriving DecidableEq, Repr

/-- An association with another keeper: its number (0 the counterpart's, 1 to 4 the sources of a plan, 6 and up requesters served), the OPEN body
and the ephemeral private key of a side that awaits ACCEPT, the keys once it is open, which side this keeper is, the frames it has sent (11 R236,
16 R325, R326, R335). -/
structure ScfAssoc where
  no : Nat
  body : List Byte
  eph : Nat
  keyIn : List Byte
  keyOut : List Byte
  initiator : Bool
  sent : Nat
  deriving DecidableEq, Repr

/-- A restore association that this keeper serves: its number, the tick of the last frame, whether the buddy copy was asked for last, the tray that asks
(11 R236). -/
structure ScfServed where
  no : Nat
  last : Nat
  copy : Bool
  tray : Nat
  deriving DecidableEq, Repr

structure ScfSt where
  /-- the own image in progress, R222; reset none -/
  img : Option ScfImage
  /-- an image COMMITTING while the next one ingests, R223; reset none -/
  awaiting : Option ScfImage
  /-- the committed own image has not been checked since a restart, R224; reset 0 -/
  unchecked : Bool
  /-- an image that a restart discarded: step, image_seq, slots whose Buoys still hold its shard, and whether ABORT is still to go, R226; reset none -/
  dropped : Option (Nat × Nat × Nat × Bool)
  /-- associations with other keepers, R236; reset empty -/
  assocs : List ScfAssoc
  /-- image_seq of the next image, R218; reset DESIGN CHOICE 1 -/
  nextSeq : Nat
  /-- step whose boundary was last skipped, R15; reset none -/
  skipped : Option Nat
  /-- the buddy image being received, R230; reset none -/
  recv : Option ScfRecv
  /-- the buddy tray in force, R9; reset none -/
  buddy : Option Nat
  /-- the counterpart's MANIFEST key from its attestation, R230; reset none -/
  buddyKey : Option (List Byte)
  /-- the counterpart in force has been reported lost and has not answered a HELLO since, R232; reset 0 -/
  lostTold : Bool
  /-- beacon tick of the last frame from the counterpart, R232; reset 0 -/
  lastRx : Nat
  /-- beacon tick of the last frame sent to it, R229; reset 0 -/
  lastTx : Nat
  /-- a HELLO is unanswered since this tick, R232; reset none -/
  helloAt : Option Nat
  /-- the next image is sent in full, R231; reset 1 -/
  needFull : Bool
  /-- records of the image that COMMITTED last acknowledged, R231; reset empty -/
  refs : List SegRec
  /-- step for which the other keeper reported PREPARED, R223; reset none -/
  peerPrepared : Option Nat
  /-- step of an image that the other keeper committed and this one did not, R233; reset none -/
  peerStep : Option Nat
  /-- the other keeper has reported the loss of its counterpart, R233; reset 0 -/
  peerBuddyLost : Bool
  /-- the restore plan, R237; reset none -/
  plan : Option RstPlan
  /-- the rollback or restore under way, R234, R238; reset none -/
  load : Option ScfLoad
  /-- restore associations that this keeper serves, R236; reset empty -/
  served : List ScfServed
  /-- the committed buddy image has segments on a lost channel, 17 R348; reset 0 -/
  buddyGap : Bool
  /-- manifests on a lost channel that are fetched again: image slot and fragments, 17 R348; reset empty -/
  refetch : List (Nat × List (Nat × List Byte))
  /-- replication frames sent since the last one stamped, 16 "Associations"; reset DESIGN CHOICE 0 -/
  stampIn : Nat
  deriving DecidableEq, Repr

/-- The image that has committed and awaits COMMITTED: behind the one in progress, or else the image itself (R223). -/
def ScfSt.committing (x : ScfSt) : Option ScfImage := x.awaiting.or x.img

def ScfSt.init : ScfSt :=
  { img := none, awaiting := none, unchecked := false, dropped := none, assocs := [], nextSeq := 1, skipped := none, recv := none, buddy := none, buddyKey := none, lostTold := false, lastRx := 0, lastTx := 0
    helloAt := none, needFull := true, refs := [], peerPrepared := none, peerStep := none, peerBuddyLost := false, plan := none
    load := none, served := [], buddyGap := false, refetch := [], stampIn := 0 }

end Sys2Proof.Machine
end

