-- ==== Sys2Proof/Machine/St/Sec.lean ====
section
/-! DEFINITION. The state of the security block and of boot flash (04 R79, R80; 18 R364 to R369). -/

namespace Sys2Proof.Machine

/-- A request queued in the security block (04 R79). -/
inductive SecKind
  /-- DGST: source, length, context, destination, init, final -/
  | dgst (src len ctx dst : Nat) (init final : Bool)
  /-- SIGN: digest address, key slot, destination -/
  | sign (digest key dst : Nat)
  /-- VRFY: digest address, key slot or key address, signature address -/
  | vrfy (digest : Nat) (slotKey : Bool) (key sig : Nat)
  deriving DecidableEq, Repr

/-- One queued request with the tender that waits for it and its rd. -/
structure SecReq where
  tender : Tender
  rd : Fin 32
  kind : SecKind
  deriving DecidableEq, Repr

/-- One entry of an owner record (18 R366): index, privilege, TENANT slot mask, 97-byte public key. -/
structure OwnerKey where
  index : Nat
  priv : Nat
  slots : Nat
  key : List Byte
  deriving DecidableEq, Repr

/-- An owner record (18 R366). -/
structure OwnerRecord where
  generation : Nat
  serial : List Byte
  prev : List Byte
  entries : List OwnerKey
  digest : List Byte
  sig : List Byte
  deriving DecidableEq, Repr

/-- A floor record (18 R367): 32 entries of program_id and floor, and the count. -/
structure FloorRecord where
  entries : Vector (Option (Nat × Nat)) 32
  count : Nat
  deriving DecidableEq, Repr

def FloorRecord.empty : FloorRecord := ⟨Vector.replicate 32 none, 0⟩

/-- What a boot flash write in progress will put into flash when it completes (18 R363). -/
inductive FlashWrite
  | owner (r : OwnerRecord)
  | floor (r : FloorRecord)
  | hour (pcc hours : Nat)
  /-- bytes of the flash map at an offset -/
  | bytes (off : Nat) (data : List Byte)
  deriving DecidableEq, Repr

/-- Boot flash (18 R364): the images as bytes at their flash offsets, the records by their contents. -/
structure FlashSt where
  /-- bytes of the flash map that the spec lays out (images A and B, owner configuration, stored programs), canonical list of (offset, byte), unlisted bytes 0xFF, 18 R364; reset DESIGN CHOICE empty -/
  bytes : List (Nat × Byte)
  /-- owner record in flash, 18 R364; reset DESIGN CHOICE none -/
  owner : Option OwnerRecord
  /-- floor record copies 0 and 1, 18 R364, R367; reset DESIGN CHOICE the empty record and none -/
  floors : Option FloorRecord × Option FloorRecord
  /-- hour sector: power-cycle count, 15 R313; reset DESIGN CHOICE 0 -/
  pcc : Nat
  /-- hour sector: operating hours, 15 R313; reset DESIGN CHOICE 0 -/
  hours : Nat
  /-- vendor key 1 revocation record present, 18 R367; reset DESIGN CHOICE false -/
  revoked : Bool
  /-- writes in progress, oldest first, 18 R363; reset empty -/
  writing : List FlashWrite
  deriving DecidableEq, Repr

structure SecSt where
  /-- queued DGST, SIGN and VRFY requests, in order of issue, 04 R79; reset empty -/
  queue : List SecReq
  /-- owner record in force, 18 R366; reset none -/
  owner : Option OwnerRecord
  /-- floor record in force, 18 R367; reset empty -/
  floor : FloorRecord
  flash : FlashSt
  /-- a warm reset ordered through GLB_RESET waits for boot flash writes until this beacon tick, 18 R363; reset none -/
  warmWait : Option Nat
  deriving DecidableEq, Repr

def SecSt.init : SecSt :=
  { queue := [], owner := none, floor := FloorRecord.empty, warmWait := none
    flash := { bytes := [], owner := none, floors := (some FloorRecord.empty, none), pcc := 0, hours := 0
               revoked := false, writing := [] } }

end Sys2Proof.Machine
end

