-- ==== Sys2Proof/Machine/St/Trc.lean ====
section
/-! DEFINITION. The state of the ledger, of trace, of the Lens port and of sightings (09 R163 to R185). -/

namespace Sys2Proof.Machine

/-- An open ledger entry (09 R164); its position is engine × 16 + entry index. -/
structure LdgEntry where
  pos : Nat
  begin_ : Nat
  cseq : Nat
  ctx : Nat
  tclass : Nat
  timedOut : Bool
  deriving DecidableEq, Repr

structure LdgSlot where
  /-- open entries in ascending position, R165; reset empty -/
  entries : List LdgEntry
  /-- engines with untracked commands and their counts, R165; reset empty -/
  untracked : List (Nat × Nat)
  deriving DecidableEq, Repr

structure LdgSt where
  /-- 16 slots of 16,384 entries each, R164 -/
  slots : Vector LdgSlot 16
  deriving DecidableEq, Repr

def LdgSt.init : LdgSt := ⟨Vector.replicate 16 ⟨[], []⟩⟩

/-- A record of a trace stream before it is coded (09 R169). -/
structure TrcRec where
  /-- raw type: 1 BEGIN, 2 END, 3 MARK, 5 ANCHOR, 6 TRIGGER, 7 COUNTER -/
  type : Nat
  engine : Nat
  ctx : Nat
  /-- full beacon time -/
  time : Nat
  cseq : Nat
  arg : Nat
  /-- COUNTER: coincident, cmd_cycles, done, busy -/
  counter : Option (Bool × Nat × Nat × Nat)
  deriving DecidableEq, Repr

/-- Records lost: count, full times of the first and last, cause (09 R174). -/
structure TrcLoss where
  count : Nat
  first : Nat
  last : Nat
  cause : Nat
  deriving DecidableEq, Repr

/-- One record in the staging buffer (09 R173). -/
structure TrcStaged where
  bytes : List Byte
  /-- in the trigger reserve -/
  reserve : Bool
  /-- the record, none for a GAP -/
  rcd : Option TrcRec
  /-- PCLK cycle in which it was staged -/
  at_ : Nat
  /-- it was received, and stands in the list of what a follower counts -/
  recv : Bool
  deriving DecidableEq, Repr

/-- The last record of an engine in a stream, for the delta form (09 R170). -/
structure TrcPrev where
  engine : Nat
  cseq : Nat
  core : Nat
  /-- command kind of its last BEGIN, if it had one -/
  kind : Option Nat
  deriving DecidableEq, Repr

structure TrcSlot where
  /-- records staged and not yet in the segment, oldest first, R173; reset empty -/
  staged : List TrcStaged
  /-- engines' previous records since the last GAP or enabling, R170; reset empty -/
  prev : List TrcPrev
  /-- full time of the previous record of the stream, R170; reset none -/
  lastTime : Option Nat
  /-- the stream drops records, R174; reset none -/
  loss : Option TrcLoss
  /-- an open trigger window and the records it may still take, R175; reset none -/
  window : Option Nat
  /-- a window that ended and is draining: number of the staged record whose landing frees the reserve, R176; reset none -/
  draining : Option Nat
  /-- the flight recorder is frozen and its window has ended, so the stream takes no records, R177; reset 0 -/
  stopped : Bool
  /-- the flight recorder's segment is frozen, R177; reset 0 -/
  frozen : Bool
  /-- triggers fired, R169; reset 0 -/
  triggers : Nat
  /-- cause bits of the last trigger, 4 bits; reset 0 -/
  cause : Nat
  /-- records staged since reset, R176; reset 0 -/
  nStaged : Nat
  /-- records landed in the segment since reset, R176; reset 0 -/
  nLanded : Nat
  /-- while this keeper follows: full times of the records received after the last mirrored drain point, oldest first, R172; reset empty -/
  heard : List Nat
  /-- PCLK cycle of the last TRIGGER record, R175; reset none -/
  trigAt : Option Nat
  /-- records received since the last mirrored drain point, oldest first: landed or dropped, or still staged, R172; reset empty -/
  recv : List Bool
  deriving DecidableEq, Repr

/-- One stream of the Lens port (09 R178). -/
structure LensStream where
  credits : Nat
  /-- frames sent: sequence of the next -/
  seq : Nat
  /-- the open frame: its slot and its records -/
  frame : Option (Nat × List Byte)
  loss : Option TrcLoss
  deriving DecidableEq, Repr

/-- A sighting reservation of one holder (09 R180). -/
structure SightRes where
  slot : Nat
  offset : Nat
  bytes : Nat
  received : Nat
  deriving DecidableEq, Repr

structure TrcSt where
  /-- 16 streams -/
  slots : Vector TrcSlot 16
  /-- drain position of each of the four drain channels: the slot served last, R172; reset 0 -/
  turn : Vector Nat 4
  /-- 4 Lens streams; reset no credits -/
  lens : Vector LensStream 4
  /-- second of the last ANCHOR tick, R171; reset 0 -/
  anchorSec : Nat
  /-- beacon tick at which the next counter sample falls due, R182; reset 0 -/
  sampleDue : Nat
  /-- previous counter sample of an engine: slot × 1024 + engine, done, busy, R184; reset empty -/
  prevCnt : List (Nat × Nat × Nat)
  /-- reservations of the 8 sighting requests, R180; reset empty -/
  sights : Vector (List SightRes) 8
  deriving DecidableEq, Repr

def TrcSlot.init : TrcSlot :=
  { staged := [], prev := [], lastTime := none, loss := none, window := none, draining := none, stopped := false, frozen := false
    triggers := 0, cause := 0, nStaged := 0, nLanded := 0, heard := [], trigAt := none, recv := [] }

def TrcSt.init : TrcSt :=
  { slots := Vector.replicate 16 TrcSlot.init, turn := Vector.replicate 4 0
    lens := Vector.replicate 4 ⟨0, 0, none, none⟩, anchorSec := 0, sampleDue := 0, prevCnt := []
    sights := Vector.replicate 8 [] }

end Sys2Proof.Machine
end

