-- ==== Sys2Proof/Machine/St/Trs.lean ====
section
/-! DEFINITION. The state of the TRS block: the job objects and the arrangements (08 R148 to R162). -/

namespace Sys2Proof.Machine

/-- A truss map and format plan taken together (08 R151, R152). -/
structure TrsJob where
  lgG : Nat
  jobId : Nat
  /-- digest field of the truss map image -/
  mapDigest : List Byte
  /-- digest of the format plan image with its seed field read as zero (R159) -/
  planDigest : List Byte
  /-- RNG seed base -/
  seed : Nat
  /-- storage format of each tensor (R152) -/
  formats : List (Nat × Nat)
  deriving DecidableEq, Repr

/-- An arrangement: its generation, its first step, the holder of each grain (08 R153, R157). -/
structure Arrangement where
  gen : Nat
  step : Nat
  table : List Nat
  deriving DecidableEq, Repr

structure TrsSt where
  /-- the loaded truss map and format plan, R151; reset none -/
  job : Option TrsJob
  /-- data-order digest supplied by BIND_JOB, 48 bytes, R159; reset none -/
  dataOrder : Option (List Byte)
  /-- the arrangement in force at the last boundary, R157; reset none -/
  active : Option Arrangement
  /-- the arrangement that awaits its step, R157; reset none -/
  pending : Option Arrangement
  /-- the last generation assigned, 32 bits, R157; reset 0 -/
  lastGen : Nat
  /-- step of the last boundary taken, R158; reset none -/
  lastBoundary : Option Nat
  deriving DecidableEq, Repr

def TrsSt.init : TrsSt := ⟨none, none, none, none, 0, none⟩

end Sys2Proof.Machine
end

