-- ==== Sys2Proof/Machine/State.lean ====
section
/-! DEFINITION. The state of the keeper as plain data, and the state after reset. -/

namespace Sys2Proof.Machine

/-- The reasons a step can stop with a fault: none. Every trap, halt, shutdown and loss the spec describes is a next state. -/
inductive Fault
  /-- raised by no command; the type needs a name for the host's interface. Safe: no meaning answers it -/
  | noFault
  deriving DecidableEq, Repr

/-- The reasons a step can refuse a command. -/
inductive Refusal
  /-- raised by an arm of exec whose command has no meaning yet. Safe -/
  | notModelled (mnemonic : String)
  deriving DecidableEq, Repr

/-- The pins and the resets of the keeper (19 R373 to R385). -/
structure ClkSt where
  /-- PWROK, 1 bit, 19 R384; reset 1 -/
  pwrok : Bool
  /-- WARM_RESET_L at its high level, 1 bit, 19 R384; reset 1 -/
  warmHigh : Bool
  /-- PAIR_ROLE strap: 0 principal, 1 relief, 01 R7; reset DESIGN CHOICE principal -/
  relief : Bool
  /-- TEST_MODE high, 1 bit, 19 R377; reset 0 -/
  testMode : Bool
  /-- beacon tick at which WARM_RESET_L last rose, 19 R384; reset none -/
  riseAt : Option Nat
  /-- REFCLK within its limits, 1 bit, 19 R383; reset 1 -/
  refclk : Bool
  /-- internal reset held, 1 bit, 19 R384; reset 1 -/
  held : Bool
  /-- the reset's release waits for a PCLK edge, 1 bit, 12 R390; reset 0 -/
  releasing : Bool
  /-- THERM_TRIP_L driven low, 1 bit, 19 R388; reset 0 -/
  thermTrip : Bool
  /-- a thermal trip has fired and its shutdown follows at this beacon tick, 19 R388; reset none -/
  tripAt : Option Nat
  /-- blocks stopped by a thermal shutdown, 19 R388; reset 0 -/
  shutDown : Bool
  /-- VDD_CORE set point in mV, 19 R380; reset 750 -/
  vdd : Nat
  /-- beacon tick of the last change of the set point, 19 R380; reset none -/
  vddAt : Option Nat
  deriving DecidableEq, Repr

structure State where
  /-- the beacon, 64 bits, 12 R241; reset 0 -/
  beacon : Nat
  clk : ClkSt
  /-- 24 tenders -/
  tnd : Vector TenderSt 24
  evt : EvtSt
  /-- 64 staging sets of up to 64 entries, 04 R70; reset empty -/
  sets : Vector (List Staged) 64
  prog : ProgSt
  act : ActSt
  log : LogSt
  sec : SecSt
  kcp : KcpSt
  par : ParSt
  plb : PlbSt
  trs : TrsSt
  ldg : LdgSt
  trace : TrcSt
  mor : MorSt
  occ : OccSt
  bcn : BcnSt
  scf : ScfSt
  mc : MemSt
  dma : DmaSt
  /-- register space: the registers that differ from their reset value, canonical list of (offset, value) -/
  regs : List (Nat × Word)
  /-- memory: the bytes that are not zero, canonical list of (keeper address, byte), 03 R36 -/
  mem : List Host.Cell
  /-- keeper addresses, in 64-byte lines, whose data has an uncorrectable error, 17 R344; reset empty -/
  poison : List Nat
  /-- the model's own: steps released by a command and not yet taken; empty between commands -/
  ready : List HeldStep
  /-- the model's own: what has been sent, newest first -/
  out : List Out
  /-- the model's own: number of free values drawn; reset DESIGN CHOICE 0 -/
  draws : Nat
  /-- commands waiting, first in first out -/
  pending : List Instr
  deriving DecidableEq, Repr

/-- The keeper right after PWROK has risen, with the internal reset held (19 R384). Memory lists the one byte that is not zero:
LOG_NEXT, which reads 1 at reset (15 R316), stands in retained SRAM at 0x203C_0208 (17 R340). -/
def State.reset : State :=
  { beacon := 0
    clk := { pwrok := true, warmHigh := true, relief := false, testMode := false, riseAt := none, refclk := true, held := true, releasing := false, thermTrip := false
             tripAt := none, shutDown := false, vdd := 750, vddAt := none }
    tnd := Vector.replicate 24 TenderSt.init
    evt := EvtSt.init
    sets := Vector.replicate 64 []
    prog := ProgSt.init
    act := ActSt.init
    log := LogSt.init
    sec := SecSt.init
    kcp := KcpSt.init
    par := ParSt.init
    plb := PlbSt.init
    trs := TrsSt.init
    ldg := LdgSt.init
    trace := TrcSt.init
    mor := MorSt.init
    occ := OccSt.init
    bcn := BcnSt.init
    scf := ScfSt.init
    mc := MemSt.init
    dma := DmaSt.init
    regs := []
    mem := [(0x203C0208, 1)]
    poison := []
    ready := []
    out := []
    draws := 0
    pending := [] }

end Sys2Proof.Machine
end

