-- ==== Sys2Proof/Machine/Ops.lean ====
section
/-! DEFINITION. The named operations over memory, registers and tenders: the only places that read or write the sparse lists,
the general registers and the register fields. -/

namespace Sys2Proof.Machine

/-! ### Sparse lists in one canonical form -/

/-- The value at a key of a sparse list, `d` where none is listed. -/
def spGet {α : Type} (d : α) : List (Nat × α) → Nat → α
  | [], _ => d
  | (a, v) :: m, k => if k < a then d else if k = a then v else spGet d m k

/-- The sparse list with the value at a key set; a value equal to `d`, the key's default, leaves no entry. -/
def spPut {α : Type} [DecidableEq α] (d : α) : List (Nat × α) → Nat → α → List (Nat × α)
  | [], k, v => if v = d then [] else [(k, v)]
  | (a, w) :: m, k, v =>
    if k < a then (if v = d then (a, w) :: m else (k, v) :: (a, w) :: m)
    else if k = a then (if v = d then m else (k, v) :: m)
    else (a, w) :: spPut d m k v

/-- The canonical form: keys strictly rising, no entry equal to its key's default. -/
def spWf {α : Type} [DecidableEq α] (d : Nat → α) : List (Nat × α) → Bool
  | [] => true
  | [(a, v)] => decide (v ≠ d a)
  | (a, v) :: (b, w) :: m => decide (v ≠ d a) && decide (a < b) && spWf d ((b, w) :: m)

/-- Memory is in canonical form. -/
def Memory.wf (m : List Host.Cell) : Bool := spWf (fun _ => (0 : Byte)) m

/-- The register file is in canonical form. -/
def Regs.wf (m : List (Nat × Word)) : Bool := spWf regReset m

namespace State

/-! ### Memory (03 R36, 00 R2) -/

/-- The byte at a keeper address; an unlisted byte reads zero (17 R339 for gallery memory and retained SRAM). -/
def rdByte (s : State) (a : Nat) : Byte := spGet 0 s.mem a

/-- The state with one byte of memory written. -/
def wrByte (s : State) (a : Nat) (b : Byte) : State := { s with mem := spPut 0 s.mem a b }

/-- `n` bytes from an address on. -/
def rdBytes (s : State) (a n : Nat) : List Byte := (List.range n).map (fun i => s.rdByte (a + i))

/-- The state with a list of bytes written from an address on. -/
def wrBytes (s : State) (a : Nat) : List Byte → State
  | [] => s
  | b :: bs => wrBytes (s.wrByte a b) (a + 1) bs

/-- The little-endian number of `n` bytes at an address. -/
def rdNat (s : State) (a n : Nat) : Nat := leNat (s.rdBytes a n)

/-- The state with a number stored little-endian over `n` bytes. -/
def wrNat (s : State) (a n x : Nat) : State := s.wrBytes a (leBytes x n)

/-! ### Registers of register space: the stored values -/

/-- The stored value of the register at an offset. -/
def reg (s : State) (off : Nat) : Word := spGet (regReset off) s.regs off

/-- The state with a register's stored value set. -/
def setReg (s : State) (off : Nat) (v : Word) : State := { s with regs := spPut (regReset off) s.regs off v }

/-- The value of a named field, instance 0 unless one is named. -/
def f (s : State) (x : Fld) (i : Nat := 0) : Nat := bits (s.reg (x.base + x.stride * i)).toNat x.lo x.len

/-- A named field of one bit, as a Bool. -/
def fb (s : State) (x : Fld) (i : Nat := 0) : Bool := s.f x i = 1

end State

/-- A word with the field at `lo` of `len` bits replaced. -/
def putField (w : Word) (lo len v : Nat) : Word :=
  (w &&& ~~~ (BitVec.ofNat 64 (place (2 ^ len - 1) lo len))) ||| BitVec.ofNat 64 (place v lo len)

namespace State

/-- The state with a named field set. -/
def setF (s : State) (x : Fld) (v : Nat) (i : Nat := 0) : State :=
  let off := x.base + x.stride * i
  s.setReg off (putField (s.reg off) x.lo x.len v)

/-- The state with a named one-bit field set. -/
def setFb (s : State) (x : Fld) (v : Bool) (i : Nat := 0) : State := s.setF x (b2n v) i

/-- The state with a named counter raised, saturating at its width (the counters whose Meaning says "saturates"). -/
def bump (s : State) (x : Fld) (k : Nat := 1) (i : Nat := 0) : State :=
  s.setF x (satAdd (s.f x i) k (2 ^ x.len - 1)) i

/-! ### Tenders -/

/-- The state of a tender. -/
def t (s : State) (i : Tender) : TenderSt := s.tnd[i]

/-- The state with one tender's state replaced. -/
def setT (s : State) (i : Tender) (x : TenderSt) : State := { s with tnd := s.tnd.set i x }

/-- The state with one tender's state changed. -/
def updT (s : State) (i : Tender) (h : TenderSt → TenderSt) : State := s.setT i (h (s.t i))

/-- A general register; g0 reads as zero (03 R35). -/
def g (s : State) (i : Tender) (r : Fin 32) : Word := if r = 0 then 0 else (s.t i).g[r]

/-- The state with a general register written; writes to g0 are discarded (03 R35). -/
def setG (s : State) (i : Tender) (r : Fin 32) (v : Word) : State :=
  if r = 0 then s else s.updT i (fun x => { x with g := x.g.set r v })

/-! ### Free values and what is sent -/

/-- A free value and the state with one more drawn. -/
def draw (s : State) : Nat × State := (Config.freeNat s.draws, { s with draws := s.draws + 1 })

/-- The state with a message sent. -/
def send (s : State) (o : Out) : State := { s with out := o :: s.out }

/-- The state with a step released, to be taken at the end of the command. -/
def release (s : State) (h : HeldStep) : State := { s with ready := s.ready ++ [h] }

/-! ### Beacon time (00 "Pseudocode", 12 R241) -/

/-- Ticks of a microsecond: 1,600. -/
def tickUs : Nat := 1600

/-- Ticks of a millisecond. -/
def tickMs : Nat := 1600000

/-- Ticks of a second. -/
def tickS : Nat := 1600000000

/-- The beacon value at which the current PCLK cycle begins, a multiple of 8 (15 R300, 12 R390). -/
def pclkTime (s : State) : Nat := s.beacon / 8 * 8

/-! ### Roles -/

/-- This keeper is in control (14 R299, PAR_STATUS.control). -/
def control (s : State) : Bool := s.fb F.PAR_STATUS_control

/-- Emergency-light mode (14 R297, GLB_STATUS.emergency). -/
def emergency (s : State) : Bool := s.fb F.GLB_STATUS_emergency

/-- The owner program that runs on a tender: the version being replaced there until its replacement takes effect (05 R92). -/
def progOf (s : State) (i : Tender) : Option Program :=
  (s.t i).old.orElse (fun _ => (s.t i).prog.bind (fun p => s.prog.owned[Fin.ofNat 16 p]))

/-- An arming entry is valid and has not expired: it stays armed to the end of the PCLK cycle in which the beacon reaches its expiry (05 R102,
R103). -/
def armLive (s : State) (a : ArmEntry) : Bool := a.valid && decide (s.pclkTime ≤ a.expiry / 8 * 8)

/-- A tender executes instructions or sleeps in WAIT: neither halted nor in reset (18, TND_STATUS.running). -/
def alive (s : State) (i : Tender) : Bool :=
  match (s.t i).run with
  | .halted => false
  | .inReset => false
  | _ => true

end State

/-- The slot tender of a slot, and the tender with a number. -/
def tenderOf (n : Nat) : Tender := Fin.ofNat 24 n

/-- Every tender, lowest first. -/
def allTenders : List Tender := List.finRange 24

end Sys2Proof.Machine
end

