-- ==== Sys2Proof/Machine/PairLink.lean ====
section
/-! DEFINITION. The pair link (14 R285): message classes, frames, credits and replay, which are those of the Buoy link (13 R274 to R277). -/

namespace Sys2Proof.Machine

/-- Bytes of what an item holds. DESIGN CHOICE: 64 for an item of single values. -/
def MirrorMsg.len : MirrorMsg → Nat
  | .record b | .commit b | .program b | .dumpIndex b | .health b | .copied _ b | .completion _ _ _ b => b.length
  | .truss _ _ m p => m.length + p.length
  | .arrangement _ _ t _ => 2 * t.length
  | .stFields l => 24 * l.length
  | .session _ p => 128 + (p.window.map (fun f => 32 + f.body.length)).foldl (· + ·) 0
  | .ledger _ e u => 16 * e.length + 8 * u.length
  | .drained _ g => 2 * g.length
  | _ => 64

/-- The class in which an item travels (14 R285). DESIGN CHOICE: the class of an item that the table does not name. -/
def MirrorMsg.cls : MirrorMsg → Nat
  | .wireFault .. | .proxyAlarm _ | .proxyHeartbeat _ | .proxyEcho .. => 2
  | .link .. => 3
  | .ledger .. | .drained .. | .copied .. | .copyAsk .. | .copy _ => 4
  | _ => 1

/-- The class of what is sent over the pair link: 0 HEALTH, 1 MIRROR, 2 PROXY, 3 FORWARD, 4 SNAPSHOT (14 R285). DESIGN CHOICE: MIRROR for what the table
does not name. -/
def pairClass : Out → Nat
  | .pair msg _ =>
    if msg ∈ ["HEALTH", "ROLE_REQUEST", "ROLE_REFUSED", "HANDOVER"] then 0
    else if msg ∈ ["PROXY", "WIRE_FAULT", "W1_STUCK", "ALARM", "HEARTBEAT", "ECHO"] then 2
    else if msg ∈ ["FORWARD", "LINK", "SEGMENT"] then 3
    else if msg ∈ ["COPY", "MIRROR_COPY", "LOAD_COPY"] then 4
    else 1
  | .mirror _ m => MirrorMsg.cls m
  | .snapshot _ => 4
  | .scf .. => 3
  | _ => 1

/-- Bytes of a message's body. DESIGN CHOICE: 8 for each number of a message whose body the spec does not lay out. -/
def pairLen : Out → Nat
  | .pair msg args => if msg = "HEALTH" then 32 else if msg = "SEGMENT" then args.length else 8 * args.length
  | .mirror _ m => MirrorMsg.len m
  | .snapshot m => MirrorMsg.len m
  | .scf _ h d _ => h.length + d.length
  | .healthRecord b => b.length
  | _ => 0

/-- Frames of a message with a body of so many bytes (13 R274, R277). -/
def pairFrames (len : Nat) : Nat := (32 + len + 399) / 400

/-- The message whose frame may leave next: the first by precedence of the classes for which credit is held (14 R285, 13 R277). -/
def PairWire.next (w : PairWire) : Option PairMsg :=
  [0, 1, 2, 3, 4].findSome? (fun c => if 0 < w.credits[Fin.ofNat 16 c] then w.waiting.find? (fun m => decide (m.cls = c)) else none)

/-- The waiting messages once a frame of the first one of its class has left. -/
def PairMsg.left (m : PairMsg) : List PairMsg → List PairMsg
  | [] => []
  | x :: r => if x = m then (if m.frames ≤ 1 then r else { m with frames := m.frames - 1 } :: r) else x :: PairMsg.left m r

/-- Frames that leave, up to a number of them: each takes one credit of its class and stands in the replay buffer of 256 frames; a message is sent with its
last frame. The answer holds what was sent, the last first. -/
def PairWire.pump (now : Nat) : Nat → PairWire → PairWire × List Out
  | 0, w => (w, [])
  | k + 1, w =>
    if 256 ≤ w.unacked.length then (w, [])
    else match w.next with
      | none => (w, [])
      | some m =>
        let c : Fin 16 := Fin.ofNat 16 m.cls
        let r := PairWire.pump now k { w with
          txNext := (w.txNext + 1) % 2 ^ 24
          unacked := w.unacked ++ [(w.txNext, now)]
          credits := w.credits.set c (w.credits[c] - 1)
          waiting := m.left w.waiting }
        (r.1, if m.frames ≤ 1 then r.2 ++ [m.what] else r.2)

/-- The highest frame number received in order from the peer, which every frame sent carries as its ack (13 R274, R275). -/
def PairWire.ack (w : PairWire) : Nat := (w.rxNext + 2 ^ 24 - 1) % 2 ^ 24

/-- Frames up to a number are acknowledged, modulo 2^24. -/
def PairWire.acked (w : PairWire) (ack : Nat) : PairWire :=
  { w with unacked := w.unacked.filter (fun x => decide (2 ^ 23 ≤ (ack + 2 ^ 24 - x.1) % 2 ^ 24)) }

namespace State

/-- Fields of the state of the pair changed. -/
def updPar (s : State) (h : ParSt → ParSt) : State := { s with par := h s.par }

/-- What may leave of the waiting messages leaves, up to a number of frames. -/
def pairPump (s : State) (k : Nat) : State :=
  let r := PairWire.pump s.beacon k s.par.wire
  { s with par := { s.par with wire := r.1 }, out := r.2 ++ s.out }

/-- A message is given to the pair link, while it is up. -/
def pairPut (s : State) (o : Out) : State :=
  if s.fb F.PAR_STATUS_link_up then
    let k := pairFrames (pairLen o)
    (s.updPar (fun p => { p with wire := { p.wire with waiting := p.wire.waiting ++ [⟨pairClass o, k, o⟩] } })).pairPump k
  else s

/-- A named message of the pair link. -/
def pairSend (s : State) (msg : String) (args : List Nat) : State := s.pairPut (.pair msg args)

/-- An IDLE frame: its acknowledgement and sixteen credit counts (14 R285, 13 R277). -/
def pairIdle (s : State) (counts : List Nat) : State := s.send (.pair "IDLE" (s.par.wire.ack :: counts))

/-- A message of a class has arrived over the pair link in sequence, with a body of so many bytes: its frames are counted and its receive buffers granted
again. DESIGN CHOICE: as soon as it has been taken. -/
def pairHeard (s : State) (cls len : Nat) : State :=
  if s.fb F.PAR_STATUS_link_up then
    let k := pairFrames len
    (s.updPar (fun p => { p with wire := { p.wire with rxNext := (p.wire.rxNext + k) % 2 ^ 24 } })).pairIdle
      ((List.range 16).map (fun c => if c = cls then min k 255 else 0))
  else s

/-- The pair link has trained: its numbers begin anew, and the peer is granted the receive buffers. How many buffers a class has the spec does not say:
free values. -/
def pairTrained (s : State) : State :=
  let s := s.updPar (fun p => { p with wire := { PairWire.init with discarded := p.wire.discarded } })
  let (l, s) := (List.range 16).foldl (fun (q : List Nat × State) _ =>
    let (x, s) := q.2.draw
    (q.1 ++ [x % 256], s)) ([], s)
  s.pairIdle l

/-- A frame arrives damaged, out of sequence or of a reserved class (14 R285, 13 R275). DESIGN CHOICE: what is discarded is counted in State, for no register
counts it. -/
def pairFrame (s : State) (f : FrameFault) : State :=
  let count (s : State) : State := s.updPar (fun p => { p with wire := { p.wire with discarded := p.wire.discarded + 1 } })
  let take (s : State) : State := s.updPar (fun p => { p with wire := { p.wire with rxNext := (p.wire.rxNext + 1) % 2 ^ 24 } })
  if s.clk.held ∨ ¬ s.fb F.PAR_STATUS_link_up then s
  else match f with
    | .corrected _ => s
    | .discarded | .late =>
      let nak := s.par.wire.rxNak && decide (f = .late)
      let s := (count s).updPar (fun p => { p with wire := { p.wire with rxNak := true } })
      if nak then s else s.send (.pair "NAK" [s.par.wire.ack])
    | .expected => s.updPar (fun p => { p with wire := { p.wire with rxNak := false } })
    | .reservedClass | .reservedType => take (count s)

/-- Frames from ack + 1 on are sent again in order (13 R275). -/
def pairReplay (s : State) : State :=
  match s.par.wire.unacked with
  | [] => s
  | (q, _) :: _ =>
    let k := s.par.wire.unacked.length
    (s.updPar (fun p => { p with wire := { p.wire with unacked := p.wire.unacked.map (fun x => (x.1, s.beacon)) } })).send (.pairReplay q k)

/-- A nak from the peer starts a replay from ack + 1. -/
def pairNak (s : State) (ack : Nat) : State :=
  if s.clk.held ∨ ¬ s.fb F.PAR_STATUS_link_up then s
  else (s.updPar (fun p => { p with wire := p.wire.acked ack })).pairReplay

/-- A frame unacknowledged for 4 µs is replayed. -/
def pairReplayDue (s : State) : State :=
  if s.clk.held ∨ ¬ s.fb F.PAR_STATUS_link_up ∨ ¬ s.par.wire.unacked.any (fun x => decide (x.2 + 4 * tickUs ≤ s.beacon)) then s
  else s.pairReplay

/-- An IDLE frame of the peer: an acknowledgement and sixteen credit counts. -/
def pairCredit (s : State) (ack : Nat) (counts : Vector (BitVec 8) 16) : State :=
  if s.clk.held ∨ ¬ s.fb F.PAR_STATUS_link_up then s
  else
    let s := s.updPar (fun p =>
      let w := p.wire.acked ack
      { p with wire := { w with credits := Vector.ofFn (fun c => w.credits[c] + (counts[c]).toNat) } })
    s.pairPump ((s.par.wire.waiting.map (fun m => m.frames)).foldl (· + ·) 0)

end State
end Sys2Proof.Machine
end

