-- ==== Sys2Proof/Machine/Health.lean ====
section
/-! DEFINITION. The words of retained SRAM that a register shows (17 R340), the quiet point (14 R293), and the health words that a keeper sends to its peer,
the failing word among them (14 R286). -/

namespace Sys2Proof.Machine
namespace State

/-! ### Retained SRAM words with a register view (17 R340) -/

/-- Address of the ticket counter. -/
def ticketAddr : Nat := 0x203C0200
/-- Address of LOG_NEXT. -/
def logNextAddr : Nat := 0x203C0208
/-- Address of the KCP incarnation. -/
def incAddr : Nat := 0x203C0210

/-- LOG_NEXT, the sequence number of the next record (15 R308). -/
def logNext (s : State) : Nat := s.rdNat logNextAddr 8

/-- The control incarnation, modulo 256 (16 R331). -/
def incarnation (s : State) : Nat := s.rdNat incAddr 8 % 256

/-- The last ticket assigned (04 R84). -/
def lastTicket (s : State) : Nat := s.rdNat ticketAddr 8

/-! ### Health words (14 R286, R293) -/

/-- The port has a link. -/
def portUp (s : State) : Bool := decide (s.f F.MAC_STATUS_mode ≠ 0)

/-- A quiet point (14 R293): no action incomplete, no dump, no power-on sequence, Scarf at rest, no OCLT AT due within 1 ms, every
mirrored item acknowledged. -/
def quiet (s : State) : Bool :=
  s.act.running.all (fun a => decide (a.phase = .pending)) && s.occ.dumps.toList.all (fun d => d.isNone) &&
    s.mor.slots.toList.all (fun m => decide (m.seq = none ∨ (m.seq.map (·.1)) = some .queued)) &&
    !(s.mor.seqBase.isSome && !s.mor.seqDone) && decide (s.f F.SCF_STATUS_state ≤ 2) &&
    (!s.fb F.OCC_STATUS_at_pending ||
      decide (s.beacon + tickMs < s.f F.OCC_AT_TIME_at_time)) && decide (s.par.queue = [])

/-- The thermal trip has fired, or a reset or emergency-light mode is at hand: the failing conditions of R286 that last. -/
def failingNow (s : State) : Bool := s.par.failing || s.clk.tripAt.isSome || s.clk.shutDown || decide (s.par.emergDue ≠ 0)

/-- The state byte of a health word (R286). -/
def healthByte (s : State) (failing : Bool) : Nat :=
  s.f F.PAR_STATUS_state + place (b2n s.control) 2 1 + place (b2n failing) 3 1 + place (b2n s.prog.orders.isSome) 4 1 +
    place (b2n (s.fb F.PAR_STATUS_in_sync)) 5 1 + place (b2n s.quiet) 6 1 + place (b2n s.portUp) 7 1

/-- A health word leaves (R286): departure, the echo of the peer's last word, the highest sequence number held, state, thermal. -/
def healthOut (s : State) (failing : Bool) : State :=
  let e := match s.par.lastT with | none => 0 | some (_, t2) => t2 % 2 ^ 32
  let s := s.pairSend "HEALTH" [s.beacon, e, s.beacon % 2 ^ 32, s.logNext - 1, s.healthByte failing, b2n (s.fb F.THM_STATUS_warn)]
  s.updPar (fun p => { p with sentT := (s.beacon :: p.sentT).take 2 })

/-- Cells of a frame on W0 that end, the one in progress among them, where it is cut now; none where no frame is under way (12 R245, R247). A cell is 96
ticks, and the first begins 512 ticks after the launch. -/
def cellsNow (s : State) (n : Slot) : Option Nat :=
  match s.bcn.framesAt with
  | none => none
  | some m =>
    let e := s.beacon + s.f F.BCN_SLOT_dly n.val - m
    if (s.mor.slots[n]).phase = 2 ∧ e < 8192 then some ((e - 512 + 95) / 96) else none

/-- A gap begins: a frame under way on W0 ends with the cell in progress (12 R247). -/
def w0Gap (s : State) : State :=
  { s with
    out := (List.finRange 16).filterMap (fun n => (s.cellsNow n).map (fun k => .w0Cut n.val k)) ++ s.out
    bcn := { s.bcn with framesAt := none } }

/-- The failing word: sent at once, and the last that this keeper sends in control. -/
def failWord (s : State) : State :=
  if s.par.failing then s
  else
    let s := (s.healthOut true).updPar (fun p => { p with failing := true })
    if s.control then s.w0Gap else s

end State
end Sys2Proof.Machine
end

