-- ==== Sys2Proof/Machine/Sha.lean ====
section
/-! DEFINITION. The digests and checks the keeper computes over bytes: SHA-384, HMAC and HKDF over it (04 R79, 18 R365), the
CRC-32 of IEEE 802.3 (15 R300). A digest is a big-endian byte string (04 R79). -/

namespace Sys2Proof

namespace Sha

/-- The first 40 round constants of SHA-384. -/
def roundA : List Nat :=
  [0x428A2F98D728AE22, 0x7137449123EF65CD, 0xB5C0FBCFEC4D3B2F, 0xE9B5DBA58189DBBC,
   0x3956C25BF348B538, 0x59F111F1B605D019, 0x923F82A4AF194F9B, 0xAB1C5ED5DA6D8118,
   0xD807AA98A3030242, 0x12835B0145706FBE, 0x243185BE4EE4B28C, 0x550C7DC3D5FFB4E2,
   0x72BE5D74F27B896F, 0x80DEB1FE3B1696B1, 0x9BDC06A725C71235, 0xC19BF174CF692694,
   0xE49B69C19EF14AD2, 0xEFBE4786384F25E3, 0x0FC19DC68B8CD5B5, 0x240CA1CC77AC9C65,
   0x2DE92C6F592B0275, 0x4A7484AA6EA6E483, 0x5CB0A9DCBD41FBD4, 0x76F988DA831153B5,
   0x983E5152EE66DFAB, 0xA831C66D2DB43210, 0xB00327C898FB213F, 0xBF597FC7BEEF0EE4,
   0xC6E00BF33DA88FC2, 0xD5A79147930AA725, 0x06CA6351E003826F, 0x142929670A0E6E70,
   0x27B70A8546D22FFC, 0x2E1B21385C26C926, 0x4D2C6DFC5AC42AED, 0x53380D139D95B3DF,
   0x650A73548BAF63DE, 0x766A0ABB3C77B2A8, 0x81C2C92E47EDAEE6, 0x92722C851482353B]

/-- The last 40 round constants of SHA-384. -/
def roundB : List Nat :=
  [0xA2BFE8A14CF10364, 0xA81A664BBC423001, 0xC24B8B70D0F89791, 0xC76C51A30654BE30,
   0xD192E819D6EF5218, 0xD69906245565A910, 0xF40E35855771202A, 0x106AA07032BBD1B8,
   0x19A4C116B8D2D0C8, 0x1E376C085141AB53, 0x2748774CDF8EEB99, 0x34B0BCB5E19B48A8,
   0x391C0CB3C5C95A63, 0x4ED8AA4AE3418ACB, 0x5B9CCA4F7763E373, 0x682E6FF3D6B2B8A3,
   0x748F82EE5DEFB2FC, 0x78A5636F43172F60, 0x84C87814A1F0AB72, 0x8CC702081A6439EC,
   0x90BEFFFA23631E28, 0xA4506CEBDE82BDE9, 0xBEF9A3F7B2C67915, 0xC67178F2E372532B,
   0xCA273ECEEA26619C, 0xD186B8C721C0C207, 0xEADA7DD6CDE0EB1E, 0xF57D4F7FEE6ED178,
   0x06F067AA72176FBA, 0x0A637DC5A2C898A6, 0x113F9804BEF90DAE, 0x1B710B35131C471B,
   0x28DB77F523047D84, 0x32CAAB7B40C72493, 0x3C9EBE0A15C9BEBC, 0x431D67C49C100D4C,
   0x4CC5D4BECB3E42B6, 0x597F299CFC657E2A, 0x5FCB6FAB3AD6FAEC, 0x6C44198C4A475817]

/-- The initial hash value of SHA-384. -/
def init : List Nat :=
  [0xCBBB9D5DC1059ED8, 0x629A292A367CD507, 0x9159015A3070DD17, 0x152FECD8F70E5939,
   0x67332667FFC00B31, 0x8EB44A8768581511, 0xDB0C2E0D64F98FA7, 0x47B5481DBEFA4FA4]

/-- A 64-bit number rotated right. -/
def rotr (x k : Nat) : Nat := ((x >>> k) ||| (x <<< (64 - k))) % 2 ^ 64

/-- The message schedule continued: the last 16 words, newest first, and how many more to make. -/
def extend : Nat → List Nat → List Nat
  | 0, w => w
  | n + 1, w =>
    let w15 := w.getD 14 0
    let w2 := w.getD 1 0
    let s0 := (rotr w15 1).xor ((rotr w15 8).xor (w15 >>> 7))
    let s1 := (rotr w2 19).xor ((rotr w2 61).xor (w2 >>> 6))
    extend n (((w.getD 15 0 + s0 + w.getD 6 0 + s1) % 2 ^ 64) :: w)

/-- One round on the eight working variables. -/
def round (v : List Nat) (kw : Nat) : List Nat :=
  match v with
  | [a, b, c, d, e, f, g, h] =>
    let s1 := (rotr e 14).xor ((rotr e 18).xor (rotr e 41))
    let ch := (e.land f).xor ((2 ^ 64 - 1 - e).land g)
    let t1 := h + s1 + ch + kw
    let s0 := (rotr a 28).xor ((rotr a 34).xor (rotr a 39))
    let mj := (a.land b).xor ((a.land c).xor (b.land c))
    [(t1 + s0 + mj) % 2 ^ 64, a, b, c, (d + t1) % 2 ^ 64, e, f, g]
  | v => v

/-- One block of 16 words, given first word first, taken into the hash value. -/
def block (h : List Nat) (m : List Nat) : List Nat :=
  let w := (extend 64 m.reverse).reverse
  let v := ((roundA ++ roundB).zip w).foldl (fun v kw => round v (kw.1 + kw.2)) h
  List.zipWith (fun x y => (x + y) % 2 ^ 64) h v

/-- The words of a list of bytes, big-endian. -/
def words (n : Nat) (b : List Byte) : List Nat := (List.range n).map (fun i => beNat ((b.drop (8 * i)).take 8))

/-- Whole blocks of 128 bytes taken into the hash value. -/
def blocks : Nat → List Nat → List Byte → List Nat
  | 0, h, _ => h
  | n + 1, h, b => blocks n (block h (words 16 (b.take 128))) (b.drop 128)

/-- The padding of a message of `len` bytes. -/
def padding (len : Nat) : List Byte :=
  (0x80 : Byte) :: (List.replicate ((239 - len % 128) % 128) 0 ++ beBytes (8 * len) 16)

end Sha

/-- The SHA-384 digest of a byte string, 48 bytes. -/
def sha384 (b : List Byte) : List Byte :=
  let m := b ++ Sha.padding b.length
  ((Sha.blocks (m.length / 128) Sha.init m).take 6).flatMap (fun w => beBytes w 8)

/-- HMAC with SHA-384. -/
def hmac384 (key msg : List Byte) : List Byte :=
  let k0 := if 128 < key.length then sha384 key else key
  let k := k0 ++ List.replicate (128 - k0.length) 0
  sha384 (k.map (· ^^^ 0x5C) ++ sha384 (k.map (· ^^^ 0x36) ++ msg))

/-- The output blocks of HKDF-SHA-384 (RFC 5869): `n` of them, from block `i` on. -/
def hkdfExpand (prk info : List Byte) : Nat → Nat → List Byte → List Byte
  | 0, _, _ => []
  | n + 1, i, prev =>
    let t := hmac384 prk (prev ++ info ++ [BitVec.ofNat 8 i])
    t ++ hkdfExpand prk info n (i + 1) t

/-- HKDF-SHA-384 (RFC 5869): `n` bytes. -/
def hkdf384 (salt ikm info : List Byte) (n : Nat) : List Byte :=
  (hkdfExpand (hmac384 salt ikm) info ((n + 47) / 48) 1 []).take n

/-- One bit of the CRC-32 register of IEEE 802.3, least significant bit first. -/
def crc32Bit (c : Nat) : Nat := if c % 2 = 1 then (c / 2).xor 0xEDB88320 else c / 2

/-- One byte taken into the CRC-32 register. -/
def crc32Byte (c : Nat) (b : Byte) : Nat :=
  crc32Bit (crc32Bit (crc32Bit (crc32Bit (crc32Bit (crc32Bit (crc32Bit (crc32Bit (c.xor b.toNat))))))))

/-- The CRC-32 of IEEE 802.3 over a byte string. -/
def crc32 (b : List Byte) : Nat := (b.foldl crc32Byte 0xFFFFFFFF).xor 0xFFFFFFFF

/-- The bytes of an ASCII text. -/
def ascii (t : String) : List Byte := t.toList.map (fun c => BitVec.ofNat 8 c.toNat)

end Sys2Proof
end

