-- ==== Sys2Proof/Machine/Ecdsa.lean ====
section
/-! DEFINITION. The curve P-384: public keys, ECDSA signatures with the deterministic nonce of RFC 6979 and their verification
(04 R79, R80; 18 R365), and the shared secret of two keys (16 R326). A point is a pair of coordinates, none for the point at
infinity. Keys and signatures are byte strings as SEC 1 writes them (04 R79). -/

namespace Sys2Proof

namespace P384

/-- The field prime. -/
def p : Nat := 2 ^ 384 - 2 ^ 128 - 2 ^ 96 + 2 ^ 32 - 1

/-- The coefficient b. -/
def b : Nat :=
  0xB3312FA7E23EE7E4988E056BE3F82D19181D9C6EFE8141120314088F5013875AC656398D8A2ED19D2A85C8EDD3EC2AEF

/-- The order of the base point. -/
def n : Nat :=
  0xFFFFFFFFFFFFFFFFFFFFFFFFFFFFFFFFFFFFFFFFFFFFFFFFC7634D81F4372DDF581A0DB248B0A77AECEC196ACCC52973

/-- The base point. -/
def base : Nat × Nat :=
  (0xAA87CA22BE8B05378EB1C71EF320AD746E1D3B628BA79B9859F741E082542A385502F25DBF55296C3A545E3872760AB7,
   0x3617DE4A96262C6F5D9E98BF9292DC29F8F41DBD289A147CE9DA3113B5F0B8C00A60B1CE1D7E819D7A431D7C90EA0E5F)

/-- A power modulo `m`, by the low `k` bits of the exponent. -/
def powMod (m : Nat) : Nat → Nat → Nat → Nat
  | 0, _, _ => 1 % m
  | k + 1, x, e =>
    let h := powMod m k (x * x % m) (e / 2)
    if e % 2 = 1 then x * h % m else h

/-- The inverse modulo a prime. -/
def inv (m x : Nat) : Nat := powMod m 384 (x % m) (m - 2)

/-- Difference modulo `m`. -/
def sub (m x y : Nat) : Nat := (x + (m - y % m)) % m

/-- Whether a point lies on the curve. -/
def onCurve (q : Nat × Nat) : Bool :=
  decide (q.1 < p ∧ q.2 < p ∧ q.2 * q.2 % p = (sub p (q.1 * q.1 % p * q.1) (3 * q.1) + b) % p)

/-- The sum of two points. -/
def add (u v : Option (Nat × Nat)) : Option (Nat × Nat) :=
  match u, v with
  | none, v => v
  | u, none => u
  | some (x1, y1), some (x2, y2) =>
    if x1 = x2 ∧ (y1 + y2) % p = 0 then none
    else
      let l := if x1 = x2 then sub p (3 * x1 * x1) 3 * inv p (2 * y1) % p else sub p y2 y1 * inv p (sub p x2 x1) % p
      let x3 := sub p (l * l) (x1 + x2)
      some (x3, sub p (l * sub p x1 x3) y1)

/-- A multiple of a point, by the low `k` bits of the factor. -/
def mul : Nat → Nat → Option (Nat × Nat) → Option (Nat × Nat)
  | 0, _, _ => none
  | k + 1, e, q =>
    let h := mul k (e / 2) (add q q)
    if e % 2 = 1 then add q h else h

/-- The 97-byte form of a public key: 0x04, X, Y. -/
def encode (q : Option (Nat × Nat)) : List Byte :=
  match q with
  | none => []
  | some (x, y) => (4 : Byte) :: (beBytes x 48 ++ beBytes y 48)

/-- The point of a 97-byte public key, none where it lacks the 0x04 prefix or is not on the curve (04 R79). -/
def decode (k : List Byte) : Option (Nat × Nat) :=
  match k with
  | 0x04#8 :: r =>
    let q := (beNat (r.take 48), beNat ((r.drop 48).take 48))
    if r.length = 96 ∧ onCurve q then some q else none
  | _ => none

/-- The public key of a private key. -/
def publicKey (d : Nat) : List Byte := encode (mul 384 d (some base))

/-- Whether a 96-byte signature over a 48-byte digest verifies under a point. -/
def verify (q : Nat × Nat) (digest sig : List Byte) : Bool :=
  let r := beNat (sig.take 48)
  let s := beNat ((sig.drop 48).take 48)
  let z := beNat (digest.take 48)
  if r = 0 ∨ n ≤ r ∨ s = 0 ∨ n ≤ s then false
  else
    let w := inv n s
    match add (mul 384 (z * w % n) (some base)) (mul 384 (r * w % n) (some q)) with
    | none => false
    | some (x, _) => decide (x % n = r)

/-- The candidate nonces of RFC 6979 with SHA-384 and the signature that the first good one gives: `k` tries. -/
def signWith (d z : Nat) : Nat → List Byte → List Byte → List Byte
  | 0, _, _ => []
  | t + 1, key, v =>
    let v := hmac384 key v
    let k := beNat v
    let again := fun (_ : Unit) =>
      let key' := hmac384 key (v ++ [0])
      signWith d z t key' (hmac384 key' v)
    if k = 0 ∨ n ≤ k then again ()
    else
      match mul 384 k (some base) with
      | none => again ()
      | some (x, _) =>
        let r := x % n
        let s := inv n k * ((z + r * d) % n) % n
        if r = 0 ∨ s = 0 then again () else beBytes r 48 ++ beBytes s 48

/-- The ECDSA signature of a 48-byte digest under a private key, r then s, with the nonce of RFC 6979 with SHA-384 (04 R79). -/
def sign (d : Nat) (digest : List Byte) : List Byte :=
  let z := beNat (digest.take 48)
  let seed := beBytes d 48 ++ beBytes (z % n) 48
  let v0 : List Byte := List.replicate 48 1
  let k1 := hmac384 (List.replicate 48 0) (v0 ++ [0] ++ seed)
  let v1 := hmac384 k1 v0
  let k2 := hmac384 k1 (v1 ++ [1] ++ seed)
  signWith d z 64 k2 (hmac384 k2 v1)

/-- The 48-byte shared secret of a private key and a point. -/
def shared (d : Nat) (q : Nat × Nat) : List Byte :=
  match mul 384 d (some q) with
  | none => []
  | some (x, _) => beBytes x 48

end P384

end Sys2Proof
end

