-- ==== Sys2Proof/Machine/Events.lean ====
section
/-! DEFINITION. The event network (04 R65 to R69, 05 R94, R95, 03 R56): raising an event along its route, the tenders' queues
with their merge counters, and the event word. -/

namespace Sys2Proof.Machine

/-! ### Event numbers (05 R99) -/

/-- The event of slot Snn with per-slot index k. -/
def slotEv (n : Slot) (k : Nat) : Nat := 16 * n.val + k

namespace Ev
def alarm : Nat := 0
def heartbeatLost : Nat := 1
def linkDown : Nat := 2
def linkUp : Nat := 3
def laneDegrade : Nat := 4
def laneRestored : Nat := 5
def identMismatch : Nat := 6
def versionMismatch : Nat := 7
def stepBoundary : Nat := 8
def auditMismatch : Nat := 9
def ledgerTimeout : Nat := 10
def chipDown : Nat := 11
def powerFault : Nat := 12
def controlMsg : Nat := 13
def slotState : Nat := 14
def plbOpDone : Nat := 0x100
def plbOpMalformed : Nat := 0x101
def plbCanaryFail : Nat := 0x102
def plbCanaryPass : Nat := 0x103
def plbTileOut : Nat := 0x104
def plbTileIn : Nat := 0x105
def plbSampleSkipped : Nat := 0x106
def scfShardIn : Nat := 0x140
def scfShardBad : Nat := 0x141
def scfBuddyAcked : Nat := 0x142
def scfCommit : Nat := 0x143
def scfDiscard : Nat := 0x144
def scfStepSkipped : Nat := 0x145
def scfBuddyLost : Nat := 0x146
def scfBuddyImage : Nat := 0x147
def scfRestoreDone : Nat := 0x148
def scfRestoreMismatch : Nat := 0x149
def ldgSaturated : Nat := 0x180
def ldgAborted : Nat := 0x181
def trcTrigger : Nat := 0x182
def trcGap : Nat := 0x183
def trcReserveDrained : Nat := 0x184
def trcRegionWrap : Nat := 0x185
def lensDown : Nat := 0x186
def sightDone : Nat := 0x187
def occStopped : Nat := 0x1C0
def occPodFired : Nat := 0x1C1
def occReleased : Nat := 0x1C2
def dumpSlotDone : Nat := 0x1C3
def dumpUnreadable : Nat := 0x1C4
def ptpLockA : Nat := 0x200
def ptpLostA : Nat := 0x202
def ptpSwitch : Nat := 0x204
def bcnPairSkew : Nat := 0x205
def bcnSlotCal : Nat := 0x206
def ptpTsDropped : Nat := 0x207
def ppsInLost : Nat := 0x208
def morStrapsRead : Nat := 0x240
def morWireFault : Nat := 0x241
def staggerStep : Nat := 0x242
def staggerDone : Nat := 0x243
def pmbusFault : Nat := 0x244
def pairLinkDown : Nat := 0x280
def pairLinkUp : Nat := 0x281
def takeover : Nat := 0x282
def takeback : Nat := 0x283
def peerHealthy : Nat := 0x284
def peerLost : Nat := 0x285
def mirrorLag : Nat := 0x286
def logRingHigh : Nat := 0x2C0
def logMirrorErr : Nat := 0x2C1
def logFloorRaised : Nat := 0x2C2
def custodySealed : Nat := 0x2C3
def sessionOpen : Nat := 0x300
def sessionClose : Nat := 0x301
def sessionRefused : Nat := 0x302
def kcpCommand : Nat := 0x303
def armChanged : Nat := 0x304
def armExpired : Nat := 0x305
def podNoticeIn : Nat := 0x306
def ethDown : Nat := 0x307
def ethUp : Nat := 0x308
def ethDegrade : Nat := 0x309
def macsecFail : Nat := 0x30A
def programLoaded : Nat := 0x30B
def programRefused : Nat := 0x30C
def dmaDone : Nat := 0x340
def memCeHigh : Nat := 0x360
def memUe : Nat := 0x361
def memChannelLost : Nat := 0x362
def memPosterr : Nat := 0x363
def tenderHalt : Nat := 0x380
def tenderReset : Nat := 0x398
def actWithheld : Nat := 0x3C0
def actAccepted : Nat := 0x3C1
def actDone : Nat := 0x3C2
def actFailed : Nat := 0x3C3
def thmWarn : Nat := 0x3C4
def thmTrip : Nat := 0x3C5
def secVerifyFail : Nat := 0x3C6
def attestDone : Nat := 0x3C7
end Ev

/-- The event word of R66. -/
def EvEntry.word (e : EvEntry) : Word :=
  BitVec.ofNat 64 (place e.event 0 10 + place e.prio 10 2 + place (b2n e.sw) 12 1 + place (b2n e.merged) 13 1 +
    place e.arg 16 16 + place e.count 32 16 + place e.raiser 48 5 + place 1 63 1)

namespace State

/-- The lowest-numbered running service tender (03 R56). -/
def firstService (s : State) : Option Tender :=
  allTenders.find? (fun i => decide (16 ≤ i.val) && s.alive i)

/-- The tender an event is delivered to: the route's, but for a tender event whose route names a halted tender (03 R56). The
flag says that no service tender runs where one was needed. -/
def routeTarget (s : State) (e : Nat) : Tender × Bool :=
  let r := tenderOf (s.f F.EVT_ROUTE_tender e)
  if 0x380 ≤ e ∧ e < 0x3C0 ∧ (s.t r).run = .halted then
    match s.firstService with
    | some i => (i, false)
    | none => (r, true)
  else (r, false)

/-- An event put on its way to a tender, raised in this CCLK cycle (04 R65). -/
def launch (s : State) (target : Tender) (e : EvEntry) : State :=
  { s with evt := { s.evt with inflight := s.evt.inflight ++ [⟨target, s.beacon, e⟩] } }

/-- An event raised by a block towards a named tender, at the priority of its route (05 R95). In emergency-light mode nothing is
raised (14 R297). -/
def raiseTo (s : State) (target : Tender) (e arg : Nat) (payload : Word) : State :=
  if s.emergency then s
  else s.launch target ⟨e, s.f F.EVT_ROUTE_prio e, false, false, arg % 65536, 1, 0, payload⟩

/-- The tender cluster has failed (03 R56): emergency-light mode is at hand, and the failing word leaves at once (14 R286). -/
def clusterFailed (s : State) : State :=
  if s.emergency ∨ s.par.emergDue ≠ 0 then s else (s.updPar (fun p => { p with emergDue := 2 })).failWord

/-- An event raised by a block along its route (05 R94, R95). Where no service tender runs for a tender event, the tender
cluster has failed (03 R56). -/
def raise (s : State) (e arg : Nat) (payload : Word) : State :=
  if s.emergency then s
  else
    let (tgt, failed) := s.routeTarget e
    let s := s.raiseTo tgt e arg payload
    if failed then s.clusterFailed else s

/-- A slot's event k, with the slot in arg[3:0] and further argument bits (05 R99). -/
def raiseSlot (s : State) (n : Slot) (k argHi : Nat) (payload : Word) : State :=
  s.raise (slotEv n k) (n.val + argHi) payload

/-- An event raised by RAISE: its route's tender and priority, or those a direct raise names (04 R69). -/
def raiseSw (s : State) (by_ : Tender) (e arg : Nat) (payload : Word) (direct : Option (Tender × Nat)) : State :=
  let (tgt, pr) := direct.getD (tenderOf (s.f F.EVT_ROUTE_tender e), s.f F.EVT_ROUTE_prio e)
  s.launch tgt ⟨e, pr, true, false, arg % 65536, 1, by_.val, payload⟩

end State

/-! ### Queues (04 R65, R68) -/

/-- Instances of an event merged into the merge counters: the first instance's entry is kept with the count of all. -/
def mergeInto (e : EvEntry) : List EvEntry → List EvEntry
  | [] => [e]
  | x :: xs => if x.event = e.event then { x with count := min (x.count + e.count) 0xFFFF } :: xs else x :: mergeInto e xs

/-- Merged event numbers re-enter the queue one entry each while it has space (R68). -/
def refill : List EvEntry → List EvEntry → List EvEntry × List EvEntry
  | q, [] => (q, [])
  | q, e :: m => if q.length < 512 then refill (q ++ [{ e with merged := true }]) m else (q, e :: m)

/-- The entry that WAIT delivers for a priority mask: the oldest of the highest priority in the mask (R67). -/
def pickEntry (q : List EvEntry) (mask : Nat) : Option EvEntry :=
  [3, 2, 1, 0].findSome? (fun p => if bitOf mask p then q.find? (fun e => e.prio = p) else none)

/-- A tender's queue without the first entry equal to the one delivered, refilled from the merge counters. -/
def TenderSt.dropEntry (x : TenderSt) (e : EvEntry) : TenderSt :=
  let (q, m) := refill (x.queue.erase e) x.merges
  { x with queue := q, merges := m }

/-- An arriving event: it enters the queue, or is merged while the queue is full or a merge counter is not zero (R68). The flag
says that it was merged. -/
def TenderSt.arrive (x : TenderSt) (e : EvEntry) : TenderSt × Bool :=
  if x.queue.length < 512 ∧ x.merges = [] then ({ x with queue := x.queue ++ [e] }, false)
  else ({ x with merges := mergeInto e x.merges }, true)

/-- The event that reaches a tender's queue next: among those raised earliest, the lowest event number, and among equal numbers
the lowest raising tender (R65); of two KCP_COMMANDs that of the lower session (05 R103). -/
def nextArrival (l : List InFlight) (i : Tender) : Option InFlight :=
  (l.filter (fun x => x.target = i)).foldl
    (fun best x =>
      match best with
      | none => some x
      | some b =>
        if x.tick < b.tick ∨ (x.tick = b.tick ∧ (x.ev.event < b.ev.event ∨
            (x.ev.event = b.ev.event ∧ (x.ev.raiser < b.ev.raiser ∨
              (x.ev.raiser = b.ev.raiser ∧ x.ev.event = Ev.kcpCommand ∧ x.ev.arg % 8 < b.ev.arg % 8))))) then some x else some b)
    none

end Sys2Proof.Machine
end

