-- ==== Sys2Proof/Machine/Keys.lean ====
section
/-! DEFINITION. The keeper's own keys and its identity (18 R365, 04 R80). -/

namespace Sys2Proof.Machine

/-- The names of the keeper keys, by key slot of R80. -/
def keyName : Nat → String
  | 0 => "DEVICE"
  | 1 => "MANIFEST"
  | 2 => "CUSTODY"
  | 3 => "SESSION"
  | _ => "FLASH"

namespace State

/-- The 16 bytes of the serial, byte 0 first (18, GLB_SERIAL). -/
def serialBytes : List Byte := leBytes Config.serial.toNat 16

/-- The digest of the owner record in force, 48 zero bytes while the part is unowned (18 R365, R369). -/
def ownerDigest (s : State) : List Byte :=
  match s.sec.owner with
  | none => List.replicate 48 0
  | some r => r.digest

/-- The salt of a key: zero for DEVICE, the owner digest for the others (18 R365). -/
def keySalt (s : State) (k : Nat) : List Byte := if k = 0 then List.replicate 48 0 else s.ownerDigest

/-- The private P-384 key of a key slot (18 R365). -/
def privKey (s : State) (k : Nat) : Nat :=
  beNat (hkdf384 (s.keySalt k) (beBytes Config.rootSecret.toNat 32) (ascii "OXA1620" ++ ascii (keyName k)) 56) %
    (P384.n - 1) + 1

/-- The public key of a key slot, 97 bytes. -/
def pubKey (s : State) (k : Nat) : List Byte := P384.publicKey (s.privKey k)

/-- A key slot holds a key: slots 0 to 3 once the identity is reconstructed (04 R80, 18 R365). -/
def keyHeld (s : State) (k : Nat) : Bool := decide (k < 4) && s.fb F.SEC_STATUS_puf_ok

/-- A signature under a key slot over the SHA-384 of a byte string (04 R79). -/
def signBytes (s : State) (k : Nat) (b : List Byte) : List Byte := P384.sign (s.privKey k) (sha384 b)

/-- The device identity digest: the SHA-384 of the public DEVICE key (18 R365). -/
def identity (s : State) : List Byte := sha384 (s.pubKey 0)

end State

/-- Whether a signature over a 48-byte digest verifies under a 97-byte public key (04 R79). -/
def verifyDigest (key digest sig : List Byte) : Bool :=
  match P384.decode key with
  | none => false
  | some q => P384.verify q digest sig

/-- Whether a signature over the SHA-384 of a byte string verifies under a 97-byte public key. -/
def verifyBytes (key b sig : List Byte) : Bool := verifyDigest key (sha384 b) sig

end Sys2Proof.Machine
end

