-- ==== Sys2Proof/Machine/Views.lean ====
section
/-! DEFINITION. What a register reads: the stored value, with the fields that are views of other state put in (the counts,
depths and mirrors of state that has its home elsewhere). Reading through this file changes nothing; RegAccess.lean adds what a
read clears or starts. -/

namespace Sys2Proof.Machine
/-- The state code of TND_TENDER_nn_STAT: a wait inside an instruction shows as running. -/
def TRun.code : TRun → Nat
  | .running => 0
  | .asleep => 1
  | .halted => 2
  | .inReset => 3
  | .waitSec => 0
  | .waitLog => 0
  | .waitWin => 0
  | .waitMoor => 0

/-- Place fields in a word: low bit, width, value of each. -/
def packFields (l : List (Nat × Nat × Nat)) : Word :=
  l.foldl (fun w x => w ||| BitVec.ofNat 64 (place x.2.2 x.1 x.2.1)) 0

/-- A word with several fields replaced. -/
def overlay (w : Word) (l : List (Nat × Nat × Nat)) : Word := l.foldl (fun w x => putField w x.1 x.2.1 x.2.2) w

namespace State

/-- TND: the registers that show the tenders (18). -/
def viewTnd (s : State) (r : Nat) (raw : Word) : Word :=
  if r = 0x8 then
    packFields (allTenders.flatMap (fun i =>
      [(i.val, 1, b2n (decide ((s.t i).run = .halted))), (24 + i.val, 1, b2n (s.alive i))]))
  else if 0x100 ≤ r ∧ r < 0x400 then
    let x := s.t (tenderOf ((r - 0x100) / 0x20))
    match r % 0x20 with
    | 0x08 => packFields [(0, 2, x.run.code), (2, 1, b2n x.prv), (3, 1, b2n x.intrap), (4, 8, x.hcause),
        (16, 8, x.prog.getD 0xFF), (24, 10, x.queue.length)]
    | 0x10 => packFields [(0, 48, x.hpc.toNat)]
    | 0x18 => x.hval
    | _ => raw
  else raw

end State

/-- The token of an arming entry (05 R102). -/
def ArmEntry.token (a : ArmEntry) (e : Nat) : Nat := e + a.gen * 16

namespace State

/-- The first staging set in which a field of the register at an offset is pending, among sets 0 to 63 (04 R71). -/
def pendingSet (s : State) (off : Nat) (mask : Word) : Option Nat :=
  (List.finRange 64).findSome? (fun i =>
    if (s.sets[i]).any (fun x => decide (x.off = off ∧ x.mask &&& mask ≠ 0)) then some i.val else none)

/-- EVT: arming entries, queue depths, staging sets (18). -/
def viewEvt (s : State) (r : Nat) (raw : Word) : Word :=
  if r = 0x18 then
    let a := bits raw.toNat 0 48
    let p := if 0x40000000 ≤ a ∧ a < 0x40300000 then s.pendingSet ((a - 0x40000000) / 8 * 8) (BitVec.allOnes 64) else none
    overlay raw [(48, 6, p.getD 0), (54, 1, b2n p.isSome)]
  else if 0x100 ≤ r ∧ r < 0x200 then
    let e := (r - 0x100) / 0x10
    let a := s.evt.arms[Fin.ofNat 16 e]
    if r % 0x10 = 0 then
      packFields [(0, 3, a.cls), (3, 1, b2n (s.armLive a)), (4, 3, a.sess), (16, 16, a.slots),
        (32, 32, if a.gen = 0 ∧ ¬ a.valid then 0 else a.token e)]
    else BitVec.ofNat 64 a.expiry
  else if 0x200 ≤ r ∧ r < 0x2C0 then
    let x := s.t (tenderOf ((r - 0x200) / 8))
    overlay raw [(0, 10, x.queue.length), (10, 11, x.merges.length)]
  else if 0x300 ≤ r ∧ r < 0x500 then
    packFields [(0, 7, (s.sets[Fin.ofNat 64 ((r - 0x300) / 8)]).length)]
  else raw

/-- The byte list's 8-byte word `i`, little-endian. -/
def wordAt (b : List Byte) (i : Nat) : Word := BitVec.ofNat 64 (leNat ((b.drop (8 * i)).take 8))

/-- The forerunner view of a latched record (15 R313): word `i` of eight. -/
def fwinWord (s : State) (b : List Byte) (i : Nat) : Word :=
  let time := leNat ((b.drop 0x10).take 8)
  let hb := s.f F.LOG_HBASE_hbase
  let hours := wrapInt (s.f F.LOG_HOURS_base + (time - hb : Int) / 5760000000000) 32
  let n := (leNat ((b.drop 0x0C).take 1)) % 16
  let head : List Byte :=
    leBytes hours 4 ++ (b.drop 0x78).take 4 ++ (b.drop 8).take 4 ++ leBytes (min n 6 + place (b2n (decide (6 < n))) 4 1) 1 ++
      [0, 0, 0]
  if i < 2 then wordAt head i else wordAt ((b.drop 0x18).take 48) (i - 2)

/-- LOG: the sequence numbers, the reader's cursor and its windows (15 R311, R313, R316). -/
def viewLog (s : State) (rdr : Nat) (r : Nat) (raw : Word) : Word :=
  let x := s.log.readers[Fin.ofNat 32 rdr]
  if r = 0x10 then BitVec.ofNat 64 s.logNext
  else if r = 0x58 then BitVec.ofNat 64 x.cursor
  else if r = 0x60 then BitVec.ofNat 64 (b2n x.passed)
  else if 0x80 ≤ r ∧ r < 0x100 then
    match x.latch with
    | none => 0
    | some b => wordAt b ((r - 0x80) / 8)
  else if 0x100 ≤ r ∧ r < 0x140 then
    match x.latch with
    | none => 0
    | some b => s.fwinWord b ((r - 0x100) / 8)
  else raw

/-- KCP: sessions and the incarnation (16 R338). -/
def viewKcp (s : State) (r : Nat) (raw : Word) : Word :=
  if r = 0x8 then
    overlay raw ((8, 8, s.incarnation) ::
      (List.finRange 8).map (fun x => (x.val, 1, b2n (s.kcp.sess[x]).isOpen)))
  else if 0x100 ≤ r ∧ r < 0x140 then
    let x := s.kcp.sess[Fin.ofNat 8 ((r - 0x100) / 8)]
    if x.isOpen then
      packFields [(0, 1, 1), (1, 2, x.priv), (3, 5, x.key), (8, 7, x.unacked.length), (16, 16, x.slots),
        (32, 7, (x.cmds.filter (fun c => c.phase ≠ .completed ∧ c.phase ≠ .reported)).length),
        (39, 1, b2n x.attached.isSome), (40, 1, b2n ((x.sub.map (·.telemetry)).getD false))]
    else 0
  else raw

/-- GLB and SEC: identity, and the selected floor and key entries (18). -/
def viewSec (s : State) (r : Nat) (raw : Word) : Word :=
  if r = 0x80 then
    match s.sec.floor.entries[Fin.ofNat 32 (s.f F.SEC_FLOOR_SEL_entry)] with
    | none => 0
    | some (_, e) => packFields [(0, 32, e), (32, 1, 1)]
  else if r = 0x70 then packFields [(0, 32, s.sec.floor.count)]
  else if r = 0x98 then
    let i := s.f F.SEC_KEY_SEL_index
    match s.f F.SEC_KEY_SEL_kind with
    | 0 =>
      (match (s.sec.owner.map (·.entries)).getD [] |>.find? (fun k => k.index = i) with
       | none => 0
       | some k => packFields [(0, 1, 1), (1, 2, k.priv), (16, 16, k.slots), (32, 32, leNat ((sha384 k.key).take 4))])
    | 2 => (match (if i < 32 then s.sec.floor.entries[Fin.ofNat 32 i] else none) with | none => 0 | some (p, _) => BitVec.ofNat 64 p)
    | _ => 0
  else if 0x10 ≤ r ∧ r < 0x40 then (if s.fb F.SEC_STATUS_puf_ok then wordAt s.identity ((r - 0x10) / 8) else 0)
  else if 0x40 ≤ r ∧ r < 0x70 then wordAt s.ownerDigest ((r - 0x40) / 8)
  else raw

/-- PLB: rotation, depths and counts of the tiles (07). -/
def viewPlb (s : State) (r : Nat) (raw : Word) : Word :=
  let ts := s.plb.tiles.toList.zipIdx
  if r = 0x8 then
    packFields ((24, 1, b2n s.plb.keyPending) :: ts.flatMap (fun x =>
      [(x.2, 1, b2n x.1.inRot), (8 + x.2, 1, b2n x.1.running.isSome), (16 + x.2, 1, b2n x.1.envelope)]))
  else if 0x200 ≤ r ∧ r < 0x240 then
    let x := s.plb.tiles[Fin.ofNat 8 ((r - 0x200) / 8)]
    packFields [(0, 1, b2n x.inRot), (1, 3, x.reason), (8, 8, x.temp.toNat), (16, 8, x.volt.toNat),
      (24, 7, (x.queue.filter (fun o => o.first.isNone)).length), (32, 32, x.ops)]
  else if r = 0x10 ∨ r = 0x18 then 0
  else raw

/-- LDG: the counts of a slot's entries (09 R185). -/
def viewLdg (s : State) (r : Nat) (raw : Word) : Word :=
  if 0x100 ≤ r ∧ r < 0x200 then
    let x := s.ldg.slots[Fin.ofNat 16 ((r - 0x100) / 0x10)]
    if r % 0x10 = 0 then
      let out := x.entries.filter (·.timedOut)
      let old := out.foldl (fun (b : Option LdgEntry) e =>
        match b with
        | none => some e
        | some y => if e.begin_ < y.begin_ ∨ (e.begin_ = y.begin_ ∧ e.pos < y.pos) then some e else some y) none
      packFields [(0, 15, x.entries.length), (15, 15, out.length), (32, 12, (old.map (·.ctx)).getD 0), (44, 1, b2n old.isSome)]
    else overlay raw [(0, 32, (x.untracked.map (·.2)).sum)]
  else raw

/-- TRC: occupancy and the state of a stream (09 R185). -/
def viewTrc (s : State) (r : Nat) (raw : Word) : Word :=
  if 0x100 ≤ r ∧ r < 0x500 ∧ r % 0x40 = 0x20 then
    let x := s.trace.slots[Fin.ofNat 16 ((r - 0x100) / 0x40)]
    overlay raw [(0, 19, (x.staged.map (fun y => y.bytes.length)).sum), (19, 1, b2n (x.window.isSome || x.draining.isSome)),
      (20, 1, b2n x.frozen), (21, 1, b2n x.loss.isSome), (22, 4, x.cause)]
  else raw

/-- OCC: the slots stopped and the slots whose W1 this keeper holds low (10 R190). -/
def viewOcc (s : State) (r : Nat) (raw : Word) : Word :=
  if r = 0x8 then
    overlay raw [(0, 16, slotsMask ((List.finRange 16).filter (fun n => (s.mor.slots[n]).stopped))),
      (16, 16, slotsMask ((List.finRange 16).filter (fun n => (s.mor.slots[n]).w1low)))]
  else raw

/-- MOR: the phases (13 R266). -/
def viewMor (s : State) (r : Nat) (raw : Word) : Word :=
  if r = 0 then packFields ((List.finRange 16).map (fun n => (2 * n.val, 2, (s.mor.slots[n]).phase)))
  else if r = 0x10 ∧ s.fb F.PAR_STATUS_solo then overlay raw [(16, 16, 0)]
  else raw

/-- PWR: what the sequence has done (13 R268, R273). -/
def viewPwr (s : State) (r : Nat) (raw : Word) : Word :=
  if r = 0x10 then
    overlay raw [(0, 16, slotsMask ((List.finRange 16).filter (fun n => (s.mor.slots[n]).powered))),
      (16, 16, slotsMask ((List.finRange 16).filter (fun n => ((s.mor.slots[n]).seq.map (·.1)) = some .queued))),
      (33, 1, b2n (s.mor.seqBase.isSome && !s.mor.seqDone))]
  else raw

/-- The keeper is in service: a slot is in run phase on it, or it follows its pair (12 R243). DEDUCED: a keeper that starts to follow from out of service
is still out of it until its beacon is set to its peer's, since R251 makes that set one of those that R243 permits. -/
def inService (s : State) : Bool :=
  (List.finRange 16).any (fun n => decide ((s.mor.slots[n]).phase = 2)) ||
    decide (s.f F.PAR_STATUS_state = 1 ∧ ¬ (s.bcn.starting ∧ s.bcn.hardPend.isSome))

/-- BCN: the beacon, the tie and the pair (12). -/
def viewBcn (s : State) (r : Nat) (raw : Word) : Word :=
  if r = 0x8 then
    overlay raw [(0, 1, b2n s.inService), (1, 1, b2n s.bcn.tied), (3, 1, b2n (decide (s.f F.BCN_SLEW_slew ≠ 0))), (5, 1, b2n s.control),
      (6, 1, b2n (decide (s.f F.PAR_STATUS_state = 1)))]
  else if r = 0x10 then BitVec.ofNat 64 s.beacon
  else if r = 0x38 then
    overlay raw [(32, 1, b2n (s.par.lastHealth.any (fun x => decide (s.beacon ≤ x.2 + 100 * tickUs))))]
  else raw

/-- PTP: the transmit timestamp queue (12 R257). -/
def viewPtp (s : State) (r : Nat) (raw : Word) : Word :=
  if r = 0x10 then BitVec.ofNat 64 ((s.bcn.tsq.head?.map (·.1)).getD 0)
  else if r = 0x18 then
    (match s.bcn.tsq with | [] => 0 | (_, tag) :: _ => packFields [(0, 16, tag), (16, 1, 1)])
  else if r = 0x20 then overlay raw [(0, 7, s.bcn.tsq.length)]
  else raw

/-- PAR: the quiet point and the seconds of unbroken peer health (14 R299). -/
def viewPar (s : State) (r : Nat) (raw : Word) : Word :=
  if r = 0x8 then
    overlay raw [(10, 1, b2n (s.quiet && s.mor.strapsRead)),
      (16, 16, min 65535 ((s.par.healthySince.map (fun t => (s.beacon - t) / tickS)).getD 0))]
  else raw

/-- DMA: what runs, what pauses, what is held and what is queued on the channels (17 R354). -/
def viewDma (s : State) (r : Nat) (raw : Word) : Word :=
  if r = 0x8 then
    packFields ((List.finRange 32).flatMap (fun c => let x := s.dma.ch[c]
      [(c.val, 1, b2n x.running.isSome), (32 + c.val, 1, b2n (x.running.isSome && x.paused))]))
  else if 0x100 ≤ r ∧ r < 0x500 ∧ r % 0x20 = 0 then
    overlay raw [(8, 1, b2n (allTenders.any (fun i => (s.progOf i).any
      (fun p => bitOf p.dma ((r - 0x100) / 0x20)))))]
  else if 0x100 ≤ r ∧ r < 0x500 ∧ r % 0x20 = 8 then
    let c := s.dma.ch[Fin.ofNat 32 ((r - 0x100) / 0x20)]
    overlay raw [(0, 5, c.queue.length), (5, 1, b2n c.running.isSome),
      (7, 1, b2n (c.running.isSome && decide (c.hold ≠ []))),
      (6, 1, b2n (c.running.isNone && (c.queue.head?.map (fun d => d.paced)).getD false))]
  else raw

/-- GLB: the device serial (18). -/
def viewGlb (r : Nat) (raw : Word) : Word :=
  if r = 0x8 then BitVec.ofNat 64 (bits Config.serial.toNat 0 64)
  else if r = 0x10 then BitVec.ofNat 64 (bits Config.serial.toNat 64 64)
  else raw

/-- The value of the register at an offset as a reader sees it, with nothing cleared and nothing started (15 "Snapshots").
Readers 0 to 7 are the sessions, 8 to 31 the tenders (15 R311). -/
def readReg (s : State) (rdr : Nat) (off : Nat) : Word :=
  let raw := s.reg off
  let r := off % 0x10000
  match off / 0x10000 with
  | 0x00 => viewGlb r raw
  | 0x01 => s.viewSec r raw
  | 0x02 => s.viewTnd r raw
  | 0x03 => s.viewEvt r raw
  | 0x04 => s.viewPlb r raw
  | 0x06 => s.viewLdg r raw
  | 0x07 => s.viewTrc r raw
  | 0x08 => s.viewOcc r raw
  | 0x0A => s.viewBcn r raw
  | 0x0B => s.viewPtp r raw
  | 0x0C => s.viewMor r raw
  | 0x0D => s.viewPwr r raw
  | 0x0E => s.viewPar r raw
  | 0x0F => s.viewLog rdr r raw
  | 0x10 => s.viewKcp r raw
  | 0x12 => s.viewDma r raw
  | _ => raw

end State

end Sys2Proof.Machine
end

