-- ==== Sys2Proof/Machine/Log.lean ====
section
/-! DEFINITION. Writing the logbook (15 R300 to R307): the record's bytes, the retained ring, the intake queue of hardware
records, the snapshot lists of the Standing Orders, and mirroring an item to the follower (14 R287). -/

namespace Sys2Proof.Machine
namespace State

/-! ### Mirroring (14 R287, R288) -/

/-- Mirrors an item of a row of R287: while a follower mirrors, the dependent step is held for its acknowledgement; with no
follower mirroring it is taken at the end of this command. -/
def mirrorItem (s : State) (row : Nat) (m : MirrorMsg) (h : HeldStep) : State :=
  if s.par.mirroring then
    (s.updPar (fun p => { p with queue := p.queue ++ [⟨row, m, h, s.beacon, false⟩] })).pairPut (.mirror row m)
  else match h with
    | .nothing => s
    | h => s.release h

/-- The value of a field mirrored as a commit leaves it. -/
def mirrorField (s : State) (x : Fld) (i : Nat := 0) : State :=
  let m : Word := BitVec.ofNat 64 (place (2 ^ x.len - 1) x.lo x.len)
  let off := x.base + x.stride * i
  s.mirrorItem 8 (.stField off m (s.reg off &&& m)) .nothing

/-- Records are this keeper's health records while it follows a keeper in control (04 R64). -/
def following (s : State) : Bool := decide (s.f F.PAR_STATUS_state = 1)

/-! ### The record (15 R300, R304) -/

/-- Address of a sequence number's entry in the retained ring: 32,768 entries of 120 bytes (R304). DESIGN CHOICE: the entry is
seq modulo 32,768. -/
def ringAddr (seq : Nat) : Nat := 0x20000000 + seq % 32768 * 120

end State

/-- Bytes 0x00 to 0x77 of a record (R300). -/
def LogDraft.bytes (d : LogDraft) (seq : Nat) : List Byte :=
  leBytes seq 8 ++ leBytes d.trigger 2 ++ leBytes d.source 2 ++ leBytes (d.snap.length % 16) 1 ++ leBytes (d.writer % 32) 1 ++
    leBytes d.lit 2 ++ leBytes d.time 8 ++
    (d.snap.take 12 ++ List.replicate (12 - d.snap.length) 0).flatMap (fun (w : Word) => leBytes w.toNat 8)

/-- A whole record of 128 bytes: the ring's 120, the power-cycle count, the CRC-32 over bytes 0x00 to 0x7B (R300, R304). -/
def wholeRecord (ring : List Byte) (pcc : Nat) : List Byte :=
  let b := ring ++ leBytes pcc 4
  b ++ leBytes (crc32 b) 4

namespace State

/-- The ring entry that the next record would take is free: no record that is unmirrored or unacknowledged holds it (R306). -/
def ringRoom (s : State) : Bool :=
  (s.log.unmirrored ++ s.log.unacked).all (fun q => decide (q % 32768 ≠ s.logNext % 32768))

/-- LOG_RING_HIGH where the ring has reached 24,576 records that are not mirrored (R306). -/
def ringRise (s : State) : State :=
  if 24576 ≤ s.log.unmirrored.length ∧ s.log.highRaised = false then
    (setF { s with log := { s.log with highRaised := true } } F.LOG_STATUS_ring_high 1).raise Ev.logRingHigh 0 0
  else s

/-- A record enters the ring with the next sequence number (R304, R305) and is mirrored to the follower (14 R287). -/
def logEnter (s : State) (d : LogDraft) : State :=
  let n := s.logNext
  let s := s.wrBytes (ringAddr n) (d.bytes n)
  let s := s.wrNat logNextAddr 8 (n + 1)
  let l := { s.log with
    unmirrored := s.log.unmirrored ++ [n]
    unacked := if s.par.mirroring then s.log.unacked ++ [n] else s.log.unacked
    held := s.log.held ++ [n] }
  ringRise (mirrorItem { s with log := l } 0 (.record (d.bytes n)) (.record n))

/-- The record that reports hardware records lost at a full intake queue (R301, R307). -/
def lostDraft (s : State) (n first last : Nat) : LogDraft :=
  ⟨0x0405, 0x4F0F, 0x1F, 7, s.pclkTime, [BitVec.ofNat 64 n, BitVec.ofNat 64 first, BitVec.ofNat 64 last]⟩

/-- Hardware records were lost and the intake queue has room again: one INTAKE_LOST record joins it before any later hardware record
(R307). -/
def lostJoins (s : State) : State :=
  match s.log.lost with
  | none => s
  | some (n, a, b) =>
    if s.log.intake.length < 256 then { s with log := { s.log with lost := none, intake := s.log.intake ++ [s.lostDraft n a b] } } else s

/-- Hardware records of the intake queue enter the ring, in order, while it has room (R305, R307). -/
def drainIntake : Nat → State → State
  | 0, s => s
  | k + 1, s =>
    if s.ringRoom then
      match s.log.intake with
      | [] => s
      | d :: r => drainIntake k (lostJoins (logEnter { s with log := { s.log with intake := r } } d))
    else s

/-- The end of a PCLK cycle: the hardware records of the intake queue enter the ring, after every record that a tender wrote in that cycle (R305). -/
def cycleEnd (s : State) : State := if s.beacon % 8 = 0 then drainIntake 257 s else s

/-- A record written by hardware, or by a tender whose ring write waits in hardware: it joins the intake queue, or is counted as
lost where the queue is full (R307). While this keeper follows, it is a health record sent to the keeper in control (04 R64). -/
def logHw (s : State) (d : LogDraft) : State :=
  if s.following then s.pairPut (.healthRecord ({ d with source := d.source ||| 0x2000 }.bytes 0))
  else if s.log.intake.length < 256 then { s with log := { s.log with intake := s.log.intake ++ [d] } }
  else
    let l := match s.log.lost with
      | none => (1, s.beacon, s.beacon)
      | some (n, a, _) => (n + 1, a, s.beacon)
    { s with log := { s.log with lost := some l } }

/-- A record written by a tender: it enters the ring at once (R305). The answer is none where the ring has no room and the writer
waits (R307), else the sequence number and the state; a follower's record is a health record with sequence number 0 (04 R64). -/
def logTender (s : State) (d : LogDraft) : Option (Nat × State) :=
  if s.following then some (0, s.pairPut (.healthRecord ({ d with source := d.source ||| 0x2000 }.bytes 0)))
  else if s.ringRoom then some (s.logNext, s.logEnter d)
  else none

/-- The source field: block offset, slot or 0xF, and the flag bits (R300). -/
def logSource (block slot flags : Nat) : Nat := block % 256 + place slot 8 4 + flags

/-- A hardware record of a block with literal snapshot words. -/
def logHwWords (s : State) (trigger block slot : Nat) (ws : List Word) : State :=
  s.logHw ⟨trigger, logSource block slot 0x4000, 0x1F, 2 ^ ws.length - 1, s.pclkTime, ws⟩

/-! ### Snapshot lists of the Standing Orders (15 R302, R303) -/

/-- The port whose BLK_MAP slot field names a slot (13 R393); the slot's own number where no port is mapped to it. -/
def portOf (s : State) (n : Slot) : Slot :=
  ((List.finRange 16).find? (fun p => s.f F.BLK_MAP_slot p.val = n.val)).getD n

/-- The block that raises an event (15 R300 source; DEDUCED from the chapters that give the events). -/
def evBlock (s : State) (e : Nat) : Nat :=
  if e < 0x100 then
    match e % 16 with
    | 0 | 14 => 0x0C
    | 1 | 11 => 0x08
    | 8 => 0x09
    | 9 => 0x04
    | 10 => 0x06
    | 12 => 0x0D
    | _ => 0x20 + (s.portOf (Fin.ofNat 16 (e / 16))).val
  else if e < 0x140 then 0x04
  else if e < 0x180 then 0x09
  else if e < 0x182 then 0x06
  else if e < 0x1C0 then 0x07
  else if e < 0x200 then 0x08
  else if e = 0x205 ∨ e = 0x206 ∨ e = 0x204 then 0x0A
  else if e < 0x240 then 0x0B
  else if e < 0x242 then 0x0C
  else if e < 0x280 then 0x0D
  else if e < 0x2C0 then 0x0E
  else if e < 0x300 then 0x0F
  else if e = 0x304 ∨ e = 0x305 then 0x03
  else if 0x307 ≤ e ∧ e ≤ 0x30A then 0x11
  else if e < 0x340 then 0x10
  else if e < 0x360 then 0x12
  else if e < 0x380 then 0x13
  else if e < 0x3C0 then 0x02
  else if e < 0x3C4 then 0x03
  else if e < 0x3C6 then 0x15
  else 0x01

/-- Registers of a slot that a per-slot record samples, words 2 to 11 (R302). -/
def slotRegs (s : State) (n : Slot) : List Nat :=
  let p := (s.portOf n).val
  [F.BLK_STATUS_state.base + 0x10000 * p, F.BLK_ERR_replays.base + 0x10000 * p,
    F.LDG_SLOT_STAT_open.base + F.LDG_SLOT_STAT_open.stride * n.val, F.LDG_SLOT_CNT_untracked.base + F.LDG_SLOT_CNT_untracked.stride * n.val,
    F.MOR_PHASE_phase.base, F.OCC_STATUS_stopped.base,
    F.PLB_SLOT_RATE_base_log2.base + F.PLB_SLOT_RATE_base_log2.stride * n.val,
    F.TRC_SLOT_STAT_occupancy.base + F.TRC_SLOT_STAT_occupancy.stride * n.val,
    F.SCF_SLOT_STAT_state.base + F.SCF_SLOT_STAT_state.stride * n.val,
    F.BCN_SLOT_dly.base + F.BCN_SLOT_dly.stride * n.val]

/-- Registers of a block at offsets 0x0000 to 0x0048, ascending, without the registers all of whose fields are WO (R302). -/
def headRegs (b : Nat) : List Nat :=
  ((List.range 10).map (fun i => b * 0x10000 + 8 * i)).filter (fun off =>
    match regAt off with
    | none => false
    | some (d, _) => d.fields.any (fun x => decide (x.acc ≠ .wo)))

/-- The words of an event's record before LOG_SNAP: each with its literal flag (R302). DESIGN CHOICE: the convicted context of a failed replay
(10 R207), which R302 gives no place, stands as a literal in word 11. DESIGN CHOICE: of the full step of R17 and R142 an AUDIT_MISMATCH
record carries what the tag among its result words holds, step[31:0], which the latest step of its tile extends; R302 gives those records ten
words, the result words last, and no place for a high half. -/
def soWords (s : State) (rdr : Nat) (e : EvEntry) : List (Word × Bool) :=
  let lits := [(e.word, true), (e.payload, true)]
  let extra := ((s.log.notes.find? (fun x => decide (x.1 = e.event ∧ x.2.1 = e.payload))).map (·.2.2)).getD []
  if e.event < 0x100 ∧ e.event % 16 = Ev.auditMismatch then
    lits ++ ((extra ++ List.replicate 8 0).take 8).map (fun w => (w, true))
  else if e.event < 0x100 then
    (lits ++ (s.slotRegs (Fin.ofNat 16 (e.event / 16))).map (fun off => (s.readReg rdr off, false))).take (12 - extra.length) ++
      extra.map (fun w => (w, true))
  else
    (lits ++ extra.map (fun w => (w, true)) ++ (headRegs (s.evBlock e.event)).map (fun off => (s.readReg rdr off, false))).take 12

/-- The register that LOG_SNAP puts at a word of an event's records: the lowest enabled entry that names them and is not ignored
(R303). -/
def snapAt (s : State) (event pos : Nat) : Option Nat :=
  (List.range 32).findSome? (fun i =>
    if s.fb F.LOG_SNAP_en i ∧ ¬ s.fb F.LOG_SNAP_ignored i ∧ s.f F.LOG_SNAP_event i = event ∧ s.f F.LOG_SNAP_pos i = pos then
      some (s.f F.LOG_SNAP_reg i) else none)

/-- A record's words with the LOG_SNAP entries of its event put in (R303). -/
def withSnap (s : State) (rdr event : Nat) (ws : List (Word × Bool)) : List (Word × Bool) :=
  (List.range 12).foldl (fun ws p =>
    match s.snapAt event p with
    | none => ws
    | some off => (ws ++ List.replicate (p + 1 - ws.length) (0, false)).set p (s.readReg rdr (off / 8 * 8), false)) ws

/-- The mask of the words that are literals. -/
def litMask (ws : List (Word × Bool)) : Nat :=
  (ws.zipIdx.map (fun x => place (b2n x.1.2) x.2 1)).foldl (· + ·) 0

/-- The record that the Standing Orders of a tender write for an event raised by a block (05 R96, 15 R302). -/
def soDraft (s : State) (i : Tender) (e : EvEntry) : LogDraft :=
  let ws := s.withSnap (8 + i.val) e.event (s.soWords (8 + i.val) e)
  ⟨e.event, logSource (s.evBlock e.event) (if e.event < 0x100 then e.event / 16 else 0xF) 0, i.val, litMask ws, s.pclkTime,
    ws.map (·.1)⟩

/-- Literal words noted for the record of an event that is being raised. -/
def note (s : State) (event : Nat) (payload : Word) (ws : List Word) : State :=
  { s with log := { s.log with notes := s.log.notes ++ [(event, payload, ws)] } }

/-- The notes of an event dropped once its record is written. -/
def dropNote (s : State) (e : EvEntry) : State :=
  { s with log := { s.log with notes := s.log.notes.filter (fun x => decide (¬ (x.1 = e.event ∧ x.2.1 = e.payload))) } }

end State
end Sys2Proof.Machine
end

