-- ==== Sys2Proof/Machine/Traps.lean ====
section
/-! DEFINITION. Taking a trap, halting, returning, retiring (03 R37, R52 to R58; 04 R60 to R62): the one place where a tender
changes privilege on its own, with what the Standing Orders do at a trap of an owner handler (05 R97). -/

namespace Sys2Proof.Machine

/-! ### Trap causes (03 R53, 04 R62) -/
namespace Cause
def illegal : Nat := 0x01
def priv : Nat := 0x02
def address : Nat := 0x03
def align : Nat := 0x04
def access : Nat := 0x05
def regUnassigned : Nat := 0x06
def busTimeout : Nat := 0x07
def memEcc : Nat := 0x08
def brk : Nat := 0x09
def trapi : Nat := 0x0A
def postErr : Nat := 0x0B
def watchdog : Nat := 0x0C
def sysArg : Nat := 0x10
def scope : Nat := 0x11
def stage : Nat := 0x12
end Cause

/-- A trap that an instruction would take: its cause and the value for TS_TVAL. -/
abbrev TrapReq := Option (Nat × Word)

/-- A trap taken when a condition holds. -/
def trapIf (c : Bool) (cause : Nat) (val : Word) : TrapReq := if c then some (cause, val) else none

/-- When one instruction meets several causes, the lowest code is taken (03 R53, 04 R62). -/
def lowestTrap (l : List TrapReq) : TrapReq :=
  l.foldl (fun best x =>
    match best, x with
    | none, x => x
    | some b, some y => if y.1 < b.1 then some y else some b
    | some b, none => some b) none

/-- The system status word of R61. -/
def statusWord (status detail value : Nat) : Word :=
  BitVec.ofNat 64 (place status 0 8 + place detail 8 8 + place value 16 48)

/-! ### Status values (04 R61) -/
namespace St
def ok : Nat := 0x00
def accepted : Nat := 0x01
def full : Nat := 0x02
def conflict : Nat := 0x03
def refused : Nat := 0x04
def withheld : Nat := 0x05
def notControl : Nat := 0x06
def noTarget : Nat := 0x07
def late : Nat := 0x08
def stale : Nat := 0x09
def invalid : Nat := 0x0A
def badKey : Nat := 0x0B
def empty : Nat := 0x0C
def busy : Nat := 0x0D
def denied : Nat := 0x20
def malformed : Nat := 0x21
def unknown : Nat := 0x22
end St

/-- The owner code region of local memory begins here (05 R92). -/
def ownerBase : Nat := 0x20000

namespace State

/-- Bytes of code of the program bound to a tender; 0 where none is. -/
def codeSize (s : State) (i : Tender) : Nat := ((s.progOf i).map (·.codeSize)).getD 0

/-- Fetch is possible from an address: own local memory at ORDER, the program's code region at HOST (03 R37). -/
def fetchOk (s : State) (i : Tender) (prv : Bool) (a : Nat) : Bool :=
  if prv then decide (a < 0x40000)
  else decide (ownerBase ≤ a ∧ a + 4 ≤ ownerBase + s.codeSize i)

/-- Whether a 48-bit address lies in a region of R36. -/
def inRegion (a : Nat) : Bool :=
  decide (a < 0x40000 ∨ (0x08000000 ≤ a ∧ a < 0x08000000 + 24 * 0x40000) ∨ (0x10000000 ≤ a ∧ a < 0x12000000) ∨
    (0x20000000 ≤ a ∧ a < 0x20400000) ∨ (0x40000000 ≤ a ∧ a < 0x40300000) ∨
    (0x100000000000 ≤ a ∧ a < 0x10F800000000))

/-- The check of a branch or jump target, R37. -/
def fetchCheck (s : State) (i : Tender) (target : Word) : TrapReq :=
  if 2 ^ 48 ≤ target.toNat ∨ inRegion target.toNat = false then some (Cause.address, target)
  else if s.fetchOk i (s.t i).prv target.toNat then none
  else some (Cause.access, target)

/-- A tender halts (R55): the TND block keeps cause, value and pc, and TENDER_HALT is raised (05 R391). With no service tender running the cluster has
failed (R56). -/
def halt (s : State) (i : Tender) (cause : Nat) (val : Word) : State :=
  let s := s.updT i (fun x => { x with run := .halted, wait := none, hcause := cause, hpc := x.pc, hval := val })
  let s := s.raise (Ev.tenderHalt + i.val) i.val (BitVec.ofNat 64 ((s.t i).hpc.toNat + place cause 48 8))
  if s.firstService.isNone then s.clusterFailed else s

/-- Trap entry or halt (03 "Entry and return"). DESIGN CHOICE: a TS_TVEC that names no address in own local memory, or has bits above 47, is held
whole, and the handler is entered at its low 48 bits, where the first fetch traps (R54 says only that it must name own local memory). -/
def enterTrap (s : State) (i : Tender) (cause : Nat) (val : Word) : State :=
  let x := s.t i
  if x.intrap ∨ x.tvec = 0 then s.halt i cause val
  else s.setT i { x with
    tpc := x.pc.zeroExtend 64, tcause := cause, tval := val, pprv := x.prv, prv := true, intrap := true
    pc := x.tvec.truncate 48 }

/-- A record that the Standing Orders or the keeper write for a tender; where the ring has no room it waits with the tenders' own records
and is never lost (15 R307). -/
def logSo (s : State) (d : LogDraft) : State :=
  match s.logTender d with
  | some (_, s') => s'
  | none => { s with log := { s.log with waiters := s.log.waiters ++ [.record d] } }

/-- Asks for the unbinding of a program from every tender that holds it (05 R92); the unbinding is reported. -/
def unbindProg (s : State) (p : Nat) : State :=
  let s := allTenders.foldl (fun s i =>
    if (s.t i).prog = some p then s.updT i (fun x => { x with bindPend := some none })
    else if (s.t i).bindPend = some (some p) then s.updT i (fun x => { x with bindPend := none })
    else s) s
  s.raise Ev.programRefused 0 0

/-- An owner handler ended by its budget or by a trap (05 R97): the record, for a trap with the trap state as its snapshot (03; DESIGN CHOICE
cause, value and pc), and the unbinding of a program whose handlers were ended
three times within 60 s of beacon time; a version that is being replaced on the tender is leaving it already. -/
def handlerEnded (s : State) (i : Tender) (ws : List Word) : State :=
  let s := s.updT i (fun x => { x with handler := none })
  let s := s.logSo ⟨0x0401, logSource 0x02 0xF 0, i.val, 2 ^ ws.length - 1, s.pclkTime, ws⟩
  match (s.t i).prog, (s.t i).old with
  | some p, none =>
    match s.prog.owned[Fin.ofNat 16 p] with
    | none => s
    | some o =>
      let ends := (o.endings ++ [s.beacon]).filter (fun b => decide (s.beacon < b + 60 * tickS))
      let s := { s with prog := { s.prog with owned := s.prog.owned.set (Fin.ofNat 16 p) (some { o with endings := ends }) } }
      if 3 ≤ ends.length then s.unbindProg p else s
  | _, _ => s

/-- What the Standing Orders make of a trap of an owner handler (05 R97): TRAPI 0x0000 ends the handler; another trap goes to the
program's trap entry only if trap[0] is set, and the handler resumes after it only if trap[1] is set; else the handler is ended. The answer is
the pc at which the Standing Orders' handler goes on at HOST, none where it keeps the tender. DESIGN CHOICE: the trap entry runs until its TRAPI
0x0000, a second trap in it ends the handler, and the handler resumes at the trap's TS_TPC, as TRET does (03 R54). -/
def handlerTrap (s : State) (i : Tender) (cause : Nat) (val : Word) : Option (BitVec 48) × State :=
  match (s.t i).handler, s.progOf i with
  | some h, some p =>
    if (s.t i).prv then (none, s)
    else if cause = Cause.trapi ∧ val = 0 then
      match h.resume with
      | some pc =>
        if p.trapResume then (some pc, s.updT i (fun x => { x with handler := some { h with resume := none } })) else (none, s.handlerEnded i [])
      | none => (none, s.updT i (fun x => { x with handler := none }))
    else
      match h.resume, p.trapPass, p.handlers.find? (·.trap) with
      | none, true, some e =>
        (some (BitVec.ofNat 48 (ownerBase + e.offset / 4 * 4)),
          s.updT i (fun x => { x with handler := some { h with resume := some x.pc } }))
      | _, _, _ => (none, s.handlerEnded i [BitVec.ofNat 64 cause, val, (s.t i).pc.zeroExtend 64])
  | _, _ => (none, s)

/-- The Standing Orders' handler gives a trap of an owner handler to the program, or resumes the handler: the tender goes on at HOST as by TRET. A
tender that halted at the trap stays halted. -/
def passTrap (s : State) (i : Tender) : Option (BitVec 48) → State
  | some pc => if (s.t i).run = .halted then s else s.updT i (fun x => { x with prv := x.pprv, intrap := false, pc := pc })
  | none => s

/-- Taking a trap (03 R52 to R55): the entry described there, with the Standing Orders' part at a handler's trap. -/
def trap (s : State) (i : Tender) (cause : Nat) (val : Word) : State :=
  let r := s.handlerTrap i cause val
  (r.2.enterTrap i cause val).passTrap i r.1

/-- An instruction completes: it is counted and the pc moves past it. -/
def retire (s : State) (i : Tender) : State :=
  s.updT i (fun x => { x with pc := x.pc + 4, instret := x.instret + 1 })

/-- An instruction completes with the pc at a target. -/
def retireTo (s : State) (i : Tender) (pc : BitVec 48) : State :=
  s.updT i (fun x => { x with pc := pc, instret := x.instret + 1 })

/-- A tender that goes on after it waited inside an instruction takes the trap of a watchdog expiry that met it there: WATCHDOG with TS_CYCLE at the
expiry, before its next instruction (03 R53, R58). -/
def resumed (s : State) (i : Tender) : State :=
  match (s.t i).wdogHit with
  | none => s
  | some c =>
    let s := s.updT i (fun x => { x with wdogHit := none })
    if (s.t i).run = .running then s.trap i Cause.watchdog c else s

/-- One instruction of a tender: nothing where the tender does not execute instructions; the fetch trap of R37 where the pc lies
outside what its privilege may fetch; else the instruction's body. -/
def instr (s : State) (i : Tender) (body : State → State) : State :=
  if (s.t i).run ≠ .running then s
  else if s.fetchOk i (s.t i).prv (s.t i).pc.toNat then body s
  else s.trap i Cause.access ((s.t i).pc.zeroExtend 64)

/-- An instruction's body behind its checks: the lowest trap, or the effect. -/
def guarded (s : State) (i : Tender) (checks : List TrapReq) (effect : State → State) : State :=
  match lowestTrap checks with
  | some (c, v) => s.trap i c v
  | none => effect s

/-- The result of an instruction in rd, and the instruction completes. -/
def result (s : State) (i : Tender) (rd : Fin 32) (v : Word) : State := (s.setG i rd v).retire i

end State
end Sys2Proof.Machine
end

