-- ==== Sys2Proof/Machine/MemOps.lean ====
section
/-! DEFINITION. Access to memory (03 R36, R45, R46; 17 R339 to R349): the checks of an access, what an LPDDR5X access meets, the
memory error record. -/

namespace Sys2Proof.Machine

/-- The kind of an access. -/
inductive AccKind
  | load | store | amo
  deriving DecidableEq, Repr

/-- Base of LPDDR5X in keeper address space. -/
def lpBase : Nat := 0x100000000000

/-- An LPDDR5X address. -/
def isLpddr (a : Nat) : Bool := decide (lpBase ≤ a ∧ a < 0x10F800000000)

/-- A register-space address. -/
def isRegSpace (a : Nat) : Bool := decide (0x40000000 ≤ a ∧ a < 0x40300000)

/-- The channel of an LPDDR5X keeper address (R342). -/
def lpChannel (a : Nat) : Nat :=
  let o := a - lpBase
  (bits o 11 6).xor ((bits o 17 6).xor ((bits o 23 6).xor ((bits o 29 6).xor (bits o 35 5))))

/-- What an LPDDR5X access meets. -/
inductive LpState
  /-- the line is served -/
  | ok
  /-- the request is held: the channel is relocking or not yet trained (R341) -/
  | held
  /-- the access fails: a lost channel before redirection, or a second lost channel (R347, R349) -/
  | lost
  /-- a redirected granule not written since the loss (R347) -/
  | stale
  /-- a pool address while redirection absorbs a channel (R347) -/
  | pool
  deriving DecidableEq, Repr

namespace State

/-- A byte has been written since the loss of its channel (R347). -/
def freshByte (s : State) (b : Nat) : Bool := s.mc.fresh.any (fun x => decide (x.1 ≤ b ∧ b < x.1 + x.2))

/-- Whether an address lies in the redirection pool (R347): the top 768 MiB of each trace segment, the top 3.5 GiB of the sighting
region. -/
def inPool (s : State) (a : Nat) : Bool :=
  let tr := s.f F.TRC_REGION_region
  let si := s.f F.TRC_SIGHT_BASE_sbase
  (decide (tr ≠ 0 ∧ tr ≤ a ∧ a < tr + 16 * 0x40000000 ∧ 0x10000000 ≤ (a - tr) % 0x40000000)) ||
    (decide (si ≠ 0 ∧ si + 0x20000000 ≤ a ∧ a < si + 0x100000000))

/-- The two parts of the pool as intervals of 128 KiB blocks, ascending: base and number of blocks of each (R347). -/
def poolParts (s : State) : List (Nat × Nat) :=
  let tr := s.f F.TRC_REGION_region
  let si := s.f F.TRC_SIGHT_BASE_sbase
  let t : List (Nat × Nat) := if tr = 0 then [] else (List.range 16).map (fun n => (tr + n * 0x40000000 + 0x10000000, 0x1800))
  let g : List (Nat × Nat) := if si = 0 then [] else [(si + 0x20000000, 0x7000)]
  if si < tr then g ++ t else t ++ g

/-- The pool block with a number. -/
def poolBlock : List (Nat × Nat) → Nat → Nat
  | [], _ => 0
  | (b, n) :: r, j => if j < n then b + j * 0x20000 else poolBlock r (j - n)

/-- Where the granule of an address of the lost channel outside the pool is stored: the i-th such granule lies in the i-th granule of the pool on a
channel in service (R347). Every aligned 128 KiB block holds one granule of each channel (R342). -/
def hostAddr (s : State) (a : Nat) : Nat :=
  let c := lpChannel a
  let parts := s.poolParts
  let i := (a - lpBase) / 0x20000 - (parts.map (fun p => min p.2 ((a - p.1) / 0x20000))).sum
  let b := poolBlock parts (i / 63)
  let lostAt := ((List.range 64).find? (fun g => decide (lpChannel (b + g * 2048) = c))).getD 64
  let g := if i % 63 < lostAt then i % 63 else i % 63 + 1
  b + g * 2048 + a % 2048

/-- What an access to an LPDDR5X address meets (R341, R346, R347, R349). -/
def lpState (s : State) (a : Nat) : LpState :=
  let c := lpChannel a
  let host := if s.mc.lost = some c ∧ s.mc.redirected then lpChannel (s.hostAddr a) else c
  if s.mc.second.contains c then .lost
  else if s.mc.lost = some c ∧ ¬ s.mc.redirected then .lost
  else if s.mc.redirected ∧ s.inPool a then .pool
  else if s.mc.second.contains host then .lost
  else if s.mc.relock.any (fun x => x.1 = host) then .held
  else if s.mc.lost = some c then (if (List.range 64).all (fun k => s.freshByte (a / 64 * 64 + k)) then .ok else .stale)
  else if bitOf (s.f F.MEM_CH_UP_up) c then .ok
  else .held

/-- The keeper address of a tender's own local memory address: the home of local memory is its alias (03 R36). -/
def home (i : Tender) (a : Nat) : Nat := if a < 0x40000 then 0x08000000 + i.val * 0x40000 + a else a

/-- The 64-byte lines of an extent. -/
def linesOf (a n : Nat) : List Nat := (List.range ((a + n + 63) / 64 - a / 64)).map (fun k => a / 64 + k)

/-- What a load of `n` bytes at a home address meets: the worst over its lines. -/
def loadState (s : State) (a n : Nat) : LpState :=
  if isLpddr a then
    let l := (linesOf a n).map (fun k => s.lpState (k * 64))
    if l.contains .held then .held
    else if l.contains .lost then .lost
    else if l.contains .pool then .pool
    else if l.contains .stale then
      (if (List.range n).all (fun k => decide (s.mc.lost ≠ some (lpChannel (a + k))) || s.freshByte (a + k)) then .ok else .stale)
    else .ok
  else .ok

/-- An uncorrectable error stands in a line of an extent. -/
def poisoned (s : State) (a n : Nat) : Bool := (linesOf a n).any (fun k => s.poison.contains k)

/-- The posted stores changed. -/
def setPosted (s : State) (l : List Posted) : State := { s with mc := { s.mc with posted := l } }

/-- Posted stores whose bytes in an extent a later store has overwritten: should they fail, those bytes stay (03 R46). -/
def postedOver (s : State) (a n : Nat) : State :=
  if s.mc.posted = [] then s
  else s.setPosted (s.mc.posted.map (fun p => { p with under := p.under.filter (fun x => decide (¬ (a ≤ x.1 ∧ x.1 < a + n))) }))

/-- An address of retained SRAM that is reserved and reads zero (17 R340). -/
def retReserved (a : Nat) : Bool := decide (0x203C0218 ≤ a ∧ a < 0x203C1000 ∨ 0x203FF1A0 ≤ a ∧ a < 0x20400000)

/-- What memory holds of bytes written at a home address: nothing but zero where it is reserved. -/
def keptBytes (a : Nat) (b : List Byte) : List Byte :=
  if 0x203C0218 < a + b.length ∧ a < 0x20400000 then b.zipIdx.map (fun x => if retReserved (a + x.2) then 0 else x.1) else b

/-- Bytes written at a home address: a written line carries no uncorrectable error, and what is written to a lost channel is
fresh there. -/
def store (s : State) (a : Nat) (b : List Byte) : State :=
  let ls := linesOf a b.length
  let s := (s.postedOver a b.length).wrBytes a (keptBytes a b)
  let s := if s.poison = [] then s else { s with poison := s.poison.filter (fun k => decide (¬ ls.contains k)) }
  if s.mc.lost.isSome ∧ isLpddr a ∧ ls.any (fun k => decide (s.mc.lost = some (lpChannel (k * 64)))) then
    { s with mc := { s.mc with fresh := (a, b.length) :: s.mc.fresh } }
  else s

/-- A store is posted: the memory holds its bytes from now on, and what stood there returns should it fail. A byte that an earlier posted
store wrote keeps that store's byte under it (03 R46). -/
def post (s : State) (i : Tender) (a : Nat) (b : List Byte) : State :=
  let old := (List.range b.length).map (fun k => (a + k, s.rdByte (a + k)))
  let before := s.mc.posted
  (s.store a b).setPosted (before ++ [⟨i, a, old, false⟩])

/-- Posted stores without those of a tender, which are written; and the addresses of the bytes written so. An older store that fails later leaves the
bytes that a newer one has written over its own (03 R46, R49). -/
def postedWithout (i : Tender) (l : List Posted) : List Posted × List Nat :=
  l.foldr (fun p q =>
    if p.tender = i then (q.1, p.under.map (·.1) ++ q.2)
    else ({ p with under := p.under.filter (fun x => !q.2.contains x.1) } :: q.1, q.2)) ([], [])

/-- The posted stores of a tender are written: it waited for them (03 R50, R51). -/
def postedDone (s : State) (i : Tender) : State :=
  if s.mc.posted = [] then s else s.setPosted (postedWithout i s.mc.posted).1

/-- Bytes put back where a posted store failed: into memory, or under the next posted store that wrote the byte. -/
def unwrite (later : List Posted) (s : State) : List (Nat × Byte) → List Posted × State
  | [] => (later, s)
  | (a, b) :: r =>
    match later.findIdx? (fun p => p.under.any (fun x => x.1 = a)) with
    | none => unwrite later (s.wrByte a b) r
    | some k =>
      unwrite (later.zipIdx.map (fun q =>
        if q.2 = k then { q.1 with under := q.1.under.map (fun x => if x.1 = a then (a, b) else x) } else q.1)) s r

/-- The oldest posted store of a tender to an address is taken out of the list as not written: it, and the state without its bytes. -/
def postedFail (s : State) (i : Tender) (a : Nat) : Option (Posted × State) :=
  match s.mc.posted.findIdx? (fun p => decide (p.tender = i ∧ p.addr = a)) with
  | none => none
  | some k =>
    match s.mc.posted[k]? with
    | none => none
    | some p =>
      let (later, s') := unwrite (s.mc.posted.drop (k + 1)) s p.under
      some (p, s'.setPosted (s.mc.posted.take k ++ later))

/-! ### Errors (R344, R346; 03 "correctable ECC error") -/

/-- The memory error record (17, MEM_ERR_ADDR and MEM_ERR_INFO): the address, the kind, the requester and its kind. -/
def errRecord (s : State) (addr kind req rkind : Nat) : State :=
  let s := s.setF F.MEM_ERR_ADDR_addr addr
  let s := s.setF F.MEM_ERR_INFO_kind kind
  let s := s.setF F.MEM_ERR_INFO_requester req
  let s := s.setF F.MEM_ERR_INFO_rkind rkind
  let s := s.setF F.MEM_ERR_INFO_channel (if isLpddr addr then lpChannel addr else 0)
  s.bump F.MEM_ERR_INFO_errors

/-- A redirected granule not written since the loss has been read: an uncorrectable error, counted, recorded and reported (R344, R347). -/
def memStale (s : State) (a req rkind : Nat) : State :=
  ((s.bump F.MEM_CH_CNT_ue 1 (lpChannel a)).errRecord a 5 req rkind).raise Ev.memUe 0 0

/-- What a block's read of an extent meets is recorded and reported: a lost channel, a pool address, a granule not written since the loss, an uncorrectable
error (R344, R347). -/
def blockMeets (s : State) (blk a n : Nat) : State :=
  match s.loadState a n with
  | .held => s
  | .lost => s.errRecord a 4 blk 2
  | .pool => s.errRecord a 5 blk 2
  | .stale => s.memStale a blk 2
  | .ok =>
    match (linesOf a n).find? (fun k => s.poison.contains k) with
    | none => s
    | some k => s.release (.memUe (max a (k * 64)) blk 2)

/-- A block's extent can be read. -/
def blockReads (s : State) (a n : Nat) : Bool := decide (s.loadState a n = .ok) && !s.poisoned a n

/-- Bytes cut at the granules of 2 KiB. The first argument bounds their number. -/
def granules : Nat → Nat → List Byte → List (Nat × List Byte)
  | 0, _, _ => []
  | k + 1, a, b =>
    if b = [] then []
    else
      let n := 2048 - a % 2048
      (a, b.take n) :: granules k (a + n) (b.drop n)

/-- A block's store to memory: granule by granule, held while a channel relocks, failing on a lost channel and in the pool, where the memory error
record says so (R341, R347, R349). -/
def blockStore (s : State) (blk a : Nat) (b : List Byte) : State :=
  if ¬ isLpddr a then s.store a b
  else (granules (b.length / 2048 + 2) a b).foldl (fun (s : State) p =>
    match s.lpState p.1 with
    | .held => { s with mc := { s.mc with heldStores := s.mc.heldStores ++ [(p.1, p.2, blk)] } }
    | .lost => s.errRecord p.1 4 blk 2
    | .pool => s.errRecord p.1 5 blk 2
    | _ => s.store p.1 p.2) s

/-- A block's store of an extent fails somewhere. -/
def blockFails (s : State) (a n : Nat) : Bool :=
  isLpddr a && (linesOf a n).any (fun k => decide (s.lpState (k * 64) = .lost ∨ s.lpState (k * 64) = .pool))

/-- The block stores that were held go on: a channel has relocked or left service (R341). -/
def heldGo (s : State) : State :=
  let l := s.mc.heldStores
  l.foldl (fun s p => s.blockStore p.2.2 p.1 p.2.1) { s with mc := { s.mc with heldStores := [] } }

/-- The channel to which a lost channel's data is not redirected any more, or the first to be lost: the state after a channel has
left service (R346, R347, R349), without what each region loses. -/
def dropChannel (s : State) (c : Nat) : State :=
  if s.mc.lost = some c ∨ s.mc.second.contains c then s
  else
    let up := s.f F.MEM_CH_UP_up
    let s := s.setF F.MEM_CH_UP_up (up - up.land (2 ^ c))
    let s := s.setF F.MEM_STATUS_trained (popCount (s.f F.MEM_CH_UP_up) 64)
    let s := { s with mc := { s.mc with relock := s.mc.relock.filter (fun x => decide (x.1 ≠ c)) } }
    if s.mc.lost.isSome then
      ({ s with mc := { s.mc with second := s.mc.second ++ [c] } } : State).setF F.MEM_STATUS_unabsorbed 1
    else
      let s := { s with mc := { s.mc with lost := some c, redirected := false, fresh := [] } }
      let s := s.setF F.MEM_STATUS_lost c
      let s := s.setF F.MEM_STATUS_lost_valid 1
      s.setF F.MEM_STATUS_redirecting 1

end State
end Sys2Proof.Machine
end

