-- ==== Sys2Proof/Machine/Operands.lean ====
section
/-! DEFINITION. The operand forms of the Tender ISA (03 "Instruction formats", R43): immediates, bit-field selectors, branch and
jump targets. -/

namespace Sys2Proof.Machine

/-- The selector of SHI and the amount, none on a reserved layout (R43). -/
def shiForm (imm : BitVec 15) : Option (Nat × Nat) :=
  let sel := bits imm.toNat 12 3
  if sel < 4 ∧ bits imm.toNat 6 6 = 0 then some (sel, bits imm.toNat 0 6) else none

/-- Position and length of a bit field, none on a reserved layout (R43). -/
def fieldForm (imm : BitVec 15) : Option (Nat × Nat) :=
  let pos := bits imm.toNat 6 6
  let len := bits imm.toNat 0 6 + 1
  if bits imm.toNat 12 3 = 0 ∧ pos + len ≤ 64 then some (pos, len) else none

namespace State

/-- The effective address of a load or store: g[ra] + sext(imm15, 15) (R45). -/
def effAddr (s : State) (i : Tender) (ra : Fin 32) (imm : BitVec 15) : Word := s.g i ra + sext15 imm

/-- The pc of a tender as a 64-bit word. -/
def pcWord (s : State) (i : Tender) : Word := (s.t i).pc.zeroExtend 64

/-- A branch target: words counted from the branch itself. -/
def branchTarget (s : State) (i : Tender) (off : BitVec 15) : Word := s.pcWord i + sext15 off * 4

/-- A jump target of JAL. -/
def jumpTarget (s : State) (i : Tender) (off : BitVec 20) : Word := s.pcWord i + sext20 off * 4

/-- A jump target of JALR: the two low bits are cleared. -/
def jalrTarget (s : State) (i : Tender) (ra : Fin 32) (imm : BitVec 15) : Word := (s.g i ra + sext15 imm) &&& ~~~3#64

end State
end Sys2Proof.Machine
end

