-- ==== Sys2Proof/Machine/Flags.lean ====
section
/-! DEFINITION. What the arithmetic of the Tender ISA computes (03 R42, R43, R44): there are no condition flags; comparisons,
saturation, division corners and bit counts are all here. -/

namespace Sys2Proof.Machine

/-- 1 when a condition holds, else 0, as a word. -/
def boolWord (b : Bool) : Word := if b then 1 else 0

/-- The number of leading zero bits of a 64-bit word (R42, CLZ). -/
def clz64 (a : Word) : Nat := ((List.range 64).find? (fun k => a.toNat.testBit (63 - k))).getD 64

/-- The number of trailing zero bits of a 64-bit word (R42, CTZ). -/
def ctz64 (a : Word) : Nat := ((List.range 64).find? (fun k => a.toNat.testBit k)).getD 64

/-- The bytes of a word in reversed order (R42, BSWAP). -/
def bswap64 (a : Word) : Word := BitVec.ofNat 64 (beNat (leBytes a.toNat 8))

/-- An exact signed result held within 64 bits (R42, ADDS and SUBS). -/
def sat64 (z : Int) : Word := BitVec.ofInt 64 (clampInt z (-(2 ^ 63)) (2 ^ 63 - 1))

/-- Signed quotient, truncated toward zero, with the corners of R42. -/
def divS (a b : Word) : Word := if b = 0 then BitVec.allOnes 64 else BitVec.ofInt 64 (a.toInt.tdiv b.toInt)

/-- Signed remainder with the sign of the dividend, with the corners of R42. -/
def remS (a b : Word) : Word := if b = 0 then a else BitVec.ofInt 64 (a.toInt.tmod b.toInt)

/-- Unsigned quotient (R42). -/
def divU (a b : Word) : Word := if b = 0 then BitVec.allOnes 64 else BitVec.ofNat 64 (a.toNat / b.toNat)

/-- Unsigned remainder (R42). -/
def remU (a b : Word) : Word := if b = 0 then a else BitVec.ofNat 64 (a.toNat % b.toNat)

/-- The ALU operation of a function code on a and b, none on a reserved code; `rb` is the register number of b, which CLZ, CTZ,
POPC and BSWAP require to be zero (R42). -/
def aluOp (fn : Nat) (rb : Fin 32) (a b : Word) : Option Word :=
  let sh := b.toNat % 64
  match fn with
  | 0x000 => some (a + b)
  | 0x001 => some (a - b)
  | 0x002 => some (a &&& b)
  | 0x003 => some (a ||| b)
  | 0x004 => some (a ^^^ b)
  | 0x005 => some (a &&& ~~~b)
  | 0x008 => some (a <<< sh)
  | 0x009 => some (a >>> sh)
  | 0x00A => some (a.sshiftRight sh)
  | 0x00B => some (a.rotateLeft sh)
  | 0x00C => some (a.rotateRight sh)
  | 0x010 => some (boolWord (a.slt b))
  | 0x011 => some (boolWord (a.ult b))
  | 0x012 => some (if a.slt b then a else b)
  | 0x013 => some (if a.slt b then b else a)
  | 0x014 => some (if a.ult b then a else b)
  | 0x015 => some (if a.ult b then b else a)
  | 0x020 => some (a * b)
  | 0x021 => some (BitVec.ofInt 64 (a.toInt * b.toInt / 2 ^ 64))
  | 0x022 => some (BitVec.ofNat 64 (a.toNat * b.toNat / 2 ^ 64))
  | 0x024 => some (divS a b)
  | 0x025 => some (divU a b)
  | 0x026 => some (remS a b)
  | 0x027 => some (remU a b)
  | 0x030 => some (sat64 (a.toInt + b.toInt))
  | 0x031 => some (sat64 (a.toInt - b.toInt))
  | 0x040 => if rb = 0 then some (BitVec.ofNat 64 (clz64 a)) else none
  | 0x041 => if rb = 0 then some (BitVec.ofNat 64 (ctz64 a)) else none
  | 0x042 => if rb = 0 then some (BitVec.ofNat 64 (popCount a.toNat 64)) else none
  | 0x043 => if rb = 0 then some (bswap64 a) else none
  | _ => none

/-- SHI on a word: selector 0 SLL, 1 SRL, 2 SRA, 3 ROR (R43). -/
def shiOp (sel amt : Nat) (a : Word) : Word :=
  match sel with
  | 0 => a <<< amt
  | 1 => a >>> amt
  | 2 => a.sshiftRight amt
  | _ => a.rotateRight amt

/-- The bit field at `pos` of `len` bits, zero-extended (R43). -/
def extuOp (pos len : Nat) (a : Word) : Word := BitVec.ofNat 64 (bits a.toNat pos len)

/-- The bit field at `pos` of `len` bits, sign-extended (R43). -/
def extsOp (pos len : Nat) (a : Word) : Word := BitVec.ofInt 64 (signedOf (bits a.toNat pos len) len)

/-- The low `len` bits of a put into the field of d at `pos` (R43). -/
def insOp (pos len : Nat) (d a : Word) : Word :=
  let m : Word := BitVec.ofNat 64 (place (2 ^ len - 1) pos len)
  (d &&& ~~~m) ||| ((a <<< pos) &&& m)

end Sys2Proof.Machine
end

