-- ==== Sys2Proof/Machine/Access.lean ====
section
/-! DEFINITION. The regions of the tender address space and what each privilege may do there (03 R36): the one check that loads,
stores, atomic operations and every instruction or block that takes an address on a tender's behalf uses. -/

namespace Sys2Proof.Machine

/-- A region of R36. -/
inductive Region
  | own | others | gallery | retained | regs | lpddr
  deriving DecidableEq, Repr

/-- The region that holds an extent of `n` bytes whole. -/
def regionOf (a n : Nat) : Option Region :=
  let e := a + n
  if e ≤ 0x40000 then some .own
  else if 0x08000000 ≤ a ∧ e ≤ 0x08000000 + 24 * 0x40000 then some .others
  else if 0x10000000 ≤ a ∧ e ≤ 0x12000000 then some .gallery
  else if 0x20000000 ≤ a ∧ e ≤ 0x20400000 then some .retained
  else if 0x40000000 ≤ a ∧ e ≤ 0x40300000 then some .regs
  else if 0x100000000000 ≤ a ∧ e ≤ 0x10F800000000 then some .lpddr
  else none

/-- The end of the region in which an address lies. -/
def regionEnd (a : Nat) : Nat :=
  if a < 0x40000 then 0x40000
  else if a < 0x08000000 + 24 * 0x40000 then 0x08000000 + 24 * 0x40000
  else if a < 0x12000000 then 0x12000000
  else if a < 0x20400000 then 0x20400000
  else if a < 0x40300000 then 0x40300000
  else 0x10F800000000

/-- An extent lies within one of the windows. -/
def inWindows (w : List (Nat × Nat)) (a n : Nat) : Bool := w.any (fun x => decide (x.1 ≤ a ∧ a + n ≤ x.1 + x.2))

/-- The first address, from one on, that lies in none of the windows. -/
def windowsEnd (w : List (Nat × Nat)) : Nat → Nat → Nat
  | 0, a => a
  | k + 1, a =>
    match w.find? (fun x => decide (x.1 ≤ a ∧ a < x.1 + x.2)) with
    | none => a
    | some x => windowsEnd w k (x.1 + x.2)

namespace State

/-- Whether the running privilege `prv` (true for ORDER) of a tender admits an access of a kind to an extent that lies in one region
of memory; register space is left to the register rules (R36). -/
def admits (s : State) (i : Tender) (prv : Bool) (k : AccKind) (a n : Nat) : Bool :=
  match regionOf a n with
  | none => false
  | some .own => prv || decide (k = .load) || decide (ownerBase + s.codeSize i ≤ a)
  | some .others => prv && decide (k = .load)
  | some .gallery => prv || inWindows (((s.progOf i).map (·.gallery)).getD []) a n
  | some .retained => prv || decide (k = .load)
  | some .regs => decide (k ≠ .amo)
  | some .lpddr => decide (k ≠ .amo) && (prv || inWindows (((s.progOf i).map (·.lpddr)).getD []) a n)

/-- The region check of an effective address (R36). -/
def regionCheck (ea : Word) : TrapReq :=
  trapIf (decide (2 ^ 48 ≤ ea.toNat) || !inRegion ea.toNat) Cause.address ea

/-- The alignment check (R45). -/
def alignCheck (ea : Word) (n : Nat) : TrapReq := trapIf (decide (ea.toNat % n ≠ 0)) Cause.align ea

/-- The first byte, from an address on, that a block may not use on a tender's behalf at a privilege: register space never, at HOST what lies
in no window of the program (R36, 04 R60). -/
def admitEnd (s : State) (i : Tender) (prv : Bool) (k : AccKind) (a : Nat) : Nat :=
  match regionOf a 1 with
  | none => a
  | some .regs => a
  | some r =>
    if s.admits i prv k a 1 = false then a
    else match r with
      | .gallery => if prv then regionEnd a else windowsEnd (((s.progOf i).map (·.gallery)).getD []) 64 a
      | .lpddr => if prv then regionEnd a else windowsEnd (((s.progOf i).map (·.lpddr)).getD []) 64 a
      | _ => regionEnd a

/-- An extent a block may use on a tender's behalf: in memory, every byte admitted at the privilege. -/
def memAdmits (s : State) (i : Tender) (prv : Bool) (k : AccKind) (a n : Nat) : Bool := decide (a + n ≤ s.admitEnd i prv k a)

/-- The bytes of an extent at a tender's address. -/
def rdAt (s : State) (i : Tender) (a n : Nat) : List Byte := s.rdBytes (home i a) n

/-- Bytes stored at a tender's address. -/
def stAt (s : State) (i : Tender) (a : Nat) (b : List Byte) : State := s.store (home i a) b

/-- An extent at a tender's address can be read: neither lost nor stale nor with an uncorrectable error (17 R344, R347). -/
def readable (s : State) (i : Tender) (a n : Nat) : Bool :=
  decide (s.loadState (home i a) n = .ok) && !s.poisoned (home i a) n

end State
end Sys2Proof.Machine
end

