-- ==== Sys2Proof/Machine/GrainCoder.lean ====
section
/-! DEFINITION. The Grain coder of Scarf (11 R219 to R221): the decoder as R220 writes it, and the keeper's encoder. -/

namespace Sys2Proof.Machine
namespace Grain

/-! ### Bits -/

/-- The bits of bytes, least significant bit of each byte first (R219). -/
def streamOf (b : List Byte) : List Bool := b.flatMap (fun x => (List.range 8).map (fun i => x.toNat.testBit i))

/-- The number that a list of bits spells, least significant first. -/
def numOf : List Bool → Nat
  | [] => 0
  | b :: r => b2n b + 2 * numOf r

/-- `n` bits of a number, least significant first. -/
def bitsOf (x : Nat) : Nat → List Bool
  | 0 => []
  | n + 1 => x.testBit 0 :: bitsOf (x / 2) n

/-- Bits packed into bytes, the last one filled with zeros; the first argument bounds the number of bytes. -/
def packBits : Nat → List Bool → List Byte
  | 0, _ => []
  | _, [] => []
  | k + 1, l => BitVec.ofNat 8 (numOf (l.take 8)) :: packBits k (l.drop 8)

/-! ### The decoder (R220) -/

/-- The number of leading ones, at most 16, and what follows the terminating zero. -/
def unary : Nat → Nat → List Bool → Option (Nat × List Bool)
  | 0, q, l => some (q, l)
  | k + 1, q, b :: l => if b then unary k (q + 1) l else some (q, l)
  | _ + 1, _, [] => none

/-- `n` bits read as a number. -/
def getBits (n : Nat) (l : List Bool) : Option (Nat × List Bool) :=
  if l.length < n then none else some (numOf (l.take n), l.drop n)

/-- The values of a RICE plane after its first byte. -/
def riceRest (k : Nat) : Nat → Nat → List Bool → Option (List Byte × List Bool)
  | 0, _, l => some ([], l)
  | m + 1, prev, l => do
    let (q, l) ← unary 16 0 l
    let (z, l) ← if q = 16 then getBits 8 l else (getBits k l).map (fun x => (q * 2 ^ k + x.1, x.2))
    if 255 < z then none
    else
      let d := if z % 2 = 1 then 256 - (z / 2 + 1) else z / 2
      let b := (prev + d) % 256
      let (r, l) ← riceRest k m b l
      some (BitVec.ofNat 8 b :: r, l)

/-- `decode_plane`: the plane's bytes and what follows. -/
def decodePlane (c : List Byte) (m : Nat) : Option (List Byte × List Byte) :=
  match c with
  | [] => none
  | ph :: r =>
    let h := ph.toNat
    if bits h 5 3 ≠ 0 then none
    else match bits h 0 2 with
      | 0 => if r.length < m then none else some (r.take m, r.drop m)
      | 1 => (match r with | [] => none | b :: r => some (List.replicate m b, r))
      | 2 =>
        let win := r.take (3 * m + 1)
        (match getBits 8 (streamOf win) with
         | none => none
         | some (b0, l) =>
           match riceRest (bits h 2 3) (m - 1) b0 l with
           | none => none
           | some (bs, l') =>
             let used := (8 * win.length - l'.length + 7) / 8
             if (l'.take (8 * used - (8 * win.length - l'.length))).any id then none
             else some ((BitVec.ofNat 8 b0) :: bs, r.drop used))
      | _ => none

/-- The planes of a block, plane 0 first. -/
def decodePlanes : Nat → Nat → List Byte → Option (List (List Byte) × List Byte)
  | 0, _, c => some ([], c)
  | w + 1, m, c => do
    let (p, c) ← decodePlane c m
    let (ps, c) ← decodePlanes w m c
    some (p :: ps, c)

/-- Elements put together from their planes. -/
def interleave (planes : List (List Byte)) : Nat → List Byte
  | 0 => []
  | m + 1 => planes.map (fun p => p.headD 0) ++ interleave (planes.map List.tail) m

/-- `decode_segment`: none where it fails. The first argument bounds the number of blocks. -/
def decodeBlocks : Nat → List Byte → Nat → Option (List Byte)
  | 0, c, left => if left = 0 ∧ c = [] then some [] else none
  | k + 1, c, left =>
    if left = 0 then (if c = [] then some [] else none)
    else match c with
      | b0 :: b1 :: b2 :: r =>
        let n := b1.toNat + 256 * b2.toNat + 1
        let w := 2 ^ bits b0.toNat 2 2
        if bits b0.toNat 4 4 ≠ 0 ∨ n % w ≠ 0 ∨ left < n then none
        else match bits b0.toNat 0 2 with
          | 0 => if r.length < n then none else (decodeBlocks k (r.drop n) (left - n)).map (fun x => r.take n ++ x)
          | 2 => (decodeBlocks k r (left - n)).map (fun x => List.replicate n 0 ++ x)
          | 1 =>
            (match decodePlanes w (n / w) r with
             | none => none
             | some (ps, r) => (decodeBlocks k r (left - n)).map (fun x => interleave ps (n / w) ++ x))
          | _ => none
      | _ => none

/-- A coded segment decoded to its raw length. -/
def decode (c : List Byte) (raw : Nat) : Option (List Byte) := decodeBlocks (raw + 1) c raw

/-- A coded segment decoded whose raw length nothing gives: its blocks up to the end. The first argument bounds their number. -/
def decodeAny : Nat → List Byte → Option (List Byte)
  | 0, c => if c = [] then some [] else none
  | k + 1, c =>
    match c with
    | [] => some []
    | b0 :: b1 :: b2 :: r =>
      let n := b1.toNat + 256 * b2.toNat + 1
      let w := 2 ^ bits b0.toNat 2 2
      if bits b0.toNat 4 4 ≠ 0 ∨ n % w ≠ 0 then none
      else match bits b0.toNat 0 2 with
        | 0 => if r.length < n then none else (decodeAny k (r.drop n)).map (fun x => r.take n ++ x)
        | 2 => (decodeAny k r).map (fun x => List.replicate n 0 ++ x)
        | 1 =>
          (match decodePlanes w (n / w) r with
           | none => none
           | some (ps, r) => (decodeAny k r).map (fun x => interleave ps (n / w) ++ x))
        | _ => none
    | _ => none

/-! ### The encoder (R221) -/

/-- The zigzag of the difference of two bytes. -/
def zigzag (prev b : Nat) : Nat :=
  let s := (b + 256 - prev) % 256
  if s < 128 then 2 * s else 2 * (256 - s) - 1

/-- The bits of a RICE plane after its first byte. -/
def riceBits (k : Nat) : Nat → List Byte → List Bool
  | _, [] => []
  | prev, b :: r =>
    let z := zigzag prev b.toNat
    let q := z / 2 ^ k
    (if q < 16 then List.replicate q true ++ [false] ++ bitsOf z k else List.replicate 16 true ++ bitsOf z 8) ++ riceBits k b.toNat r

/-- A RICE coding of a plane. -/
def ricePlane (k : Nat) (p : List Byte) : List Byte :=
  match p with
  | [] => []
  | b :: r =>
    let l := bitsOf b.toNat 8 ++ riceBits k b.toNat r
    BitVec.ofNat 8 (2 + 4 * k) :: packBits (l.length / 8 + 1) l

/-- The shorter of two codings, the first among equals. -/
def shorter (a b : List Byte) : List Byte := if b.length < a.length then b else a

/-- The coding of a plane: the shortest, among equals the lowest mode and then the lowest k. -/
def codePlane (p : List Byte) : List Byte :=
  let raw : List Byte := 0 :: p
  let best := match p with
    | b :: r => if r.all (fun x => decide (x = b)) then shorter raw [1, b] else raw
    | [] => raw
  (List.range 8).foldl (fun a k => shorter a (ricePlane k p)) best

/-- Plane `i` of the elements of `w` bytes. -/
def planeOf (w i : Nat) (b : List Byte) : List Byte := (b.zipIdx.filter (fun x => decide (x.2 % w = i))).map (·.1)

/-- A block of at most 4,096 bytes of elements of 2^lw bytes: ZERO, then PLANES if shorter than RAW, then RAW. A length that is no
multiple of the width is coded with width 1. -/
def codeBlock (lw : Nat) (b : List Byte) : List Byte :=
  let lw := if b.length % 2 ^ lw = 0 then lw else 0
  let w := 2 ^ lw
  let hdr (mode : Nat) : List Byte := [BitVec.ofNat 8 (mode + 4 * lw)] ++ leBytes (b.length - 1) 2
  if b.all (fun x => decide (x = 0)) then hdr 2
  else
    let ps := (List.range w).flatMap (fun i => codePlane (planeOf w i b))
    if ps.length < b.length then hdr 1 ++ ps else hdr 0 ++ b

/-- The blocks of one section. -/
def codeSection (lw : Nat) : Nat → List Byte → List Byte
  | 0, _ => []
  | _, [] => []
  | k + 1, b => codeBlock lw (b.take 4096) ++ codeSection lw k (b.drop 4096)

/-- log2 of the element width of a storage format (R221): 8 for FP64, 4 for FP32 and INT32, 2 for BF16, FP16 and INT16, else 1. -/
def lgWidth (fmt : Nat) : Nat :=
  match fmt with
  | 0x0 => 3
  | 0x1 => 2
  | 0xA => 2
  | 0x3 => 1
  | 0x4 => 1
  | 0xB => 1
  | _ => 0

/-- The sections of a segment: log2 width and length of each, in order; bytes past them count as one section of width 1. -/
def codeSections : List (Nat × Nat) → List Byte → List Byte
  | [], b => codeSection 0 (b.length / 4096 + 1) b
  | (lw, n) :: r, b => codeSection lw (n / 4096 + 1) (b.take n) ++ codeSections r (b.drop n)

/-- The stored form of a segment and whether it is raw: the coded form where it is shorter. -/
def store (secs : List (Nat × Nat)) (b : List Byte) : List Byte × Bool :=
  let c := codeSections secs b
  if c.length < b.length then (c, false) else (b, true)

/-- The raw bytes of a stored form, none where the decode fails (R216 flags[0], R220). -/
def load (stored : List Byte) (raw : Nat) (isRaw : Bool) : Option (List Byte) :=
  if isRaw then (if stored.length = raw then some stored else none) else decode stored raw

end Grain
end Sys2Proof.Machine
end

