-- ==== Sys2Proof/Machine/Gcm.lean ====
section
/-! DEFINITION. AES-256 in Galois/Counter Mode, which seals the frames of KCP (16 R325). A block is 16 byte values, a key 32; GF(2^128) is written
as in the mode's own definition, with bit 0 the most significant. -/

namespace Sys2Proof.Machine.Gcm

/-- The AES substitution box, entry 0 in the least significant byte. -/
def sbox : Nat :=
  0xC072A49CAFA2D4ADF04759FA7DC982CA76ABD7FE2B670130C56F6BF27B777C63 +
  0x75B227EBE28012079A059618C323C7041531D871F1E5A534CCF73F362693FDB7 * 2 ^ 256 +
  0xCF584C4A39BECB6A5BB1FC20ED00D153842FE329B3D63B52A05A6E1B1A2C8309 * 2 ^ 512 +
  0xD2F3FF1021DAB6BCF5389D928F40A351A89F3C507F02F94585334D43FBAAEFD0 * 2 ^ 768 +
  0xDB0B5EDE14B8EE4688902A22DC4F816073195D643D7EA7C41744975FEC130CCD * 2 ^ 1024 +
  0x08AE7A65EAF4566CA94ED58D6D37C8E779E4959162ACD3C25C2406490A3A32E0 * 2 ^ 1280 +
  0x9E1DC186B95735610EF6034866B53E708A8BBD4B1F74DDE8C6B4A61C2E2578BA * 2 ^ 1536 +
  0x16BB54B00F2D99416842E6BF0D89A18CDF2855CEE9871E9B948ED9691198F8E1 * 2 ^ 1792

/-- A byte substituted. -/
def sub (b : Nat) : Nat := sbox / 2 ^ (8 * b) % 256

/-- A byte times x in GF(2^8). -/
def xtime (b : Nat) : Nat := if 128 ≤ b then (2 * b % 256) ^^^ 0x1B else 2 * b

/-- Four bytes of the key schedule from the word before and the word eight before. -/
def nextWord (i : Nat) (rcon : Nat) (prev old : List Nat) : List Nat :=
  let t := if i % 8 = 0 then ((prev.drop 1 ++ prev.take 1).map sub).zipIdx.map (fun x => if x.2 = 0 then x.1 ^^^ rcon else x.1)
    else if i % 8 = 4 then prev.map sub else prev
  (old.zip t).map (fun x => x.1 ^^^ x.2)

/-- The key schedule: the words so far, newest first, up to 60; `rcon` is the round constant that comes next. -/
def expandGo : Nat → Nat → List (List Nat) → List (List Nat)
  | 0, _, ws => ws
  | k + 1, rcon, ws =>
    let i := ws.length
    expandGo k (if i % 8 = 0 then xtime rcon else rcon) (nextWord i rcon ((ws[0]?).getD []) ((ws[7]?).getD []) :: ws)

/-- The fifteen round keys of a key. -/
def roundKeys (key : List Nat) : List (List Nat) :=
  let w := (expandGo 52 1 ((List.range 8).map (fun i => (key.drop (4 * i)).take 4)).reverse).reverse
  (List.range 15).map (fun r => ((w.drop (4 * r)).take 4).flatten)

/-- Bytes combined by exclusive-or. -/
def xor (a b : List Nat) : List Nat := (a.zip b).map (fun x => x.1 ^^^ x.2)

/-- Rows shifted: byte 4c + r comes from column c + r. -/
def shiftRows (b : List Nat) : List Nat := (List.range 16).map (fun k => (b[4 * ((k / 4 + k % 4) % 4) + k % 4]?).getD 0)

/-- One byte of a mixed column. -/
def mix (a b c d : Nat) : Nat := xtime a ^^^ (xtime b ^^^ b) ^^^ c ^^^ d

/-- Columns mixed. -/
def mixColumns (b : List Nat) : List Nat :=
  (List.range 16).map (fun k =>
    let at_ (j : Nat) := (b[k / 4 * 4 + (k + j) % 4]?).getD 0
    mix (at_ 0) (at_ 1) (at_ 2) (at_ 3))

/-- The rounds after the first key: mixing in all but the last. -/
def rounds : List (List Nat) → List Nat → List Nat
  | [], b => b
  | [k], b => xor (shiftRows (b.map sub)) k
  | k :: r, b => rounds r (xor (mixColumns (shiftRows (b.map sub))) k)

/-- One block encrypted. -/
def block (ks : List (List Nat)) (b : List Nat) : List Nat :=
  match ks with
  | [] => b
  | k :: r => rounds r (xor b k)

/-- The number that sixteen bytes spell, first byte most significant. -/
def num (b : List Nat) : Nat := b.foldl (fun a x => 256 * a + x) 0

/-- A number as sixteen bytes. -/
def bytes (n : Nat) : List Nat := (List.range 16).map (fun k => n / 256 ^ (15 - k) % 256)

/-- The product in GF(2^128): the first argument counts the bits left, from the most significant. -/
def mulGo (x : Nat) : Nat → Nat → Nat → Nat
  | 0, _, z => z
  | k + 1, v, z => mulGo x k (if v % 2 = 1 then (v / 2) ^^^ (0xE1 * 2 ^ 120) else v / 2) (if x.testBit k then z ^^^ v else z)

def mul (x y : Nat) : Nat := mulGo x 128 y 0

/-- Sixteen-byte blocks, the last one padded with zeros; the first argument bounds their number. -/
def chunks : Nat → List Nat → List (List Nat)
  | 0, _ => []
  | _, [] => []
  | k + 1, l => ((l ++ List.replicate 16 0).take 16) :: chunks k (l.drop 16)

/-- The counter blocks' key stream over a text. -/
def ctr (ks : List (List Nat)) (nonce : List Nat) : Nat → Nat → List Nat → List Nat
  | 0, _, _ => []
  | _, _, [] => []
  | k + 1, i, l => xor (l.take 16) (block ks (nonce ++ (bytes i).drop 12)) ++ ctr ks nonce k (i + 1) (l.drop 16)

/-- The ciphertext and the tag of a text under a key of 32 bytes, a nonce of 12, and additional data. -/
def sealed (key nonce aad text : List Byte) : List Byte × List Byte :=
  let n (l : List Byte) := l.map (fun (b : Byte) => b.toNat)
  let w (l : List Nat) : List Byte := l.map (fun x => BitVec.ofNat 8 x)
  let ks := roundKeys (n key)
  let h := num (block ks (List.replicate 16 0))
  let c := ctr ks (n nonce) (text.length / 16 + 1) 2 (n text)
  let all := chunks (aad.length / 16 + 1) (n aad) ++ chunks (c.length / 16 + 1) c ++
    [(bytes (8 * aad.length)).drop 8 ++ (bytes (8 * c.length)).drop 8]
  let g := all.foldl (fun a b => mul (a ^^^ num b) h) 0
  (w c, w (xor (bytes g) (block ks (n nonce ++ [0, 0, 0, 1]))))

end Sys2Proof.Machine.Gcm
end

