-- ==== Sys2Proof/Machine/KcpFrame.lean ====
section
/-! DEFINITION. The frames of the host port on their way out: the KCP header, sealing, MACsec's packet numbers (16 R322 to R325). -/

namespace Sys2Proof.Machine
namespace State

/-- A frame takes the next packet number of the transmit association in force while MACsec runs (R322). -/
def macsecNumber (s : State) : State :=
  { s with kcp := { s.kcp with sas := s.kcp.sas.map (fun (a : MacsecSa) =>
    if s.f F.MACSEC_CTL_mode ≠ 0 ∧ a.channel = none ∧ a.an = s.f F.MACSEC_CTL_tx_an then { a with nextPn := a.nextPn + 1 } else a) } }

/-- A transport answers: its enable bit is set, and a datagram goes to the port of KCP over an IP version that is enabled (R323). -/
def viaOpen (s : State) : KcpVia → Bool
  | .udp v6 port => s.fb F.KCP_PORT_udp_en && decide (port = s.f F.KCP_PORT_udp) && s.fb (if v6 then F.KCP_PORT_ip6_en else F.KCP_PORT_ip4_en)
  | .ether => s.fb F.KCP_PORT_eth_en

/-- The transport of a session's frame or of a reply: that at which the keeper was reached (R323). -/
def outVia (s : State) : Out → Option KcpVia
  | .sessFrame x _ _ _ => some (s.kcp.sess[Fin.ofNat 8 x]).via
  | .kcpFrame _ v _ _ => some v
  | _ => none

/-- A frame may leave: its transport answers. -/
def outOpen (s : State) (o : Out) : Bool := (s.outVia o).all s.viaOpen

/-- The source MAC of a frame: the service address's for sessions and claims of it, and where the keeper was reached at it; else the station's (R321). -/
def outSrc (s : State) : Out → Nat
  | .sessFrame x _ _ _ => if (s.kcp.sess[Fin.ofNat 8 x]).station then s.f F.MAC_STA_addr else s.f F.MAC_SVC_addr
  | .kcpFrame sta _ _ _ => if sta then s.f F.MAC_STA_addr else s.f F.MAC_SVC_addr
  | .arp _ _ mac _ => mac
  | _ => s.f F.MAC_STA_addr

/-- What stands before a frame: source, VLAN tag while MAC_VLAN.vid is not zero, and while MACsec runs the tag of the transmit association in force, whose SCI
is MAC_STA followed by port 0x0001 (R319, R321, R322). -/
def portHead (s : State) (o : Out) : PortHead :=
  let vid := s.f F.MAC_VLAN_vid
  let an := s.f F.MACSEC_CTL_tx_an
  let pn := ((s.kcp.sas.find? (fun a => decide (a.channel = none ∧ a.an = an))).map (·.nextPn)).getD 0
  ⟨s.outSrc o, if vid = 0 then none else some (s.f F.MAC_VLAN_pcp, vid),
    if s.f F.MACSEC_CTL_mode = 0 then none else some (s.f F.MAC_STA_addr * 65536 + 1, an, pn, decide (2 ≤ s.f F.MACSEC_CTL_mode)), s.outVia o⟩

/-- A frame as it leaves the port. -/
def onPort (s : State) (o : Out) : Out := .port (s.portHead o) o

/-- A frame leaves the port; with the port or its transport down it is lost. -/
def netSend (s : State) (o : Out) : State := if s.portUp && s.outOpen o then (s.macsecNumber).send (s.onPort o) else s

/-! ### Next hops (R320) -/

/-- A station address given as one number is IPv4 below 2^32, else IPv6. -/
def addrV6 (addr : Nat) : Bool := decide (2 ^ 32 ≤ addr)

/-- The neighbour that a frame to an address goes to: the address itself on the keeper's own prefix, else the gateway; none where none is set (R320). -/
def nextHop (s : State) (addr : Nat) : Option Nat :=
  if addrV6 addr then
    let own := s.f F.KCP_IP6_STA_LO_addr + s.f F.KCP_IP6_STA_HI_addr * 2 ^ 64
    let gw := s.f F.KCP_GW6_LO_addr + s.f F.KCP_GW6_HI_addr * 2 ^ 64
    let w := 2 ^ (128 - s.f F.KCP_PORT_pfx6)
    if addr / w = own / w then some addr else if gw = 0 then none else some gw
  else
    let w := 2 ^ (32 - s.f F.KCP_PORT_pfx4)
    if addr / w = s.f F.KCP_IP4_sta4 / w then some addr else if s.f F.KCP_GW4_gw4 = 0 then none else some (s.f F.KCP_GW4_gw4)

/-- A frame to another keeper's station address. The next hop is asked for where the neighbour cache does not hold it. DESIGN CHOICE: the frame is sent with the
question (the table has no row for an answer); without a gateway a frame off the prefix is not sent. -/
def netSendTo (s : State) (addr : Nat) (o : Out) : State :=
  match s.nextHop addr with
  | none => s
  | some hop =>
    let known := s.kcp.neighbours.any (fun n => decide (n.1 = (if addrV6 addr then 6 else 4) ∧ n.2.1 = hop))
    (if known then s else s.netSend (.neighbourAsk (addrV6 addr) hop)).netSend o

/-- The 40-byte header of a KCP frame, big-endian (R323). -/
def kcpHeader (s : State) (cls session flags seq ack ref len code stamp : Nat) : List Byte :=
  beBytes 0x4B43 2 ++ beBytes 1 1 ++ beBytes cls 1 ++ beBytes session 1 ++ beBytes flags 1 ++ beBytes s.incarnation 1 ++ [0] ++
    beBytes seq 8 ++ beBytes ack 8 ++ beBytes ref 8 ++ beBytes len 2 ++ beBytes code 2 ++
    beBytes (s.f F.GLB_TRAY_tray + place (b2n s.clk.relief) 15 1) 2 ++ beBytes stamp 2

/-- The nonce of a frame: the incarnation, the direction (1 from the keeper to the host or from responder to initiator), two zero bytes, seq (R325). -/
def kcpNonce (s : State) (dir seq : Nat) : List Byte := beBytes s.incarnation 1 ++ beBytes dir 1 ++ [0, 0] ++ beBytes seq 8

/-- A session frame as it leaves: header, encrypted body, tag (R323, R325). -/
def sessOut (s : State) (x : Fin 8) (cls flags seq ack ref code : Nat) (body : List Byte) : Out :=
  let h := s.kcpHeader cls x.val flags seq ack ref body.length code 0
  let c := Gcm.sealed (s.kcp.sess[x]).keyOut (s.kcpNonce 1 seq) h body
  .sessFrame x.val h c.1 c.2

/-- The header of a frame that belongs to no session and whose trailer is zero. DESIGN CHOICE: ACCEPT and OPEN carry session 0xFF, none. -/
def plainHeader (s : State) (cls code len : Nat) : List Byte := s.kcpHeader cls 0xFF 0 0 0 0 len code 0

/-- A frame that belongs to no session: ACCEPT, REFUSE, INFO (R324); it leaves from the address and over the transport at which the keeper was reached (R323). -/
def plainOut (s : State) (h : KcpHead) (cls code : Nat) (body : List Byte) : Out :=
  .kcpFrame h.station h.via (s.plainHeader cls code body.length) body

/-! ### Frames in (R319, R322, R323) -/

/-- The VLAN rule takes a frame. DESIGN CHOICE: with MAC_VLAN.vid zero a tagged frame is not taken. -/
def vlanTakes (s : State) (h : KcpHead) : Bool :=
  match h.vid with
  | none => decide (s.f F.MAC_VLAN_vid = 0) || s.fb F.MAC_VLAN_untagged_ok
  | some v => decide (s.f F.MAC_VLAN_vid ≠ 0 ∧ v = s.f F.MAC_VLAN_vid)

/-- The receive association of a MACsec tag. -/
def rxSa (s : State) (t : SecTag) : Option MacsecSa := s.kcp.sas.find? (fun a => decide (a.channel = some t.channel ∧ a.an = t.an))

/-- MACsec takes a frame: it runs not, or the frame has a tag of an association installed and passes the replay check of MACSEC_CTL.window. -/
def secTakes (s : State) (h : KcpHead) : Bool :=
  decide (s.f F.MACSEC_CTL_mode = 0) ||
    (match h.sec with
     | none => false
     | some t => (s.rxSa t).any (fun a => decide (a.nextPn ≤ t.pn + s.f F.MACSEC_CTL_window)))

/-- A frame is taken by the port: VLAN, MACsec, and a transport that answers. -/
def headTaken (s : State) (h : KcpHead) : Bool := s.vlanTakes h && s.secTakes h && s.viaOpen h.via

/-- MACSEC_FAIL is raised at most once per millisecond with the failures since the last (R322). -/
def macsecFail (s : State) : State :=
  let n := s.kcp.macsecFails.1 + 1
  if s.kcp.macsecFails.2.all (fun t => decide (t + tickMs ≤ s.beacon)) then
    raise { s with kcp := { s.kcp with macsecFails := (0, some s.beacon) } } Ev.macsecFail 0 (BitVec.ofNat 64 n)
  else { s with kcp := { s.kcp with macsecFails := (n, s.kcp.macsecFails.2) } }

/-- What the port does with a frame that arrives, before anything else: MACsec moves its association's packet number on, or counts a failure (R322).
DESIGN CHOICE: a frame whose association is not installed is counted as failing its ICV, one with no tag is dropped. -/
def headIn (s : State) (h : KcpHead) : State :=
  match h.sec with
  | none => s
  | some t =>
    if ¬ s.vlanTakes h ∨ s.f F.MACSEC_CTL_mode = 0 then s
    else if (s.rxSa t).isNone then (s.bump F.MACSEC_CNT_icv_fail).macsecFail
    else if ¬ s.secTakes h then (s.bump F.MACSEC_CNT_replay).macsecFail
    else { s with kcp := { s.kcp with sas := s.kcp.sas.map (fun (a : MacsecSa) =>
      if a.channel = some t.channel ∧ a.an = t.an then { a with nextPn := max a.nextPn (t.pn + 1) } else a) } }

/-- A notice frame (R324, R335), sent from the station address. -/
def noticeFrame (s : State) (addr : Nat) (body : List Byte) : Out := .notice addr (s.plainHeader 0xB 0 body.length) body

end State
end Sys2Proof.Machine
end

