-- ==== Sys2Proof/Machine/Buoy.lean ====
section
/-! DEFINITION. The Buoy links: messages with their sequence numbers and credits, and the control messages that the other blocks
send (13 R274 to R280, R393). -/

namespace Sys2Proof.Machine
namespace State

/-! ### The slots and ports of the mooring -/

/-- A slot's mooring state. -/
def mo (s : State) (n : Slot) : MorSlot := s.mor.slots[n]

/-- The state with a slot's mooring state changed. -/
def updMo (s : State) (n : Slot) (h : MorSlot → MorSlot) : State :=
  { s with mor := { s.mor with slots := s.mor.slots.set n (h (s.mo n)) } }

/-- A port's link. -/
def port (s : State) (p : Slot) : LinkSt := s.mor.ports[p]

/-- The state with a port's link changed. -/
def updPort (s : State) (p : Slot) (h : LinkSt → LinkSt) : State :=
  { s with mor := { s.mor with ports := s.mor.ports.set p (h (s.port p)) } }

/-- The slot that a port serves (13 R393). -/
def slotOf (s : State) (p : Slot) : Slot := Fin.ofNat 16 (s.f F.BLK_MAP_slot p.val)

/-- The straps report an accelerator position without strap error (13 R264). -/
def slotPresent (s : State) (n : Slot) : Bool :=
  s.fb F.MOR_STRAP_present n.val && !s.fb F.MOR_STRAP_blank n.val && !s.fb F.MOR_STRAP_error n.val

/-- The link of a slot is up: BLK_STATUS.state of the port mapped to it is UP (13). -/
def linkUp (s : State) (n : Slot) : Bool := decide (s.f F.BLK_STATUS_state (s.portOf n).val = 3)

/-- Cores of a slot's accelerator, as its Buoy announced them (13 R278). -/
def coresOf (s : State) (n : Slot) : Nat := ((s.port (s.portOf n)).ident.map (·.cores)).getD 0

end State

/-- Class and type of a message to a Buoy (13 R277, "Message types"). -/
def msgType (msg : String) : Nat × Nat :=
  match msg with
  | "IDENT" => (0, 0x01)
  | "WIN_READ" => (0, 0x02)
  | "WIN_WRITE" => (0, 0x03)
  | "ACTION" => (0, 0x05)
  | "RELEASE" => (0, 0x08)
  | "STOP_AT" => (0, 0x09)
  | "BOUNDARY_REQ" => (0, 0x0A)
  | "SHARD_RELEASE" => (0, 0x0C)
  | "SCHEDULE" => (0, 0x0D)
  | "SAMPLE_CTL" => (0, 0x0E)
  | "CREDIT" => (0, 0x0F)
  | "CANARY" => (0, 0x10)
  | "REPLAY_LIST" => (0, 0x11)
  | "SIGHT_REQ" => (0, 0x12)
  | "W1_MASK" => (0, 0x14)
  | "SEG_REQ" => (2, 0x01)
  | "SEGMENT" => (2, 0x02)
  | "UNIT_REQ" => (3, 0x01)
  | _ => (0, 0)

/-- The message class of a message to a Buoy (13 R277). -/
def msgClass (msg : String) : Nat := (msgType msg).1

/-- Bytes of a message's body. DESIGN CHOICE: 8 for each number of a message whose body the spec does not lay out. -/
def msgLen (msg : String) (args : List Nat) : Nat :=
  if msg = "IDENT" then 128 else if msg = "SEGMENT" then 24 + (args.length - 3) else 8 * args.length

/-- Frames of a message: its 32-byte header and its body in 400-byte payloads (13 R274, R277). -/
def msgFrames (msg : String) (args : List Nat) : Nat := (32 + msgLen msg args + 399) / 400

/-- The reference and the step of a message's header (13 R277): the ticket, unit, segment or request that it names, and its step. -/
def msgRef (msg : String) (args : List Nat) : Nat × Nat :=
  let arg (k : Nat) := (args[k]?).getD 0
  match msg with
  | "ACTION" => (arg 2, 0)
  | "SEG_REQ" => (arg 1, arg 0)
  | "UNIT_REQ" => (arg 0, 0)
  | "BOUNDARY_REQ" => (0, arg 0)
  | "SHARD_RELEASE" => (0, arg 0)
  | "SCHEDULE" => (arg 0, arg 1)
  | "CANARY" => (arg 0, 0)
  | _ => (0, 0)

/-- The 32-byte header with which a message begins (13 R277): type, body length, reference, step, beacon time. -/
def msgHeader (msg : String) (args : List Nat) (time : Nat) : List Byte :=
  leBytes (msgType msg).2 2 ++ leBytes 0 2 ++ leBytes (msgLen msg args) 4 ++ leBytes (msgRef msg args).1 8 ++ leBytes (msgRef msg args).2 8 ++
    leBytes time 8

/-- The class that may send a frame: the first, by precedence, for which credit is held and a message waits, with that message (13 R277). -/
def nextMsg (l : LinkSt) : Option (Nat × String × List Nat) :=
  [0, 1, 2, 3, 4, 5].findSome? (fun c =>
    if 0 < l.credits[Fin.ofNat 16 c] then l.waiting.find? (fun m => decide (m.1 = c)) else none)

namespace State

/-- Frames sent while credit is held and the replay buffer of 256 frames has room (13 R275, R277): a frame takes one credit of its class, and a
message has left with its last frame. -/
def pumpLink (p : Slot) : Nat → State → State
  | 0, s => s
  | k + 1, s =>
    let l := s.port p
    if 256 ≤ l.unacked.length then s
    else match nextMsg l with
      | none => s
      | some m =>
        let c : Fin 16 := Fin.ofNat 16 m.1
        let last := decide (msgFrames m.2.1 m.2.2 ≤ l.parts[c] + 1)
        let s := s.updPort p (fun l => { l with
          txNext := (l.txNext + 1) % 2 ^ 24
          unacked := l.unacked ++ [(l.txNext, s.beacon)]
          credits := l.credits.set c (l.credits[c] - 1)
          parts := l.parts.set c (if last then 0 else l.parts[c] + 1)
          waiting := if last then l.waiting.erase m else l.waiting })
        pumpLink p k (if last then s.send (.buoy p.val m.2.1 (msgHeader m.2.1 m.2.2 s.beacon) m.2.2) else s)

/-- A message given to a port's link. -/
def linkSend (s : State) (p : Slot) (msg : String) (args : List Nat) : State :=
  pumpLink p (msgFrames msg args) (s.updPort p (fun l => { l with waiting := l.waiting ++ [(msgClass msg, msg, args)] }))

/-- The highest frame number received in order from the peer, which every frame sent carries as its ack (13 R274, R275). -/
def LinkSt.ack (l : LinkSt) : Nat := (l.rxNext + 2 ^ 24 - 1) % 2 ^ 24

/-- An IDLE frame: its acknowledgement and sixteen credit counts (13 R277). -/
def idleSend (s : State) (p : Slot) (counts : List Nat) : State := s.send (.buoy p.val "IDLE" [] (LinkSt.ack (s.port p) :: counts))

/-- A message of a class has arrived in sequence with a body of so many bytes (0 where the spec lays none out: one frame): a valid frame, its numbers, and
its receive buffers, which are granted again (13 R275 to R277). DESIGN CHOICE: they are granted as soon as the message has been taken. -/
def linkHeard (s : State) (p : Slot) (cls len : Nat) : State :=
  let k := (32 + len + 399) / 400
  let s := s.updPort p (fun l => { l with lastFrame := s.beacon, rxNext := (l.rxNext + k) % 2 ^ 24 })
  s.idleSend p ((List.range 16).map (fun c => if c = cls then min k 255 else 0))

/-- The same of a slot's message over its own link. -/
def slotHeard (s : State) (n : Slot) (cls len : Nat) : State := if s.linkUp n then s.linkHeard (s.portOf n) cls len else s

/-- The same of a message that the other keeper forwards while the slot's own link is down (14 R285). -/
def slotTold (s : State) (n : Slot) (cls len : Nat) : State := if s.linkUp n then s.linkHeard (s.portOf n) cls len else s.pairHeard 3 len

/-- A control message to the Buoy of a slot, sent where its link is up. -/
def toBuoy (s : State) (n : Slot) (msg : String) (args : List Nat) : State :=
  if s.linkUp n then s.linkSend (s.portOf n) msg args else s

/-- A message to the Buoys of several slots. -/
def toBuoys (s : State) (l : List Slot) (msg : String) (args : List Nat) : State :=
  l.foldl (fun s n => s.toBuoy n msg args) s

/-- A window read sent to the Buoy of a port whose link is up (13 R281, R278: a quarantined link answers control reads). -/
def winSend (s : State) (p : Slot) (off : Nat) (who : WinWho) : State :=
  if s.f F.BLK_STATUS_state p.val = 3 ∨ s.f F.BLK_STATUS_state p.val = 4 then
    (s.updPort p (fun l => { l with windows := l.windows ++ [(off, s.beacon, who)] })).linkSend p "WIN_READ" [off]
  else s

/-- This tray's holder number of a slot (08 "Arrangements"). -/
def holderOf (s : State) (n : Slot) : Nat := s.f F.GLB_TRAY_tray * 16 + n.val

end State

/-- Every slot, lowest first. -/
def allSlots : List Slot := List.finRange 16

end Sys2Proof.Machine
end

