-- ==== Sys2Proof/Machine/Arith.lean ====
section
/-! DEFINITION. The reference arithmetic (06 R105 to R124): formats, exact values, rounding, block scaling, conversions, exact
products, chunk sums, truss nodes, elementwise operations. A value is exact: an integer times a power of two. -/

namespace Sys2Proof.Arith

/-- An exact value, or NaN, an infinity or a signed zero (R106, R109). `fin m e` stands for m × 2^e with m not 0. -/
inductive Dyad
  | nan
  | inf (neg : Bool)
  | zero (neg : Bool)
  | fin (m : Int) (e : Int)
  deriving DecidableEq, Repr

/-- A floating-point format of R106: width, mantissa bits, bias, the code of the largest finite value, the code of infinity where
there is one, the canonical NaN where there is one. -/
structure Fmt where
  width : Nat
  mb : Nat
  bias : Int
  maxCode : Nat
  infCode : Option Nat
  nanCode : Option Nat
  deriving DecidableEq, Repr

/-- The floating-point formats by format code (R106, R107). -/
def floatFmt : Nat → Option Fmt
  | 0x0 => some ⟨64, 52, 1023, 0x7FEFFFFFFFFFFFFF, some 0x7FF0000000000000, some 0x7FF8000000000000⟩
  | 0x1 => some ⟨32, 23, 127, 0x7F7FFFFF, some 0x7F800000, some 0x7FC00000⟩
  | 0x2 => some ⟨19, 10, 127, 0x3FBFF, some 0x3FC00, some 0x3FE00⟩
  | 0x3 => some ⟨16, 7, 127, 0x7F7F, some 0x7F80, some 0x7FC0⟩
  | 0x4 => some ⟨16, 10, 15, 0x7BFF, some 0x7C00, some 0x7E00⟩
  | 0x5 => some ⟨8, 3, 7, 0x7E, none, some 0x7F⟩
  | 0x6 => some ⟨8, 2, 15, 0x7B, some 0x7C, some 0x7E⟩
  | 0x7 => some ⟨6, 2, 3, 0x1F, none, none⟩
  | 0x8 => some ⟨6, 3, 1, 0x1F, none, none⟩
  | 0x9 => some ⟨4, 1, 1, 0x7, none, none⟩
  | _ => none

/-- The width of an integer format by format code. -/
def intWidth : Nat → Option Nat
  | 0xA => some 32
  | 0xB => some 16
  | 0xC => some 8
  | 0xD => some 4
  | _ => none

/-- Bits an element takes in its storage stream (R108). -/
def storeBits (code : Nat) : Nat :=
  match code with
  | 0x0 => 64 | 0x1 => 32 | 0x2 => 24 | 0x3 => 16 | 0x4 => 16 | 0x5 => 8 | 0x6 => 8 | 0x7 => 6 | 0x8 => 6 | 0x9 => 4
  | 0xA => 32 | 0xB => 16 | 0xC => 8 | 0xD => 4 | _ => 8

/-- Formats that exist only in blocks or may be block-scaled: FP8, FP6, FP4 (06 "Block scaling"). -/
def isScaled (code : Nat) : Bool := decide (5 ≤ code ∧ code ≤ 9)

/-- Bytes of a stream of n elements (R108). -/
def streamBytes (code n : Nat) : Nat :=
  match storeBits code with
  | 6 => 3 * ((n + 3) / 4)
  | 4 => (n + 1) / 2
  | b => n * b / 8

/-- The element codes of a stream of n elements (R108). -/
def streamCodes (code n : Nat) (b : List Byte) : List Nat :=
  let x := leNat b
  let w := match floatFmt code with
    | some f => f.width
    | none => storeBits code
  (List.range n).map (fun i => bits x (i * storeBits code) w)

/-- The bytes of a stream of element codes (R108). -/
def streamOf (code : Nat) (l : List Nat) : List Byte :=
  leBytes (l.foldr (fun c a => c + a * 2 ^ storeBits code) 0) (streamBytes code l.length)

/-- m × 2^e as a value; `neg` is the sign of a zero. -/
def mk (m e : Int) (neg : Bool) : Dyad := if m = 0 then .zero neg else .fin m e

/-- The value of an element code of a float format (R106). -/
def decodeF (f : Fmt) (code : Nat) : Dyad :=
  let neg := bitOf code (f.width - 1)
  let raw := code % 2 ^ (f.width - 1)
  let sg : Int := if neg then -1 else 1
  if f.infCode = some raw then .inf neg
  else if f.maxCode < raw then .nan
  else
    let ex := raw / 2 ^ f.mb
    let m := raw % 2 ^ f.mb
    if ex = 0 then mk (sg * m) (1 - f.bias - f.mb) neg
    else .fin (sg * (m + 2 ^ f.mb : Nat)) ((ex : Int) - f.bias - f.mb)

/-- The value of an integer as a number. -/
def ofInt (z : Int) : Dyad := mk z 0 false

/-- The value of an element code of any format but SC8 (R106). -/
def decode (fmt code : Nat) : Dyad :=
  match floatFmt fmt with
  | some f => decodeF f code
  | none => (match intWidth fmt with | some w => ofInt (signedOf code w) | none => .nan)

/-- The code of NaN, of an infinity or of an overflow in a float format (R106, R115): a format without infinity saturates. -/
def infOf (f : Fmt) (neg : Bool) : Nat := f.infCode.getD f.maxCode + place (b2n neg) (f.width - 1) 1

/-- The canonical NaN of a format; formats without NaN carry it in the block's SC8. -/
def nanOf (f : Fmt) : Nat := f.nanCode.getD 0

/-- A signed zero's code. -/
def zeroOf (f : Fmt) (neg : Bool) : Nat := place (b2n neg) (f.width - 1) 1

/-- Rounding of m × 2^e, m not 0, into a float format (R112). `u` is the variate of stochastic rounding times 2^32, none for
round to nearest, ties to even. -/
def round (f : Fmt) (m e : Int) (u : Option Nat) : Nat :=
  let neg := decide (m < 0)
  let a := m.natAbs
  let ex : Int := max ((a.log2 : Int) + e) (1 - f.bias)
  let q := ex - f.mb
  let n :=
    if q ≤ e then a <<< (e - q).toNat
    else
      let sh := (q - e).toNat
      let n := a >>> sh
      let r := a % 2 ^ sh
      let up := match u with
        | none => decide (2 ^ sh < 2 * r ∨ (2 ^ sh = 2 * r ∧ n % 2 = 1))
        | some u => decide (u * 2 ^ sh < r * 2 ^ 32)
      if up then n + 1 else n
  if n = 0 then zeroOf f neg
  else
    let field := (q + f.mb + f.bias).toNat
    let raw := if n < 2 ^ f.mb then n else field * 2 ^ f.mb + (n - 2 ^ f.mb)
    if f.maxCode < raw then infOf f neg else raw + zeroOf f neg

/-- Round m × 2^e to an integer, ties to even (R115). -/
def toInt (m e : Int) : Int :=
  if 0 ≤ e then m * 2 ^ e.toNat
  else
    let sh := (-e).toNat
    let a := m.natAbs
    let n := a >>> sh
    let r := a % 2 ^ sh
    let n := if 2 ^ sh < 2 * r ∨ (2 ^ sh = 2 * r ∧ n % 2 = 1) then n + 1 else n
    if m < 0 then -(n : Int) else n

/-- The limits of an integer format. -/
def intMin (w : Nat) : Int := -(2 ^ (w - 1) : Nat)
def intMax (w : Nat) : Int := (2 ^ (w - 1) : Nat) - 1

/-- Conversion of a value into a format without block scales (R115). -/
def convert (fmt : Nat) (x : Dyad) (u : Option Nat) : Nat :=
  match floatFmt fmt with
  | some f =>
    (match x with
     | .nan => nanOf f
     | .inf n => infOf f n
     | .zero n => zeroOf f n
     | .fin m e => round f m e u)
  | none =>
    (match intWidth fmt with
     | some w =>
       (match x with
        | .nan => 0
        | .inf n => wrapInt (if n then intMin w else intMax w) w
        | .zero _ => 0
        | .fin m e => wrapInt (clampInt (toInt m e) (intMin w) (intMax w)) w)
     | none => 0)

/-! ### Block scaling (R110, R111) -/

/-- A value times a power of two. -/
def scale (k : Int) : Dyad → Dyad
  | .fin m e => .fin m (e + k)
  | x => x

/-- The value of an element of a block with a scale code (R110). -/
def decodeBlock (fmt sc code : Nat) : Dyad := if sc = 0xFF then .nan else scale ((sc : Int) - 127) (decode fmt code)

/-- floor(log2 |x|) of a finite value. -/
def log2Of : Dyad → Int
  | .fin m e => (m.natAbs.log2 : Int) + e
  | _ => 0

/-- emax(f) of R111. -/
def emax : Nat → Int
  | 0x5 => 8
  | 0x6 => 15
  | 0x7 => 4
  | _ => 2

def Dyad.isNan : Dyad → Bool
  | .nan => true
  | _ => false

def Dyad.isInf : Dyad → Bool
  | .inf _ => true
  | _ => false

/-- The largest floor(log2 |x|) among the finite values of a block that are not zero. DESIGN CHOICE: where a block has none, all zero or all infinite,
amax is 0 and the scale code that of an all-zero block (R111). -/
def topLog (l : List Dyad) : Option Int :=
  l.foldl (fun b x =>
    match x with
    | .fin m e => (match b with | none => some (log2Of (.fin m e)) | some y => some (max y (log2Of (.fin m e))))
    | _ => b) none

/-- Quantization of a block of at most 32 values into a block format (R111): the scale code and the element codes. -/
def quantize (fmt : Nat) (l : List (Dyad × Option Nat)) : Nat × List Nat :=
  match floatFmt fmt with
  | none => (0xFF, l.map (fun _ => 0))
  | some f =>
    let xs := l.map (·.1)
    if xs.any Dyad.isNan ∨ (fmt ≠ 6 ∧ xs.any Dyad.isInf) then (0xFF, l.map (fun _ => 0))
    else
      let se : Int := match topLog xs with
        | none => -127
        | some t => clampInt (t - emax fmt) (-127) 127
      ((se + 127).toNat, l.map (fun x =>
        match x.1 with
        | .inf n => infOf f n
        | .zero n => zeroOf f n
        | .fin m e => round f m (e - se) x.2
        | .nan => 0))

/-! ### Exact products, sums and trusses (R117 to R121) -/

def Dyad.neg : Dyad → Bool
  | .nan => false
  | .inf n => n
  | .zero n => n
  | .fin m _ => decide (m < 0)

/-- The exact product (R117). DESIGN CHOICE: a zero product takes the exclusive-or of the signs for integers too, so -3 × 0 is -0 (NEG and SUB of an
integer 0 likewise); converted into an integer format it is 0. -/
def mul (a b : Dyad) : Dyad :=
  let s := xor a.neg b.neg
  match a, b with
  | .nan, _ => .nan
  | _, .nan => .nan
  | .inf _, .zero _ => .nan
  | .zero _, .inf _ => .nan
  | .inf _, _ => .inf s
  | _, .inf _ => .inf s
  | .zero _, _ => .zero s
  | _, .zero _ => .zero s
  | .fin m e, .fin n k => .fin (m * n) (e + k)

/-- The exact sum of finite terms as an integer times a power of two. -/
def exactSum (l : List Dyad) : Int × Int :=
  l.foldl (fun (s : Int × Int) x =>
    match x with
    | .fin m e => if s.2 ≤ e then (s.1 + m * 2 ^ (e - s.2).toNat, s.2) else (s.1 * 2 ^ (s.2 - e).toNat + m, e)
    | _ => s) (0, 0)

/-- The exact sum of terms with the rules of special values and zeros of chunk_sum and add (R118, R119). -/
def sum (l : List Dyad) : Dyad :=
  if l.any Dyad.isNan then .nan
  else if l.contains (.inf false) ∧ l.contains (.inf true) then .nan
  else if l.contains (.inf false) then .inf false
  else if l.contains (.inf true) then .inf true
  else
    let t := exactSum l
    if t.1 = 0 then .zero (l.all (fun x => decide (x = .zero true))) else .fin t.1 t.2

/-- A value rounded once into a format and read back (R112). -/
def rnd (fmt : Nat) (x : Dyad) : Dyad :=
  match x with
  | .fin _ _ => decode fmt (convert fmt x none)
  | x => x

/-- chunk_sum of R118. -/
def chunkSum (acc : Nat) (p : List Dyad) : Dyad := rnd acc (sum p)

/-- add of R119. -/
def add (fmt : Nat) (a b : Dyad) : Dyad := rnd fmt (sum [a, b])

/-- One level of a binary truss: neighbours combine, a last one alone passes up unrounded (R119). -/
def trussLevel (op : Dyad → Dyad → Dyad) : List Dyad → List Dyad
  | a :: b :: l => op a b :: trussLevel op l
  | l => l

/-- The root of a binary truss over leaf values, level by level. -/
def truss (op : Dyad → Dyad → Dyad) : Nat → List Dyad → Dyad
  | 0, l => l.headD .nan
  | n + 1, l => if l.length ≤ 1 then l.headD .nan else truss op n (trussLevel op l)

/-- The root over all the leaves. -/
def trussRoot (op : Dyad → Dyad → Dyad) (l : List Dyad) : Dyad := truss op l.length l

/-- Order of two values that are not NaN: a < b, with −0 below +0. -/
def less (a b : Dyad) : Bool :=
  match a, b with
  | .inf true, .inf true => false
  | .inf true, _ => true
  | _, .inf true => false
  | .inf false, _ => false
  | _, .inf false => true
  | .zero p, .zero q => p && !q
  | .zero _, .fin m _ => decide (0 < m)
  | .fin m _, .zero _ => decide (m < 0)
  | .fin m e, .fin n k =>
    if e ≤ k then decide (m < n * 2 ^ (k - e).toNat) else decide (m * 2 ^ (e - k).toNat < n)
  | _, _ => false

/-- MAX and MIN of R121. -/
def maxN (a b : Dyad) : Dyad := if a.isNan ∨ b.isNan then .nan else if less a b then b else a
def minN (a b : Dyad) : Dyad := if a.isNan ∨ b.isNan then .nan else if less a b then a else b

/-- A reduction node of R121: SUM, MAX or MIN in the reduction format; INT32 sums saturate. -/
def reduceNode (op fmt : Nat) (a b : Dyad) : Dyad :=
  match op with
  | 0 => if (intWidth fmt).isSome then decode fmt (convert fmt (sum [a, b]) none) else add fmt a b
  | 1 => maxN a b
  | _ => minN a b

/-- Sign cleared or inverted (R123). -/
def absN : Dyad → Dyad
  | .inf _ => .inf false
  | .zero _ => .zero false
  | .fin m e => .fin (m.natAbs : Int) e
  | .nan => .nan
def negN : Dyad → Dyad
  | .inf n => .inf (!n)
  | .zero n => .zero (!n)
  | .fin m e => .fin (-m) e
  | .nan => .nan

/-- The exact result of an elementwise operation (R123), none on a reserved code; `n` is the power of SCL. -/
def elementwise (op : Nat) (a b c : Dyad) (n : Int) : Option Dyad :=
  match op with
  | 0x0 => some (sum [a, b])
  | 0x1 => some (sum [a, negN b])
  | 0x2 => some (mul a b)
  | 0x3 => some (sum [mul a b, c])
  | 0x4 => some (maxN a b)
  | 0x5 => some (minN a b)
  | 0x6 => some a
  | 0x7 => some (scale n a)
  | 0x8 => some (absN a)
  | 0x9 => some (negN a)
  | _ => none

/-! ### Stochastic rounding (R114) -/

/-- mix64 of R114. -/
def mix64 (z : Nat) : Nat :=
  let z := (z.xor (z >>> 30)) * 0xBF58476D1CE4E5B9 % 2 ^ 64
  let z := (z.xor (z >>> 27)) * 0x94D049BB133111EB % 2 ^ 64
  z.xor (z >>> 31)

/-- The variate of an element, times 2^32 (R114). -/
def srVariate (seedBase tensor step index : Nat) : Nat :=
  let stream := place tensor 32 32 + step % 2 ^ 32
  let z := (seedBase + mix64 stream + (index + 1) * 0x9E3779B97F4A7C15) % 2 ^ 64
  mix64 z / 2 ^ 32

/-- SR is permitted only into BF16, FP16, FP8, FP6 and FP4 (R113). -/
def srAllowed (fmt : Nat) : Bool := decide (3 ≤ fmt ∧ fmt ≤ 9)

/-- Stochastic rounding of a conversion when the mode selects it (R113). -/
def variate (mode : Nat) (seedBase tensor step index : Nat) : Option Nat :=
  if mode = 1 then some (srVariate seedBase tensor step index) else none

/-! ### GEMM elements (R116 to R120) -/

/-- The accumulator format of an operand pair, none where the pair is malformed (R116). -/
def accOf (a b : Nat) : Option Nat :=
  if isScaled a ∧ isScaled b then some 1
  else if a = b ∧ (a = 1 ∨ a = 2 ∨ a = 3 ∨ a = 4 ∨ a = 0xA ∨ a = 0xB) then some 1
  else if (a = 0xC ∨ a = 0xD) ∧ (b = 0xC ∨ b = 0xD) then some 1
  else if a = 0 ∧ b = 0 then some 0
  else none

/-- The terms of one output element cut into chunks of 32 (R118); the first argument bounds the number of chunks. -/
def chunks : Nat → List Dyad → List (List Dyad)
  | 0, _ => []
  | n + 1, l => if l = [] then [] else l.take 32 :: chunks n (l.drop 32)

/-- One output element of a GEMM before its conversion into D's format: products, chunks, truss, then C (R117 to R120). -/
def gemmElement (acc : Nat) (a b : List Dyad) (c : Option Dyad) : Dyad :=
  let p := List.zipWith mul a b
  let root := trussRoot (add acc) ((chunks (p.length / 32 + 1) p).map (chunkSum acc))
  match c with
  | none => root
  | some c => add acc root c

end Sys2Proof.Arith
end

