-- ==== Sys2Proof/Machine/PlumbCalc.lean ====
section
/-! DEFINITION. What a Plumb op computes (07 R128 to R130, R136, R137, R144): the descriptor's fields, its validation, operand
sections, results, the digest, canary operands. -/

namespace Sys2Proof.Machine
open Arith

/-- Bytes of a byte list from an offset on. -/
def cut (b : List Byte) (off n : Nat) : List Byte := (b.drop off).take n

/-- The number a byte list holds at an offset. -/
def numAt (b : List Byte) (off n : Nat) : Nat := leNat (cut b off n)

/-- The fields of a Plumb op descriptor (R128). -/
structure PlbDesc where
  type : Nat
  typeHi : Nat
  cmp : Bool
  wout : Bool
  nocfm : Bool
  flagsHi : Nat
  fa : Nat
  fb : Nat
  fc : Nat
  fd : Nat
  rmode : Nat
  redop : Nat
  elop : Nat
  wslot : Nat
  scl : Int
  m : Nat
  n : Nat
  k : Nat
  offA : Nat
  offB : Nat
  offC : Nat
  offD : Nat
  offR : Nat
  tensor : Nat
  row0 : Nat
  col0 : Nat
  ld : Nat
  tag : Nat
  deriving DecidableEq, Repr

/-- Reading a descriptor (R128). -/
def plbDesc (b : List Byte) : PlbDesc :=
  let t := numAt b 0 1; let fl := numAt b 1 1; let ab := numAt b 2 1; let cd := numAt b 3 1; let mo := numAt b 4 1
  { type := bits t 0 4, typeHi := bits t 4 4, cmp := bitOf fl 0, wout := bitOf fl 1, nocfm := bitOf fl 2
    flagsHi := bits fl 3 5, fa := bits ab 0 4, fb := bits ab 4 4, fc := bits cd 0 4, fd := bits cd 4 4
    rmode := bits mo 0 2, redop := bits mo 2 2, elop := bits mo 4 4, wslot := numAt b 5 1, scl := signedOf (numAt b 6 2) 16
    m := numAt b 8 2, n := numAt b 0xA 2, k := numAt b 0xC 4, offA := numAt b 0x10 4, offB := numAt b 0x14 4
    offC := numAt b 0x18 4, offD := numAt b 0x1C 4, offR := numAt b 0x20 4, tensor := numAt b 0x24 4, row0 := numAt b 0x28 4
    col0 := numAt b 0x2C 4, ld := numAt b 0x30 4, tag := numAt b 0x38 8 }

/-- An offset that means absent. -/
def absent : Nat := 0xFFFFFFFF

/-- The slot, the engine and the step of a tag (R128). -/
def tagSlot (tag : Nat) : Slot := Fin.ofNat 16 (bits tag 42 4)
def tagEngine (tag : Nat) : Nat := bits tag 32 10
def tagStep (tag : Nat) : Nat := bits tag 0 32

/-! ### Operand sections (R129) -/

/-- Bytes of an operand of `rows` rows of `inner` elements: the elements and, for a block format that carries scales, the scale array
at the next 64-byte boundary. -/
def sectionBytes (scaled : Bool) (fmt rows inner : Nat) : Nat :=
  let e := streamBytes fmt (rows * inner)
  if scaled ∧ isScaled fmt then up64 e + rows * ((inner + 31) / 32) else e

/-- The value of an element of a format without a block scale; SC8 is the scale it codes (R106, R110). -/
def plainValue (fmt code : Nat) : Dyad :=
  if fmt = 0xE then (if code % 256 = 0xFF then .nan else .fin 1 ((code % 256 : Nat) - 127 : Int)) else decode fmt code

/-- The values of a section, row by row (R108, R110, R129). -/
def sectionValues (scaled : Bool) (fmt rows inner : Nat) (b : List Byte) : List (List Dyad) :=
  let codes := streamCodes fmt (rows * inner) b
  let sc := b.drop (up64 (streamBytes fmt (rows * inner)))
  let per := (inner + 31) / 32
  (List.range rows).map (fun i =>
    ((codes.drop (i * inner)).take inner).zipIdx.map (fun x =>
      if scaled ∧ isScaled fmt then decodeBlock fmt ((sc.getD (i * per + x.2 / 32) 0).toNat) x.1 else plainValue fmt x.1))

/-- A list cut into pieces of 32; the first argument bounds their number. -/
def pieces32 {α : Type} : Nat → List α → List (List α)
  | 0, _ => []
  | _, [] => []
  | n + 1, l => l.take 32 :: pieces32 n (l.drop 32)

/-- The bytes of a result: rows of values with their variates, converted into a format and stored with the scales of a block format
(R108, R111, R115, R129). DESIGN CHOICE: the descriptor says nothing of a tensor that the format plan gives as unscaled, so an FP8 operand or D of
GEMM and ELEM always has its scale array. -/
def storeResult (scaled : Bool) (fmt : Nat) (rows : List (List (Dyad × Option Nat))) : List Byte :=
  if scaled ∧ isScaled fmt then
    let q := rows.map (fun r => (pieces32 (r.length / 32 + 1) r).map (quantize fmt))
    let codes := q.flatMap (fun r => r.flatMap (·.2))
    let e := streamOf fmt codes
    e ++ List.replicate (up64 e.length - e.length) 0 ++ q.flatMap (fun r => r.map (fun x => BitVec.ofNat 8 x.1))
  else streamOf fmt (rows.flatMap (fun r => r.map (fun x => convert fmt x.1 x.2)))

/-- Rows and inner length of A, B and C, and bytes of each section, by op type (R129). -/
def PlbDesc.sizeA (d : PlbDesc) : Nat :=
  match d.type with
  | 1 => sectionBytes true d.fa d.m d.k
  | 2 => sectionBytes false d.fa d.k d.n
  | 3 => sectionBytes true d.fa d.m d.n
  | 6 => 0
  | _ => d.k

/-- The elementwise operation is binary (07 "Descriptor fields"). -/
def PlbDesc.binary (d : PlbDesc) : Bool := [0, 1, 2, 4, 5].contains d.elop
/-- The elementwise operation is FMA. -/
def PlbDesc.fma (d : PlbDesc) : Bool := decide (d.elop = 3)

/-- B is used. -/
def PlbDesc.usesB (d : PlbDesc) : Bool :=
  match d.type with
  | 1 => true
  | 3 => d.binary || d.fma
  | 5 => true
  | _ => false

/-- C is used and present. -/
def PlbDesc.usesC (d : PlbDesc) : Bool :=
  (decide (d.type = 1) || (decide (d.type = 3) && d.fma)) && decide (d.offC ≠ absent)

/-- D is produced. -/
def PlbDesc.usesD (d : PlbDesc) : Bool := decide (1 ≤ d.type ∧ d.type ≤ 3)

/-- The op compares its digest with a reported one. -/
def PlbDesc.usesR (d : PlbDesc) : Bool := decide (1 ≤ d.type ∧ d.type ≤ 4) && d.cmp

def PlbDesc.sizeB (d : PlbDesc) : Nat :=
  if d.usesB then
    match d.type with
    | 1 => sectionBytes true d.fb d.n d.k
    | 3 => sectionBytes true d.fb d.m d.n
    | _ => d.k
  else 0

def PlbDesc.sizeC (d : PlbDesc) : Nat := if d.usesC then sectionBytes true d.fc d.m d.n else 0

def PlbDesc.sizeD (d : PlbDesc) : Nat :=
  match d.type with
  | 1 => sectionBytes true d.fd d.m d.n
  | 2 => sectionBytes false d.fd 1 d.n
  | 3 => sectionBytes true d.fd d.m d.n
  | _ => 0

/-! ### Validation (R130) -/

/-- A check of R130: the descriptor offset of its field, and whether the field is invalid. -/
abbrev PlbCheck := Nat × Bool

/-- Whether a dimension lies outside its range. -/
def outOf (x lo hi : Nat) : Bool := decide (¬ (lo ≤ x ∧ x ≤ hi))

/-- The checks of R130 that do not depend on where the operands lie; `woutBase` is PLB_WOUT_BASE. -/
def PlbDesc.checks (d : PlbDesc) (woutBase : Nat) : List PlbCheck :=
  let comp := decide (1 ≤ d.type ∧ d.type ≤ 3)
  let dims := decide (1 ≤ d.type ∧ d.type ≤ 4)
  let intoD := comp
  let al := fun (off x : Nat) (used : Bool) (q : Nat) => (off, used && decide (x % q ≠ 0))
  [(0x00, outOf d.type 1 6 || decide (d.typeHi ≠ 0)),
   (0x01, decide (d.flagsHi ≠ 0) || (d.usesR && decide (d.offR = absent)) || (comp && d.wout && decide (woutBase = 0))),
   (0x02, (decide (d.type = 1) && (accOf d.fa d.fb).isNone) || (decide (d.type = 2 ∨ d.type = 3) && decide (d.fa = 0xF)) ||
      (decide (d.type = 3) && d.usesB && decide (d.fb = 0xF))),
   (0x03, ((decide (d.type = 1) || (decide (d.type = 3) && d.fma)) && (decide (d.fc = 0xE ∨ d.fc = 0xF) || isScaled d.fc)) ||
      (decide (1 ≤ d.type ∧ d.type ≤ 5) && decide (d.fd = 0xE ∨ d.fd = 0xF)) ||
      (decide (d.type = 2) && !decide (d.fd = 0 ∨ d.fd = 1 ∨ d.fd = 3 ∨ d.fd = 4 ∨ d.fd = 0xA))),
   (0x04, (intoD && (decide (2 ≤ d.rmode) || (decide (d.rmode = 1) && !srAllowed d.fd))) ||
      (decide (d.type = 2) && decide (d.redop = 3)) || (decide (d.type = 3) && decide (10 ≤ d.elop))),
   (0x08, (dims && outOf d.m 1 512) || (decide (d.type = 2) && decide (d.m ≠ 1)) ||
      (comp && decide (4 * 2 ^ 20 < d.sizeA + d.sizeB + d.sizeC + d.sizeD))),
   (0x0A, dims && outOf d.n 1 512),
   (0x0C, (decide (d.type = 1) && outOf d.k 1 65536) ||
      (decide (d.type = 2) && !((List.range 16).any (fun i => decide (d.k = 2 ^ (i + 1))))) ||
      (decide (d.type = 4 ∨ d.type = 5) && decide (4 * 2 ^ 20 < d.sizeA + d.sizeB))),
   al 0x10 d.offA (decide (1 ≤ d.type ∧ d.type ≤ 5)) 64,
   al 0x14 d.offB d.usesB 64,
   al 0x18 d.offC d.usesC 64,
   al 0x1C d.offD d.usesD 64,
   al 0x20 d.offR (d.usesR && decide (d.offR ≠ absent)) 16,
   (0x2C, (decide (d.type = 1 ∨ d.type = 3)) && isScaled d.fd && decide (d.col0 % 32 ≠ 0))]

/-- The lowest descriptor offset of an invalid field (R130). -/
def firstInvalid (l : List PlbCheck) : Option Nat :=
  (l.filter (·.2)).foldl (fun b x => match b with | none => some x.1 | some y => some (min y x.1)) none

/-! ### Results (R129) -/

/-- The variate of element j of row i of D (R114, R129). -/
def PlbDesc.variateAt (d : PlbDesc) (seed i j : Nat) : Option Nat :=
  variate d.rmode seed d.tensor (tagStep d.tag) ((d.row0 + i) * d.ld + d.col0 + j)

/-- Pairs of every row with the variates of D. -/
def PlbDesc.withVariates (d : PlbDesc) (seed : Nat) (rows : List (List Dyad)) : List (List (Dyad × Option Nat)) :=
  rows.zipIdx.map (fun r => r.1.zipIdx.map (fun x => (x.1, d.variateAt seed r.2 x.2)))

/-- D of a GEMM (R116 to R120, R129). -/
def gemmD (d : PlbDesc) (seed : Nat) (a b c : List Byte) : List Byte :=
  let acc := (accOf d.fa d.fb).getD 1
  let av := sectionValues true d.fa d.m d.k a
  let bv := sectionValues true d.fb d.n d.k b
  let cv := sectionValues true d.fc d.m d.n c
  storeResult true d.fd (d.withVariates seed (av.zipIdx.map (fun r => bv.zipIdx.map (fun q =>
    gemmElement acc r.1 q.1 (if d.usesC then some ((cv.getD r.2 []).getD q.2 .nan) else none)))))

/-- D of a TRUSS: each leaf element converted into D's format, combined over the truss of K leaves (R121, R129). DESIGN CHOICE:
R129 gives scale arrays to GEMM and ELEM only, so leaves in a block format are read without scales. -/
def trussD (d : PlbDesc) (seed : Nat) (a : List Byte) : List Byte :=
  let leaves := (sectionValues false d.fa d.k d.n a).zipIdx.map (fun r => r.1.zipIdx.map (fun x =>
    decode d.fd (convert d.fd x.1 (d.variateAt seed r.2 x.2))))
  storeResult false d.fd [(List.range d.n).map (fun j =>
    (trussRoot (reduceNode d.redop d.fd) (leaves.map (fun l => l.getD j .nan)), none))]

/-- D of an ELEM (R123, R129). -/
def elemD (d : PlbDesc) (seed : Nat) (a b c : List Byte) : List Byte :=
  let av := sectionValues true d.fa d.m d.n a
  let bv := if d.usesB then sectionValues true d.fb d.m d.n b else []
  let cv := if d.usesC then sectionValues true d.fc d.m d.n c else []
  storeResult true d.fd (d.withVariates seed (av.zipIdx.map (fun r => r.1.zipIdx.map (fun x =>
    (elementwise d.elop x.1 ((bv.getD r.2 []).getD x.2 (.zero false)) ((cv.getD r.2 []).getD x.2 (.zero true)) d.scl).getD .nan))))

/-- D of an op, or the bytes that a DIGEST hashes. -/
def plbResult (d : PlbDesc) (seed : Nat) (a b c : List Byte) : List Byte :=
  match d.type with
  | 1 => gemmD d seed a b c
  | 2 => trussD d seed a
  | 3 => elemD d seed a b c
  | _ => a.take d.k

/-! ### The digest (R137) -/

/-- Multiplication in GF(2^128), from bit `i` of `b` on; the first argument counts the bits left. -/
def gfStep (b : Nat) : Nat → Nat → Nat → Nat → Nat
  | 0, _, _, p => p
  | k + 1, i, a, p =>
    let p := if b.testBit i then p ^^^ a else p
    let a' := (a <<< 1) % 2 ^ 128
    gfStep b k (i + 1) (if a.testBit 127 then a' ^^^ 0x87 else a') p

/-- gf_mul of R137. -/
def gfMul (a b : Nat) : Nat := gfStep b 128 0 a 0

/-- The 16-byte blocks of a byte list padded with zeros; the first argument bounds their number. -/
def blocks16 : Nat → List Byte → List Nat
  | 0, _ => []
  | _, [] => []
  | n + 1, l => leNat (l.take 16) :: blocks16 n (l.drop 16)

/-- The Plumb digest of a result (R137). -/
def plbDigest (key rows cols fmt type tag : Nat) (data : List Byte) : Nat :=
  let head := place rows 0 16 + place cols 16 16 + place fmt 32 4 + place type 36 4 + place tag 64 64
  (head :: blocks16 (data.length / 16 + 1) data ++ [data.length * 8]).foldl (fun acc x => gfMul (acc ^^^ x) key) 0

/-- The data that a digest is of: D's elements, followed at once by its scale array, without the bytes that part the two in operand SRAM (R129,
R137). -/
def PlbDesc.digestData (d : PlbDesc) (data : List Byte) : List Byte :=
  if (d.type = 1 ∨ d.type = 3) ∧ isScaled d.fd then
    let e := streamBytes d.fd (d.m * d.n)
    data.take e ++ data.drop (up64 e)
  else data

/-- The digest of an op's result: TRUSS carries one row (R137). -/
def PlbDesc.digest (d : PlbDesc) (key : Nat) (data : List Byte) : Nat :=
  plbDigest key (if d.type = 2 then 1 else d.m) d.n d.fd d.type d.tag (d.digestData data)

/-! ### COMPARE (R129) -/

/-- First differing element and the number of differing elements of two byte strings read as elements of a format. DESIGN CHOICE: elements of FP19
compare with all 24 bits of their containers (R108 says so of end padding alone). -/
def plbCompare (fmt : Nat) (a b : List Byte) : Nat × Nat :=
  let w := storeBits fmt
  let gb := if w = 6 then 3 else max 1 (w / 8)
  let per := gb * 8 / w
  let whole := a.length / gb
  let x := leNat (a.take (whole * gb))
  let y := leNat (b.take (whole * gb))
  let diffs := (List.range (whole * per)).filter (fun i => decide (bits x (i * w) w ≠ bits y (i * w) w))
  let diffs := if a.length % gb ≠ 0 ∧ a.drop (whole * gb) ≠ b.drop (whole * gb) then diffs ++ [whole * per] else diffs
  (diffs.headD 0xFFFFFFFF, diffs.length)

/-! ### Canaries (R144) -/

/-- The generator's stream for section s of a seed, `n` bytes. -/
def canaryStream (seed s n : Nat) : List Byte :=
  ((List.range ((n + 7) / 8)).flatMap (fun i => leBytes (mix64 ((seed + place s 56 8 + i) % 2 ^ 64)) 8)).take n

/-- FP19 containers with bits [23:19] cleared. -/
def clearFp19 (fmt : Nat) (b : List Byte) : List Byte :=
  if fmt = 2 then b.zipIdx.map (fun x => if x.2 % 3 = 2 then x.1 &&& 0x07 else x.1) else b

/-- One operand section of a canary: elements from the stream, then the scale bytes at their boundary from the bytes that follow in the
stream. -/
def canarySection (seed s : Nat) (scaled : Bool) (fmt rows inner : Nat) : List Byte :=
  let e := streamBytes fmt (rows * inner)
  let sc := if scaled ∧ isScaled fmt then rows * ((inner + 31) / 32) else 0
  let st := canaryStream seed s (e + sc)
  let el := clearFp19 fmt (st.take e)
  if sc = 0 then el else el ++ List.replicate (up64 e - e) 0 ++ st.drop e

/-- A library entry of 128 bytes: the digest that a correct tile computes for it, and the one it expects (R144, R145). -/
def canaryDigest (entry : List Byte) : Nat :=
  let d := plbDesc (entry.take 64)
  let seed := numAt entry 64 8
  let key := numAt entry 72 16
  let r := match d.type with
    | 1 => gemmD d 0 (canarySection seed 0 true d.fa d.m d.k) (canarySection seed 1 true d.fb d.n d.k) (canarySection seed 2 true d.fc d.m d.n)
    | 2 => trussD d 0 (canarySection seed 0 false d.fa d.k d.n)
    | 3 => elemD d 0 (canarySection seed 0 true d.fa d.m d.n) (canarySection seed 1 true d.fb d.m d.n)
        (canarySection seed 2 true d.fc d.m d.n)
    | _ => []
  d.digest key r

/-- The digest a library entry expects. -/
def canaryExpected (entry : List Byte) : Nat := numAt entry 88 16

/-! ### Bins (R136) -/

/-- The bins of a sample's sensor readings: temperature in 1/16 °C, voltage in 0.5 mV, load 0 to 255. -/
def sampleBins (temp volt load : Nat) : Nat :=
  let t := clampInt ((signedOf temp 16 - 400) / 80) 0 15
  let v := clampInt (((volt : Int) - 1200) / 25) 0 15
  place t.toNat 0 4 + place v.toNat 4 4 + place (load / 32) 8 3

end Sys2Proof.Machine
end

