-- ==== Sys2Proof/Machine/TrcOps.lean ====
section
/-! DEFINITION. Trace: the coding of records, staging, triggers and windows, the drain into the trace region, the Lens port
(09 R169 to R178, R184). -/

namespace Sys2Proof.Machine

/-! ### Records (R169, R170) -/

/-- A raw record of 16 bytes, or a COUNTER record of 32 (R169). -/
def TrcRec.raw (r : TrcRec) (slot : Nat) : List Byte :=
  let head := place r.type 0 4 + place slot 4 4 + place r.engine 8 10
  match r.counter with
  | some (co, cyc, dn, bz) =>
    leBytes (head + place (b2n co) 18 1 + place r.time 32 32) 8 ++ leBytes cyc 4 ++ leBytes 0 4 ++ leBytes dn 8 ++ leBytes bz 8
  | none => leBytes (head + place r.ctx 18 12 + place r.time 32 32) 8 ++ leBytes r.cseq 4 ++ leBytes r.arg 4

/-- A GAP record of 32 bytes (R169). -/
def TrcLoss.gap (l : TrcLoss) (slot : Nat) : List Byte :=
  leBytes (place 4 0 4 + place slot 4 4 + place 0x3FF 8 10 + place l.cause 18 4) 8 ++ leBytes l.count 8 ++ leBytes l.first 8 ++
    leBytes l.last 8

/-- An ANCHOR for a beacon time (R171). -/
def anchorRec (time : Nat) : TrcRec := ⟨5, 0x3FF, 0, time, time % 2 ^ 32, time / 2 ^ 32 % 2 ^ 32, none⟩

/-- The core of a BEGIN or END (R169). -/
def TrcRec.core (r : TrcRec) : Nat := bits r.arg 16 16

/-- The delta form of a begin or end, where R170 allows it. -/
def TrcRec.delta (r : TrcRec) (x : TrcSlot) : Option (List Byte) :=
  if r.type = 1 ∨ r.type = 2 then
    match x.prev.find? (fun p => decide (p.engine = r.engine)), x.lastTime with
    | some p, some t0 =>
      let d := (r.cseq + 8192 + 2 ^ 32 - p.cseq) % 2 ^ 32
      if t0 ≤ r.time ∧ r.time - t0 ≤ 65535 ∧ d < 16384 ∧ p.core = r.core ∧ (r.type = 2 ∨ p.kind = some (bits r.arg 0 16)) then
        some (leBytes (place (r.type + 7) 0 4 + place r.engine 4 10 + place (r.time - t0) 14 16 + place r.ctx 30 12 +
          place (if r.type = 2 then bits r.arg 0 8 else 0) 42 8 + place r.cseq 50 14) 8)
      else none
    | _, _ => none
  else none

/-- The bytes of a record in a stream's form (R170). -/
def TrcRec.code (r : TrcRec) (slot : Nat) (deltaForm : Bool) (x : TrcSlot) : List Byte :=
  (if deltaForm then r.delta x else none).getD (r.raw slot)

/-- The history of a stream after a record. -/
def TrcSlot.after (x : TrcSlot) (r : TrcRec) : TrcSlot :=
  let x := { x with lastTime := some r.time }
  if r.type = 1 ∨ r.type = 2 then
    let old := x.prev.find? (fun p => decide (p.engine = r.engine))
    let kind := if r.type = 1 then some (bits r.arg 0 16) else old.bind (·.kind)
    { x with prev := ⟨r.engine, r.cseq, r.core, kind⟩ :: x.prev.filter (fun p => decide (p.engine ≠ r.engine)) }
  else x

/-- Bytes staged in the general part and in the reserve (R173). -/
def TrcSlot.used (x : TrcSlot) (reserve : Bool) : Nat :=
  ((x.staged.filter (fun r => r.reserve = reserve)).map (fun r => r.bytes.length)).sum

/-- Room in the general part for `n` bytes with 32 bytes held back for a GAP (R173). -/
def TrcSlot.general (x : TrcSlot) (n : Nat) : Bool := decide (x.used false + n + 32 ≤ 192 * 1024)

/-- Room in the reserve. -/
def TrcSlot.reserveRoom (x : TrcSlot) (n : Nat) : Bool := decide (x.used true + n ≤ 64 * 1024)

/-- One record at the end of the staging buffer. -/
def TrcSlot.put (x : TrcSlot) (r : TrcStaged) : TrcSlot :=
  { x with staged := x.staged ++ [r], nStaged := x.nStaged + 1 }

/-- A record that a keeper receives, and that a follower counts (R172): BEGIN, END, MARK, COUNTER. -/
def TrcRec.received (r : TrcRec) : Bool := decide (r.type = 1 ∨ r.type = 2 ∨ r.type = 3 ∨ r.type = 7)

/-- The received records staged last, all in one PCLK cycle. -/
def cycleTail (now : Nat) (l : List TrcStaged) : List TrcStaged :=
  (l.reverse.takeWhile (fun r => decide (r.at_ = now) && r.rcd.any TrcRec.received)).reverse

/-- A staged record coded again where the stream's record before it is now one of a full time `t`: a delta form stays where the times are equal,
else the raw form takes its place (R170). -/
def TrcStaged.behind (y : TrcStaged) (slot t : Nat) : TrcStaged :=
  match y.rcd with
  | none => y
  | some r =>
    if y.bytes.length ≠ 8 then y
    else if r.time = t then { y with bytes := leBytes (leNat y.bytes - place (bits (leNat y.bytes) 14 16) 14 16) 8 }
    else { y with bytes := r.raw slot }

/-- A TRIGGER or an ANCHOR that the keeper adds: it stands after every record staged before its PCLK cycle and before every record of that cycle
(R172). -/
def TrcSlot.insert (x : TrcSlot) (slot : Nat) (y : TrcStaged) (r : TrcRec) : TrcSlot :=
  let tail := cycleTail y.at_ x.staged
  match tail with
  | [] => { x.put y with lastTime := some r.time }
  | f :: l => { x with
      staged := x.staged.take (x.staged.length - tail.length) ++ [y, f.behind slot r.time] ++ l, nStaged := x.nStaged + 1 }

/-- The oldest received record that is still staged has landed. -/
def landedOne : List Bool → List Bool
  | [] => []
  | false :: l => true :: l
  | true :: l => true :: landedOne l

/-- One more record lost. -/
def addLoss (l : Option TrcLoss) (time cause : Nat) : TrcLoss :=
  match l with
  | none => ⟨1, time, time, cause⟩
  | some l => { l with count := l.count + 1, last := time }

namespace State

def trc (s : State) (n : Slot) : TrcSlot := s.trace.slots[n]
def setTrc (s : State) (n : Slot) (x : TrcSlot) : State := { s with trace := { s.trace with slots := s.trace.slots.set n x } }
def updTrc (s : State) (n : Slot) (h : TrcSlot → TrcSlot) : State := s.setTrc n (h (s.trc n))

/-- The size of a slot's segment: 1 GiB, or 256 MiB once the redirection of a lost channel has taken the rest (R348). -/
def segSize (s : State) : Nat := if s.mc.redirected then 0x10000000 else 0x40000000

/-- Bytes used in a slot's segment. -/
def segUsed (s : State) (n : Slot) : Nat :=
  (s.f F.TRC_SLOT_TAIL_tail n.val + s.segSize - s.f F.TRC_SLOT_HEAD_head n.val % s.segSize) % s.segSize

/-- The segment takes no more: the tail would reach the head (R174). In flight-recorder mode it is overwritten instead. -/
def segFull (s : State) (n : Slot) (len : Nat) : Bool :=
  !s.fb F.TRC_SLOT_CTL_flight n.val && decide (s.segSize ≤ s.segUsed n + len)

/-! ### The Lens port (R178) -/

/-- The open frame of a Lens stream is sent. -/
def lensFlush (s : State) (k : Fin 4) : State :=
  let x := s.trace.lens[k]
  match x.frame with
  | none => s
  | some (slot, b) =>
    let s := { s with trace := { s.trace with lens := s.trace.lens.set k { x with frame := none, seq := x.seq + 1 } } }
    let s := s.setF F.TRC_LENS_CTL_frames ((s.f F.TRC_LENS_CTL_frames + 1) % 2 ^ 32)
    s.send (.lens ((leBytes (place 0x4C 0 8 + place k.val 8 2 + place b.length 16 16 + place x.seq 32 32) 8) ++
      leBytes (place (s.f F.GLB_TRAY_tray) 0 12 + place slot 12 4) 8 ++ b))

/-- One record copied to a Lens stream: into the open frame, into a new one where a credit admits it, or lost. A GAP opens the first
frame after a loss. -/
def lensPut (s : State) (k : Fin 4) (n : Slot) (r : TrcRec) : State :=
  let set := fun (s : State) (x : LensStream) => { s with trace := { s.trace with lens := s.trace.lens.set k x } }
  let b := r.raw n.val
  if ¬ s.fb F.TRC_LENS_CTL_up then
    let x := s.trace.lens[k]
    set s { x with loss := some { addLoss x.loss r.time 3 with cause := 3 } }
  else
    let x := s.trace.lens[k]
    let s := match x.frame with
      | none => s
      | some (slot, fr) => if slot ≠ n.val ∨ 4096 < 16 + fr.length + b.length then s.lensFlush k else s
    let x := s.trace.lens[k]
    match x.frame with
    | some (slot, fr) => set s { x with frame := some (slot, fr ++ b) }
    | none =>
      if x.credits = 0 then set s { x with loss := some (addLoss x.loss r.time 2) }
      else
        let g := match x.loss with | none => [] | some l => l.gap n.val
        set s { x with credits := x.credits - 1, loss := none, frame := some (n.val, g ++ b) }

/-- A record copied to every Lens stream that carries its slot, before the staging decision (R178). -/
def lensCopy (s : State) (n : Slot) (r : TrcRec) : State :=
  (List.finRange 4).foldl (fun s k =>
    if s.fb F.TRC_LENS_CTL_en ∧ s.fb F.TRC_LENS_SEL_sel_en k.val ∧ s.f F.TRC_LENS_SEL_slot k.val = n.val then s.lensPut k n r else s) s

/-! ### Staging (R173, R174) -/

/-- A GAP for a drop, in the bytes held back for it, and the ANCHOR after it, staged in the part that the next record may use
(R171, R173, R174). -/
def trcEndDrop (s : State) (n : Slot) (reserve : Bool := false) : State :=
  match (s.trc n).loss with
  | none => s
  | some l =>
    let x := { s.trc n with loss := none, prev := [] }
    let a := anchorRec s.beacon
    let x := (x.put ⟨l.gap n.val, false, none, s.beacon / 8, false⟩).put ⟨a.raw n.val, reserve, some a, s.beacon / 8, false⟩
    let s := (s.setTrc n { x with lastTime := some s.beacon }).lensCopy n (anchorRec s.beacon)
    s.raise Ev.trcGap n.val (BitVec.ofNat 64 (min l.count (2 ^ 64 - 1)))

/-- A record dropped (R174): counted; the drop's cause is 4 while the segment is full. -/
def trcDrop (s : State) (n : Slot) (r : TrcRec) : State :=
  let cause := if s.segFull n 32 then 4 else 0
  (s.updTrc n (fun x => { x with
    loss := some (addLoss x.loss r.time cause)
    recv := if s.par.mirroring && r.received then x.recv ++ [true] else x.recv })).bump F.TRC_SLOT_STAT_dropped 1 n.val

/-- A trigger window ends (R175): it drains, and the flight recorder stops taking records (R177). -/
def trcWindowEnd (s : State) (n : Slot) : State :=
  s.updTrc n (fun x => { x with window := none, draining := some x.nStaged, stopped := x.frozen })

/-- The bytes of a record in a slot's stream: a record that the keeper adds is always raw (R170). -/
def trcBytes (s : State) (n : Slot) (own : Bool) (r : TrcRec) : List Byte :=
  r.code n.val (s.fb F.TRC_SLOT_CTL_fmt n.val && !own) (s.trc n)

/-- A record has room in the general part or in the reserve; one that ends a drop needs it for its ANCHOR too, and the bytes held back for
the GAP (R173, R174). -/
def trcFits (s : State) (n : Slot) (own reserve : Bool) (r : TrcRec) : Bool :=
  let x := s.trc n
  let len := if x.loss.isNone then (s.trcBytes n own r).length else 16 + (r.raw n.val).length
  if reserve then x.reserveRoom len && (x.loss.isNone || x.general 0) else x.general len

/-- A record staged; a drop ends before it (R174). A received record takes its place at the end, a TRIGGER or an ANCHOR before those of its PCLK
cycle (R172). -/
def trcPut (s : State) (n : Slot) (own reserve : Bool) (r : TrcRec) : State :=
  let s := s.trcEndDrop n reserve
  let y : TrcStaged := ⟨s.trcBytes n own r, reserve, some r, s.beacon / 8, s.par.mirroring && r.received⟩
  if r.received then
    s.setTrc n ({ s.trc n with recv := if s.par.mirroring then (s.trc n).recv ++ [false] else (s.trc n).recv }.put y |>.after r)
  else s.setTrc n ((s.trc n).insert n.val y r)

/-- A record for the general part: staged or dropped (R173, R174). -/
def trcGeneral (s : State) (n : Slot) (own : Bool) (r : TrcRec) : State :=
  if ¬ (s.trc n).stopped ∧ s.trcFits n own false r then s.trcPut n own false r else s.trcDrop n r

/-- A record decided for staging (R173 to R177): the reserve takes it while a window is open, the general part otherwise. A window ends with
its last record or when the reserve is full. -/
def trcStage (s : State) (n : Slot) (own : Bool) (r : TrcRec) : State :=
  match (s.trc n).window with
  | some k =>
    if ¬ (s.trc n).stopped ∧ s.trcFits n own true r then
      let s := (s.trcPut n own true r).updTrc n (fun x => { x with window := some (k - 1) })
      if k ≤ 1 then s.trcWindowEnd n else s
    else (if (s.trc n).reserveRoom (r.raw n.val).length then s else s.trcWindowEnd n).trcGeneral n own r
  | none => s.trcGeneral n own r

/-! ### Records of a stream (R172) -/

/-- A record of a slot's stream: copied to the Lens port and staged. While this keeper follows it only counts it (R172). `own` marks a
record that the keeper adds. -/
def trcRecord (s : State) (n : Slot) (r : TrcRec) (own : Bool := false) : State :=
  if ¬ s.fb F.TRC_SLOT_CTL_en n.val then s
  else if ¬ s.control then (if r.received then s.updTrc n (fun x => { x with heard := x.heard ++ [r.time] }) else s)
  else (s.lensCopy n r).trcStage n own r

/-! ### Triggers (R175 to R177) -/

/-- The priority level of a slot's drain channel: 3 while a trigger's records of any of its slots are not all drained, else 1 (R176,
01 R13). -/
def trcLevel (s : State) (n : Slot) : State :=
  let c := n.val / 4
  let hot := [0, 1, 2, 3].any (fun i => let x := s.trc (Fin.ofNat 16 (4 * c + i)); x.window.isSome || x.draining.isSome)
  s.setF F.DMA_CH_CTL_prio (if hot then 3 else 1) c

/-- A raw record: the TRIGGER of a number takes other cause bits. -/
def amendBytes (num cause : Nat) (b : List Byte) : List Byte :=
  if b.length = 16 ∧ bits (numAt b 0 1) 0 4 = 6 ∧ numAt b 8 4 = num then b.take 12 ++ leBytes cause 4 else b

/-- The records of an open frame of the Lens port, all raw (R178), with the TRIGGER of a number amended. -/
def amendFrame (num cause : Nat) : Nat → List Byte → List Byte
  | 0, b => b
  | k + 1, b =>
    if b = [] then []
    else
      let len := if bits (numAt b 0 1) 0 4 = 4 ∨ bits (numAt b 0 1) 0 4 = 7 then 32 else 16
      amendBytes num cause (b.take len) ++ amendFrame num cause k (b.drop len)

/-- A second cause in the PCLK cycle of a TRIGGER: that record takes every cause bit, and no other is written (R175); it is still staged, for it lands in a
later cycle. DESIGN CHOICE: the event is raised again with every bit, since the first has been raised; a frame of the Lens port that has left keeps the first. -/
def trcMerge (s : State) (n : Slot) (cause : Nat) : State :=
  let all := (s.trc n).cause ||| cause
  let num := (s.trc n).triggers
  if all = (s.trc n).cause then s
  else
    let s := s.updTrc n (fun x => { x with
      cause := all, staged := x.staged.map (fun (r : TrcStaged) => { r with bytes := amendBytes num all r.bytes }) })
    let s : State := { s with trace := { s.trace with lens := s.trace.lens.map (fun (x : LensStream) =>
      { x with frame := x.frame.map (fun f => if f.1 = n.val then (f.1, amendFrame num all f.2.length f.2) else f) }) } }
    s.raise Ev.trcTrigger n.val (BitVec.ofNat 64 all)

/-- Records of the TRIGGER's PCLK cycle that were staged before it stand after it now, and are the first that its window takes (R172, R175). -/
def trcWindowTake (s : State) (n : Slot) : State :=
  let x := s.trc n
  let tail := cycleTail (s.beacon / 8) x.staged
  match x.window with
  | none => s
  | some k =>
    let m := min k tail.length
    if m = 0 ∨ ¬ x.reserveRoom ((tail.map (fun r => r.bytes.length)).sum) then s
    else
      let front := x.staged.take (x.staged.length - tail.length)
      let s := s.setTrc n { x with
        staged := front ++ (tail.take m).map (fun r => { r with reserve := true }) ++ tail.drop m, window := some (k - m) }
      if k ≤ m then s.trcWindowEnd n else s

/-- A record matches TRC_SLOT_nn_MATCH. -/
def trcMatches (s : State) (n : Slot) (r : TrcRec) : Bool :=
  s.fb F.TRC_SLOT_CTL_match_en n.val && decide (s.f F.TRC_SLOT_MATCH_type n.val = r.type) &&
    (s.fb F.TRC_SLOT_MATCH_any_engine n.val || decide (s.f F.TRC_SLOT_MATCH_engine n.val = r.engine)) &&
    (s.fb F.TRC_SLOT_MATCH_any_context n.val || decide (s.f F.TRC_SLOT_MATCH_context n.val = r.ctx))

/-- A trigger fires with cause bits: 1 store, 2 match, 4 timeout, 8 alarm (R175). The TRIGGER record opens the window, which then takes
`post` records after it; where MATCH names TRIGGER records it matches itself. -/
def trcTrigger (s : State) (n : Slot) (cause : Nat) : State :=
  let self := s.trcMatches n ⟨6, 0x3FF, 0, s.beacon, 0, 0, none⟩
  let cause := if s.control ∧ self then cause ||| 2 else cause
  if (s.trc n).trigAt = some (s.beacon / 8) then s.trcMerge n cause
  else
  let s := s.updTrc n (fun x => { x with triggers := (x.triggers + 1) % 2 ^ 32, cause := cause, trigAt := some (s.beacon / 8) })
  let s := if (s.trc n).window.isNone ∧ ¬ (s.trc n).stopped ∧ s.fb F.TRC_SLOT_CTL_en n.val ∧ s.control then
      (s.updTrc n (fun x => { x with
        window := some (s.f F.TRC_SLOT_CTL_post n.val + 1)
        frozen := x.frozen || s.fb F.TRC_SLOT_CTL_flight n.val })).trcLevel n
    else s
  let open_ := (s.trc n).window.isSome
  let s := s.trcRecord n ⟨6, 0x3FF, 0, s.beacon, (s.trc n).triggers, cause, none⟩
  let s := if open_ ∧ (s.trc n).window.isSome then s.trcWindowTake n else s
  s.raise Ev.trcTrigger n.val (BitVec.ofNat 64 cause)

/-- After a drop has ended: a match on its GAP or ANCHOR, which the keeper added, fires the trigger (R175). DESIGN CHOICE: the TRIGGER follows the
two, since the GAP must come first where a drop ends (R174). -/
def trcAfterGap (was : Bool) (s : State) (n : Slot) : State :=
  if was ∧ (s.trc n).loss.isNone ∧ s.control ∧ (s.trcMatches n ⟨4, 0x3FF, 0, s.beacon, 0, 0, none⟩ ∨ s.trcMatches n (anchorRec s.beacon)) then
    s.trcTrigger n 2
  else s

/-- A record of a stream: a match fires the trigger first, so that the TRIGGER precedes it (R172). -/
def trcEngine (s : State) (n : Slot) (r : TrcRec) (own : Bool := false) : State :=
  let was := (s.trc n).loss.isSome
  trcAfterGap was ((if s.control ∧ s.trcMatches n r then s.trcTrigger n 2 else s).trcRecord n r own) n

/-- Records of one PCLK cycle: a match on any of them fires the trigger before the first (R172). -/
def trcBatch (s : State) (n : Slot) (l : List TrcRec) (own : Bool) : State :=
  let was := (s.trc n).loss.isSome
  let s := if s.control ∧ l.any (fun r => s.trcMatches n r) then s.trcTrigger n 2 else s
  trcAfterGap was (l.foldl (fun s r => s.trcRecord n r own) s) n

/-! ### The drain (R172, R176, R177) -/

/-- Length of the record at a segment offset, from its type (R169). -/
def trcLenAt (s : State) (base off : Nat) : Nat :=
  match (s.rdByte (base + off)).toNat % 16 with
  | 4 => 32
  | 7 => 32
  | 8 => 8
  | 9 => 8
  | 0 => 8
  | _ => 16

/-- In flight-recorder mode the head moves forward by whole records until `len` bytes are free (R177). -/
def trcAdvanceHead (s : State) (n : Slot) (base len : Nat) : Nat → State
  | 0 => s
  | k + 1 =>
    if s.segUsed n + len < s.segSize then s
    else
      let h := s.f F.TRC_SLOT_HEAD_head n.val
      trcAdvanceHead (s.setF F.TRC_SLOT_HEAD_head ((h + s.trcLenAt base h) % s.segSize) n.val) n base len k

/-- Bytes stored in a segment, which is a ring. -/
def segStore (s : State) (base off : Nat) (b : List Byte) : State :=
  let m := s.segSize - off
  (s.blockStore 7 (base + off) (b.take m)).blockStore 7 base (b.drop m)

/-- A TRIGGER of the PCLK cycle under way, which may still take a cause (R175). -/
def trigOpen (s : State) (n : Slot) (r : TrcStaged) : Bool :=
  r.rcd.any (fun q => decide (q.type = 6)) && decide (r.at_ = s.beacon / 8 ∧ (s.trc n).trigAt = some (s.beacon / 8))

/-- The oldest staged record of a slot lands in its segment, where it has room. The flag says that one landed. -/
def trcLand (s : State) (n : Slot) : Bool × State :=
  let region := s.f F.TRC_REGION_region
  match (s.trc n).staged with
  | [] => (false, s)
  | r :: rest =>
    let len := r.bytes.length
    if region = 0 ∨ s.segFull n len ∨ s.trigOpen n r then (false, s)
    else
      let base := region + n.val * 0x40000000
      let s := if s.fb F.TRC_SLOT_CTL_flight n.val then s.trcAdvanceHead n base len 8 else s
      let t := s.f F.TRC_SLOT_TAIL_tail n.val
      let s := s.segStore base t r.bytes
      let s := s.updTrc n (fun x => { x with
        staged := rest, nLanded := x.nLanded + 1, recv := if r.recv then landedOne x.recv else x.recv })
      let s := s.setF F.TRC_SLOT_TAIL_tail ((t + len) % s.segSize) n.val
      (true, if s.segSize ≤ t + len then s.raise Ev.trcRegionWrap 0 0 else s)

/-- Up to 4 KiB of a slot's records land (R172). -/
def trcLandSome (n : Slot) : Nat → State → State
  | 0, s => s
  | k + 1, s => let (more, s) := s.trcLand n; if more then trcLandSome n k s else s

/-- One turn of a drain channel: the next of its four slots that holds records (09 "Staging, triggers and drain"). -/
def trcDrainChannel (s : State) (c : Fin 4) : State :=
  let last := s.trace.turn[c]
  match ([1, 2, 3, 4].map (fun i => (last + i) % 4)).find? (fun i => decide ((s.trc (Fin.ofNat 16 (4 * c.val + i))).staged ≠ [])) with
  | none => s
  | some i =>
    trcLandSome (Fin.ofNat 16 (4 * c.val + i)) 256 { s with trace := { s.trace with turn := s.trace.turn.set c i } }

/-- The four drain channels take a turn each. -/
def trcDrain (s : State) : State := (List.finRange 4).foldl trcDrainChannel s

/-- A window's last record has landed: the reserve is free (R176). -/
def trcReserveDrained (s : State) (n : Slot) : State :=
  match (s.trc n).draining with
  | none => s
  | some k =>
    if k ≤ (s.trc n).nLanded then
      ((s.updTrc n (fun x => { x with draining := none })).trcLevel n).raise Ev.trcReserveDrained n.val 0
    else s

/-- Room has returned to a dropping stream (R174). -/
def trcRoom (s : State) (n : Slot) : State :=
  let x := s.trc n
  if x.loss.isSome ∧ ¬ x.stopped ∧ x.window.isNone ∧ x.general 16 then trcAfterGap true (s.trcEndDrop n) n else s

/-- A store to TRC_SLOT_nn_CTL.rearm (R177). -/
def trcRearm (s : State) (n : Slot) : State :=
  let s := s.updTrc n (fun x => { x with frozen := false, stopped := false })
  s.trcRoom n

/-- A stream is enabled: its history starts anew and an ANCHOR is written (R170, R171). -/
def trcEnable (s : State) (n : Slot) : State :=
  (s.updTrc n (fun x => { x with prev := [], lastTime := none })).trcEngine n (anchorRec s.beacon)

/-- The ANCHOR of a whole second for one stream: staged, or for a dropping stream copied to the Lens port alone, since the stream gets it after its GAP
(R171, R178). -/
def trcAnchor (s : State) (n : Slot) (t : Nat) : State :=
  if (s.trc n).loss.isNone then s.trcEngine n (anchorRec t)
  else if s.fb F.TRC_SLOT_CTL_en n.val ∧ s.control then s.lensCopy n (anchorRec t)
  else s

/-- The beacon has passed a whole second: an ANCHOR in each enabled stream (R171). DESIGN CHOICE: a set of the beacon to another second counts as
passing, forward or backward, with the time then read. -/
def trcAnchors (s : State) : State :=
  let sec := s.beacon / tickS
  let t := if sec = s.trace.anchorSec + 1 then sec * tickS else s.beacon
  if s.trace.anchorSec = sec then s
  else allSlots.foldl (fun s n => s.trcAnchor n t) { s with trace := { s.trace with anchorSec := sec } }

/-- A write to TRC_SLOT_nn_MARK stages a MARK (R169); its engine and context, which no rule states, are free values. -/
def trcMark (s : State) (n : Slot) (id value : Nat) : State :=
  let (e, s) := s.draw
  let (c, s) := s.draw
  s.trcEngine n ⟨3, e % 1024, c % 4096, s.beacon, id, value, none⟩

/-- At a takeover each enabled stream opens with a GAP of cause 1 over the records heard since the last mirrored drain point, and an
ANCHOR (R172). -/
def trcTakeover (s : State) : State :=
  allSlots.foldl (fun s n =>
    match (s.trc n).heard with
    | [] => s
    | t :: l => (s.updTrc n (fun x => { x with heard := [], loss := some ⟨l.length + 1, t, l.getLastD t, 1⟩ })).trcRoom n) s

/-- The follower hears which records of a stream have landed or been dropped, by their places among those it has counted since the last drain point
(R172): it counts them no more. -/
def trcDrained (s : State) (n : Slot) (gone : List Nat) : State :=
  s.updTrc n (fun x => { x with heard := (x.heard.zipIdx.filter (fun p => !gone.contains p.2)).map (·.1) })

/-- The drain points since the last snapshot go to the follower with it (R172). DESIGN CHOICE: R287 names no row for them. -/
def trcTell (s : State) : State :=
  allSlots.foldl (fun s n =>
    let gone := ((s.trc n).recv.zipIdx.filter (·.1)).map (·.2)
    if gone = [] then s
    else (s.updTrc n (fun x => { x with recv := x.recv.filter (fun b => !b) })).pairPut (.snapshot (.drained n gone))) s

/-- Mirroring begins anew: the records staged before it stand in no list. DESIGN CHOICE: a follower that was not there when they came counts none of
them. -/
def trcSync (s : State) : State :=
  allSlots.foldl (fun s n => s.updTrc n (fun x => { x with
    recv := [], heard := [], staged := x.staged.map (fun (r : TrcStaged) => { r with recv := false }) })) s

/-- A channel is lost (R348): heads and tails to 0, staging continues. -/
def trcLoseChannel (s : State) : State :=
  allSlots.foldl (fun s n => (s.setF F.TRC_SLOT_HEAD_head 0 n.val).setF F.TRC_SLOT_TAIL_tail 0 n.val) s

/-- A capture unit's credit (R178). -/
def lensCredit (s : State) (k : Fin 4) : State :=
  let x := s.trace.lens[k]
  { s with trace := { s.trace with lens := s.trace.lens.set k { x with credits := x.credits + 1 } } }

/-- The Lens link is lost (R178): the open frames leave before it, what follows is lost. -/
def lensLost (s : State) : State :=
  if s.fb F.TRC_LENS_CTL_up then
    let s := (List.finRange 4).foldl lensFlush s
    let s := { s with trace := { s.trace with lens := s.trace.lens.map (fun (x : LensStream) => { x with
      loss := x.loss.map (fun (l : TrcLoss) => { l with cause := 3 }) }) } }
    (s.setF F.TRC_LENS_CTL_up 0).raise Ev.lensDown 0 0
  else s

end State

/-! ### Compact telemetry (R184) -/

/-- uf16 of R184. -/
def uf16 (v : Nat) : Nat :=
  if v < 2048 then v
  else if 2 ^ 42 ≤ v then 0xFFFF
  else
    let e := Nat.log2 v - 10
    e <<< 11 ||| (v >>> (e - 1) - 2048)

/-- An engine's sample coded for telemetry: 8 bytes as a word (R184). -/
def telemWord (slot engine : Nat) (co : Bool) (cyc dDone dBusy : Nat) : Word :=
  BitVec.ofNat 64 (place slot 0 4 + place engine 4 10 + place (b2n co) 14 1 + place (uf16 cyc) 16 16 + place (uf16 dDone) 32 16 +
    place (uf16 dBusy) 48 16)

end Sys2Proof.Machine
end

