-- ==== Sys2Proof/Machine/DmaCore.lean ====
section
/-! DEFINITION. The transfers of the DMA channels: what an element meets, what a transfer writes, how it starts and ends (17 R351 to R356). -/

namespace Sys2Proof.Machine
namespace State

/-- A channel changed. -/
def dch (s : State) (c : Fin 32) : DmaChan := s.dma.ch[c]
def updCh (s : State) (c : Fin 32) (h : DmaChan → DmaChan) : State := { s with dma := { s.dma with ch := s.dma.ch.set c (h (s.dch c)) } }

end State

/-- The strides of a descriptor, 0 meaning the width (R353). -/
def DmaDesc.ss (d : DmaDesc) : Nat := if d.sstride = 0 then 2 ^ d.ws else d.sstride
def DmaDesc.sd (d : DmaDesc) : Nat := if d.dstride = 0 then 2 ^ d.wd else d.dstride

/-- One element converted (R353): from its source bytes to its destination bytes. -/
def DmaDesc.convert (d : DmaDesc) (e : List Byte) : List Byte :=
  let e := if bitOf d.conv 2 then e.reverse else e
  let n := 2 ^ d.wd
  if d.wd < d.ws then (if d.conv % 4 = 2 then e.drop (e.length - n) else e.take n)
  else if d.ws < d.wd then
    let fill : Byte := if d.conv % 4 = 1 ∧ bitOf (leNat e) (8 * e.length - 1) then 0xFF else 0
    e ++ List.replicate (n - e.length) fill
  else e

/-- Why an access of a transfer fails: a lost channel, a pool address, a redirected granule not written since the loss, an uncorrectable error. -/
inductive DmaFail
  | lost | pool | stale | ue
  deriving DecidableEq, Repr

/-- The completion status of a transfer that an access ends (R355). -/
def DmaFail.status : DmaFail → Nat
  | .lost => 3
  | _ => 2

namespace State

/-- The source of an element stands in the 64-byte beat that the source of element `k` starts in (R354). -/
def dmaSameBeat (d : DmaDesc) (k i : Nat) : Bool := !d.fill && !d.srcPort && decide ((d.src + i * d.ss) / 64 = (d.src + k * d.ss) / 64)

/-- The address of an element's source or destination in memory as a home address: a descriptor's addresses are those of its tender. -/
def dmaHome (d : DmaDesc) (a : Nat) : Nat := match d.by_ with | some i => home (tenderOf i) a | none => a

/-- The bytes that a source port of State gives: the retained ring from its first entry, the staged records of a slot from the oldest; none for a port of
another unit (R352). DESIGN CHOICE: reading them through a port takes nothing away. -/
def dmaPortState (s : State) (d : DmaDesc) : Option (List Byte) :=
  if d.src / 256 = 8 then some (s.rdBytes 0x20000000 (min (64 * d.count) 0x3C0000))
  else if d.src / 256 = 5 then some (((s.trc (Fin.ofNat 16 d.src)).staged.flatMap (fun (r : TrcStaged) => r.bytes)).take (64 * d.count))
  else none

/-- The bytes of element `i` of a running transfer: the literal, the port's (given from the channel's position on, or from State) or memory's. -/
def dmaElem (s : State) (c : Fin 32) (d : DmaDesc) (port : List Byte) (i : Nat) : List Byte :=
  if d.fill then leBytes d.src (2 ^ d.ws)
  else if d.srcPort then
    (match s.dmaPortState d with
     | some b => (b.drop (i * 64)).take 64
     | none => (port.drop ((i - (s.dch c).pos) * 64)).take 64)
  else s.rdBytes (dmaHome d (d.src + i * d.ss)) (2 ^ d.ws)

/-- What element `i` meets: none when it is good, else what an access meets and the address (R347, R355). -/
def dmaMeets (s : State) (d : DmaDesc) (i : Nat) : Option (DmaFail × Nat) :=
  let look (a n : Nat) (read : Bool) : Option (DmaFail × Nat) :=
    match s.loadState a n with
    | .lost => some (.lost, a)
    | .pool => some (.pool, a)
    | .stale => if read then some (.stale, a) else none
    | _ => if read && s.poisoned a n then some (.ue, a) else none
  let src := if d.fill || d.srcPort then none else look (dmaHome d (d.src + i * d.ss)) (2 ^ d.ws) true
  match src with
  | some x => some x
  | none => if d.dstPort then none else look (dmaHome d (d.dst + i * d.sd)) (2 ^ d.wd) false

/-- Some element's channel is relocking: the transfer's beats are held (R341). -/
def dmaHeld (s : State) (d : DmaDesc) : Bool :=
  (List.range d.count).any (fun i =>
    (!d.fill && !d.srcPort && decide (s.loadState (dmaHome d (d.src + i * d.ss)) (2 ^ d.ws) = .held)) ||
      (!d.dstPort && decide (s.loadState (dmaHome d (d.dst + i * d.sd)) (2 ^ d.wd) = .held)))

/-- The destination beats of which every byte is there once `k` elements are converted lie below this address (R354). -/
def dmaLimit (d : DmaDesc) (k : Nat) : Nat := if k < d.count then (d.dst + k * d.sd) / 64 * 64 else 2 ^ 64

/-- Elements are converted up to `k`: the beats that are whole are written or go to the port, the rest stays in the holding register (R354). What goes to
Scarf's decoder is gathered and decoded at the end; DESIGN CHOICE: bytes that are no coded segment are a raw one (R352). -/
def dmaMove (s : State) (c : Fin 32) (d : DmaDesc) (port : List Byte) (k : Nat) : State :=
  let x := s.dch c
  let made := ((List.range k).drop x.pos).map (fun i => (d.dst + i * d.sd, d.convert (s.dmaElem c d port i)))
  let s := s.updCh c (fun x => { x with pos := max x.pos k })
  if d.dstPort then
    if d.dst / 256 = 2 then
      let all := x.hold ++ made
      if k < d.count then s.updCh c (fun x => { x with hold := all })
      else
        let b := all.flatMap (·.2)
        ((s.updCh c (fun x => { x with hold := [] })).send (.dmaPort d.dst ((Grain.decodeAny (b.length + 1) b).getD b))).bump F.DMA_CH_CNT_bytes b.length c.val
    else made.foldl (fun s p => (s.send (.dmaPort d.dst p.2)).bump F.DMA_CH_CNT_bytes p.2.length c.val) s
  else
    let limit := dmaLimit d k
    let all := x.hold ++ made
    let rest := (all.map (fun p => (max p.1 limit, p.2.drop (limit - p.1)))).filter (fun p => decide (p.2 ≠ []))
    all.foldl (fun s p =>
      let b := p.2.take (limit - p.1)
      if b = [] then s else (s.store (dmaHome d p.1) b).bump F.DMA_CH_CNT_bytes b.length c.val) (s.updCh c (fun x => { x with hold := rest }))

/-- A transfer of a channel has ended with a status: DMA_DONE (R355). -/
def dmaReport (s : State) (c : Fin 32) (d : DmaDesc) (status : Nat) : State :=
  let s := s.setF F.DMA_CH_STAT_status status c.val
  let s := s.setF F.DMA_CH_STAT_done_seq d.seq c.val
  s.raise (Ev.dmaDone + c.val) 0 (BitVec.ofNat 64 (place d.seq 0 48 + place status 48 8))

/-- The channel idle, its holding register empty. -/
def dmaIdle (s : State) (c : Fin 32) : State := s.updCh c (fun x => { x with running := none, pos := 0, hold := [], paused := false })

/-- The head descriptor of an idle channel starts, or begins to await its pace; while a lost channel is not yet redirected nothing starts
(R356, R357). -/
def dmaKick (s : State) (c : Fin 32) : State :=
  let x := s.dch c
  if x.running.isSome ∨ ¬ s.fb F.DMA_CH_CTL_en c.val ∨ (s.mc.lost.isSome ∧ ¬ s.mc.redirected) then s
  else match x.queue with
    | [] => s.updCh c (fun x => { x with headSince := none })
    | d :: r =>
      if d.paced ∧ ¬ x.due then s.updCh c (fun x => { x with headSince := some (x.headSince.getD s.beacon) })
      else s.updCh c (fun x => { x with queue := r, running := some d, headSince := none, due := false })

/-- A paced head descriptor starts, as soon as its channel can run it (R356, R357). -/
def dmaGo (s : State) (c : Fin 32) : State :=
  let x := s.dch c
  match x.queue with
  | d :: _ => if x.running.isNone ∧ d.paced then (s.updCh c (fun x => { x with due := true })).dmaKick c else s
  | [] => s

/-- Channels whose head awaits the end of a transfer of channel `c` start. -/
def dmaAfter (s : State) (c : Fin 32) : State :=
  (List.finRange 32).foldl (fun s k =>
    let x := s.dch k
    match x.queue with
    | d :: _ => if x.headSince.isSome ∧ d.paced ∧ d.paceKind = 1 ∧ d.paceChan = c.val then s.dmaGo k else s
    | [] => s) s

/-- The running transfer ends: its bytes, its completion, the next descriptor. -/
def dmaEnd (s : State) (c : Fin 32) (d : DmaDesc) (port : List Byte) (k status : Nat) : State :=
  let s := s.dmaMove c d port k
  let s := (s.dmaIdle c).dmaReport c d status
  (s.dmaAfter c).dmaKick c

/-- `n` bytes that no rule states, drawn. -/
def drawBytes (s : State) (n : Nat) : List Byte × State :=
  ((List.range n).map (fun k => BitVec.ofNat 8 (Config.freeNat (s.draws + k))), { s with draws := s.draws + n })

/-- The running transfer ends early with a status, no access having failed; how far it had come beyond its last pause, and what its port had given, are free
values. -/
def dmaCut (s : State) (c : Fin 32) (status : Nat) : State :=
  match (s.dch c).running with
  | none => s
  | some d =>
    let (k, s) := s.draw
    let p := (s.dch c).pos
    let k := p + k % (d.count - p + 1)
    let (b, s) := if d.srcPort then s.drawBytes (64 * (k - p)) else ([], s)
    let s := s.dmaMove c d b k
    (s.dmaIdle c).dmaReport c d status

/-- Ports close: the running transfers that name one end with status PORT, in channel order, and the next descriptors start (R352, R355). -/
def dmaPortsClosed (s : State) (closed : Nat → Bool) : State :=
  (List.finRange 32).foldl (fun s c =>
    match (s.dch c).running with
    | some d => if (d.srcPort && closed d.src) || (d.dstPort && closed d.dst) then ((s.dmaCut c 4).dmaAfter c).dmaKick c else s
    | none => s) s

/-- A write of DMA_CTL.mode: TEST only from an OWNER session while TRS is not BOUND; SERVICE ends every unstarted paced descriptor
(R356). -/
def dmaMode (s : State) (old : Nat) (byOwner : Bool) : State :=
  let new := s.f F.DMA_CTL_mode
  if new = 2 ∧ ¬ (byOwner ∧ s.f F.TRS_STATUS_state ≠ 2) then s.setF F.DMA_CTL_mode old
  else if new = 0 ∧ old ≠ 0 then
    (List.finRange 32).foldl (fun s c =>
      let out := (s.dch c).queue.filter (·.paced)
      let s := s.updCh c (fun x => { x with queue := x.queue.filter (fun d => !d.paced), headSince := none, due := false })
      (out.foldl (fun s d => s.dmaReport c d 1) s).dmaKick c) s
  else s

/-- The mode that the Standing Orders of tender 21 set: RECOVERY from an acting instruction of a recovery, SERVICE at its OCLT RELEASE (R356). DEDUCED: every
acting instruction of theirs but the schedule and its cancellation belongs to a recovery. -/
def recoveryMode (s : State) (i : Tender) (x : SubAct) : State :=
  if i ≠ 21 ∨ ¬ (s.t i).prv ∨ s.prog.orders.isNone ∨ x = .ocltAt ∨ x = .ocltCancel then s
  else
    let old := s.f F.DMA_CTL_mode
    if x = .ocltRelease then (if old = 3 then (s.setF F.DMA_CTL_mode 0).dmaMode 3 false else s)
    else s.setF F.DMA_CTL_mode 3

end State
end Sys2Proof.Machine
end

