-- ==== Sys2Proof/Machine/LdgOps.lean ====
section
/-! DEFINITION. The ledger: begins, ends, timeouts, closures and queries (09 R163 to R168; 04 R76), and counter samples
(09 R183). -/

namespace Sys2Proof.Machine

/-- An entry read from its place and its 16-byte form (R164). -/
def LdgEntry.ofBytes (pos : Nat) (b : List Byte) : LdgEntry :=
  let w := numAt b 12 4
  ⟨pos, numAt b 0 8, numAt b 8 4, bits w 0 12, bits w 12 2, bitOf w 14⟩

/-- A ledger entry in its 16-byte form (R164). -/
def LdgEntry.bytes (e : LdgEntry) (slot : Nat) : List Byte :=
  leBytes e.begin_ 8 ++ leBytes e.cseq 4 ++
    leBytes (place e.ctx 0 12 + place e.tclass 12 2 + place (b2n e.timedOut) 14 1 + place 1 15 1 + place slot 16 4 +
      place (e.pos / 16) 20 10) 4

/-- The key of an entry (04 "Ledger: LEDG"). -/
def ldgKey (slot pos : Nat) : Nat := slot + place (pos / 16) 4 10 + place (pos % 16) 14 4

/-- An entry put in its place. -/
def ldgInsert (e : LdgEntry) : List LdgEntry → List LdgEntry
  | [] => [e]
  | x :: l => if e.pos < x.pos then e :: x :: l else x :: ldgInsert e l

/-- The free entry of an engine with the lowest index (R165). -/
def LdgSlot.free (x : LdgSlot) (engine : Nat) : Option Nat :=
  (List.range 16).find? (fun i => x.entries.all (fun e => decide (e.pos ≠ engine * 16 + i)))

/-- Open entries of an engine. -/
def LdgSlot.ofEngine (x : LdgSlot) (engine : Nat) : List LdgEntry := x.entries.filter (fun e => decide (e.pos / 16 = engine))

/-- The untracked count of an engine. -/
def LdgSlot.count (x : LdgSlot) (engine : Nat) : Nat := ((x.untracked.find? (fun p => decide (p.1 = engine))).map (·.2)).getD 0

/-- An untracked count set. -/
def LdgSlot.setCount (x : LdgSlot) (engine k : Nat) : LdgSlot :=
  let l := x.untracked.filter (fun p => decide (p.1 ≠ engine))
  { x with untracked := if k = 0 then l else l ++ [(engine, k)] }

/-- The earliest-begun entry of a list, the lowest position among equals. -/
def earliest (l : List LdgEntry) : Option LdgEntry :=
  l.foldl (fun b e =>
    match b with
    | none => some e
    | some x => if e.begin_ < x.begin_ ∨ (e.begin_ = x.begin_ ∧ e.pos < x.pos) then some e else some x) none

namespace State

def led (s : State) (n : Slot) : LdgSlot := s.ldg.slots[n]
def setLed (s : State) (n : Slot) (x : LdgSlot) : State := { s with ldg := { s.ldg with slots := s.ldg.slots.set n x } }

/-- The ledger's part of a begin (R165, R167): an entry, the untracked count, or an orphan for an open cseq. -/
def ldgBeginEntry (s : State) (n : Slot) (engine ctx cseq time tclass : Nat) : State :=
  let x := s.led n
  if (x.ofEngine engine).any (fun e => decide (e.cseq = cseq)) then s.bump F.LDG_SLOT_CNT_orphan 1 n.val
  else match x.free engine with
    | some i => s.setLed n { x with entries := ldgInsert ⟨engine * 16 + i, time, cseq, ctx, tclass, false⟩ x.entries }
    | none =>
      let k := x.count engine
      let s := s.setLed n (x.setCount engine (k + 1))
      if k = 0 then s.raise Ev.ldgSaturated (n.val + place engine 4 10) (BitVec.ofNat 64 cseq) else s

/-- The ledger's part of an end (R165, R167). -/
def ldgEndEntry (s : State) (n : Slot) (engine cseq : Nat) : State :=
  let x := s.led n
  match (x.ofEngine engine).find? (fun e => decide (e.cseq = cseq)) with
  | some e =>
    let s := s.setLed n { x with entries := x.entries.filter (fun y => decide (y.pos ≠ e.pos)) }
    if e.timedOut then s.bump F.LDG_SLOT_CNT_late 1 n.val else s
  | none =>
    if x.count engine ≠ 0 then s.setLed n (x.setCount engine (x.count engine - 1))
    else s.bump F.LDG_SLOT_CNT_orphan 1 n.val

/-- A begin message: ledger, then trace. A keeper that follows keeps the ledger snapshots of its controller instead (14 R287). -/
def ldgBegin (s : State) (n : Slot) (engine ctx cseq time core kind tclass : Nat) : State :=
  let s := if s.control then s.ldgBeginEntry n engine ctx cseq time tclass else s
  s.trcEngine n ⟨1, engine, ctx, time, cseq, place kind 0 16 + place core 16 16, none⟩

/-- An end message: ledger, then trace. -/
def ldgEnd (s : State) (n : Slot) (engine ctx cseq time core status : Nat) : State :=
  let s := if s.control then s.ldgEndEntry n engine cseq else s
  s.trcEngine n ⟨2, engine, ctx, time, cseq, place status 0 8 + place core 16 16, none⟩

/-- An open entry whose timeout has passed (R166). -/
def ldgTimeout (s : State) (n : Slot) (engine idx : Nat) : State :=
  let x := s.led n
  match x.entries.find? (fun e => decide (e.pos = engine * 16 + idx)) with
  | none => s
  | some e =>
    let tmo := s.f F.LDG_TMO_tmo_us e.tclass
    if s.control ∧ s.fb F.LDG_CTL_tmo_en ∧ tmo ≠ 0 ∧ ¬ e.timedOut ∧ e.begin_ + tmo * tickUs ≤ s.beacon then
      let s := s.setLed n { x with entries := x.entries.map (fun y => if y.pos = e.pos then { y with timedOut := true } else y) }
      let s := s.raiseSlot n Ev.ledgerTimeout (place engine 4 10) (BitVec.ofNat 64 (ldgKey n.val e.pos + place e.cseq 32 32))
      if s.fb F.TRC_SLOT_CTL_auto_tmo n.val then s.trcTrigger n 4 else s
    else s

/-- A closure of a slot (R168): every open entry ends with a status and an END record in trace, whose core, which the ledger does not
keep, is a free value; the untracked counts return to zero. The number closed is the answer. -/
def ldgClose (s : State) (n : Slot) (status : Nat) : Nat × State :=
  let l := (s.led n).entries
  let s := s.setLed n ⟨[], []⟩
  let (rs, s) := l.foldl (fun (x : List TrcRec × State) e =>
    let (c, s) := x.2.draw
    (x.1 ++ [⟨2, e.pos / 16, e.ctx, s.beacon, e.cseq, place status 0 8 + place c 16 16, none⟩], s)) ([], s)
  (l.length, s.trcBatch n rs true)

/-- A reset or power action, or CHIP_DOWN, closes the slot's entries with status RESET (R168). -/
def ldgReset (s : State) (n : Slot) : State := (s.ldgClose n 3).2

/-- A rollback closes the slot's entries with status ABORTED and raises LDG_ABORTED (R168). -/
def ldgAbort (s : State) (n : Slot) : State :=
  let (k, s) := s.ldgClose n 2
  s.raise Ev.ldgAborted n.val (BitVec.ofNat 64 k)

/-! ### Queries (04 R76) -/

/-- LOOKUP: the entry at a position. -/
def ldgLookup (s : State) (n : Slot) (pos : Nat) : Option LdgEntry := (s.led n).entries.find? (fun e => decide (e.pos = pos))

/-- NEXTOUT: the first timed-out entry at or after a position. -/
def ldgNextOut (s : State) (n : Slot) (pos : Nat) : Option LdgEntry :=
  (s.led n).entries.find? (fun e => decide (pos ≤ e.pos) && e.timedOut)

/-- A snapshot of a slot's ledger as the follower keeps it (14 R287). DESIGN CHOICE: the follower's ledger takes no message itself, so it stands as the
last snapshot at a takeover. -/
def ldgMirrored (s : State) (n : Slot) (l : List (Nat × List Byte)) (untracked : List (Nat × Nat)) : State :=
  s.setLed n ⟨l.foldl (fun r e => ldgInsert (LdgEntry.ofBytes (e.1 % 16384) e.2) r) [], untracked⟩

/-- A slot's ledger as its snapshot holds it. -/
def ledgerMsg (s : State) (n : Slot) : MirrorMsg :=
  .ledger n ((s.led n).entries.map (fun e => (e.pos, e.bytes n.val))) (s.led n).untracked

/-- COUNT: the 16-byte count record of an engine. -/
def ldgCountRec (s : State) (n : Slot) (engine : Nat) : List Byte :=
  let l := (s.led n).ofEngine engine
  leBytes l.length 4 ++ leBytes ((s.led n).count engine) 4 ++ leBytes ((earliest l).map (·.begin_) |>.getD 0) 8

/-- SNAPSHOT: the 256 KiB of a slot, from a position on. -/
def ldgSnapBytes (slot : Nat) : Nat → Nat → List LdgEntry → List Byte
  | 0, _, _ => []
  | k + 1, pos, [] => List.replicate 16 0 ++ ldgSnapBytes slot k (pos + 1) []
  | k + 1, pos, e :: l =>
    if e.pos = pos then e.bytes slot ++ ldgSnapBytes slot k (pos + 1) l
    else List.replicate 16 0 ++ ldgSnapBytes slot k (pos + 1) (e :: l)

/-! ### Counter samples (R182 to R184) -/

/-- The sampling period has elapsed: the selected slots' Buoys sample their engines. -/
def sampleTick (s : State) : State :=
  let p := s.f F.TRC_CNT_CTL_period_us
  if p ≠ 0 ∧ s.trace.sampleDue ≤ s.beacon then
    let s := { s with trace := { s.trace with sampleDue := s.beacon + p * tickUs } }
    s.toBuoys (maskSlots (s.f F.TRC_CNT_CTL_slots)) "SAMPLE_COUNTERS" [s.f F.TRC_CNT_CTL_first, s.f F.TRC_CNT_CTL_last]
  else s

/-- One engine's counter sample: the COUNTER record (R183), and the increases of done and busy since its previous sample (R184). -/
def counterRecord (s : State) (n : Slot) (engine : Nat) (co : Bool) (cyc done busy time : Nat) : (Nat × Nat) × State :=
  let key := n.val * 1024 + engine
  let prev := ((s.trace.prevCnt.find? (fun p => decide (p.1 = key))).map (·.2)).getD (0, 0)
  let s := { s with trace := { s.trace with
    prevCnt := (key, done, busy) :: s.trace.prevCnt.filter (fun p => decide (p.1 ≠ key)) } }
  (((done + 2 ^ 64 - prev.1) % 2 ^ 64, (busy + 2 ^ 64 - prev.2) % 2 ^ 64),
    s.trcEngine n ⟨7, engine, 0, time, 0, 0, some (co, cyc, done, busy)⟩)

/-! ### Sightings (R179 to R182) -/

/-- The size of the sighting region: 4 GiB, or 512 MiB once a lost channel has taken the rest (R348). -/
def sightSize (s : State) : Nat := if s.mc.lost.isSome then 0x20000000 else 0x100000000

/-- SIGHT_DONE when every slot of the mask is captured or refused (R182). -/
def sightCheck (s : State) (k : Fin 8) : State :=
  let m := s.f F.TRC_SIGHT_REQ_slots k.val
  let c := s.f F.TRC_SIGHT_STAT_captured k.val
  let r := s.f F.TRC_SIGHT_STAT_refused k.val
  let st := s.f F.TRC_SIGHT_STAT_state k.val
  if (st = 1 ∨ st = 2) ∧ m &&& (c ||| r) = m then
    (s.setF F.TRC_SIGHT_STAT_state 3 k.val).raise Ev.sightDone k.val (BitVec.ofNat 64 (c + place r 16 16 + place 3 32 3))
  else s

/-- The PEG that commits a request (R179). -/
def sightPeg (s : State) (k : Fin 8) : State :=
  let s := { s with trace := { s.trace with sights := s.trace.sights.set k [] } }
  let s := (s.setF F.TRC_SIGHT_STAT_captured 0 k.val).setF F.TRC_SIGHT_STAT_refused 0 k.val
  let m := s.f F.TRC_SIGHT_REQ_slots k.val
  let step := s.f F.TRC_SIGHT_STEP_step k.val
  if m = 0 then s.setF F.TRC_SIGHT_STAT_state 0 k.val
  else if (match s.trs.lastBoundary with | none => false | some l => decide (step ≤ l)) then s.setF F.TRC_SIGHT_STAT_state 4 k.val
  else
    (s.setF F.TRC_SIGHT_STAT_state 1 k.val).toBuoys (maskSlots m) "SIGHT_REQ"
      [k.val, (s.reg (F.TRC_SIGHT_REQ_slots.base + 0x20 * k.val)).toNat, step]

/-- A slot of a request refused. -/
def sightRefuse (s : State) (k : Fin 8) (n : Slot) : State :=
  (s.setF F.TRC_SIGHT_STAT_refused (s.f F.TRC_SIGHT_STAT_refused k.val ||| (1 <<< n.val)) k.val).sightCheck k

/-- A slot of a request captured. -/
def sightCaptured (s : State) (k : Fin 8) (n : Slot) : State :=
  (s.setF F.TRC_SIGHT_STAT_captured (s.f F.TRC_SIGHT_STAT_captured k.val ||| (1 <<< n.val)) k.val).sightCheck k

/-- A request is open for a slot: armed or capturing, and the slot neither captured nor refused. -/
def sightOpen (s : State) (k : Fin 8) (n : Slot) : Bool :=
  decide (s.f F.TRC_SIGHT_STAT_state k.val = 1 ∨ s.f F.TRC_SIGHT_STAT_state k.val = 2) &&
    bitOf (s.f F.TRC_SIGHT_REQ_slots k.val) n.val &&
    !bitOf (s.f F.TRC_SIGHT_STAT_captured k.val ||| s.f F.TRC_SIGHT_STAT_refused k.val) n.val

/-- A Buoy announces the size of its sighting (R180): the space is reserved at the tail, or the whole holder is refused. A holder with
nothing to send is captured with its announcement. -/
def sightAnnounce (s : State) (k : Fin 8) (n : Slot) (bytes : Nat) : State :=
  if s.sightOpen k n ∧ (s.trace.sights[k]).all (fun r => decide (r.slot ≠ n.val)) then
    let z := s.sightSize
    let used := (s.f F.TRC_SIGHT_TAIL_stail + z - s.f F.TRC_SIGHT_HEAD_shead % z) % z
    if s.f F.TRC_SIGHT_BASE_sbase = 0 ∨ z ≤ used + bytes then s.sightRefuse k n
    else
      let off := s.f F.TRC_SIGHT_TAIL_stail
      let s := { s with trace := { s.trace with sights := s.trace.sights.set k (s.trace.sights[k] ++ [(⟨n.val, off, bytes, 0⟩ : SightRes)]) } }
      let s := (s.setF F.TRC_SIGHT_TAIL_stail ((off + bytes) % z)).setF F.TRC_SIGHT_STAT_state 2 k.val
      if bytes = 0 then s.sightCaptured k n else s
  else s

/-- Bytes stored in the sighting region, which is a ring. -/
def sightStore (s : State) (off : Nat) (b : List Byte) : State :=
  let m := s.sightSize - off
  let base := s.f F.TRC_SIGHT_BASE_sbase
  (s.blockStore 7 (base + off) (b.take m)).blockStore 7 base (b.drop m)

/-- A section of a sighting arrives (R180, R181): stored in the holder's reservation; the holder is captured when all of it is in. -/
def sightSection (s : State) (k : Fin 8) (n : Slot) (data : List Byte) : State :=
  match (s.trace.sights[k]).find? (fun r => decide (r.slot = n.val)) with
  | none => s
  | some r =>
    if s.sightOpen k n then
      let data := data.take (r.bytes - r.received)
      let s := s.sightStore ((r.offset + r.received) % s.sightSize) data
      let got := r.received + data.length
      let s := { s with trace := { s.trace with sights := s.trace.sights.set k ((s.trace.sights[k]).map (fun x =>
        if x.slot = n.val then { x with received := got } else x)) } }
      if r.bytes ≤ got then s.sightCaptured k n else s
    else s

/-- A slot's boundary of a step: a holder that has announced nothing for a request of an earlier step has not reached its capture point
(R180). -/
def sightBoundary (s : State) (n : Slot) (step : Nat) : State :=
  (List.finRange 8).foldl (fun s k =>
    if s.sightOpen k n ∧ s.f F.TRC_SIGHT_STEP_step k.val < step ∧ (s.trace.sights[k]).all (fun r => decide (r.slot ≠ n.val)) then
      s.sightRefuse k n else s) s

/-- A rollback or a restore returns to the boundary of a step, which is then the last one taken (08 R158). A request of a later step is armed again for
the slots that are neither captured nor refused (R179). DESIGN CHOICE: the space reserved for a capture under way is given up, not reused. -/
def boundaryBack (s : State) (step : Nat) : State :=
  let s : State := { s with trs := { s.trs with lastBoundary := some step }, scf := { s.scf with skipped := none } }
  (List.finRange 8).foldl (fun (s : State) (k : Fin 8) =>
    if (s.f F.TRC_SIGHT_STAT_state k.val = 1 ∨ s.f F.TRC_SIGHT_STAT_state k.val = 2) ∧ step < s.f F.TRC_SIGHT_STEP_step k.val then
      let kept := (s.trace.sights[k]).filter (fun r => bitOf (s.f F.TRC_SIGHT_STAT_captured k.val) r.slot)
      ({ s with trace := { s.trace with sights := s.trace.sights.set k kept } } : State).setF F.TRC_SIGHT_STAT_state 1 k.val
    else s) s

/-- A channel is lost (R348): head and tail to 0, a holder in capture is set refused. -/
def sightLoseChannel (s : State) : State :=
  let s := (s.setF F.TRC_SIGHT_HEAD_shead 0).setF F.TRC_SIGHT_TAIL_stail 0
  (List.finRange 8).foldl (fun s k =>
    (s.trace.sights[k]).foldl (fun s r => if s.sightOpen k (Fin.ofNat 16 r.slot) then s.sightRefuse k (Fin.ofNat 16 r.slot) else s) s) s

end State
end Sys2Proof.Machine
end

