-- ==== Sys2Proof/Machine/ActCore.lean ====
section
/-! DEFINITION. Acting instructions: the sub-actions, the arming check, tickets, the records and the end of an action
(04 R84 to R88, 05 R100 to R104). -/

namespace Sys2Proof.Machine

/-- Major opcode and fn of a sub-action (04 R86). -/
def SubAct.code : SubAct → Nat × Nat
  | .rsetCore => (0x50, 0)
  | .rsetLinks => (0x50, 1)
  | .rsetMemory => (0x50, 2)
  | .rsetWarm => (0x50, 3)
  | .rsetCold => (0x50, 4)
  | .rsetHold => (0x50, 5)
  | .rsetRelease => (0x50, 6)
  | .pwrOn => (0x51, 0)
  | .pwrOff => (0x51, 1)
  | .pwrCycle => (0x51, 2)
  | .pwrCap => (0x51, 3)
  | .fencFence => (0x52, 0)
  | .fencUnfence => (0x52, 1)
  | .ocltStop => (0x53, 0)
  | .ocltAt => (0x53, 1)
  | .ocltCancel => (0x53, 2)
  | .ocltRelease => (0x53, 3)
  | .rollRollback => (0x54, 0)
  | .rollRestore => (0x54, 1)
  | .quarLink => (0x55, 0)
  | .quarSlot => (0x55, 1)
  | .quarRelease => (0x55, 2)

/-- The arming class of a sub-action (05 R100): the classes stand in the order of the majors. -/
def SubAct.cls (x : SubAct) : Nat := x.code.1 - 0x50

/-! ### Result codes of ACT_FAILED (04 R85) -/
namespace Res
def done : Nat := 0
def noReply : Nat := 1
def timeout : Nat := 2
def takeover : Nat := 3
def rejected : Nat := 4
end Res

/-- The major of an action: OCLT for the hardware stop path. -/
def Action.major (a : Action) : Nat := a.sub.code.1

/-- The payload of an acting report (04 R85). -/
def Action.payload (a : Action) (result : Nat) : Word :=
  BitVec.ofNat 64 (place a.ticket 0 48 + place result 48 8 + place a.major 56 7)

/-- The tender that an action's reports go to: its issuer, tender 21 for the hardware stop path (10 R189). -/
def Action.to (a : Action) : Tender := a.tender.getD 21

namespace State

/-! ### Arming (04 R87, 05 R100 to R104) -/

/-- The arming entries changed: what stood at the end of the previous PCLK cycle is kept. -/
def setArms (s : State) (v : Vector ArmEntry 16) : State :=
  let old := if s.evt.armsOld.map (·.2) = some s.pclkTime then s.evt.armsOld else some (s.evt.arms, s.pclkTime)
  { s with evt := { s.evt with arms := v, armsOld := old } }

/-- The entries that a check of this PCLK cycle sees: as they stood at the end of the cycle before, without those that had expired by
then (R87, R103). -/
def armsSeen (s : State) : List (ArmEntry × Nat) :=
  let v := match s.evt.armsOld with
    | some (v, c) => if c = s.pclkTime then v else s.evt.arms
    | none => s.evt.arms
  v.toList.zipIdx.filter (fun x => s.armLive x.1)

/-- Slots armed for a class. -/
def armedSlots (s : State) (cls : Nat) : Nat :=
  (s.armsSeen.filter (fun x => x.1.cls = cls)).foldl (fun m x => m ||| x.1.slots) 0

/-- The class's arming state at a check as a record holds it (R84). -/
def armWord (s : State) (cls mask first : Nat) : Word :=
  let armed := s.armedSlots cls
  let e := s.armsSeen.find? (fun x => decide (x.1.cls = cls) && bitOf x.1.slots first)
  BitVec.ofNat 64 (place armed 0 16 + place cls 16 3 + place (b2n (decide (mask &&& armed = mask))) 19 1 +
    place ((e.map (·.2)).getD 15) 20 4 + place ((e.map (fun x => x.1.token x.2)).getD 0) 32 32)

/-- An accepted action as it is mirrored. -/
def actionMsg (a : Action) : MirrorMsg :=
  .action a.ticket a.sub.code.1 a.sub.code.2 a.mask a.recSlot a.tender a.iword a.pc a.ga a.gb a.arming a.cmd

/-- An arming entry as it is mirrored. -/
def armMsg (s : State) (e : Fin 16) : MirrorMsg :=
  let a := s.evt.arms[e]
  .arming e a.valid a.cls a.slots a.sess a.gen a.expiry

/-! ### Tickets and records (04 R84) -/

/-- The next ticket assigned; the counter stands in retained SRAM and is mirrored. -/
def newTicket (s : State) : Nat × State :=
  let t := (s.lastTicket + 1) % 2 ^ 48
  (t, (s.wrNat ticketAddr 8 t).mirrorItem 3 (.ticket t) .nothing)

/-- A record of an acting instruction or of the hardware stop path (R84, 10 R189). -/
def actRecord (s : State) (a : Action) (trigger : Nat) : State :=
  let ws : List Word := [BitVec.ofNat 64 a.iword, BitVec.ofNat 64 a.pc, BitVec.ofNat 64 a.to.val, a.ga, a.gb,
    BitVec.ofNat 64 a.ticket, a.arming]
  match a.tender with
  | some i => s.logSo ⟨trigger, logSource 0x03 a.recSlot 0, i.val, 2 ^ 7 - 1, s.pclkTime, ws⟩
  | none => s.logHw ⟨trigger, logSource 0x08 a.recSlot 0x4000, 0x1F, 2 ^ 7 - 1, s.pclkTime, ws⟩

/-- An acting report event to the issuer. -/
def actEvent (s : State) (a : Action) (e result : Nat) : State := s.raiseTo a.to e a.first (a.payload result)

/-! ### Running actions -/

/-- The running action with a ticket. -/
def actionOf (s : State) (ticket : Nat) : Option Action := s.act.running.find? (fun a => a.ticket = ticket)

/-- The state with an action changed. -/
def updAct (s : State) (ticket : Nat) (h : Action → Action) : State :=
  { s with act := ⟨s.act.running.map (fun a => if a.ticket = ticket then h a else a)⟩ }

/-- The driven action of one of some sub-actions whose part of a slot is still open. -/
def drivenOn (s : State) (n : Slot) (subs : List SubAct) : Option Action :=
  s.act.running.find? (fun a => decide (a.phase = .driving) && bitOf a.left n.val && subs.contains a.sub)

/-- An action ends: its record is written, and its completion is mirrored before its event is delivered (R85, R88). -/
def actEnd (s : State) (ticket result : Nat) : State :=
  match s.actionOf ticket with
  | none => s
  | some a =>
    if a.phase = .ended then s
    else
      let s := s.updAct ticket (fun a => { a with phase := .ended, result := result, left := 0 })
      let s := s.actRecord a (if result = 0 then Ev.actDone else Ev.actFailed)
      s.mirrorItem 2 (.actionEnd ticket result) (.actDeliver ticket)

/-- The part of an action on one slot is done; the last part ends it. -/
def actPart (s : State) (ticket : Nat) (n : Slot) : State :=
  match s.actionOf ticket with
  | none => s
  | some a =>
    let left := a.left - a.left.land (2 ^ n.val)
    let s := s.updAct ticket (fun a => { a with left := left })
    if left = 0 then s.actEnd ticket Res.done else s

/-- The end of an action is delivered to its issuer and the action is no longer running (R85). -/
def actDeliver (s : State) (ticket : Nat) : State :=
  match s.actionOf ticket with
  | none => s
  | some a =>
    let s : State := { s with act := ⟨s.act.running.filter (fun x => decide (x.ticket ≠ ticket))⟩ }
    s.actEvent a (if a.result = 0 then Ev.actDone else Ev.actFailed) a.result

end State
end Sys2Proof.Machine
end

