-- ==== Sys2Proof/Machine/DumpCore.lean ====
section
/-! DEFINITION. The data of a dump: the unit table, the plan, the sections, and the end of a slot's dump (10 R197 to R203). -/

namespace Sys2Proof.Machine

/-! ### The unit table (R198) -/

/-- Unit number of a table entry. -/
def unitNo (e : List Byte) : Nat := leNat (e.take 2)
/-- Its kind. -/
def unitKind (e : List Byte) : Nat := bits (leNat (e.take 4)) 16 4
/-- It is essential. -/
def unitEssential (e : List Byte) : Bool := bitOf (leNat (e.take 4)) 20
/-- Line size of a scratchpad. -/
def unitLine (e : List Byte) : Nat := 2 ^ bits (leNat (e.take 4)) 24 4
/-- Length in bytes. -/
def unitBytes (e : List Byte) : Nat := leNat ((e.drop 8).take 8)

/-- The entries of a table. -/
def tableEntries (t : List Byte) : List (List Byte) := (List.range (min (t.length / 16) 4096)).map (fun i => (t.drop (16 * i)).take 16)

/-! ### The plan (R200) -/

/-- The lines of a scratchpad that are read: line `p` and every 2^s-th after it. -/
def unitLines (e : List Byte) (s p : Nat) : Nat :=
  let l := (unitBytes e + unitLine e - 1) / unitLine e
  if l ≤ p then 0 else (l - p + 2 ^ s - 1) / 2 ^ s

/-- Bytes read of a unit under sampling `s`, `p`. -/
def unitWant (e : List Byte) (s p : Nat) : Nat :=
  if unitKind e = 2 then
    let n := unitLines e s p
    if n = 0 then 0
    else
      let last := p + (n - 1) * 2 ^ s
      (n - 1) * unitLine e + min (unitLine e) (unitBytes e - last * unitLine e)
  else unitBytes e

/-- The next piece to read of a unit after `got` bytes: offset and length, at most 64 KiB. -/
def unitPiece (e : List Byte) (s p got want : Nat) : Nat × Nat :=
  if unitKind e = 2 ∧ s ≠ 0 then
    let k := got / unitLine e
    let x := got % unitLine e
    ((p + k * 2 ^ s) * unitLine e + x, min (unitLine e - x) (want - got))
  else (got, min 0x10000 (want - got))

/-- The planned size of a dump: the header and one section for each unit (R201). -/
def planSize (es : List (List Byte)) (s p : Nat) : Nat :=
  es.foldl (fun a e => a + up64 (32 + unitWant e s (p % 2 ^ s))) 128

/-- The sampling a dump uses: raised one step at a time to at most 12 until the plan fits 512 MiB. -/
def planS (es : List (List Byte)) (p : Nat) : Nat → Nat → Nat
  | 0, s => s
  | k + 1, s => if planSize es s p ≤ 0x20000000 ∨ 12 ≤ s then s else planS es p k (s + 1)

/-- The units of a plan: in table order while they fit beside the headers of the sections that follow, the rest SPACE; a unit with nothing
to read is read (R200, R201). -/
def planUnits (s p : Nat) : Nat → List (List Byte) → List DumpUnit
  | _, [] => []
  | used, e :: es =>
    let w := unitWant e s p
    if used + up64 (32 + w) + 64 * es.length ≤ 0x20000000 then
      ⟨e, w, if w = 0 then some 0 else none, []⟩ :: planUnits s p (used + up64 (32 + w)) es
    else (e :: es).map (fun e => ⟨e, unitWant e s p, some 3, []⟩)

/-! ### The segment (R201) -/

/-- One unit section. -/
def DumpUnit.section (u : DumpUnit) : List Byte :=
  let b := u.entry ++ leBytes (u.status.getD 4) 1 ++ List.replicate 7 0 ++ leBytes u.data.length 8 ++ u.data
  b ++ List.replicate (up64 b.length - b.length) 0

namespace State

/-- Address of a slot's segment. -/
def dumpSeg (s : State) (n : Slot) : Nat := s.f F.OCC_DUMP_BASE_base + n.val * 0x20000000

/-- The header's flags: live, edge, unreachable. -/
def dumpFlags (s : State) (n : Slot) (d : DumpSlot) : Nat :=
  b2n d.live + place (b2n (s.fb F.OCC_DUMP_STAT_edge n.val)) 1 1 + place (b2n d.unreachable) 2 1

/-- The 128-byte slot header. -/
def dumpHeader (s : State) (n : Slot) (d : DumpSlot) (units bytes : Nat) : List Byte :=
  [0x44, 0x55, 0x4D, 0x50] ++ leBytes (s.holderOf n) 2 ++ leBytes (s.dumpFlags n d) 2 ++ leBytes d.seq 8 ++ leBytes d.stopTick 8 ++
    leBytes d.start 8 ++ leBytes s.beacon 8 ++ leBytes units 4 ++ leBytes d.s 1 ++ [0] ++ leBytes d.p 2 ++ leBytes bytes 8 ++
    (match d.table with | some t => sha384 t | none => List.replicate 48 0) ++ List.replicate 24 0

/-- The priority level of the dump channels: 3 while a stopped slot's dump runs, else 1 (R197, 01 R13). -/
def dumpLevel (s : State) : State :=
  let hot := s.occ.dumps.toList.any (fun d => (d.map (fun (x : DumpSlot) => !x.live)).getD false)
  let p := if hot then 3 else 1
  (s.setF F.DMA_CH_CTL_prio p 20).setF F.DMA_CH_CTL_prio p 21

/-- A slot's dump ends in a state: the segment, the index entry and the status are written, and DUMP_SLOT_DONE is raised (R197, R201,
R202). A segment of which bytes cannot be stored ends ABORTED (17 R347 to R349). DESIGN CHOICE: with no dump region set in LPDDR5X no segment is
written. -/
def dumpClose (s : State) (n : Slot) (state : Nat) : State :=
  match s.occ.dumps.get n with
  | none => s
  | some d =>
    let us := if d.unreachable then [] else d.units.map (fun u => { u with status := some (u.status.getD 4) })
    let body := us.flatMap DumpUnit.section
    let bytes := 128 + body.length
    let hdr := s.dumpHeader n d us.length bytes
    let flags := s.dumpFlags n d
    let sealed := s.fb F.LOG_STATUS_sealed
    let bad := s.blockFails (s.dumpSeg n) bytes
    let state := if sealed then 4 else if bad then 5 else state
    let s := if isLpddr (s.dumpSeg n) ∧ ¬ sealed then s.blockStore 8 (s.dumpSeg n) (hdr ++ body) else s
    let s := if sealed then s else s.wrBytes (0x203C0000 + 32 * n.val)
      (leBytes d.seq 8 ++ leBytes d.stopTick 8 ++ leBytes bytes 8 ++ leBytes flags 2 ++ leBytes state 1 ++ List.replicate 5 0)
    let s := s.setF F.OCC_DUMP_STAT_state state n.val
    let s := s.setFb F.OCC_DUMP_STAT_live d.live n.val
    let s := s.setFb F.OCC_DUMP_STAT_unreachable d.unreachable n.val
    let s := s.setF F.OCC_DUMP_STAT_read (us.countP (fun u => decide (u.status = some 0 ∨ u.status = some 1))) n.val
    let s := s.setF F.OCC_DUMP_STAT_unreadable (us.countP (fun u => decide (u.status = some 2))) n.val
    let s := s.setF F.OCC_DUMP_STAT_bytes bytes n.val
    let s : State := { s with occ := { s.occ with
      dumps := s.occ.dumps.set n none
      reading := if s.occ.reading.map (·.1) = some n then none else s.occ.reading } }
    s.dumpLevel.raise Ev.dumpSlotDone n.val (BitVec.ofNat 64 state)

end State
end Sys2Proof.Machine
end

