-- ==== Sys2Proof/Machine/TrsOps.lean ====
section
/-! DEFINITION. The operations of the TRS block: the images it takes, the schedules it derives, distribution (08 R148 to R162). -/

namespace Sys2Proof.Machine

/-! ### Images (R151, R152) -/

/-- One 16-byte entry of an image body: bytes 0-3, 4-7 and 8-15. -/
abbrev TrsEntry := Nat × Nat × Nat

/-- The header and the entries of a truss map or format plan image. -/
structure TrsImage where
  magic : Nat
  format : Nat
  lgG : Nat
  key : Nat
  jobId : Nat
  seed : Nat
  tensors : List TrsEntry
  colls : List TrsEntry
  digest : List Byte
  /-- the digest and the signature are right under R151 -/
  valid : Bool
  /-- digest with the seed read as zero -/
  digest0 : List Byte


/-- All the bytes are zero. -/
def zeros (b : List Byte) : Bool := b.all (fun x => decide (x = 0))

/-- Entries of an image body from an offset on. -/
def trsEntries (b : List Byte) (off : Nat) (n : Nat) : List TrsEntry :=
  (List.range n).map (fun i => (numAt b (off + 16 * i) 4, numAt b (off + 16 * i + 4) 4, numAt b (off + 16 * i + 8) 8))

namespace State

/-- The enrolled owner key with an index (18 R366). -/
def ownerKey (s : State) (k : Nat) : Option OwnerKey :=
  ((s.sec.owner.map (·.entries)).getD []).find? (fun e => decide (e.index = k))

/-- The image at an address (R151): the digest covers bytes 0x000 to 0x0BF and the body, the signature is by owner key 0 to 3, the reserved bytes of
its header are zero (05 R89). -/
def trsImage (s : State) (addr : Nat) : TrsImage :=
  let h := s.rdBytes addr 0x200
  let nt := min (numAt h 0x10 4) 65537
  let nc := min (numAt h 0x14 4) 65537
  let body := s.rdBytes (addr + 0x200) (16 * (nt + nc))
  let d := sha384 (h.take 0xC0 ++ body)
  let key := numAt h 7 1
  { magic := beNat (h.take 4), format := numAt h 4 2, lgG := numAt h 6 1, key := key, jobId := numAt h 8 8
    seed := numAt h 0x18 8, tensors := trsEntries body 0 nt, colls := trsEntries body (16 * nt) nc, digest := cut h 0xC0 48
    valid := decide (cut h 0xC0 48 = d ∧ key < 4 ∧ 1 ≤ nt ∧ nt ≤ 65536 ∧ nc ≤ 65536) &&
      zeros (cut h 0x20 0xA0) && zeros (cut h 0x150 0xB0) &&
      (match s.ownerKey key with
       | none => false
       | some k => verifyDigest k.key d (cut h 0xF0 96))
    digest0 := sha384 (h.take 0x18 ++ List.replicate 8 0 ++ cut h 0x20 0xA0 ++ body) }

end State

/-- No first component appears twice. -/
def uniqueIds (l : List TrsEntry) : Bool := decide (l.map (·.1)).Nodup

/-- A tensor entry of a truss map: reserved bits zero, a split tensor with E at least G, a replicated one with E zero. -/
def mapTensorOk (lgG : Nat) (e : TrsEntry) : Bool :=
  decide (e.2.1 &&& 0xFFFFFEF8 = 0) &&
    (if bitOf e.2.1 8 then decide (e.2.2 = 0) else decide (2 ^ lgG ≤ e.2.2))

/-- A collective entry of a truss map: it names a tensor of the map, 1 to 2^24 elements. -/
def mapCollOk (tensors : List TrsEntry) (e : TrsEntry) : Bool :=
  tensors.any (fun t => decide (t.1 = e.2.1)) && decide (1 ≤ e.2.2 ∧ e.2.2 ≤ 2 ^ 24)

/-- A tensor entry of a format plan: an assigned storage format, a conversion mode that R113 permits, block scaling as R152 asks. -/
def planTensorOk (e : TrsEntry) : Bool :=
  let f := bits e.2.1 0 4
  let mode := bits e.2.1 4 2
  let blk := bitOf e.2.1 8
  decide (e.2.1 &&& 0xFFFFFEC0 = 0 ∧ e.2.2 = 0 ∧ f ≠ 0xF ∧ mode ≤ 1) &&
    (decide (mode = 0) || Arith.srAllowed f) &&
    (if blk then Arith.isScaled f else decide (¬ (7 ≤ f ∧ f ≤ 9)))

/-- A collective entry of a format plan: a reduction format and operation of R121, a leaf mode that R113 permits, no leaf conversion
only into FP32 or FP64. -/
def planCollOk (e : TrsEntry) : Bool :=
  let f := bits e.2.1 0 4
  let mode := bits e.2.1 6 2
  decide (e.2.1 &&& 0xFFFFFE00 = 0 ∧ e.2.2 = 0 ∧ bits e.2.1 4 2 ≤ 2 ∧ mode ≤ 1) &&
    decide (f = 0 ∨ f = 1 ∨ f = 3 ∨ f = 4 ∨ f = 0xA) &&
    (decide (mode = 0) || Arith.srAllowed f) && (!bitOf e.2.1 8 || decide (f = 0 ∨ f = 1))

/-- Two lists of entries name the same ids. -/
def sameIds (a b : List TrsEntry) : Bool :=
  a.all (fun x => b.any (fun y => decide (y.1 = x.1))) && b.all (fun x => a.any (fun y => decide (y.1 = x.1)))

/-- The reason for refusing a truss map and format plan, 0 where they are taken (R152, "Refusal reasons"). -/
def trsRefusal (bound : Bool) (m p : TrsImage) : Nat :=
  if bound then 2
  else if ¬ (m.valid ∧ p.valid ∧ m.magic = 0x5452534D ∧ p.magic = 0x464D5450 ∧ m.format = 1 ∧ p.format = 1 ∧ 6 ≤ m.lgG ∧
      m.lgG ≤ 16 ∧ m.lgG = p.lgG ∧ m.jobId = p.jobId ∧ m.seed = 0) then 1
  else if ¬ (uniqueIds m.tensors ∧ m.tensors.all (mapTensorOk m.lgG)) then 3
  else if ¬ (uniqueIds m.colls ∧ m.colls.all (mapCollOk m.tensors)) then 4
  else if ¬ (uniqueIds p.tensors ∧ uniqueIds p.colls ∧ p.tensors.all planTensorOk ∧ p.colls.all planCollOk ∧
      sameIds m.tensors p.tensors ∧ sameIds m.colls p.colls) then 5
  else 0

/-! ### Frontier schedules (R154, R155) -/

/-- A frontier schedule entry (R155). -/
def schedEntry (kind node peer : Nat) : Nat := place node 0 17 + place kind 17 2 + place peer 32 16

/-- One level of the derivation for a holder: nodes of the level below in pairs, each with its common holder (none for a frontier
node) and its site; `n` is the number of the level's first node. -/
def deriveLevel (h : Nat) : Nat → List (Option Nat × Nat) → List (Option Nat × Nat) × List Nat
  | n, l :: r :: rest =>
    let (up, es) := deriveLevel h (n + 1) rest
    if l.1.isSome ∧ l.1 = r.1 then ((l.1, l.2) :: up, es)
    else ((none, l.2) :: up,
      (if l.2 = h then [schedEntry 1 n r.2] else []) ++ (if r.2 = h ∧ r.2 ≠ l.2 then [schedEntry 2 (2 * n + 1) l.2] else []) ++ es)
  | _, _ => ([], [])

/-- The levels of the derivation from level L upward; `k` is the number of levels left. -/
def deriveUp (h : Nat) : Nat → List (Option Nat × Nat) → List Nat
  | 0, _ => []
  | k + 1, l => let (up, es) := deriveLevel h (2 ^ k) l; es ++ deriveUp h k up

/-- The frontier schedule of a holder (R155). -/
def deriveSchedule (table : List Nat) (lgG h : Nat) : List Nat :=
  deriveUp h lgG (table.map (fun x => (some x, x))) ++ (if table.head? = some h then [schedEntry 3 1 h] else [])

/-- The grains that a holder holds, ascending. -/
def grainsOf (table : List Nat) (h : Nat) : List Nat :=
  (table.zipIdx.filter (fun x => decide (x.1 = h))).map (·.2)

namespace State

/-- The grains of lgG of the loaded map. -/
def lgG (s : State) : Nat := (s.trs.job.map (·.lgG)).getD 0

/-- The seed base of the loaded format plan, or zero (07 R129). -/
def planSeed (s : State) : Nat := (s.trs.job.map (·.seed)).getD 0

/-- A job is bound (TRS_STATUS.state). -/
def jobBound (s : State) : Bool := decide (s.f F.TRS_STATUS_state = 2)

/-- Slots that hold grains in an arrangement. -/
def holdingSlots (s : State) (a : Arrangement) : List Slot :=
  allSlots.filter (fun n => a.table.contains (s.holderOf n))

/-- The reason of a refused load, bind or commit. -/
def trsRefuse (s : State) (r : Nat) : State := s.setF F.TRS_STATUS_reason r

/-- No arrangement is pending any more. -/
def trsNoPending (s : State) : State :=
  let s : State := { s with trs := { s.trs with pending := none } }
  (s.setF F.TRS_STATUS_arr_pending 0).setF F.TRS_ARR_GEN_pending (s.f F.TRS_ARR_GEN_active)

/-- Arrangements of other grains than the map now loaded are void; the Buoys discard one that was pending (R153, R158). DESIGN CHOICE: R152 does
not say what a load of another lgG leaves of them. -/
def trsAbandon (s : State) : State :=
  let s := if s.trs.pending.isSome then s.toBuoys allSlots "DISCARD_ARRANGEMENT" [s.trs.lastGen] else s
  ({ s with trs := { s.trs with active := none } } : State).trsNoPending

/-- The bytes of the image at an address: its header and its entries (R151). -/
def trsBytes (s : State) (addr : Nat) : List Byte :=
  s.rdBytes addr (0x200 + 16 * (min (s.rdNat (addr + 0x10) 4) 65537 + min (s.rdNat (addr + 0x14) 4) 65537))

/-- The job's images as they are mirrored. -/
def trussMsg (s : State) : MirrorMsg :=
  let m := s.f F.TRS_MAP_SRC_map
  let p := s.f F.TRS_PLAN_SRC_plan
  .truss m p (s.trsBytes m) (s.trsBytes p)

/-- TRS_CTL.load (R152). -/
def trsLoad (s : State) : State :=
  let m := s.trsImage (s.f F.TRS_MAP_SRC_map)
  let p := s.trsImage (s.f F.TRS_PLAN_SRC_plan)
  match trsRefusal s.jobBound m p with
  | 0 =>
    let j : TrsJob := ⟨m.lgG, m.jobId, m.digest, p.digest0, p.seed, p.tensors.map (fun e => (e.1, bits e.2.1 0 4))⟩
    let s := if s.lgG = m.lgG then s else s.trsAbandon
    let s := { s with trs := { s.trs with job := some j } }
    let s := s.setF F.TRS_STATUS_state 1
    (s.setF F.TRS_STATUS_lg_g m.lgG).mirrorItem 9 s.trussMsg .nothing
  | r => s.trsRefuse r

/-- TRS_CTL.bind: refused unless an arrangement has been committed. DESIGN CHOICE: refused with NOARR where no job is loaded, and without effect while a
job is bound. -/
def trsBind (s : State) : State :=
  if s.jobBound then s
  else if s.trs.job.isNone ∨ (s.trs.active.isNone ∧ s.trs.pending.isNone) then s.trsRefuse 8
  else ({ s with scf := { s.scf with skipped := none } } : State).setF F.TRS_STATUS_state 2

/-- The grain bitmap, schedule, generation and step of an arrangement sent to the Buoy of a slot (R157); a slot whose link is down or
quarantined gets them at its LINK_UP (R158). -/
def trsSend (s : State) (a : Arrangement) (n : Slot) : State :=
  let h := s.holderOf n
  if s.linkUp n then
    let s := s.toBuoy n "SCHEDULE" ([a.gen, a.step] ++ deriveSchedule a.table s.lgG h ++ grainsOf a.table h)
    let s := s.setF F.TRS_DIST_sent ((s.f F.TRS_DIST_sent) ||| (1 <<< n.val))
    s.setF F.TRS_DIST_held ((s.f F.TRS_DIST_held) &&& (0xFFFF ^^^ (1 <<< n.val)))
  else s.setF F.TRS_DIST_held ((s.f F.TRS_DIST_held) ||| (1 <<< n.val))

/-- Distribution under R157 and R158 to every slot that has not been sent the arrangement pending, or else active; held while TRS_CTL.dist_en is 0. -/
def trsDistribute (s : State) : State :=
  match s.trs.pending.or s.trs.active with
  | none => s
  | some a =>
    if s.fb F.TRS_CTL_dist_en then
      allSlots.foldl (fun s n => if bitOf (s.f F.TRS_DIST_sent) n.val then s else s.trsSend a n) s
    else s

/-- At a takeover every schedule is sent again, with the same generation (R158). -/
def trsTakeover (s : State) : State := (s.setF F.TRS_DIST_sent 0).trsDistribute

/-- The PEG that commits TRS_ARR_SRC and TRS_ARR_STEP (R153, R157, R158): a refusal with its reason, or a pending arrangement whose
distribution waits for its mirror acknowledgement (14 R287). -/
def trsCommit (s : State) : State :=
  match s.trs.job with
  | none => s.trsRefuse 9
  | some j =>
    let step := s.f F.TRS_ARR_STEP_step
    let b := s.rdBytes (s.f F.TRS_ARR_SRC_arr) (2 ^ j.lgG * 2)
    let table := (List.range (2 ^ j.lgG)).map (fun g => numAt b (2 * g) 2)
    if table.any (fun x => decide (x / 16 = 0xFFF)) then s.trsRefuse 6
    else if (match s.trs.lastBoundary with | none => false | some l => decide (step ≤ l)) then s.trsRefuse 7
    else
      let gen := (s.trs.lastGen + 1) % 2 ^ 32
      let s := if s.trs.pending.isSome then s.toBuoys allSlots "DISCARD_ARRANGEMENT" [s.trs.lastGen] else s
      let s : State := { s with trs := { s.trs with lastGen := gen, pending := some ⟨gen, step, table⟩ } }
      let s := s.setF F.TRS_STATUS_arr_pending 1
      let s := s.setF F.TRS_ARR_GEN_pending gen
      let s := s.setF F.TRS_DIST_acked 0
      let s := s.setF F.TRS_DIST_sent 0
      let s := s.setF F.TRS_DIST_held 0
      s.mirrorItem 9 (.arrangement gen step table false) .trsDistribute

/-- An arrangement mirrored to the follower (14 R287): it is pending here too, or in force, and goes to the Buoys after a takeover (R158). -/
def trsMirrored (s : State) (a : Arrangement) (active : Bool) : State :=
  if active then ({ s with trs := { s.trs with lastGen := a.gen, active := some a } } : State).setF F.TRS_ARR_GEN_active a.gen
  else
  let s : State := { s with trs := { s.trs with lastGen := a.gen, pending := some a } }
  ((((s.setF F.TRS_STATUS_arr_pending 1).setF F.TRS_ARR_GEN_pending a.gen).setF F.TRS_DIST_acked 0).setF F.TRS_DIST_sent 0).setF
    F.TRS_DIST_held 0

/-- The counts of TRS_SCHED for the active arrangement. -/
def trsCounts (s : State) (a : Arrangement) : State :=
  allSlots.foldl (fun s n =>
    let h := s.holderOf n
    (s.setF F.TRS_SCHED_entries (deriveSchedule a.table s.lgG h).length n.val).setF F.TRS_SCHED_grains
      (grainsOf a.table h).length n.val) s

/-- The boundary of a step is taken (R157, R158): a pending arrangement whose step has come is in force; where a holding slot has not
acknowledged to the keeper in control, arr_late is set and a record written (its trigger is a free value: R301 lists none for it). -/
def trsBoundary (s : State) (step : Nat) : State :=
  let s := { s with trs := { s.trs with lastBoundary := some (max step (s.trs.lastBoundary.getD 0)) } }
  match s.trs.pending with
  | none => s
  | some a =>
    if a.step ≤ step then
      let late := s.control && (s.holdingSlots a).any (fun n => !bitOf (s.f F.TRS_DIST_acked) n.val)
      let s := { s with trs := { s.trs with active := some a, pending := none } }
      let s := s.setF F.TRS_STATUS_arr_pending 0
      let s := s.setF F.TRS_ARR_GEN_active a.gen
      let s := s.trsCounts a
      if late then
        let (k, s) := s.draw
        (s.setF F.TRS_STATUS_arr_late 1).logHwWords (k % 65536) 0x05 0xF [BitVec.ofNat 64 step]
      else s
    else s

/-- TRS_CTL.unbind: the job ends and the Buoys drop their schedules. DESIGN CHOICE: its arrangement, active or pending, and its last boundary go with it, so
that a later bind needs a new commit. -/
def trsUnbind (s : State) : State :=
  if s.jobBound then
    let s := s.setF F.TRS_STATUS_state 1
    let s := { s with trs := { s.trs with active := none, dataOrder := none, lastBoundary := none } }
    s.trsNoPending.toBuoys allSlots "DROP_SCHEDULE" []
  else s

/-- A link comes up: a held schedule is sent with the generation then pending or active (R158). -/
def trsLinkUp (s : State) (n : Slot) : State :=
  if bitOf (s.f F.TRS_DIST_held) n.val ∧ s.fb F.TRS_CTL_dist_en then
    match s.trs.pending.or s.trs.active with
    | some a => s.trsSend a n
    | none => s
  else s

end State
end Sys2Proof.Machine
end

