-- ==== Sys2Proof/Machine/PlumbOps.lean ====
section
/-! DEFINITION. The operations of the Plumb audit array: placement of ops, rotation and the envelope, runs and their outcomes, the
result ring, capture and keys (07 R125 to R147; 04 R78). -/

namespace Sys2Proof.Machine

/-! ### Statuses (R141) -/
namespace Plb
def match_ : Nat := 0x00
def mismatch : Nat := 0x01
def unresolved : Nat := 0x02
def plumbFault : Nat := 0x03
def done : Nat := 0x04
def malformed : Nat := 0x05
def canaryPass : Nat := 0x06
def canaryFail : Nat := 0x07
def canaryTimeout : Nat := 0x08
def tileOut : Nat := 0x09
def captureErr : Nat := 0x0A
end Plb

/-- Every tile, lowest first. -/
def allTiles : List (Fin 8) := List.finRange 8

/-- Tiles that share an edge: two rows of four (07 "Tiles and their envelope"). -/
def tilesAdjacent (a b : Fin 8) : Bool :=
  decide ((a.val / 4 = b.val / 4 ∧ (a.val + 1 = b.val ∨ b.val + 1 = a.val)) ∨ (a.val % 4 = b.val % 4 ∧ a.val / 4 ≠ b.val / 4))

/-- An op's descriptor read. -/
def PlbOp.d (o : PlbOp) : PlbDesc := plbDesc o.desc

/-- A canary of the tile itself. -/
def PlbOp.selfCanary (o : PlbOp) : Bool := decide (o.d.type = 6 ∧ o.d.offA % 65536 = 0xFFFF)

/-- A canary. -/
def PlbOp.canary (o : PlbOp) : Bool := decide (o.d.type = 6)

/-- A captured op. -/
def PlbOp.isCaptured (o : PlbOp) : Bool :=
  match o.src with
  | .captured _ _ _ _ _ => true
  | _ => false

/-- A canary that the Standing Orders queue on a suspect core. -/
def PlbOp.onSuspect (o : PlbOp) : Bool :=
  match o.src with
  | .suspect _ => true
  | _ => false

/-- The result record is written for the op at a status: every issued op, and a captured op whose status is other than MATCH and
CAPTURE_ERR (R142). -/
def PlbOp.recorded (o : PlbOp) (status : Nat) : Bool :=
  match o.src with
  | .issued _ _ => true
  | .suspect _ => true
  | .captured _ _ _ _ _ => decide (status ≠ Plb.match_ ∧ status ≠ Plb.captureErr)
  | .selfTest => false

def PlbOp.bins (o : PlbOp) : Nat :=
  match o.src with
  | .captured _ _ b _ _ => b
  | _ => 0

/-- Pages of operand SRAM that a captured op holds. -/
def PlbOp.pages (o : PlbOp) : Nat :=
  match o.src with
  | .captured _ _ _ p _ => p
  | _ => 0

/-- Ops of a queue that count against its 64: confirming runs do not (R392). -/
def PlbTile.depth (x : PlbTile) : Nat := (x.queue.filter (fun o => o.first.isNone)).length

/-- Ops queued and running on a tile (R392). -/
def PlbTile.load (x : PlbTile) : Nat := x.queue.length + b2n x.running.isSome

/-- A CANARY descriptor: core or 0xFFFF, gate word, gate timeout, slot, library index (R128, R145). -/
def canaryDesc (core gate timeout slot k : Nat) : List Byte :=
  leBytes 6 4 ++ leBytes 0 8 ++ leBytes k 4 ++ leBytes core 4 ++ leBytes gate 4 ++ leBytes timeout 4 ++ leBytes absent 4 ++
    leBytes absent 4 ++ List.replicate 20 0 ++ leBytes (place slot 42 4) 8

namespace State

def tile (s : State) (k : Fin 8) : PlbTile := s.plb.tiles[k]
def setTile (s : State) (k : Fin 8) (x : PlbTile) : State := { s with plb := { s.plb with tiles := s.plb.tiles.set k x } }
def updTile (s : State) (k : Fin 8) (h : PlbTile → PlbTile) : State := s.setTile k (h (s.tile k))

/-- Tiles in rotation. -/
def inRot (s : State) : List (Fin 8) := allTiles.filter (fun k => (s.tile k).inRot)

/-- The tile with the fewest ops queued and running among some, lowest number among equals (R392). -/
def leastLoaded (s : State) (l : List (Fin 8)) : Option (Fin 8) :=
  l.foldl (fun b k =>
    match b with
    | none => some k
    | some j => if (s.tile k).load < (s.tile j).load then some k else some j) none

/-- The tile an undirected op is placed on: an in-rotation tile whose queue is not full (R392). -/
def plbPick (s : State) : Option (Fin 8) := s.leastLoaded (s.inRot.filter (fun k => decide ((s.tile k).depth < 64)))

/-- A new Plumb ticket (R135). -/
def plbTicket (s : State) : Nat × State :=
  (s.plb.nextTicket, { s with plb := { s.plb with nextTicket := (s.plb.nextTicket + 1) % 2 ^ 48 } })

/-! ### The result ring and the events of outcomes (R142) -/

/-- The ring has room: tail + 1 does not equal head, modulo 4,096. -/
def plbRoom (s : State) : Bool :=
  decide ((s.f F.PLB_RES_TAIL_tail + 1) % 4096 ≠ s.f F.PLB_RES_HEAD_head)

/-- The event of a record raised, with its eight words noted for the record of AUDIT_MISMATCH. -/
def plbRaise (s : State) (r : PlbRecord) (words : Bool) : State :=
  match r.event with
  | none => s
  | some (e, arg, pl) =>
    let s := if r.noted then s.note e pl (if words then (List.range 8).map (wordAt r.bytes) else []) else s
    s.raise e arg pl

/-- A result record put into the ring at the tail, and its event. -/
def plbPut (s : State) (r : PlbRecord) : State :=
  let t := s.f F.PLB_RES_TAIL_tail
  let s := s.store (s.f F.PLB_RES_BASE_base + 64 * t) r.bytes
  (s.setF F.PLB_RES_TAIL_tail ((t + 1) % 4096)).plbRaise r true

/-- A result record: written, or left waiting with its tile while the ring is full; while PLB_RES_BASE is zero no record is written and
the event is raised all the same. -/
def plbRecord (s : State) (write : Bool) (r : PlbRecord) : State :=
  if ¬ write ∨ s.f F.PLB_RES_BASE_base = 0 then s.plbRaise r false
  else if s.plbRoom ∧ s.plb.records = [] then s.plbPut r
  else ({ s with plb := { s.plb with records := s.plb.records ++ [r] } } : State).bump F.PLB_RES_STALL_stall

/-- Waiting records enter the ring while it has room; while PLB_RES_BASE is zero they are not written. -/
def plbDrainRecords : Nat → State → State
  | 0, s => s
  | k + 1, s =>
    match s.plb.records with
    | [] => s
    | r :: rest =>
      let s' : State := { s with plb := { s.plb with records := rest } }
      if s.f F.PLB_RES_BASE_base = 0 then plbDrainRecords k (s'.plbRaise r false)
      else if s.plbRoom then plbDrainRecords k (s'.plbPut r) else s

/-- Samples skipped for a slot: counted, and reported no more than once per millisecond (R134). DESIGN CHOICE: those of the millisecond after a report
are reported with the next skip after it. -/
def plbSkip (s : State) (n : Slot) (k : Nat) : State :=
  let s := s.bump F.PLB_SLOT_CNT_skipped k n.val
  let total := s.plb.skips[n] + k
  let free : Bool := match s.plb.skipAt.get n with | none => true | some t => decide (t + tickMs ≤ s.beacon)
  if free ∧ total ≠ 0 then
    ({ s with plb := { s.plb with skips := s.plb.skips.set n 0, skipAt := s.plb.skipAt.set n (some s.beacon) } } : State).raise
      Ev.plbSampleSkipped n.val (BitVec.ofNat 64 total)
  else { s with plb := { s.plb with skips := s.plb.skips.set n total } }

end State

/-- The record of an op (R142). -/
def plbRecordBytes (o : PlbOp) (status : Nat) (tile : Fin 8) (digest first ndiff : Nat) (x : PlbTile) (now : Nat) : List Byte :=
  leBytes (place o.ticket 0 48 + place status 48 8 + place tile.val 56 3 + place (b2n o.isCaptured) 59 1 + place o.d.type 60 4) 8 ++
    leBytes o.d.tag 8 ++ leBytes digest 16 ++ (if o.d.usesR || o.canary then (o.r ++ List.replicate 16 0).take 16 else List.replicate 16 0) ++
    leBytes first 4 ++ leBytes ndiff 4 ++ leBytes o.bins 2 ++ leBytes (x.temp.toNat + 256 * x.volt.toNat) 2 ++ leBytes now 4

/-- The event of an outcome (R142). -/
def plbEvent (o : PlbOp) (status : Nat) (tile : Fin 8) : Option (Nat × Nat × Word) :=
  let pl := BitVec.ofNat 64 (place o.ticket 0 48 + place status 48 8)
  let n := tagSlot o.d.tag
  if status = Plb.mismatch ∨ status = Plb.unresolved then
    some (slotEv n Ev.auditMismatch, n.val + place (tagEngine o.d.tag) 4 12, pl)
  else if status = Plb.plumbFault then none
  else if status = Plb.canaryPass then some (Ev.plbCanaryPass, n.val + place tile.val 4 3, pl)
  else if status = Plb.canaryFail ∨ status = Plb.canaryTimeout then some (Ev.plbCanaryFail, n.val + place tile.val 4 3, pl)
  else if status = Plb.malformed then some (Ev.plbOpMalformed, tile.val, pl)
  else if o.isCaptured then none
  else some (Ev.plbOpDone, tile.val, pl)

namespace State

/-- The Buoy of a slot learns the seed and the rates of its sampling (R131). -/
def sampleCtl (s : State) (n : Slot) : State :=
  if s.control then
    s.toBuoy n "SAMPLE_CTL" [s.f F.PLB_SSEED_sseed, s.f F.PLB_SLOT_RATE_base_log2 n.val, s.f F.PLB_SLOT_RATE_susp_log2 n.val,
      s.f F.PLB_SLOT_RATE_suspect n.val, s.f F.PLB_SLOT_RATE_susp_core n.val, s.f F.PLB_SLOT_RATE_cap n.val]
  else s

/-! ### Suspects of the Standing Orders (R143) -/

/-- An engine's op is under the slot's suspicion: its core is the suspect core, or the whole slot is suspect. -/
def suspectCore (s : State) (n : Slot) (core : Nat) : Bool :=
  s.fb F.PLB_SLOT_RATE_suspect n.val || decide (s.f F.PLB_SLOT_RATE_susp_core n.val = core)

/-- A canary that the Standing Orders queue on a suspect core, gated on bins: its library index and its gate timeout are free values. Where no tile
has room it waits for one. -/
def suspectCanary (s : State) (n : Slot) (core bins : Nat) : State :=
  let (k, s) := s.draw
  let (tmo, s) := s.draw
  let (tk, s) := s.plbTicket
  let op : PlbOp := ⟨tk, canaryDesc core (2 ^ 31 + bins) (tmo % 2 ^ 32) n.val (k % 2 ^ 32), .suspect n, none, [], [], [], [], true,
    none, none, 0, 0, 0, false, false⟩
  match s.plbPick with
  | some q => s.updTile q (fun x => { x with queue := x.queue ++ [op] })
  | none => { s with plb := { s.plb with waiting := s.plb.waiting ++ [op] } }

/-- What an outcome does to a suspicion: a match counts, a mismatch starts the count again, a gated canary passed counts; at 4,096 matches
and two canaries the rate returns to base_log2. DESIGN CHOICE: the Standing Orders queue another canary until two have passed. -/
def plbSuspicion (s : State) (o : PlbOp) (status : Nat) : State :=
  let upd := fun (s : State) (n : Slot) (h : Suspect → Suspect) =>
    match s.plb.suspects[n] with
    | none => s
    | some x =>
      let y := h x
      if 4096 ≤ y.matches_ ∧ 2 ≤ y.passes then
        ((({ s with plb := { s.plb with suspects := s.plb.suspects.set n none } } : State).setF F.PLB_SLOT_RATE_susp_core 0xFFFF
          n.val).setF F.PLB_SLOT_RATE_suspect 0 n.val).sampleCtl n
      else { s with plb := { s.plb with suspects := s.plb.suspects.set n (some y) } }
  match o.src with
  | .captured n core _ _ _ =>
    if s.suspectCore n core then
      if status = Plb.match_ ∨ status = Plb.plumbFault then upd s n (fun x => { x with matches_ := x.matches_ + 1 })
      else if status = Plb.mismatch ∨ status = Plb.unresolved then upd s n (fun x => { x with matches_ := 0 })
      else s
    else s
  | .suspect n =>
    let s := if status = Plb.canaryPass then upd s n (fun x => { x with passes := x.passes + 1 }) else s
    let again : Bool := match s.plb.suspects.get n with | none => false | some x => decide (x.passes < 2)
    if again then s.suspectCanary n (o.d.offA % 65536) (o.d.offB % 2048) else s
  | _ => s

/-- The Standing Orders' handling of an AUDIT_MISMATCH by the slot tender (R143): the suspect core, the whole slot when a second core
mismatches, the commit hold of 11 R225 for a sample of a step at or below the one in progress, and a gated canary. -/
def plbMarkSuspect (s : State) (n : Slot) (payload : Word) : State :=
  match s.plb.mismatches.find? (fun x => decide (x.1 = payload.toNat % 2 ^ 48)) with
  | none => s
  | some (tk, core, bins, step) =>
    let s : State := { s with plb := { s.plb with mismatches := s.plb.mismatches.filter (fun x => decide (x.1 ≠ tk)) } }
    let cur := s.f F.PLB_SLOT_RATE_susp_core n.val
    let s : State := if cur ≠ 0xFFFF ∧ cur ≠ core then s.setF F.PLB_SLOT_RATE_suspect 1 n.val else s.setF F.PLB_SLOT_RATE_susp_core core n.val
    let s := s.sampleCtl n
    let s : State := { s with plb := { s.plb with suspects := s.plb.suspects.set n (some ⟨bins, 0, 0⟩) } }
    let s : State := if s.f F.SCF_STATUS_state ≠ 0 ∧ step ≤ s.f F.SCF_PSTEP_pstep then s.setFb F.SCF_CTL_hold true else s
    s.suspectCanary n core bins

/-! ### Completion and placement (R127, R392) -/

/-- An op's D handed to the COMPARE that waits for it, or nothing usable. -/
def plbFeed (s : State) (ticket : Nat) (d : Option (List Byte)) : State :=
  let fill := fun (o : PlbOp) =>
    if o.dOf = some ticket then { o with a := d.getD [], good := o.good && d.isSome, dOf := none } else o
  { s with plb := { s.plb with
    waiting := s.plb.waiting.map fill
    tiles := s.plb.tiles.map (fun x => { x with queue := x.queue.map fill }) } }

/-- An op ends with a status: its record and events, its counts, the op that waits for its result (R141, R142). A sample counts as
skipped once: the COMPARE of a sample whose own op gave no D adds nothing (R134, R135). -/
def plbEnd (s : State) (o : PlbOp) (tile : Fin 8) (status digest first ndiff : Nat) (d : Option (List Byte)) : State :=
  let s := s.updTile tile (fun x => { x with ops := (x.ops + 1) % 2 ^ 32 })
  let s := s.plbFeed o.ticket d
  let bytes := plbRecordBytes o status tile digest first ndiff (s.tile tile) s.beacon
  let mis := decide (status = Plb.mismatch ∨ status = Plb.unresolved)
  let s := match o.src with
    | .captured n core bins _ step =>
      let s := if mis then ({ s with plb := { s.plb with mismatches := s.plb.mismatches ++ [(o.ticket, core, bins, step)] } } : State) else s
      if (status = Plb.tileOut ∨ status = Plb.captureErr) ∧ o.good ∧ o.dOf = none then s.plbSkip n 1 else s
    | _ => s
  let s := s.plbRecord (o.recorded status) ⟨tile, bytes, plbEvent o status tile, mis, o.ticket⟩
  s.plbSuspicion o status

/-- D of an op stored: at its off_d for an issued op, and in the write-out region when wout is set (R128). DESIGN CHOICE: by PLB_IBASE and PLB_WOUT_BASE as
they stand when it is stored. -/
def plbStoreD (s : State) (o : PlbOp) (d : List Byte) : State :=
  if o.d.usesD then
    let s := match o.src with
      | .issued t _ => s.blockStore 4 (home t (s.f F.PLB_IBASE_base t.val + o.d.offD)) d
      | _ => s
    if o.d.wout then s.blockStore 4 (s.f F.PLB_WOUT_BASE_wout + 4 * 2 ^ 20 * o.d.wslot) d else s
  else s

/-- An undirected op placed under R392: on an in-rotation tile; waiting while every queue is full; completed TILE_OUT where no tile is in
rotation. `from_` is the tile it came from. DESIGN CHOICE: an issued op that has been moved off a tile (R127) waits for space as a captured one does, and
a canary of the Standing Orders on a suspect core waits for a tile. -/
def plbPlace (s : State) (from_ : Fin 8) (o : PlbOp) : State :=
  match s.plbPick with
  | some k => s.updTile k (fun x => { x with queue := x.queue ++ [o] })
  | none =>
    if s.inRot = [] ∧ ¬ o.onSuspect then s.plbEnd o from_ Plb.tileOut 0 0 0 none
    else { s with plb := { s.plb with waiting := s.plb.waiting ++ [o] } }

/-- Captured ops that waited for a queue take one as it has space (R392). -/
def plbDrainWaiting : Nat → State → State
  | 0, s => s
  | k + 1, s =>
    match s.plb.waiting with
    | [] => s
    | o :: rest =>
      match s.plbPick with
      | none => s
      | some q =>
        plbDrainWaiting k (({ s with plb := { s.plb with waiting := rest } } : State).updTile q
          (fun x => { x with queue := x.queue ++ [o] }))

/-- A confirming run placed at the head of the queue of an in-rotation tile other than the first, none where no such tile is
(R140, R392). -/
def plbConfirmTile (s : State) (first : Fin 8) : Option (Fin 8) := s.leastLoaded (s.inRot.filter (fun k => decide (k ≠ first)))

/-- A confirming run moved, or ended as not run: UNRESOLVED with the first run's D (R128, R140). -/
def plbMoveConfirm (s : State) (o : PlbOp) (first : Fin 8) (dig : Nat) : State :=
  match s.plbConfirmTile first with
  | some k => s.updTile k (fun x => { x with queue := o :: x.queue })
  | none => (s.plbStoreD o ((o.first.map (·.2.1)).getD [])).plbEnd { o with first := none } first Plb.unresolved dig 0 0 (o.first.map (·.2.1))

/-- The work of a tile that left rotation (R127): an undirected op runs elsewhere from its start, a directed one completes TILE_OUT but
for a canary. -/
def plbMoveOp (s : State) (k : Fin 8) (running : Bool) (o : PlbOp) : State :=
  match o.first with
  | some (f, _, dig) => s.plbMoveConfirm o f dig
  | none =>
    if o.tile.isSome ∨ o.src = .selfTest then
      if o.canary then
        (if running then s.updTile k (fun x => { x with running := some o })
         else s.updTile k (fun x => { x with queue := x.queue ++ [o] }))
      else s.plbEnd o k Plb.tileOut 0 0 0 none
    else s.plbPlace k o

/-- The ops queued on a tile that left rotation, from the head on; the argument counts them. -/
def plbMoveQueue (k : Fin 8) : Nat → State → State
  | 0, s => s
  | j + 1, s =>
    match (s.tile k).queue with
    | [] => s
    | o :: rest => plbMoveQueue k j ((s.updTile k (fun x => { x with queue := rest })).plbMoveOp k false o)

/-- While no tile is in rotation nothing waits for one: what waited completes TILE_OUT (R127). -/
def plbNoTile (s : State) (k : Fin 8) : State :=
  if s.inRot = [] then
    (s.plb.waiting.filter (fun o => !o.onSuspect)).foldl (fun s o => s.plbEnd o k Plb.tileOut 0 0 0 none)
      ({ s with plb := { s.plb with waiting := s.plb.waiting.filter PlbOp.onSuspect } } : State)
  else s

/-- A tile leaves rotation with a reason (R127). -/
def plbTileOut (s : State) (k : Fin 8) (reason : Nat) : State :=
  let x := s.tile k
  if x.inRot then
    let s := s.setTile k { x with inRot := false, reason := reason, envelope := decide (reason = 2), settled := none, running := none }
    let s := s.raise Ev.plbTileOut k.val (BitVec.ofNat 64 reason)
    let s := match x.running with | none => s | some o => s.plbMoveOp k true o
    (plbMoveQueue k x.queue.length s).plbNoTile k
  else s

/-- A PLUMB_FAULT puts the first tile out with reason 3; a tile that is out already keeps out for that reason, and the event is raised the same
(R140, R142). -/
def plbFaultOut (s : State) (k : Fin 8) : State :=
  if (s.tile k).inRot then s.plbTileOut k 3
  else (s.updTile k (fun x => { x with reason := 3, settled := none })).raise Ev.plbTileOut k.val 3

/-- A self-test canary queued on a tile; its library index is a free value (R127, R140). -/
def plbSelfTest (s : State) (k : Fin 8) : State :=
  let (i, s) := s.draw
  let (tk, s) := s.plbTicket
  s.updTile k (fun x => { x with queue := x.queue ++
    [⟨tk, canaryDesc 0xFFFF 0 0 0 (i % 2 ^ 32), .selfTest, some k, [], [], [], [], true, none, none, 0, 0, 0, false, true⟩] })

/-- A tile starts in the stagger (13): its self-test canary is pending. -/
def plbStart (s : State) (k : Fin 8) : State :=
  if (s.tile k).started then s
  else (s.updTile k (fun x => { x with started := true, reason := 5 })).plbSelfTest k

/-! ### The envelope (R126, R127) -/

/-- The absolute limits of R126, narrowed by margins. -/
def plbWithin (s : State) (x : PlbTile) (mv c : Nat) : Bool :=
  decide (x.temp.toNat + c ≤ s.f F.PLB_ENV_tmax ∧ 80 + mv ≤ x.volt.toNat ∧ x.volt.toNat + mv ≤ 200)

/-- The difference of two numbers. -/
def dist (a b : Nat) : Nat := (a - b) + (b - a)

/-- A neighbour's reading differs from a tile's by more than the limits, narrowed by margins. -/
def plbDiffers (s : State) (x y : PlbTile) (mv c : Nat) : Bool :=
  decide (s.f F.PLB_ENV_dv_mv < dist x.volt.toNat y.volt.toNat + mv ∨ s.f F.PLB_ENV_dt_c < dist x.temp.toNat y.temp.toNat + c)

end State

/-- Insertion into an ascending list. -/
def insertAsc (x : Nat) : List Nat → List Nat
  | [] => [x]
  | y :: l => if x ≤ y then x :: y :: l else y :: insertAsc x l

/-- Twice the median of a list of readings (the mean of the two middle ones where their number is even). -/
def median2 (l : List Nat) : Nat :=
  let m := l.foldr insertAsc []
  m.getD ((m.length - 1) / 2) 0 + m.getD (m.length / 2) 0

namespace State

/-- The tile of a differing pair that leaves: the one farther from the median of the in-rotation tiles, the higher-numbered on a tie
(R126). -/
def plbLeaver (s : State) (rd : PlbTile → Nat) (a b : Fin 8) : Fin 8 :=
  let m := median2 (s.inRot.map (fun k => rd (s.tile k)))
  let da := dist (2 * rd (s.tile a)) m
  let db := dist (2 * rd (s.tile b)) m
  if db < da then a else if da < db then b else if a.val < b.val then b else a

/-- One pair of neighbours checked. DESIGN CHOICE: pairs are judged in ascending order, voltage before temperature, and a tile that an earlier pair of the
sample has put out is no neighbour any more and stands in no median (R126 gives no order). -/
def plbPair (s : State) (p : Fin 8 × Fin 8) : State :=
  let both := fun (s : State) => (s.tile p.1).inRot && (s.tile p.2).inRot && tilesAdjacent p.1 p.2
  let s := if both s ∧ s.f F.PLB_ENV_dv_mv < dist (s.tile p.1).volt.toNat (s.tile p.2).volt.toNat then
      s.plbTileOut (s.plbLeaver (fun x => x.volt.toNat) p.1 p.2) 2 else s
  if both s ∧ s.f F.PLB_ENV_dt_c < dist (s.tile p.1).temp.toNat (s.tile p.2).temp.toNat then
    s.plbTileOut (s.plbLeaver (fun x => x.temp.toNat) p.1 p.2) 2 else s

/-- An out tile's stay within the margins. -/
def plbSettle (s : State) (k : Fin 8) : State :=
  let x := s.tile k
  if x.inRot ∨ ¬ x.started then s
  else
    let near := fun (mv c : Nat) => allTiles.any (fun j => tilesAdjacent k j && (s.tile j).inRot && s.plbDiffers x (s.tile j) mv c)
    let mv := s.f F.PLB_ENV_hyst_mv
    let c := s.f F.PLB_ENV_hyst_c
    if ¬ s.plbWithin x 0 0 ∨ near 0 0 then
      s.setTile k (if x.reason = 5 then { x with settled := none, reason := 2, envelope := true } else { x with settled := none })
    else if s.plbWithin x mv c ∧ ¬ near mv c then s.setTile k { x with settled := some (x.settled.getD s.beacon) }
    else s.setTile k { x with settled := none }

/-- The pairs of tiles, ascending. -/
def tilePairs : List (Fin 8 × Fin 8) := allTiles.flatMap (fun a => (allTiles.filter (fun b => decide (a < b))).map (fun b => (a, b)))

/-- The sampling of the tile sensors (R126). -/
def plbEnvSample (s : State) (temps volts : Vector (BitVec 8) 8) : State :=
  let s := allTiles.foldl (fun s k =>
    if (s.tile k).started then s.updTile k (fun x => { x with temp := temps[k], volt := volts[k] }) else s) s
  let s := allTiles.foldl (fun s k =>
    if (s.tile k).inRot ∧ ¬ s.plbWithin (s.tile k) 0 0 then s.plbTileOut k 2 else s) s
  let s := tilePairs.foldl plbPair s
  allTiles.foldl plbSettle s

/-- A tile has stayed within the margins for settle_ms: its return canary runs (R127). -/
def plbSettled (s : State) (k : Fin 8) : State :=
  let x := s.tile k
  match x.settled with
  | none => s
  | some t =>
    if ¬ x.inRot ∧ x.reason ≠ 5 ∧ bitOf (s.f F.PLB_CTL_tile_en) k.val ∧ t + s.f F.PLB_ENV_settle_ms * tickMs ≤ s.beacon then
      (s.updTile k (fun x => { x with reason := 5 })).plbSelfTest k
    else s

/-- A self-test canary's verdict (R127, "Canaries"): a tile that waited for it enters rotation, a tile that fails leaves or stays out. -/
def plbVerdict (s : State) (k : Fin 8) (pass : Bool) : State :=
  let x := s.tile k
  if pass then
    if x.inRot ∨ x.reason ≠ 5 then s
    else if bitOf (s.f F.PLB_CTL_tile_en) k.val then
      plbDrainWaiting s.plb.waiting.length ((s.setTile k { x with inRot := true, reason := 0, envelope := false }).raise Ev.plbTileIn 0 0)
    else s.setTile k { x with reason := 1 }
  else if x.inRot then s.plbTileOut k 4
  else s.setTile k { x with reason := 4, settled := none }

/-! ### Issue, start and completion of ops (R78, R130, R140, R141) -/

/-- PLMB ISSUE (04 R78): the status word and the state. DESIGN CHOICE: an op that ends TILE_OUT at its issue or capture, when no tile is in rotation,
carries tile 0 in its record, its sensors and its event, and counts as an op of tile 0. -/
def plbIssue (s : State) (t : Tender) (prv : Bool) (desc : List Byte) (dir : Option (Fin 8)) : Word × State :=
  let full := statusWord St.full 0 0
  let mk := fun (tk : Nat) => (⟨tk, desc, .issued t prv, dir, [], [], [], [], true, none, none, 0, 0, 0, false, true⟩ : PlbOp)
  match dir with
  | some k =>
    if ¬ (s.tile k).inRot ∧ (plbDesc desc).type ≠ 6 then (statusWord St.noTarget 0 0, s)
    else if 64 ≤ (s.tile k).depth then (full, s)
    else
      let (tk, s) := s.plbTicket
      (statusWord St.accepted 0 tk, s.updTile k (fun x => { x with queue := x.queue ++ [mk tk] }))
  | none =>
    if s.inRot ≠ [] ∧ s.plbPick.isNone then (full, s)
    else
      let (tk, s) := s.plbTicket
      (statusWord St.accepted 0 tk, s.plbPlace 0 (mk tk))

/-- PLMB QUERY (04 R78): 0 queued, 1 running, 2 complete, none for an unknown ticket. -/
def plbQuery (s : State) (tk : Nat) : Option Nat :=
  let running := allTiles.any (fun k => ((s.tile k).running.map (·.ticket)) = some tk) || s.plb.records.any (fun r => decide (r.ticket = tk))
    || allTiles.any (fun k => (s.tile k).queue.any (fun o => decide (o.ticket = tk) && o.first.isSome))
  let queued := allTiles.any (fun k => (s.tile k).queue.any (fun o => decide (o.ticket = tk))) ||
    s.plb.waiting.any (fun o => decide (o.ticket = tk))
  if running then some 1 else if queued then some 0 else if 1 ≤ tk ∧ tk < s.plb.nextTicket then some 2 else none

/-- The digest key for a step: the previous key below PLB_DKEY_STEP while a change is pending; none where that key is no longer held
(R139). -/
def plbKeyFor (s : State) (step : Nat) : Option Nat :=
  if s.f F.PLB_DKEY_STEP_key_step ≤ step then some s.plb.key
  else if s.plb.keyPending then some s.plb.oldKey else none

/-- An extent of an issued op may be used: it lies in memory, the issuing privilege admits it, and at HOST it lies in the program's
gallery or LPDDR windows (R130). -/
def plbExtentOk (s : State) (t : Tender) (prv : Bool) (k : AccKind) (a n : Nat) : Bool :=
  s.memAdmits t prv k a n && (prv || decide (regionOf a n = some .gallery ∨ regionOf a n = some .lpddr))

/-- The checks of an issued op's extents (R130). -/
def plbExtentChecks (s : State) (t : Tender) (prv : Bool) (d : PlbDesc) : List PlbCheck :=
  let b := s.f F.PLB_IBASE_base t.val
  [(0x10, decide (1 ≤ d.type ∧ d.type ≤ 5) && decide (0 < d.sizeA) && !s.plbExtentOk t prv .load (b + d.offA) d.sizeA),
   (0x14, d.usesB && decide (0 < d.sizeB) && !s.plbExtentOk t prv .load (b + d.offB) d.sizeB),
   (0x18, d.usesC && decide (0 < d.sizeC) && !s.plbExtentOk t prv .load (b + d.offC) d.sizeC),
   (0x1C, d.usesD && decide (0 < d.sizeD) && !s.plbExtentOk t prv .store (b + d.offD) d.sizeD),
   (0x20, d.usesR && !s.plbExtentOk t prv .load (b + d.offR) 16)]

/-- Every check of R130 on an op. -/
def plbChecks (s : State) (o : PlbOp) : List PlbCheck :=
  o.d.checks (s.f F.PLB_WOUT_BASE_wout) ++
    (match o.src with
     | .issued t prv => s.plbExtentChecks t prv o.d
     | _ => [])

/-- The library entry of a canary. -/
def canaryEntry (s : State) (k : Nat) : List Byte := s.rdBytes (s.f F.PLB_CLIB_BASE_clib + 128 * k) 128

/-- The gate of a canary is met: it has none, or the slot's reported bins equal its own (R145). DEDUCED: the bins that a slot reports are those of its
last sample (R136). -/
def plbGateMet (s : State) (o : PlbOp) : Bool :=
  !o.canary || !bitOf o.d.offB 31 || decide (s.plb.bins[tagSlot o.d.tag] = some (bits o.d.offB 0 11))

/-- An op with its operands in operand SRAM: an issued op's are copied now, a canary's entry is read now (R128, R145). An abandoned op keeps the
operands that it had and runs from the start, a confirming run is the same op (R127, R140). DESIGN CHOICE: an issued op takes the digest key as stored,
also while key_pending is 1 (R139 says of captured ops alone which key they take). -/
def plbLoadOp (s : State) (o : PlbOp) : PlbOp :=
  let d := o.d
  let was := o.loaded
  let o := { o with startedAt := s.beacon, seed := if o.first.isSome then o.seed else s.planSeed, loaded := true, open_ := s.plbGateMet o }
  if was then o
  else if o.canary then { o with a := s.canaryEntry d.k }
  else match o.src with
    | .issued t _ =>
      let b := s.f F.PLB_IBASE_base t.val
      let rd := fun (use : Bool) (off n : Nat) => if use then s.rdAt t (b + off) n else []
      let ok := fun (use : Bool) (off n : Nat) => !use || s.readable t (b + off) n
      { o with
        a := rd true d.offA d.sizeA, b := rd d.usesB d.offB d.sizeB, c := rd d.usesC d.offC d.sizeC, r := rd d.usesR d.offR 16
        key := s.plb.key
        good := ok true d.offA d.sizeA && ok d.usesB d.offB d.sizeB && ok d.usesC d.offC d.sizeC && ok d.usesR d.offR 16 }
    | _ => o

/-- What the copying of an issued op's operands meets is reported (17 R344). -/
def plbMeets (s : State) (o : PlbOp) : State :=
  match o.loaded, o.src with
  | false, .issued t _ =>
    let d := o.d
    let at_ (use : Bool) (off n : Nat) (s : State) : State := if use then s.blockMeets 4 (home t (s.f F.PLB_IBASE_base t.val + off)) n else s
    at_ d.usesR d.offR 16 (at_ d.usesC d.offC d.sizeC (at_ d.usesB d.offB d.sizeB (at_ true d.offA d.sizeA s)))
  | _, _ => s

/-- A tile can take its next op: none runs on it and no record of it waits (R142). -/
def plbIdle (s : State) (k : Fin 8) : Bool :=
  (s.tile k).running.isNone && s.plb.records.all (fun r => decide (r.tile ≠ k))

/-- The first element of a list that satisfies a test, and the list without it. -/
def takeFirst {α : Type} (p : α → Bool) : List α → Option (α × List α)
  | [] => none
  | x :: l => if p x then some (x, l) else (takeFirst p l).map (fun r => (r.1, x :: r.2))

/-- An op can start: a COMPARE that still waits for the D it compares cannot (R135), nor a self-test canary while there is no canary
library (R144); a keeper that is not in control starts self-test canaries only (R134). -/
def plbCanStart (s : State) (o : PlbOp) : Bool :=
  o.dOf.isNone && (if o.src = .selfTest then decide (s.f F.PLB_CLIB_BASE_clib ≠ 0) else s.control)

/-- The kernel of a core canary goes to the Buoy (R145). -/
def plbSendCanary (s : State) (o : PlbOp) : State :=
  if o.canary ∧ ¬ o.selfCanary then
    s.toBuoy (tagSlot o.d.tag) "CANARY" ([o.ticket, o.d.offA % 65536, o.d.offB] ++ o.a.map (·.toNat))
  else s

/-- A slot has reported bins: the canaries in progress that are gated on them start (R145). -/
def plbBins (s : State) (n : Slot) (b : Nat) : State :=
  allTiles.foldl (fun s k =>
    match (s.tile k).running with
    | some o =>
      if o.open_ ∨ tagSlot o.d.tag ≠ n ∨ ¬ s.plbGateMet o then s
      else (s.updTile k (fun x => { x with running := some { o with open_ := true } })).plbSendCanary o
    | none => s) ({ s with plb := { s.plb with bins := s.plb.bins.set n (some b) } } : State)

/-- A tile dequeues its next op, the first of its queue that can start, validates it once and starts it (R130); a canary whose gate is not met
waits on the tile (R145). -/
def plbDequeue (s : State) (k : Fin 8) : State :=
  if ¬ s.plbIdle k then s
  else match takeFirst s.plbCanStart (s.tile k).queue with
    | none => s
    | some (o, rest) =>
        let s := s.updTile k (fun x => { x with queue := rest })
        let s := plbDrainWaiting s.plb.waiting.length s
        match (if o.loaded then none else firstInvalid (s.plbChecks o)) with
        | some off => s.plbEnd o k Plb.malformed 0 off 0 none
        | none =>
          let was := o
          let o := s.plbLoadOp o
          let s := (s.plbMeets was).updTile k (fun x => { x with running := some o })
          if o.open_ then s.plbSendCanary o else s

/-- nocfm of an op: ignored at HOST (R128). -/
def PlbOp.noConfirm (o : PlbOp) : Bool :=
  o.d.nocfm && (match o.src with | .issued _ prv => prv | _ => true)

/-- A compare op's run ends with a result (R140). -/
def plbCompareEnd (s : State) (k : Fin 8) (o : PlbOp) (res : List Byte) (dig : Nat) : State :=
  let rep := leNat (o.r.take 16)
  match o.first with
  | none =>
    if dig = rep then (s.plbStoreD o res).plbEnd o k Plb.match_ dig 0 0 (some res)
    else
      let c := if PlbOp.noConfirm o ∨ ¬ s.fb F.PLB_CTL_confirm then none else s.plbConfirmTile k
      (match c with
       | some q => s.updTile q (fun x => { x with queue := { o with first := some (k, res, dig) } :: x.queue })
       | none => (s.plbStoreD o res).plbEnd o k Plb.unresolved dig 0 0 (some res))
  | some (f, _, dig1) =>
    let s := s.plbStoreD o res
    if dig = dig1 then s.plbEnd o k Plb.mismatch dig 0 0 (some res)
    else if dig = rep then (s.plbEnd o k Plb.plumbFault dig 0 0 (some res)).plbFaultOut f
    else ((s.plbEnd o k Plb.unresolved dig 0 0 (some res)).plbSelfTest f).plbSelfTest k

/-- A run ends on a tile: the outcome is decided and recorded (R140, R141). `wrong` is the result as a tile that computes wrongly forms
it, `bad` an uncorrectable error in operand SRAM. -/
def plbComplete (s : State) (k : Fin 8) (wrong : Option (List Byte)) (bad : Bool) : State :=
  match (s.tile k).running with
  | none => s
  | some o =>
    let d := o.d
    if ¬ o.open_ ∨ (o.canary ∧ ¬ o.selfCanary) then s
    else
      let s := s.updTile k (fun x => { x with running := none })
      let s :=
        if o.canary then
          let dig := match wrong with
            | none => canaryDigest o.a
            | some w => (plbDesc (o.a.take 64)).digest (numAt o.a 72 16) w
          let pass := decide (dig = canaryExpected o.a)
          let s := s.plbEnd o k (if pass then Plb.canaryPass else Plb.canaryFail) dig 0 0 none
          if o.src = .selfTest then s.plbVerdict k pass else s
        else if bad ∨ ¬ o.good then s.plbEnd o k Plb.captureErr 0 0 0 none
        else if d.type = 5 then
          let (f, n) := plbCompare d.fd ((wrong.getD o.a).take d.k) (o.b.take d.k)
          s.plbEnd o k Plb.done 0 f n none
        else
          let res := wrong.getD (plbResult d o.seed o.a o.b o.c)
          let dig := d.digest o.key res
          if d.cmp then s.plbCompareEnd k o res dig
          else (s.plbStoreD o res).plbEnd o k Plb.done dig 0 0 (some res)
      plbDrainWaiting s.plb.waiting.length s

/-- A Buoy returns the digest of a core canary (R145): its record has it as the digest reported, and zero as Plumb's own, which computed none (R142). -/
def plbCanaryReturn (s : State) (n : Slot) (ticket digest : Nat) : State :=
  match allTiles.find? (fun k => match (s.tile k).running with
      | none => false
      | some o => decide (o.ticket = ticket ∧ tagSlot o.d.tag = n) && o.open_ && o.canary && !o.selfCanary) with
  | none => s
  | some k =>
    match (s.tile k).running with
    | none => s
    | some o =>
      (s.updTile k (fun x => { x with running := none })).plbEnd { o with r := leBytes digest 16 } k
        (if digest = canaryExpected o.a then Plb.canaryPass else Plb.canaryFail) 0 0 0 none

/-- A gated canary whose bins were not met within off_c µs completes CANARY_TIMEOUT (R145). -/
def plbGateTimeout (s : State) (k : Fin 8) : State :=
  match (s.tile k).running with
  | none => s
  | some o =>
    if o.canary ∧ ¬ o.open_ ∧ o.startedAt + o.d.offC * tickUs ≤ s.beacon then
      (s.updTile k (fun x => { x with running := none })).plbEnd o k Plb.canaryTimeout 0 0 0 none
    else s

/-! ### Capture (R132 to R135) -/

/-- Pages of operand SRAM reserved by credits and held by captured ops. -/
def plbPages (s : State) : Nat :=
  (s.plb.credits.toList.map List.sum).sum + (s.plb.waiting.map PlbOp.pages).sum +
    (allTiles.map (fun k => (((s.tile k).queue ++ (s.tile k).running.toList).map PlbOp.pages).sum)).sum

/-- A capture credit granted to a slot's Buoy once pages are reserved (R132). -/
def plbCredit (s : State) (n : Slot) (pages : Nat) : State :=
  if s.control ∧ s.linkUp n ∧ s.fb F.PLB_CTL_capture_en ∧ s.plb.key ≠ 0 ∧ s.f F.PLB_RES_BASE_base ≠ 0 ∧ 0 < pages ∧
      (s.plb.credits[n]).length < s.f F.PLB_SLOT_RATE_credits n.val ∧ s.plbPages + pages ≤ 1024 then
    ({ s with plb := { s.plb with credits := s.plb.credits.set n (s.plb.credits[n] ++ [pages]) } } : State).toBuoy n "CREDIT" [1]
  else s

end State

/-- A descriptor with the operand SRAM offsets of a captured op filled in, cmp set and off_r at the header's digest (R135). -/
def capturedDesc (t : List Byte) (lenA lenB lenC sizeD : Nat) : List Byte :=
  let hasC := decide (numAt t 0x18 4 ≠ absent)
  let d := lenA + lenB + lenC
  (t.take 1 ++ [1] ++ (t.drop 2).take 0xE ++ leBytes 0 4 ++ leBytes (up64 lenA) 4 ++
    leBytes (if hasC then up64 (lenA + lenB) else absent) 4 ++ leBytes (up64 d) 4 ++ leBytes (up64 (up64 d + sizeD)) 4 ++ t.drop 0x24).take 64

/-- The COMPARE of D against section D queued after a captured op (R135). -/
def compareDesc (t : PlbDesc) (sizeD : Nat) : List Byte :=
  leBytes 5 1 ++ leBytes 0 2 ++ leBytes (place t.fd 4 4) 1 ++ List.replicate 8 0 ++ leBytes sizeD 4 ++ leBytes 0 4 ++
    leBytes (up64 sizeD) 4 ++ List.replicate 32 0 ++ leBytes t.tag 8

namespace State

/-- A sample turned into ops (R135). -/
def plbCapture (s : State) (n : Slot) (hdr a b c dsec : List Byte) (pages key : Nat) : State :=
  let tmpl := hdr.take 64
  let t := plbDesc tmpl
  let step := numAt hdr 0x40 8
  let bins := sampleBins (numAt hdr 0x62 2) (numAt hdr 0x64 2) (numAt hdr 0x66 1)
  let core := numAt hdr 0x60 2
  let (tk, s) := s.plbTicket
  let op : PlbOp := ⟨tk, capturedDesc tmpl a.length b.length c.length t.sizeD, .captured n core bins pages step, none, a, b, c,
    cut hdr 0x50 16, true, none, none, 0, 0, key, false, true⟩
  let s := s.bump F.PLB_SLOT_CNT_captured 1 n.val
  let s := s.plbPlace 0 op
  if bitOf (numAt hdr 0x67 1) 0 then
    let (tk2, s) := s.plbTicket
    s.plbPlace 0 ⟨tk2, compareDesc t t.sizeD, .captured n core bins 0 step, none, [], dsec, [], [], true, none, some tk, 0, 0, key, false, true⟩
  else s

/-- An audit sample arrives (R134, R135, R139): a sample for which the slot held a credit uses it; it becomes an op or is counted as
skipped. -/
def plbSample (s : State) (n : Slot) (hdr a b c dsec : List Byte) (whole bad : Bool) : State :=
  let held := s.plb.credits[n]
  let s := { s with plb := { s.plb with credits := s.plb.credits.set n (held.drop 1) } }
  let s := if whole ∧ ¬ bad then s.plbBins n (sampleBins (numAt hdr 0x62 2) (numAt hdr 0x64 2) (numAt hdr 0x66 1)) else s
  match s.plbKeyFor (numAt hdr 0x40 8), held with
  | some key, pages :: _ =>
    if ¬ whole ∨ bad ∨ s.inRot = [] ∨ ¬ s.fb F.PLB_CTL_capture_en ∨ key = 0 ∨ s.f F.PLB_RES_BASE_base = 0 then s.plbSkip n 1
    else s.plbCapture n hdr a b c dsec pages key
  | _, _ => s.plbSkip n 1

/-! ### Keys (R139) -/

/-- The PEG that commits a digest key: it is in force, and the previous one serves earlier steps. -/
def plbKeyCommit (s : State) : State :=
  { s with plb := { s.plb with
    oldKey := s.plb.key, keyPending := true
    key := s.f F.PLB_DKEY_LO_key_lo + 2 ^ 64 * s.f F.PLB_DKEY_HI_key_hi } }

/-- Staging a key is refused: a change is pending, or it ended in this PCLK cycle. -/
def plbKeyBusy (s : State) : Bool := s.plb.keyPending || decide (s.beacon < s.plb.keyFreeAt)

/-- A captured op of a step below the new key's is queued or running. -/
def plbEarlierOps (s : State) : Bool :=
  let old := fun (o : PlbOp) => match o.src with
    | .captured _ _ _ _ step => decide (step < s.f F.PLB_DKEY_STEP_key_step)
    | _ => false
  s.plb.waiting.any old || allTiles.any (fun k => ((s.tile k).queue ++ (s.tile k).running.toList).any old)

/-- Every slot that holds grains in the active arrangement and whose link is up has reported the boundary of the step after
PLB_DKEY_STEP (R139); with no job bound nothing is asked. -/
def plbBoundariesPast (s : State) : Bool :=
  !s.jobBound || (match s.trs.active with
    | none => true
    | some a => (s.holdingSlots a).all (fun n => !s.linkUp n ||
        (match s.plb.boundary[n] with | none => false | some b => decide (s.f F.PLB_DKEY_STEP_key_step + 1 ≤ b))))

/-- The previous key's samples have drained (R139). -/
def plbKeyDrained (s : State) : State :=
  if s.plb.keyPending ∧ ¬ s.plbEarlierOps ∧ s.plbBoundariesPast then
    { s with plb := { s.plb with keyPending := false, keyFreeAt := s.pclkTime + 8 } }
  else s

/-- A store to PLB_CTL cleared tile_en bits: those tiles leave rotation with reason 1 (R127). -/
def plbDisable (s : State) (cleared : Nat) : State :=
  allTiles.foldl (fun s k => if bitOf cleared k.val then s.plbTileOut k 1 else s) s

/-- A store to PLB_RES_HEAD frees space: waiting records enter (R142). -/
def plbHeadMoved (s : State) : State := plbDrainRecords s.plb.records.length s

end State
end Sys2Proof.Machine
end

