-- ==== Sys2Proof/Machine/MorOps.lean ====
section
/-! DEFINITION. The mooring: straps, phases, power sequences, wire faults, heartbeat (13 R261 to R273, R282; 10 R186, R187). -/

namespace Sys2Proof.Machine
namespace State

/-! ### The slot's state byte and SLOT_STATE (05 R391) -/

/-- Bits [7:0] of a SLOT_STATE payload. DESIGN CHOICE: reset counts as held while a powered slot in stagger phase has RESET_L low. -/
def slotByte (s : State) (n : Slot) : Nat :=
  let m := s.mo n
  m.phase + place (b2n m.powered) 2 1 + place (b2n (m.powered && decide (m.phase = 1) && !m.w2)) 3 1 + place (b2n m.stopped) 4 1 +
    place (b2n (decide (s.f F.BLK_STATUS_state (s.portOf n).val = 4))) 5 1 + place (b2n m.quarSlot) 6 1 +
    place (b2n (!m.fenced.isEmpty)) 7 1

/-- Raises SLOT_STATE where the power, reset, fence, occult or quarantine state of a slot has changed. DESIGN CHOICE: bits [15:8] compare with the
state last reported, and a change of the phase alone raises nothing, for it is no state that the catalogue names. -/
def slotState (s : State) (n : Slot) : State :=
  let b := s.slotByte n
  let old := (s.mo n).lastState
  if b / 4 = old / 4 then s
  else (s.updMo n (fun m => { m with lastState := b })).raiseSlot n 14 0 (BitVec.ofNat 64 (b + 256 * b.xor old))

/-! ### Wire changes and the follower (14 R287, row 7; 13 R268, R282) -/

/-- OCCULT of the slot is asserted: it is stopped, or this keeper holds its W1 low and awaits its acknowledgement. -/
def occulted (s : State) (n : Slot) : Bool := (s.mo n).stopped || (s.mo n).w1low

/-- A slot as it is mirrored: phase, stop mask, power, what the peer holds on W1 for this keeper, levels, and the row of its sequence (14 R287). DEDUCED: a slot
whose stop is driven stands in the stop mask before it has acknowledged, for the new controller is to drive its W1 (10 R196). -/
def slotMsg (s : State) (n : Slot) : MirrorMsg :=
  let m := s.mo n
  .slot n m.phase (s.occulted n) m.powered (bitOf (s.f F.MOR_PROXY_in) n.val && m.w1pull) m.w0 m.w2 m.w3 ((m.seq.map (fun x => x.1.code)).getD 0)
    (m.seq.bind (fun x => x.2))

/-- A change of a slot's wires is mirrored before the next one. -/
def wired (s : State) (n : Slot) : State :=
  let s := s.slotState n
  s.mirrorItem 7 (s.slotMsg n) (.slotWire n.val)

/-- No mirrored wire change of the slot is unacknowledged. -/
def wireFree (s : State) (n : Slot) : Bool := s.par.queue.all (fun x => decide (x.held ≠ .slotWire n.val))

/-- A timed row of a slot's sequence is due: this keeper is in control, out of reset and not in emergency-light mode (14 R297), the row is the next one, its tick has come and
the last wire change is acknowledged. -/
def rowDue (s : State) (n : Slot) (row : SeqStep) : Bool :=
  s.control && !s.clk.held && !s.emergency && s.wireFree n &&
    match (s.mo n).seq with
    | some (r, some d) => decide (r = row ∧ d ≤ s.beacon)
    | _ => false

/-- The row that follows, with its tick. -/
def nextRow (s : State) (n : Slot) (row : SeqStep) (due : Option Nat) : State :=
  s.updMo n (fun m => { m with seq := some (row, due) })

/-! ### Stops on W1 (10 R190, 13 R282) -/

/-- W1 is driven or released: by this keeper, and where its own wire has failed by its peer on request (13 R270). -/
def driveW1 (s : State) (n : Slot) (low : Bool) : State :=
  let s := s.updMo n (fun m => { m with w1pull := low })
  if bitOf (s.f F.MOR_PROXY_in) n.val then s.pairSend "PROXY" [n.val, b2n low] else s

/-- W1 carries the stop mask: in run phase from 2 µs after the mark, and in dump phase (R267). -/
def w1Masked (m : MorSlot) (now : Nat) : Bool := decide (m.phase = 3 ∨ (m.phase = 2 ∧ m.maskFrom ≤ now))

/-- A stop pulls W1 of a slot low. A command pulse under way is cut (R282). -/
def pullW1 (s : State) (n : Slot) : State :=
  let m := s.mo n
  let s := s.updMo n (fun m => { m with
    w1low := true
    pulse := m.pulse.map (fun p =>
      if p.again = 0 ∧ ¬ p.given ∧ p.rise ≤ s.beacon ∧ s.beacon < p.fall then { p with again := s.beacon + 10 * tickUs } else p) })
  if w1Masked m s.beacon then s.driveW1 n true else s

/-- This keeper releases W1 of a slot. -/
def freeW1 (s : State) (n : Slot) : State := (s.updMo n (fun m => { m with w1low := false })).driveW1 n false

/-! ### Phase commands (13 R265 to R267) -/

/-- Time of a command pulse: ENTER_DUMP 2 µs, ENTER_STAGGER 6 µs (R265). -/
def pulseWidth (dump : Bool) : Nat := if dump then 2 * tickUs else 6 * tickUs

/-- A phase command begins: W1 is low for 1 µs, high for the command's width, and low again (R265). -/
def pulseStart (s : State) (n : Slot) (dump : Bool) (after : Option StaggerThen) (by_ : Option (Tender × Fin 32)) : State :=
  let rise := s.beacon + tickUs
  (s.updMo n (fun m => { m with pulse := some ⟨dump, rise, rise + pulseWidth dump, false, after, 0, 0, by_⟩ })).driveW1 n true

/-- The keeper drives W2 and W3 of a slot in stagger phase, and goes on with what it came for (R267, R268): RESET_L held, which is all of RSET HOLD
(DESIGN CHOICE: no report of the Buoy ends it), or power off until it has been low for 1 ms (04 R86, R263). -/
def staggerThen (s : State) (n : Slot) (a : StaggerThen) : State :=
  match a with
  | .hold us =>
    let s := (s.updMo n (fun m => { m with drv := true, w2 := false, seq := some (.hold, us.map (fun u => s.beacon + u * tickUs)) })).wired n
    (match s.drivenOn n [.rsetHold] with
     | some a => s.actPart a.ticket n
     | none => s)
  | .off ms => (s.updMo n (fun m => { m with
      drv := true, w0 := false, w2 := false, w3 := false, offMs := ms, seq := some (.off, some (s.beacon + tickMs)) })).wired n

/-- A slot goes to stagger phase: a dump of it is aborted, W1 goes low and ENTER_STAGGER follows (R265, R266, R282). A slot that is in stagger phase
goes on at once. A phase command under way is first given to its end. -/
def toStagger (s : State) (n : Slot) (a : StaggerThen) : State :=
  if (s.mo n).pulse.isSome then s.updMo n (fun m => { m with nextStagger := some a })
  else if (s.mo n).phase < 2 then s.staggerThen n a
  else
    let s := if (s.occ.dumps.get n).isSome then s.dumpClose n 5 else s
    s.pulseStart n false (some a) none

/-- What a reset or a power action asked of the slot while a phase command was under way. -/
def staggerNext (s : State) (n : Slot) : State :=
  match (s.mo n).nextStagger with
  | none => s
  | some a => (s.updMo n (fun m => { m with nextStagger := none })).toStagger n a

/-- ENTER_DUMP by MOOR PHASE or by the dump planner; where a phase command is under way, the planner starts none. -/
def toDump (s : State) (n : Slot) (by_ : Option (Tender × Fin 32)) : State :=
  if (s.mo n).pulse.isSome then s else s.pulseStart n true none by_

/-- A slot's compensation state changed. -/
def updCal (s : State) (n : Slot) (h : CalSlot → CalSlot) : State :=
  { s with bcn := { s.bcn with slots := s.bcn.slots.set n (h (s.bcn.slots[n])) } }

/-- A slot enters run phase: its compensation is not yet valid and is calibrated 1 ms later (R248). -/
def calEnterRun (s : State) (n : Slot) : State :=
  (s.updCal n (fun c => { c with due := some (s.beacon + tickMs) })).setFb F.BCN_SLOT_valid false n.val

/-- The first mark at or after a beacon value (12 R245). -/
def nextMark (t : Nat) : Nat := (t + 16383) / 16384 * 16384

/-- A slot stands in run phase: the heartbeat is watched 1 ms later, and the stop mask applies to W1 from a tick on (R265, R267, 10 R186). -/
def runPhase (s : State) (n : Slot) (maskFrom : Nat) : State :=
  (s.updMo n (fun m => { m with
    phase := 2, seq := none, pulse := none, hbFrom := s.beacon + tickMs, hbLost := false, probeAt := none, maskFrom := maskFrom, drv := false, pwrGood := none
    enterRun := false })).wired n |>.calEnterRun n

/-- The mark pulse returns a slot from dump phase to run phase: it is stopped, and its W1 stays low. -/
def dumpToRun (s : State) (n : Slot) : State := s.runPhase n s.beacon

/-- MOOR PHASE may enter dump phase: the slot is in run phase, occulted, and no release message is in flight (R266, R282, 04 R75). DEDUCED: a slot
whose W1 is held low and whose link does not answer is occulted too, as S09 of the worked example of 10 is. -/
def dumpAllowed (s : State) (n : Slot) : Bool :=
  let m := s.mo n
  decide (m.phase = 2) && s.occulted n && m.resumeAt.all (fun r => decide (r ≤ s.beacon))

/-- A MOOR PHASE that waits for its command returns. -/
def moorReturn (s : State) (i : Tender) (rd : Fin 32) (st : Nat) : State :=
  if (s.t i).run = .waitMoor then ((s.updT i (fun x => { x with run := .running })).result i rd (statusWord st 0 0)).resumed i else s

/-- A cut pulse is repeated 10 µs later; after a second cut MOOR PHASE returns BUSY and an action ends with TIMEOUT (R282). -/
def pulseRetry (s : State) (n : Slot) : State :=
  match (s.mo n).pulse with
  | none => s
  | some p =>
    if p.again = 0 ∨ s.beacon < p.again then s
    else if p.cuts = 0 then
      (s.updMo n (fun m => { m with
        pulse := some { p with cuts := 1, again := 0, rise := s.beacon, fall := s.beacon + pulseWidth p.dump } })).driveW1 n false
    else
      let s := s.updMo n (fun m => { m with pulse := none })
      let s := match p.by_ with
        | some (i, rd) => s.moorReturn i rd St.busy
        | none => if p.dump then s else
          match s.drivenOn n [.rsetCold, .rsetHold, .pwrOff, .pwrCycle] with
          | some a => s.actEnd a.ticket Res.timeout
          | none => s
      s.staggerNext n

/-- The command is given as W1 falls: the slot is in dump phase, W1 held low, or in stagger phase (R265, R266). -/
def pulseGiven (s : State) (n : Slot) (p : PhasePulse) : State :=
  let s := (s.updMo n (fun m => { m with
    phase := if p.dump then 3 else 1, probeAt := none, pwrGood := none, pulse := some { p with given := true } })).driveW1 n true
  s.wired n

/-- One tick of a phase command and of the turnarounds of R267: W1 rises, W1 falls and the command is given; 1 µs after ENTER_DUMP MOOR PHASE
returns OK, and what waited for it goes on; after ENTER_STAGGER the keeper releases W1 within 1 µs, as the frontend drives it from 2 µs (DEDUCED: R267
gives the frontend's tick alone), and drives W2 and W3 from 3 µs; one MCLK period before the mark of run entry W2 and W3 are released; 2 µs after it W1
takes the stop mask. -/
def pulseTick (s : State) (n : Slot) : State :=
  let m := s.mo n
  let s := match m.pulse with
    | none =>
      if m.phase = 2 ∧ m.maskFrom = s.beacon ∧ m.w1low ∧ ¬ m.w1pull then s.driveW1 n true else s
    | some p =>
      if p.again ≠ 0 then s
      else if ¬ p.given then
        if p.fall ≤ s.beacon then s.pulseGiven n p
        else if p.rise = s.beacon then s.driveW1 n false
        else s
      else if p.dump then
        if s.beacon < p.fall + tickUs then s
        else
          let s := s.updMo n (fun m => { m with pulse := none })
          let s := match p.by_ with
            | some (i, rd) => s.moorReturn i rd St.ok
            | none => s
          s.staggerNext n
      else if s.beacon < p.fall + 3 * tickUs then
        if p.fall + tickUs ≤ s.beacon ∧ m.w1pull then s.driveW1 n false else s
      else
        let s := s.updMo n (fun m => { m with pulse := none })
        let s := match p.after with
          | some a => s.staggerThen n a
          | none => s.updMo n (fun m => { m with drv := true })
        s.staggerNext n
  match m.seq with
  | some (.runEntry, some d) => if m.drv ∧ d = s.beacon + 32 then s.updMo n (fun m => { m with drv := false }) else s
  | _ => s

/-! ### Straps (13 R264) -/

/-- The level read of one wire: 0 L, 1 H, 2 Z, 3 a fault. -/
def strapLevel (up dn : Nat) (w : Nat) : Nat :=
  match bitOf up w, bitOf dn w with
  | false, false => 0
  | true, true => 1
  | true, false => 2
  | false, true => 3

/-- A slot's strap register from its samples. -/
def strapRead (s : State) (n : Slot) : State :=
  let up := s.f F.MOR_STRAP_up n.val
  let dn := s.f F.MOR_STRAP_dn n.val
  let w (k : Nat) := strapLevel up dn k
  let code := (if w 1 = 2 then 1 else 0) + 2 * w 2 + 6 * w 3
  let fault := decide (w 0 = 3 ∨ w 1 = 3 ∨ w 2 = 3 ∨ w 3 = 3)
  let present := decide (w 0 = 0)
  let blank := present && decide (code = 16) && !fault && decide (w 1 ≠ 0)
  let err := fault || decide (w 0 = 1) || (present && (decide (w 1 = 0) || decide (17 ≤ code) || decide (code < 16 ∧ code ≠ n.val)))
  let s := s.setF F.MOR_STRAP_code (code % 32) n.val
  let s := s.setFb F.MOR_STRAP_present present n.val
  let s := s.setFb F.MOR_STRAP_blank blank n.val
  s.setFb F.MOR_STRAP_error err n.val

/-- The straps sampled in one window: with the pull-up 404 µs after the release of reset, with the pull-down at 804 µs. -/
def strapSample (s : State) (pullUp : Bool) (levels : Vector (BitVec 4) 16) : State :=
  match s.mor.released with
  | none => s
  | some r =>
    if s.mor.strapsRead ∨ s.beacon < r + (if pullUp then 404 else 804) * tickUs then s
    else allSlots.foldl (fun s n =>
      let v := (levels.get n).toNat
      if pullUp then s.setF F.MOR_STRAP_up v n.val
      else (s.setF F.MOR_STRAP_dn v n.val).strapRead n) s

/-- Present positions without strap error that are still in strap phase enter stagger phase with power off (R264, R266). -/
def enterStagger (s : State) : State :=
  allSlots.foldl (fun s n =>
    if s.slotPresent n ∧ (s.mo n).phase = 0 then
      (s.updMo n (fun m => { m with phase := 1, w0 := false, w2 := false, w3 := false, drv := true })).wired n
    else s) s

/-- Strap phase ends 1 ms after the release of reset, and MOR_STRAPS_READ is raised. The slots enter stagger phase; a keeper that sees its peer's
live wire leaves its wires in strap phase until its role is settled, for the peer may be in control (R272, "Keepers absent, starting or
rejoining"). -/
def strapEnd (s : State) : State :=
  match s.mor.released with
  | none => s
  | some r =>
    if s.mor.strapsRead ∨ s.beacon < r + tickMs then s
    else
      let s : State := { s with mor := { s.mor with strapsRead := true } }
      let s := if s.fb F.PAR_STATUS_peer_live then s else s.enterStagger
      let mask (p : Slot → Bool) := slotsMask (allSlots.filter p)
      s.raise Ev.morStrapsRead 0 (BitVec.ofNat 64
        (mask (fun n => s.slotPresent n) + place (mask (fun n => s.fb F.MOR_STRAP_blank n.val)) 16 16 +
          place (mask (fun n => s.fb F.MOR_STRAP_error n.val)) 32 16))

/-! ### Power sequences (13 R268, R273) -/

/-- The slots of PWR_ORDER in order; a value that is no permutation runs ascending. -/
def pwrOrder (s : State) : List Slot :=
  let o := (List.range 16).map (fun p => (Fin.ofNat 16 (bits (s.f F.PWR_ORDER_order) (4 * p) 4) : Slot))
  if o.Nodup then o else allSlots

/-- PWR_ORDER was no permutation when it was run: order_bad is set. -/
def checkOrder (s : State) : State := if s.pwrOrder = allSlots ∧ s.f F.PWR_ORDER_order ≠ 0xFEDCBA9876543210 then s.setFb F.PWR_STATUS_order_bad true else s

/-- Ticks between two slots of a sequence. -/
def pwrSpacing (s : State) : Nat := s.f F.PWR_CTL_spacing_ms * tickMs

/-- The tick at which a slot may start after those that have started or are queued: one spacing after the last. -/
def powerFree (s : State) : Nat :=
  let queued := allSlots.filterMap (fun n => match (s.mo n).seq with
    | some (.queued, d) => d
    | _ => none)
  (queued ++ s.mor.lastStart.toList).foldl (fun a t => max a (t + s.pwrSpacing)) s.beacon

/-- Slots queued for power-on in sequence order (R273): before the slot sequence has begun they wait for it, after that they follow what has
started and what is queued, at the spacing; a slot already queued keeps its place. -/
def queuePower (s : State) (mask : Nat) : State :=
  let s := s.checkOrder
  let new := s.pwrOrder.filter (fun n => bitOf mask n.val && decide (((s.mo n).seq.map (·.1)) ≠ some .queued))
  let first := s.powerFree
  new.zipIdx.foldl (fun s x => s.updMo x.1 (fun m => { m with
    seq := some (.queued, if s.mor.seqBase.isSome then some (first + x.2 * s.pwrSpacing) else none) })) s

/-- A queued slot starts: W0 rises with RESET_L and REFCLK_EN held low, and PWR_GOOD is awaited (R268). -/
def startSlot (s : State) (n : Slot) : State :=
  let s := s.updMo n (fun m => { m with
    w0 := true, w2 := false, w3 := false, drv := true, pwrGood := none, seq := some (.pwrGood, some (s.beacon + s.f F.PWR_CTL_pg_ms * tickMs)) })
  let s : State := { s with mor := { s.mor with lastStart := some s.beacon } }
  (s.wired n).raise Ev.staggerStep 0 0

/-- STAGGER_DONE once no slot of the sequence has a row to come. -/
def staggerCheck (s : State) : State :=
  if s.mor.seqBase.isSome ∧ s.mor.seqDone = false ∧ allSlots.all (fun n => (s.mo n).seq.isNone) then
    (({ s with mor := { s.mor with seqDone := true } } : State).mirrorItem 7 (.sequence true true) .nothing).raise Ev.staggerDone 0 0
  else s

/-- The sequence goes on from PWR_GOOD, high since its rise, once this keeper is in control and the last wire change is acknowledged (R268, 14 R287). -/
def pwrGoodTake (s : State) (n : Slot) : State :=
  match (s.mo n).seq, (s.mo n).pwrGood with
  | some (.pwrGood, _), some t =>
    if s.control ∧ s.wireFree n ∧ ¬ s.clk.held ∧ ¬ s.emergency then
      (s.updMo n (fun m => { m with powered := true, readyFrom := some t, seq := some (.refclk, some (t + tickMs)) })).wired n
    else s
  | _, _ => s

/-- PWR_GOOD rises on W1 in stagger phase (R268). -/
def pwrGoodRise (s : State) (n : Slot) : State :=
  if s.clk.held ∨ (s.mo n).phase ≠ 1 then s else (s.updMo n (fun m => { m with pwrGood := some s.beacon })).pwrGoodTake n

/-- PWR_GOOD has not risen by pg_ms: W0 falls and the action ends with TIMEOUT (R268). -/
def pwrGoodTimeout (s : State) (n : Slot) : State :=
  if s.rowDue n .pwrGood ∧ (s.mo n).pwrGood = none then
    let s := (s.updMo n (fun m => { m with w0 := false, seq := none })).wired n
    let s := match s.drivenOn n [.pwrOn, .pwrCycle] with
      | some a => s.actEnd a.ticket Res.timeout
      | none => s
    s.staggerCheck
  else s

/-- REFCLK_EN rises 1 ms after PWR_GOOD. -/
def refclkStep (s : State) (n : Slot) : State :=
  if s.rowDue n .refclk then
    ((s.updMo n (fun m => { m with w3 := true })).nextRow n .resetRise (some (s.beacon + tickMs))).wired n
  else s

/-- RESET_L rises 2 ms after PWR_GOOD. -/
def resetRise (s : State) (n : Slot) : State :=
  if s.rowDue n .resetRise then
    ((s.updMo n (fun m => { m with w2 := true })).nextRow n .runEntry (some (nextMark (s.beacon + 100 * tickUs)))).wired n
  else s

/-- RESET_L is released at the end of a hold: the Buoy's readiness is timed from here (10 R204). -/
def holdEnd (s : State) (n : Slot) : State :=
  ((s.updMo n (fun m => { m with w2 := true, readyFrom := some s.beacon })).nextRow n .runEntry
    (some (nextMark (s.beacon + 100 * tickUs)))).wired n

/-- The turnaround and the mark put the slot in run phase, at the first mark at or after 100 µs from the rise of RESET_L; from 2 µs after it W1 takes
the stop mask (R267, R268). -/
def runEntry (s : State) (n : Slot) : State :=
  if s.rowDue n .runEntry then (s.runPhase n (s.beacon + 2 * tickUs)).staggerCheck else s

/-- A slot's power goes off in stagger phase: W0 low on both keepers; done when it has been low for 1 ms (04 R86, R263). -/
def powerOff (s : State) (n : Slot) (cycleMs : Nat) : State := s.toStagger n (.off cycleMs)

/-- Both W0 lines have been low for 1 ms: the power latch is clear. PWR OFF is done; PWR CYCLE waits out its off time. -/
def powerOffDone (s : State) (n : Slot) : State :=
  if s.rowDue n .off then
    let ms := (s.mo n).offMs
    let s := s.updMo n (fun m => { m with powered := false, pwrGood := none, seq := if ms = 0 then none else some (.cycleOff, some (s.beacon + ms * tickMs)) })
    let s := s.wired n
    match s.drivenOn n [.pwrOff] with
    | some a => s.actPart a.ticket n
    | none => s
  else s

/-- The off time of PWR CYCLE ends and the slot is queued for power-on. -/
def cycleOn (s : State) (n : Slot) : State :=
  if s.rowDue n .cycleOff then
    (s.updMo n (fun m => { m with seq := none, offMs := 0 })).queuePower (2 ^ n.val)
  else s

/-- PWR_GOOD falls in stagger phase, or a PMBus fault on the slot's stage: POWER_FAULT; W0 is held as it was and the host decides
(R282). DESIGN CHOICE: the slot's sequence does not go on without power. -/
def powerFault (s : State) (n : Slot) (pgFell : Bool) : State :=
  if s.clk.held then s
  else
    let s := if pgFell ∧ (s.mo n).phase = 1 then (s.updMo n (fun m => { m with powered := false, pwrGood := none, seq := none })).slotState n else s
    s.raiseSlot n 12 0 0

/-! ### Wire faults (13 R270, R271) -/

/-- A driven wire reads against its drive for 100 ns: the fault is shown and its function passes to the peer, which learns of it; a W1 that is pulled low at
that moment is driven by the peer from now on. A W1 that had been unmasked and fails again is a new fault, though MOR_FAULT still shows the last. -/
def wireFault (s : State) (n : Slot) (w : Fin 4) : State :=
  let fl := s.f F.MOR_FAULT_fault
  let bit := 4 * n.val + w.val
  if (bitOf fl bit ∧ (w ≠ 1 ∨ bitOf (s.f F.MOR_PROXY_in) n.val)) ∨ s.clk.held then s
  else
    let s := s.setF F.MOR_FAULT_fault (fl ||| 2 ^ bit)
    let s := s.pairSend "WIRE_FAULT" [n.val, w.val]
    let s := if w = 1 then (s.setF F.MOR_PROXY_in (s.f F.MOR_PROXY_in ||| 2 ^ n.val)) else s
    let s := if w = 1 ∧ (s.mo n).w1pull then s.driveW1 n true else s
    s.raise Ev.morWireFault (n.val + 16 * w.val) 0

/-- What the other keeper's failed wires brought to this keeper's good ones goes over the pair link (R270): an edge of ALARM where its W2 has
failed, of HEARTBEAT and the echo with its tick where its W3 has. -/
def forwardWire (s : State) (n : Slot) (w : Fin 4) (msg : String) (args : List Nat) : State :=
  if bitOf (s.mo n).peerFault w.val ∧ s.fb F.PAR_STATUS_link_up then s.pairSend msg (n.val :: args) else s

/-- The other keeper reports a failed wire of its own. -/
def peerWire (s : State) (n : Slot) (w : Fin 4) : State :=
  if s.clk.held then s else s.updMo n (fun m => { m with peerFault := m.peerFault ||| 2 ^ w.val })

/-- Keeper port of this keeper: 0 principal, 1 relief. -/
def ownPort (s : State) : Nat := b2n s.clk.relief

/-- The tick since which the W1 of a keeper port has followed its drive. -/
def MorSlot.follow (m : MorSlot) (port : Nat) : Option Nat := if port = 0 then m.followSince.1 else m.followSince.2

/-- That tick set. -/
def MorSlot.setFollow (m : MorSlot) (port : Nat) (t : Option Nat) : MorSlot :=
  { m with followSince := if port = 0 then (t, m.followSince.2) else (m.followSince.1, t) }

/-- A W1 stuck low, of this keeper or of its peer (R271): the Buoy is told to mask it, and a stop that it alone caused is released. A
follower reports its own stuck wire over the pair link. -/
def w1Stuck (s : State) (n : Slot) (peer : Bool) : State :=
  if s.clk.held ∨ (s.mo n).phase ≠ 2 ∨ (¬ peer ∧ (s.mo n).w1low) then s
  else
    let s := if peer then s else s.wireFault n 1
    if ¬ s.control then (if peer then s else s.pairSend "W1_STUCK" [n.val])
    else
      let port := if peer then 1 - s.ownPort else s.ownPort
      let s := s.toBuoy n "W1_MASK" [port, 1]
      let s := s.updMo n (fun m => { (MorSlot.setFollow m port (some s.beacon)) with masked := m.masked ||| 2 ^ port })
      if (s.mo n).w1low ∨ (s.mo n).stopped then s
      else
        let s := s.toBuoy n "RELEASE" [s.beacon + 3200]
        let s := s.updMo n (fun m => { m with resumeAt := some (s.beacon + 3200) })
        s.raise Ev.occReleased (2 ^ n.val) 0

/-- The keeper port whose masked W1 has followed its drive for 100 ms, this keeper's first. -/
def unmaskPort (s : State) (n : Slot) : Option Nat :=
  [s.ownPort, 1 - s.ownPort].find? (fun p => (MorSlot.follow (s.mo n) p).any (fun t => decide (t + 100 * tickMs ≤ s.beacon)))

/-- A masked W1 that has followed its drive for 100 ms, read back every 1 ms, is unmasked: this keeper's own, or the follower's, of which it reports
(R271). -/
def w1Unmask (s : State) (n : Slot) : State :=
  match s.unmaskPort n with
  | none => s
  | some p =>
    let s := s.toBuoy n "W1_MASK" [p, 0]
    let s := s.updMo n (fun m => { (MorSlot.setFollow m p none) with masked := m.masked - m.masked.land (2 ^ p) })
    if p = s.ownPort then s.setF F.MOR_PROXY_in (s.f F.MOR_PROXY_in - (s.f F.MOR_PROXY_in).land (2 ^ n.val)) else s

/-- The peer asks this keeper to drive or release W1 of a slot for it (R270). -/
def w1Proxy (s : State) (n : Slot) (low : Bool) : State :=
  if s.clk.held then s
  else
    let o := s.f F.MOR_PROXY_out
    let s := s.setF F.MOR_PROXY_out (if low then o ||| 2 ^ n.val else o - o.land (2 ^ n.val))
    s.updMo n (fun m => { m with w1low := low, w1pull := low })

/-! ### PMBus (13 "PWR registers") -/

/-- A stage is polled: its readings, or none where the transaction failed (PMBUS_FAULT). -/
def pmbusPoll (s : State) (n : Slot) (r : Option (Nat × Nat × Nat)) : State :=
  if s.clk.held ∨ ¬ s.fb F.PWR_CTL_pmb_en ∨ s.f F.PWR_STAGE_addr n.val = 0 then s
  else match r with
    | some (st, p, t) =>
      let s := s.setF F.PWR_STAGE_status (st % 65536) n.val
      let s := s.setF F.PWR_STAGE_pout (min p 65535) n.val
      s.setF F.PWR_STAGE_temp (t % 256) n.val
    | none => (s.bump F.PWR_STAGE_faults 1 n.val).raise Ev.pmbusFault 0 0

/-- SMBALERT# asserts: PMBUS_FAULT at once, counted for the stage that alerts. -/
def pmbusAlert (s : State) (n : Slot) : State :=
  if s.clk.held then s else (s.bump F.PWR_STAGE_faults 1 n.val).raise Ev.pmbusFault 0 0

end State
end Sys2Proof.Machine
end

