-- ==== Sys2Proof/Machine/OccOps.lean ====
section
/-! DEFINITION. Occult and dump: the hardware stop path, stops and their acknowledgements, the scheduled stop, release, heartbeat and
probe, the dump sequencer (10 R186 to R203). -/

namespace Sys2Proof.Machine
namespace State

/-! ### Stops (R190, R195) -/

/-- Every slot of a stop has acknowledged. -/
def stopDone (s : State) (a : Action) : State :=
  (s.raise Ev.occStopped a.mask (BitVec.ofNat 64 a.ticket)).actEnd a.ticket Res.done

/-- W1 of the slots of a stop goes low; slots already stopped keep their stop tick (R190, R195). `cause` is the bit of
OCC_STATUS.cause. -/
def driveStop (s : State) (ticket cause : Nat) : State :=
  match s.actionOf ticket with
  | none => s
  | some a =>
    let s := (maskSlots a.mask).foldl (fun s n => (s.pullW1 n).wired n) s
    let left := slotsMask ((maskSlots a.mask).filter (fun n => !(s.mo n).stopped))
    let s := s.updAct ticket (fun x => { x with phase := .driving, since := s.beacon, left := left })
    let s := s.bump F.OCC_CNT_stops
    let s := s.setF F.OCC_STATUS_cause cause
    let s : State := { s with occ := { s.occ with stopAt := some ⟨s.beacon, a.mask, ticket, a.tender.isNone⟩ } }
    if left = 0 then s.stopDone a else s

/-- The stop that a trigger merges into, with its slots and its ticket: the one decided in this CCLK cycle, or one of the same slots whose
acknowledgements are awaited (R195). -/
def mergeStop (s : State) (mask : Nat) : Option (Nat × Nat) :=
  match s.occ.stopAt.filter (fun x => decide (x.tick = s.beacon)) with
  | some x => some (x.mask, x.ticket)
  | none => (s.act.running.find? (fun a =>
      decide ((a.sub = .ocltStop ∨ a.sub = .ocltAt) ∧ a.phase = .driving ∧ mask &&& a.mask = mask))).map (fun a => (a.mask, a.ticket))

/-- More slots join a stop: W1 goes low, and a stop that has not ended awaits their acknowledgements too. DESIGN CHOICE: one that has ended, every slot
of it being stopped already, awaits none. -/
def joinStop (s : State) (ticket old mask : Nat) : State :=
  let extra := (maskSlots mask).filter (fun m => !bitOf old m.val)
  let s := extra.foldl (fun s m => (s.pullW1 m).wired m) s
  let s : State := { s with occ := { s.occ with stopAt := s.occ.stopAt.map (fun x => if x.ticket = ticket then { x with mask := old ||| mask } else x) } }
  s.updAct ticket (fun x => if x.phase = .driving then
      { x with mask := x.mask ||| mask, left := x.left ||| slotsMask (extra.filter (fun m => !(s.mo m).stopped)) }
    else x)

/-- The hardware stop path at an event of a slot: src 0 ALARM, 1 HEARTBEAT_LOST, 2 LINK_DOWN, 3 CHIP_DOWN, 4 LEDGER_TIMEOUT (R189). -/
def occWatch (s : State) (n : Slot) (src : Nat) : State :=
  let mask := s.f F.OCC_TRIG_stop
  if ¬ s.control ∨ s.clk.held ∨ s.emergency ∨ ¬ s.fb F.OCC_CTL_hw_en ∨ bitOf (s.f F.OCC_TRIG_src) src = false ∨
      bitOf (s.f F.OCC_TRIG_watch) n.val = false ∨ mask = 0 then s
  else
    let cause := 2 ^ (src + 1)
    let armed := decide (mask &&& s.armedSlots 3 = mask)
    let first := (lowestBit mask 16).getD 0
    match (if armed then s.mergeStop mask else none) with
    | some (old, tk) =>
      let s := ({ s with occ := { s.occ with trigAt := some (s.beacon, mask) } } : State).joinStop tk old mask
      (s.bump F.OCC_CNT_merged).setF F.OCC_STATUS_cause (s.f F.OCC_STATUS_cause ||| cause)
    | none =>
      let (tk, s) := s.newTicket
      let a : Action :=
        { ticket := tk, sub := .ocltStop, mask := mask, core := none, tender := none, iword := 0, pc := 0, ga := 0, gb := 0
          arming := s.armWord 3 mask first, phase := .driving, result := 0, first := first, recSlot := n.val
          since := s.beacon, left := mask, cmd := none }
      if armed then
        let s : State := { s with act := ⟨s.act.running ++ [a]⟩, occ := { s.occ with trigAt := some (s.beacon, mask) } }
        let s := (s.actRecord a Ev.actAccepted).actEvent a Ev.actAccepted 0
        (s.driveStop tk cause).mirrorItem 2 (actionMsg a) .nothing
      else
        ((s.actRecord a Ev.actWithheld).actEvent a Ev.actWithheld 0).bump F.OCC_CNT_withheld

/-- A slot's acknowledgement counts for a running stop that awaits it; the last one ends the stop. -/
def stopCredit (n : Slot) (s : State) (a : Action) : State :=
  if (a.sub = .ocltStop ∨ a.sub = .ocltAt) ∧ a.phase = .driving ∧ bitOf a.left n.val then
    let left := a.left - a.left.land (2 ^ n.val)
    let s := s.updAct a.ticket (fun x => { x with left := left })
    if left = 0 then s.stopDone a else s
  else s

/-- A Buoy acknowledges a stop with its stop tick: it counts for every running stop of the slot (R190). -/
def stopAck (s : State) (n : Slot) (tick : Nat) : State :=
  if s.clk.held ∨ ¬ (s.mo n).w1low ∨ (s.mo n).stopped then s
  else
    let s := s.setF F.OCC_SNAP_tick tick n.val
    let s := (s.updMo n (fun m => { m with stopped := true })).wired n
    s.act.running.foldl (stopCredit n) s

/-- A stop whose slots have not all acknowledged within ack_us ends with NOREPLY (R190). -/
def stopTimeout (s : State) (ticket : Nat) : State :=
  match s.actionOf ticket with
  | none => s
  | some a =>
    if (a.sub = .ocltStop ∨ a.sub = .ocltAt) ∧ a.phase = .driving ∧ a.left ≠ 0 ∧ a.since + s.f F.OCC_HB_ack_us * tickUs ≤ s.beacon then
      s.actEnd ticket Res.noReply
    else s

/-! ### The scheduled stop (R193) -/

/-- An OCLT AT is scheduled and has not fired. -/
def atPending (s : State) : Bool := s.fb F.OCC_STATUS_at_pending

/-- The scheduled time has come (R195). -/
def atReached (s : State) : Bool := decide (s.f F.OCC_AT_TIME_at_time ≤ s.beacon)

/-- The schedule of an OCLT AT as OCC_AT_TIME and OCC_STATUS show it. -/
def atShow (s : State) (ticket time mask : Nat) : State :=
  let s := s.setF F.OCC_AT_TIME_at_time time
  let s := s.setF F.OCC_STATUS_sched mask
  let s := s.setFb F.OCC_STATUS_at_pending true
  { s with occ := { s.occ with atAcked := 0, atTicket := ticket } }

/-- OCLT AT: the time goes to every Buoy of the mask, and stands in OCC_AT_TIME and OCC_STATUS; the subscribed keepers are told of the
scheduled occult (R193, R194). -/
def atSchedule (s : State) (a : Action) : State :=
  let s := s.atShow a.ticket a.gb.toNat a.mask
  let s := s.toBuoys (maskSlots a.mask) "STOP_AT" [a.gb.toNat]
  let (m, s) := s.draw
  (if m % 2 = 1 then s.release (.podNotice 5 0xFF a.gb.toNat a.mask) else s).updAct a.ticket (fun x => { x with phase := .pending })

/-- The schedule is shown no more. -/
def atClear (s : State) : State :=
  ((s.setF F.OCC_AT_TIME_at_time 0).setF F.OCC_STATUS_sched 0).setFb F.OCC_STATUS_at_pending false

/-- A Buoy acknowledges the scheduled time, in time or too late (R193). -/
def atAck (s : State) (n : Slot) : State :=
  if s.fb F.OCC_STATUS_at_pending ∧ s.beacon + 1600 ≤ s.f F.OCC_AT_TIME_at_time ∧ ¬ s.clk.held then
    { s with occ := { s.occ with atAcked := s.occ.atAcked ||| 2 ^ n.val } }
  else s

/-- The beacon reaches the scheduled time: W1 goes low, a slot that had not acknowledged in time stops on the edge, OCC_POD_FIRED is
raised (R193). A schedule whose action a takeover has ended fires all the same. -/
def atFire (s : State) : State :=
  if ¬ s.atPending ∨ ¬ s.atReached ∨ s.clk.held ∨ ¬ s.control ∨ s.emergency then s
  else
    let acked := s.occ.atAcked
    let mask := s.f F.OCC_STATUS_sched
    let tk := s.occ.atTicket
    let s := s.atClear
    let s := (maskSlots mask).foldl (fun s n => s.setFb F.OCC_DUMP_STAT_edge (!bitOf acked n.val) n.val) s
    let s := s.raise Ev.occPodFired mask (BitVec.ofNat 64 tk)
    match s.actionOf tk with
    | some a => s.driveStop a.ticket 1
    | none => (((maskSlots mask).foldl (fun s n => s.pullW1 n) s).bump F.OCC_CNT_stops).setF F.OCC_STATUS_cause 1

/-- OCLT CANCEL: the Buoys are told, the schedule is dropped. DESIGN CHOICE: the cancelled OCLT AT ends with ACT_DONE. -/
def atCancel (s : State) (ticket : Nat) : State :=
  if ¬ s.atPending then s.actEnd ticket Res.done
  else
    let s := s.toBuoys (maskSlots (s.f F.OCC_STATUS_sched)) "STOP_AT" [0]
    ((s.atClear).actEnd s.occ.atTicket Res.done).actEnd ticket Res.done

/-- OCLT RELEASE: a resume tick 3,200 ticks ahead goes to every Buoy of the mask, then W1 is released (R192). DESIGN CHOICE: the action
ends here. -/
def occRelease (s : State) (a : Action) : State :=
  let r := s.beacon + 3200
  let s := s.toBuoys (maskSlots a.mask) "RELEASE" [r]
  let s := (maskSlots a.mask).foldl (fun s n =>
    ((s.freeW1 n).updMo n (fun m => { m with stopped := false, resumeAt := some r })).wired n) s
  (s.raise Ev.occReleased a.mask (BitVec.ofNat 64 a.ticket)).actEnd a.ticket Res.done

/-- A keeper that takes control pulls W1 low for every slot mirrored as stopped and reads every Buoy's stop state (R196). -/
def occTakeover (s : State) : State :=
  let s := allSlots.foldl (fun s n => if (s.mo n).stopped then s.pullW1 n else s) s
  (allSlots.filter (fun n => s.slotPresent n)).foldl (fun s n => s.winSend (s.portOf n) 0x50 .stopState) s

/-! ### Heartbeat and identity probe (R186, R187) -/

/-- An edge on W3 in run phase. -/
def hbEdge (s : State) (n : Slot) : State :=
  (s.updMo n (fun m => { m with hbEdge := s.beacon, hbLost := false, probeAt := none })).forwardWire n 3 "HEARTBEAT" []

/-- No edge for hb_us while the heartbeat is watched: HEARTBEAT_LOST, and the identity probe. -/
def hbLost (s : State) (n : Slot) : State :=
  let m := s.mo n
  if s.clk.held ∨ m.phase ≠ 2 ∨ m.hbLost ∨ s.beacon < m.hbFrom ∨ s.beacon < max m.hbEdge m.hbFrom + s.f F.OCC_HB_hb_us * tickUs then s
  else
    let s := s.updMo n (fun m => { m with hbLost := true, probeAt := some s.beacon })
    let s := s.winSend (s.portOf n) 0 .probe
    (s.raiseSlot n 1 0 0).occWatch n 1

/-- The probe is unanswered for probe_us and W3 is still without an edge: CHIP_DOWN, once until the next LINK_UP; the slot's ledger
entries are closed (09 R168). -/
def chipDown (s : State) (n : Slot) : State :=
  let m := s.mo n
  match m.probeAt with
  | none => s
  | some t =>
    if s.clk.held ∨ m.phase ≠ 2 ∨ m.chipDown ∨ s.beacon < t + s.f F.OCC_HB_probe_us * tickUs then s
    else
      let s := s.updMo n (fun m => { m with chipDown := true, probeAt := none })
      ((s.ldgReset n).raiseSlot n 11 0 0).occWatch n 3

/-- A slot's ALARM is raised, from the wire or by a message: the event, the hardware stop path, and the trace trigger of the alarm where it
is enabled (R189, 09 R175). -/
def alarmRaise (s : State) (n : Slot) (arg : Nat) (payload : Word) : State :=
  let s := (s.raiseSlot n 0 arg payload).occWatch n 0
  if s.fb F.TRC_SLOT_CTL_auto_alarm n.val then s.trcTrigger n 8 else s

/-- ALARM asserts on W2. -/
def alarmWire (s : State) (n : Slot) : State :=
  if s.clk.held ∨ (s.mo n).phase ≠ 2 then s
  else ((s.updMo n (fun m => { m with alarm := true })).forwardWire n 2 "ALARM" []).alarmRaise n 0x10 0

/-! ### The dump sequencer and the dump planner (R197 to R203) -/

/-- A slot's dump changed. -/
def updDump (s : State) (n : Slot) (h : DumpSlot → DumpSlot) : State :=
  { s with occ := { s.occ with dumps := s.occ.dumps.set n ((s.occ.dumps.get n).map h) } }

/-- Dumps begin (R197, R200, R202): a slot whose dump runs is left alone; under the custody seal nothing is read. -/
def dumpStart (s : State) (mask : Nat) : State :=
  State.dumpLevel ((maskSlots mask).foldl (fun s n =>
    if (s.occ.dumps.get n).isSome then s
    else if s.fb F.LOG_STATUS_sealed then
      (s.setF F.OCC_DUMP_STAT_state 4 n.val).raise Ev.dumpSlotDone n.val 4
    else
      let live := !s.occulted n
      let p := s.f F.OCC_DUMP_CTL_sp_phase
      let sl := s.f F.OCC_DUMP_CTL_sp_log2
      let d : DumpSlot :=
        { seq := s.occ.dumpSeq, live := live, stopTick := if (s.mo n).stopped then s.f F.OCC_SNAP_tick n.val else 0, start := s.beacon
          table := none, units := [], s := sl, p := p % 2 ^ sl, moor := false, unreachable := false, retry := [], abort := false
          got := [] }
      let s : State := { s with occ := { s.occ with dumps := s.occ.dumps.set n (some d), dumpSeq := s.occ.dumpSeq + 1 } }
      let s := s.setF F.OCC_DUMP_CTL_sp_phase ((p + 1) % 2 ^ sl)
      let s := s.setF F.OCC_DUMP_STAT_state 1 n.val
      let s := s.setFb F.OCC_DUMP_STAT_live live n.val
      let s := s.setFb F.OCC_DUMP_STAT_unreachable false n.val
      let s := s.setF F.OCC_DUMP_STAT_read 0 n.val
      let s := s.setF F.OCC_DUMP_STAT_unreadable 0 n.val
      s.setF F.OCC_DUMP_STAT_bytes 0 n.val) s)

/-- What a slot's dump does next. -/
inductive DumpWork
  /-- read the table or a unit: its position -/
  | read (pos : Nat)
  /-- go over to the mooring path for these positions -/
  | moor (l : List Nat)
  /-- the dump is complete -/
  | finish
  deriving DecidableEq, Repr

/-- The next work of a dump (R197, R199). -/
def dumpWork (s : State) (n : Slot) (d : DumpSlot) : DumpWork :=
  if d.moor then (match d.retry with
    | [] => .finish
    | p :: _ => if (s.mo n).phase = 3 then .read p else .finish)
  else if d.unreachable then .finish
  else match d.table with
    | none => .read 65535
    | some _ =>
      match d.units.findIdx? (fun u => u.status.isNone) with
      | some i => .read i
      | none =>
        let l := (d.units.zipIdx.filter (fun x => decide (x.1.status = some 2) &&
          (unitEssential x.1.entry || s.fb F.OCC_DUMP_CTL_moor_all))).map (·.2)
        if s.fb F.OCC_DUMP_CTL_moor_retry ∧ l ≠ [] ∧ s.dumpAllowed n then .moor l else .finish

/-- The next slot served after the one served last (R197); a slot whose phase command runs is not served. -/
def dumpSlotNext (s : State) : Option Slot :=
  ((List.range 16).map (fun k => (Fin.ofNat 16 (s.occ.last + 1 + k) : Slot))).find? (fun n =>
    (s.occ.dumps.get n).isSome && (s.mo n).pulse.isNone)

/-- The request for a read: over the link, or one exchange of at most 256 words on the mooring (R197, R199). -/
def dumpRequest (s : State) (n : Slot) (d : DumpSlot) (pos : Nat) : State :=
  let (no, off, len) := match d.units[pos]? with
    | some u => let x := unitPiece u.entry d.s d.p u.data.length u.want; (unitNo u.entry, x.1, x.2)
    | none => (0xFFFF, d.got.length, 0x10000)
  if d.moor then
    s.send (.buoy n.val "MOOR_REQ" [] [0xD5 + place no 8 16 + place (off / 8) 24 32 + place (min 256 (len / 8) - 1) 56 8])
  else s.toBuoy n "UNIT_REQ" [no, off, len]

/-- The slot's dump leaves the mooring path. -/
def dumpLeave (s : State) (n : Slot) (d : DumpSlot) : State := if d.moor ∧ (s.mo n).phase = 3 then s.dumpToRun n else s

/-- Reads are issued one at a time, round robin over the slots; complete and aborted dumps are closed (R197, R202). -/
def dumpNext : Nat → State → State
  | 0, s => s
  | k + 1, s =>
    if s.occ.reading.isSome then s
    else match s.dumpSlotNext with
      | none => s
      | some n =>
        match s.occ.dumps.get n with
        | none => s
        | some d =>
          if d.abort then dumpNext k ((s.dumpLeave n d).dumpClose n 5)
          else match s.dumpWork n d with
            | .finish =>
              let s := s.updDump n (fun d => { d with
                units := d.units.map (fun u => if u.status.isNone then { u with status := some 2 } else u) })
              dumpNext k ((s.dumpLeave n d).dumpClose n 3)
            | .moor l =>
              let s := (s.toDump n none).setF F.OCC_DUMP_STAT_state 2 n.val
              dumpNext k (s.updDump n (fun d => { d with moor := true, retry := l }))
            | .read pos =>
              let s : State := { s with occ := { s.occ with reading := some (n, pos, s.beacon), last := n.val } }
              s.dumpRequest n d pos

/-- The sequencer goes on. -/
def dumpGo (s : State) : State := dumpNext 64 s

/-- One tick of the phase commands; the dump of a slot that has come to dump phase goes on. -/
def pulsesTick (s : State) : State :=
  allSlots.foldl (fun s n =>
    let m := s.mo n
    if m.pulse.isNone ∧ m.seq.isNone ∧ m.maskFrom ≠ s.beacon then s
    else
      let r := s.pulseTick n
      if m.pulse.isSome ∧ (r.mo n).pulse.isNone ∧ (r.occ.dumps.get n).isSome then r.dumpGo else r) s

/-- The counts of OCC_DUMP_nn_STAT while a dump runs. -/
def dumpCounts (s : State) (n : Slot) : State :=
  match s.occ.dumps.get n with
  | none => s
  | some d =>
    let s := s.setF F.OCC_DUMP_STAT_read (d.units.countP (fun u => decide (u.status = some 0 ∨ u.status = some 1))) n.val
    s.setF F.OCC_DUMP_STAT_unreadable (d.units.countP (fun u => decide (u.status = some 2))) n.val

/-- The unit table has arrived: the plan of R200. -/
def dumpPlan (s : State) (n : Slot) (data : List Byte) : State :=
  s.updDump n (fun d =>
    let es := tableEntries data
    let sl := planS es d.p 13 d.s
    { d with table := some data, s := sl, p := d.p % 2 ^ sl, units := planUnits sl (d.p % 2 ^ sl) 128 es })

/-- A read's reply arrives, or fails on the mooring path (R199: a status other than OK, or a CRC failure). DESIGN CHOICE: on the mooring path an OK reply of
fewer words than were asked for, or of none, ends the table; a failure in any of its exchanges is a failure of unit 0xFFFF. -/
def unitReply (s : State) (n : Slot) (ok : Bool) (data : List Byte) : State :=
  match s.occ.reading, s.occ.dumps.get n with
  | some (m, pos, _), some d =>
    if m ≠ n then s
    else
      let s : State := { s with occ := { s.occ with reading := none } }
      let s :=
        if pos = 65535 then
          if d.moor ∧ ok ∧ data.length = 2048 ∧ d.got.length + 2048 < 0x10000 then s.updDump n (fun d => { d with got := d.got ++ data })
          else if ok then
            let s := s.dumpPlan n (d.got ++ data)
            if d.moor then
              s.updDump n (fun d => { d with
                retry := (d.units.zipIdx.filter (fun x => x.1.status.isNone &&
                  (unitEssential x.1.entry || s.fb F.OCC_DUMP_CTL_moor_all))).map (·.2) })
            else s
          else s.updDump n (fun d => { d with unreachable := true, retry := [] })
        else
          s.updDump n (fun d => { d with
            units := d.units.modify pos (fun u =>
              if ok then
                let got := u.data ++ data
                { u with data := got.take u.want, status := if u.want ≤ got.length then some (b2n d.moor) else u.status }
              else { u with data := [], status := some 2 })
            retry := if d.moor then
                (match d.units[pos]? with
                 | some u => if ok ∧ u.data.length + data.length < u.want then d.retry else d.retry.tail
                 | none => d.retry.tail)
              else d.retry })
      (s.dumpCounts n).dumpGo
  | _, _ => s

/-- The first byte of a reply has not arrived after read_tmo_us: the unit is unreadable, and the sequencer goes on (R197, R199). -/
def unitTimeout (s : State) : State :=
  match s.occ.reading with
  | none => s
  | some (n, pos, t) =>
    if s.clk.held ∨ s.beacon < t + s.f F.OCC_DUMP_CTL_read_tmo_us * tickUs then s
    else match s.occ.dumps.get n with
      | none => s
      | some d =>
        let s : State := { s with occ := { s.occ with reading := none } }
        let s := if d.moor then s
          else s.raise Ev.dumpUnreadable n.val (BitVec.ofNat 64 ((d.units[pos]?.map (fun u => unitNo u.entry)).getD 0xFFFF))
        let s :=
          if pos = 65535 then
            if ¬ d.moor ∧ s.fb F.OCC_DUMP_CTL_moor_retry ∧ s.dumpAllowed n then
              ((s.toDump n none).setF F.OCC_DUMP_STAT_state 2 n.val).updDump n (fun d => { d with moor := true, retry := [65535] })
            else s.updDump n (fun d => { d with unreachable := true, retry := [] })
          else s.updDump n (fun d => { d with
            units := d.units.modify pos (fun u => { u with data := [], status := some 2 })
            retry := if d.moor then d.retry.tail else d.retry })
        (s.dumpCounts n).dumpGo

/-- Aborts (R202): a slot's dump ends after its current read. -/
def dumpAbort (s : State) (mask : Nat) : State :=
  ((maskSlots mask).foldl (fun s n => s.updDump n (fun d => { d with abort := true })) s).dumpGo

end State
end Sys2Proof.Machine
end

