-- ==== Sys2Proof/Machine/LinkOps.lean ====
section
/-! DEFINITION. The Buoy links: lanes, frames, replay, credits, identity and quarantine, notes (13 R274 to R280, R394). -/

namespace Sys2Proof.Machine

namespace State

/-- The other keeper hears whether this keeper's link to a slot is up, and forwards the slot's messages while it is not (09 R163). -/
def tellLink (s : State) (n : Slot) (up : Bool) : State :=
  s.pairSend "LINK" [n.val, b2n up]

/-- The messages of a slot arrive: over its link, or over the pair link from the other keeper, whose own link to the slot is up, while it is down
(09 R163, 11 R215, 13 R276). -/
def heardOf (s : State) (n : Slot) : Bool := s.linkUp n || (s.fb F.PAR_STATUS_link_up && (s.mo n).peerLink)

/-- A message of a slot goes on to the other keeper while that keeper's link to the slot is down (09 R163, 11 R215). -/
def forward (s : State) (n : Slot) (args : List Nat) : State :=
  if s.linkUp n ∧ ¬ (s.mo n).peerLink then s.pairSend "FORWARD" (n.val :: args) else s

/-- The lanes in lock of a port. -/
def lanesUp (s : State) (p : Slot) : Nat := s.f F.BLK_STATUS_lanes_up p.val

/-- A port's link state. -/
def blkState (s : State) (p : Slot) : Nat := s.f F.BLK_STATUS_state p.val

/-- The hold of a quarantine is in force on a port: identity, version or QUAR LINK (13 R280). A refused remap overwrites qreason and lifts no hold. -/
def held (s : State) (p : Slot) : Bool := (s.port p).hold

/-- A port starts to train: both lanes, nothing numbered or waiting (R274, R275). -/
def linkTrain (s : State) (p : Slot) : State :=
  let s := if s.linkUp (s.slotOf p) then s.tellLink (s.slotOf p) false else s
  let s := s.setF F.BLK_STATUS_lanes_up 0 p.val
  let s := s.setF F.BLK_STATUS_state 1 p.val
  let s := s.updPort p (fun l => { l with
    txNext := 0, unacked := [], credits := Vector.replicate 16 0, waiting := [], parts := Vector.replicate 16 0, rxNext := 0, rxNak := false
    lostLane := Vector.replicate 2 none, ident := none })
  s.slotState (s.slotOf p)

/-- Training of a port that the owner and the straps allow: the link is enabled and its slot is not blank (R264, BLK_CTL.en). -/
def linkStart (s : State) (p : Slot) : State :=
  if ¬ s.fb F.BLK_CTL_en p.val then s.setF F.BLK_STATUS_state 5 p.val
  else if s.slotPresent (s.slotOf p) then s.linkTrain p
  else s

/-- The 128 bytes of the IDENT body that the keeper sends (R278): maker and part, protocol 1.0, its slot, its port, its serial, the digest of its Standing
Orders; the fields of a Buoy alone are zero. -/
def identArgs (s : State) (p : Slot) : List Nat :=
  let digest := match s.prog.orders with
    | some o => o.digest
    | none => []
  (leBytes (s.f F.GLB_ID_maker) 2 ++ leBytes (s.f F.GLB_ID_part) 2 ++ leBytes (s.f F.GLB_ID_buoy_major) 1 ++ leBytes (s.f F.GLB_ID_buoy_minor) 1 ++
    leBytes (s.slotOf p).val 1 ++ leBytes s.ownPort 1 ++ leBytes Config.serial.toNat 16 ++
    (digest ++ List.replicate 48 0).take 48 ++ List.replicate 56 0).map (fun (b : Byte) => b.toNat)

/-- An IDLE frame grants the Buoy the credits of the keeper's receive buffers, sixteen counts (R277). How many buffers a class has the spec does not
say: free values. -/
def idleGrant (s : State) (p : Slot) : State :=
  let (l, s) := (List.range 16).foldl (fun (q : List Nat × State) _ =>
    let (x, s) := q.2.draw
    (q.1 ++ [x % 256], s)) ([], s)
  s.idleSend p l

/-- A lane locks after 64 good frames (R274, R276): the first lane of a training link starts the identity exchange, a lost lane of a
running link holds lock again. -/
def linkLock (s : State) (p : Slot) (lane : Fin 2) : State :=
  let st := s.blkState p
  if s.clk.held ∨ ¬ s.clk.refclk ∨ ¬ s.fb F.BLK_CTL_en p.val ∨ st = 5 ∨ bitOf (s.f F.BLK_CTL_lanes p.val) lane.val = false ∨
      bitOf (s.lanesUp p) lane.val ∨ ¬ s.slotPresent (s.slotOf p) then s
  else
    let s := s.updPort p (fun l => { l with lastFrame := s.beacon })
    if (s.port p).lostLane[lane].isSome ∧ 2 ≤ st then
      s.updPort p (fun l => { l with lostLane := l.lostLane.set lane (some (some s.beacon)) })
    else
      let s := s.setF F.BLK_STATUS_lanes_up (s.lanesUp p ||| 2 ^ lane.val) p.val
      if st = 0 ∨ st = 1 then ((s.setF F.BLK_STATUS_state 2 p.val).idleGrant p).linkSend p "IDENT" (s.identArgs p) else s

/-- A frame arrives damaged or out of sequence: it is counted, and nak is sent for the first frame discarded; the frames after it go too until the one
expected arrives (R275). A message row brings a message delivered in sequence. A frame of a reserved class is discarded and counted, a message of a reserved type discarded with an ALARM (R277). -/
def linkFrame (s : State) (p : Slot) (f : FrameFault) : State :=
  if s.clk.held ∨ s.blkState p < 1 ∨ s.blkState p = 5 then s
  else match f with
    | .corrected k => (s.bump F.BLK_ERR_corrected k p.val).updPort p (fun l => { l with lastFrame := s.beacon })
    | .discarded =>
      ((s.bump F.BLK_ERR_uncorrectable 1 p.val).updPort p (fun l => { l with rxNak := true })).send
        (.buoy p.val "NAK" [] [LinkSt.ack (s.port p)])
    | .late =>
      let nak := (s.port p).rxNak
      let s := (s.bump F.BLK_ERR_uncorrectable 1 p.val).updPort p (fun l => { l with lastFrame := s.beacon, rxNak := true })
      if nak then s else s.send (.buoy p.val "NAK" [] [LinkSt.ack (s.port p)])
    | .expected => s.updPort p (fun l => { l with lastFrame := s.beacon, rxNak := false })
    | .reservedClass => (s.bump F.BLK_ERR_uncorrectable 1 p.val).updPort p (fun l => { l with lastFrame := s.beacon, rxNext := (l.rxNext + 1) % 2 ^ 24 })
    | .reservedType => (s.updPort p (fun l => { l with lastFrame := s.beacon, rxNext := (l.rxNext + 1) % 2 ^ 24 })).alarmRaise (s.slotOf p) 0 0

/-- Frames up to a number are acknowledged, modulo 2^24. -/
def linkAck (s : State) (p : Slot) (ack : Nat) : State :=
  s.updPort p (fun l => { l with unacked := l.unacked.filter (fun x => decide (2 ^ 23 ≤ (ack + 2 ^ 24 - x.1) % 2 ^ 24)) })

/-- Frames from ack + 1 on are sent again in order (R275). -/
def linkReplay (s : State) (p : Slot) : State :=
  match (s.port p).unacked with
  | [] => s
  | (q, _) :: _ =>
    let k := (s.port p).unacked.length
    let s := s.updPort p (fun l => { l with unacked := l.unacked.map (fun x => (x.1, s.beacon)) })
    (s.bump F.BLK_ERR_replays 1 p.val).send (.replay p.val q k)

/-- A nak from the peer starts a replay from ack + 1. -/
def linkNak (s : State) (p : Slot) (ack : Nat) : State :=
  if s.clk.held ∨ s.lanesUp p = 0 then s
  else ((s.linkAck p ack).updPort p (fun l => { l with lastFrame := s.beacon })).linkReplay p

/-- A frame unacknowledged for 4 µs is replayed. -/
def linkReplayTimeout (s : State) (p : Slot) : State :=
  if s.clk.held ∨ s.lanesUp p = 0 ∨ ¬ (s.port p).unacked.any (fun x => decide (x.2 + 4 * tickUs ≤ s.beacon)) then s
  else s.linkReplay p

/-- An IDLE frame: an acknowledgement and sixteen credit counts (R277). DESIGN CHOICE: a count adds to the credits held. -/
def linkCredit (s : State) (p : Slot) (ack : Nat) (counts : Vector (BitVec 8) 16) : State :=
  if s.clk.held ∨ s.lanesUp p = 0 then s
  else
    let s := (s.linkAck p ack).updPort p (fun l => { l with
      lastFrame := s.beacon, credits := Vector.ofFn (fun c => l.credits[c] + (counts[c]).toNat) })
    pumpLink p (((s.port p).waiting.map (fun m => msgFrames m.2.1 m.2.2)).foldl (· + ·) 0) s

/-- A lane loses lock: the other lane carries every frame, LANE_DEGRADE; one that was about to return starts its 100 ms again (R276).
During the identity exchange IDENT is replayed on the other lane (R282). -/
def laneFail (s : State) (p : Slot) (lane : Fin 2) : State :=
  if s.clk.held then s
  else if bitOf (s.lanesUp p) lane.val = false then
    if (s.port p).lostLane[lane].isSome then s.updPort p (fun l => { l with lostLane := l.lostLane.set lane (some none) }) else s
  else
    let up := s.lanesUp p - 2 ^ lane.val
    let s := (s.setF F.BLK_STATUS_lanes_up up p.val).bump F.BLK_ERR_lane_fail 1 p.val
    let s := s.updPort p (fun l => { l with lostLane := l.lostLane.set lane (some none) })
    if up = 0 then s
    else
      let s := s.raiseSlot (s.slotOf p) 4 (16 * lane.val) 0
      if s.blkState p = 2 then s.linkReplay p else s

/-- A failed lane that has held lock for 100 ms returns, LANE_RESTORED (R276). -/
def laneRestored (s : State) (p : Slot) : State :=
  match [(0 : Fin 2), 1].find? (fun k =>
      match (s.port p).lostLane[k] with
      | some (some t) => decide (t + 100 * tickMs ≤ s.beacon)
      | _ => false) with
  | some lane =>
    if s.clk.held then s
    else
      let s := s.setF F.BLK_STATUS_lanes_up (s.lanesUp p ||| 2 ^ lane.val) p.val
      (s.updPort p (fun l => { l with lostLane := l.lostLane.set lane none })).raiseSlot (s.slotOf p) 5 0 0
  | none => s

/-- A link that trained goes down: LINK_DOWN of the slot it serves (R276). DESIGN CHOICE: it trains again on its own. -/
def linkFall (s : State) (p : Slot) : State :=
  let st := s.blkState p
  if ¬ (st = 2 ∨ st = 3 ∨ st = 4 ∨ (st = 1 ∧ (s.port p).serving)) then s
  else
    let n := s.slotOf p
    let s := s.setF F.BLK_STATUS_lanes_up 0 p.val
    let s := if st = 1 then s else s.setF F.BLK_STATUS_state 0 p.val
    let s := s.updPort p (fun l => { l with
      serving := false, txNext := 0, unacked := [], credits := Vector.replicate 16 0, waiting := [], parts := Vector.replicate 16 0
      rxNext := 0, rxNak := false, lostLane := Vector.replicate 2 none })
    (((s.slotState n).raiseSlot n 2 0 0).tellLink n false).occWatch n 2

/-- No valid frame on either lane for 20 µs: the link is down (R276). -/
def linkDown (s : State) (p : Slot) : State :=
  if s.clk.held ∨ s.beacon < (s.port p).lastFrame + 20 * tickUs then s else s.linkFall p

/-- The lanes that BLK_CTL no longer permits leave their link. DESIGN CHOICE: that is no lane failure, so nothing is raised. -/
def lanesBarred (s : State) (p : Slot) : State :=
  let l := s.f F.BLK_CTL_lanes p.val
  (s.setF F.BLK_STATUS_lanes_up ((s.lanesUp p).land l) p.val).updPort p (fun x => { x with
    lostLane := Vector.ofFn (fun k => if bitOf l k.val then x.lostLane[k] else none) })

/-! ### Identity (R278, R279) -/

/-- A port is quarantined for a reason, with the event of the slot it serves. A link that is down or disabled is held so from its
training on. -/
def quarantine (s : State) (p : Slot) (reason k : Nat) : State :=
  let s := if s.blkState p = 0 ∨ s.blkState p = 5 then s else s.setF F.BLK_STATUS_state 4 p.val
  let s := if s.held p ∧ s.f F.BLK_STATUS_qreason p.val = 3 then s else s.setF F.BLK_STATUS_qreason reason p.val
  let s := s.updPort p (fun l => { l with hold := true, serving := false })
  ((s.slotState (s.slotOf p)).raiseSlot (s.slotOf p) k 0 0).tellLink (s.slotOf p) false

/-- The firmware digest that a slot's holder announces is kept; where another holder of the tray has announced another, a record is written (08 R160).
No rule lists its trigger: a free value, as for arr_late. -/
def announceFw (s : State) (n : Slot) (fw : List Byte) : State :=
  let s := s.updMo n (fun m => { m with fw := some fw })
  if allSlots.any (fun k => (s.mo k).fw.any (fun b => decide (b ≠ fw))) then
    let (k, s) := s.draw
    s.logHwWords (k % 65536) 0x04 n.val [BitVec.ofNat 64 n.val]
  else s

/-- A Buoy that may hold a shard of an image discarded at a restart releases it (11 R226). -/
def releaseDropped (s : State) (n : Slot) : State :=
  match s.scf.dropped with
  | none => s
  | some (step, seq, m, a) =>
    if bitOf m n.val then
      (({ s with scf := { s.scf with dropped := some (step, seq, m - 2 ^ n.val, a) } } : State)).toBuoy n "SHARD_RELEASE" [step]
    else s

/-- A link enters service: LINK_UP, the schedules and the sampling rates of its slot, the accepted serial told to the peer. -/
def linkAccept (s : State) (p : Slot) (id : Ident) : State :=
  let n := s.slotOf p
  let s := s.setF F.BLK_STATUS_state 3 p.val
  let s := s.setF F.BLK_SERIAL_LO_serial_lo id.serialLo.toNat p.val
  let s := s.setF F.BLK_SERIAL_HI_serial_hi id.serialHi.toNat p.val
  let s := s.updPort p (fun l => { l with serving := true })
  let s := s.updMo n (fun m => { m with chipDown := false })
  let s := s.pairSend "ACCEPTED" [n.val, id.serialLo.toNat, id.serialHi.toNat]
  (((((s.slotState n).raiseSlot n 3 0 0).tellLink n true).releaseDropped n).trsLinkUp n).sampleCtl n

/-- A Buoy announces its identity: the link is accepted or quarantined (R279, R280, R282). -/
def identify (s : State) (p : Slot) (id : Ident) : State :=
  if s.clk.held ∨ ¬ (s.blkState p = 2 ∨ s.blkState p = 4) then s
  else
    let n := s.slotOf p
    let s := s.setF F.BLK_STATUS_major (id.major % 256) p.val
    let s := s.setF F.BLK_STATUS_minor 0 p.val
    let s := s.setF F.BLK_STATUS_slot (id.slot % 16) p.val
    let s := s.setF F.BCN_SLOT_delta (wrapInt id.delta 16) (s.slotOf p).val
    let s := ((s.updPort p (fun l => { l with ident := some id, checked := true, agreed := false })).linkHeard p 0 128).announceFw n id.fw
    if id.major ≠ 1 then s.quarantine p 2 7
    else if id.slot ≠ n.val then
      let q := s.portOf (Fin.ofNat 16 id.slot)
      let s := s.quarantine p 1 6
      if q = p ∨ 16 ≤ id.slot then s
      else if (s.port q).serving then s.raiseSlot (s.slotOf q) 6 0 0
      else s.quarantine q 1 6
    else if (s.mo n).peerSerial.any (fun x => decide (x ≠ (id.serialLo, id.serialHi))) then s.quarantine p 1 6
    else
      let s := s.updPort p (fun l => { l with agreed := true })
      if s.held p then (s.setF F.BLK_STATUS_state 4 p.val).slotState n
      else s.linkAccept p id

/-- QUAR LINK: the link stays trained and answers control reads; no data is accepted (R279, 04 R86). -/
def quarLink (s : State) (n : Slot) : State :=
  let p := s.portOf n
  let s := (s.setF F.BLK_STATUS_qreason 3 p.val).updPort p (fun l => { l with hold := true })
  let s := if s.blkState p = 2 ∨ s.blkState p = 3 then s.setF F.BLK_STATUS_state 4 p.val else s
  ((s.updPort p (fun l => { l with quarLink := true, serving := false })).slotState n).tellLink n false

/-- QUAR RELEASE ends the quarantine of a slot and of its link without retraining it (R280). -/
def quarRelease (s : State) (n : Slot) : State :=
  let p := s.portOf n
  let was := s.held p
  let s := s.setF F.BLK_STATUS_qreason 0 p.val
  let s := s.updPort p (fun l => { l with quarLink := false, hold := false })
  let s := s.updMo n (fun m => { m with quarSlot := false })
  match (s.port p).ident with
  | some id => if was ∧ s.blkState p = 4 ∧ (s.port p).agreed then s.linkAccept p id else s.slotState n
  | none => if was ∧ s.blkState p = 4 then (s.setF F.BLK_STATUS_state 2 p.val).slotState n else s.slotState n

/-- QUAR RELEASE is refused: the link is quarantined, or to be once it trains again, and its last identity check disagreed (R280, 04 R86). -/
def quarRefused (s : State) (n : Slot) : Bool :=
  let l := s.port (s.portOf n)
  l.hold && l.checked && !l.agreed

/-- A remap accepted at a PEG: each remapped link is trained again and checked against the new map (R280); a port that now serves an empty position is not
trained (01 R5). -/
def linkRemapped (s : State) (p : Slot) : State :=
  let n := s.slotOf p
  if s.blkState p ≠ 5 ∧ s.slotPresent n then s.linkTrain p
  else
    let s := (s.setF F.BLK_STATUS_lanes_up 0 p.val).updPort p (fun l => { l with serving := false, ident := none })
    ((if s.blkState p = 5 then s else s.setF F.BLK_STATUS_state 0 p.val).slotState n).tellLink n false

/-- The map of a port has been committed: remapped says whether it names another slot, and a port that serves another slot than before trains anew (R280). -/
def remapCommitted (s : State) (p : Slot) (was : Nat) : State :=
  let s := s.setFb F.BLK_MAP_remapped (decide (s.f F.BLK_MAP_slot p.val ≠ p.val)) p.val
  let s := if s.f F.BLK_STATUS_qreason p.val = 4 then s.setF F.BLK_STATUS_qreason 0 p.val else s
  if s.f F.BLK_MAP_slot p.val ≠ was then s.linkRemapped p else s

/-! ### Notes (R394) -/

/-- Where the Standing Orders' region of gallery memory holds a slot's note: 64 places a slot. DESIGN CHOICE: from 0x1000_0000. -/
def noteAddr (n : Slot) (k : Nat) : Nat := 0x10000000 + (n.val * 64 + k % 64) * 64

/-- The READY note completes the slot's part of the action it answers (10 R204). -/
def noteReady (s : State) (n : Slot) (major fn ticket : Nat) : State :=
  match s.actionOf ticket with
  | none => s
  | some a =>
    if a.phase = .driving ∧ a.sub.code = (major, fn) ∧ bitOf a.left n.val then
      (s.updMo n (fun m => { m with readyFrom := none })).actPart ticket n
    else s

/-- A NOTE message of the slot: it is placed in gallery memory and raises CONTROL_MSG; a reserved kind is discarded with an ALARM. -/
def noteIn (s : State) (n : Slot) (ref step time kind : Nat) (data : List Byte) : State :=
  if s.clk.held ∨ ¬ s.linkUp n then s
  else
  let s := s.slotHeard n 0 32
  if kind = 0 ∨ 5 < kind then s.alarmRaise n 0 0
  else
    let d := (data ++ List.replicate 24 0).take 24
    let a := noteAddr n (s.mo n).notes
    let s := s.wrBytes a (leBytes 0x13 2 ++ leBytes 0 2 ++ leBytes 32 4 ++ leBytes ref 8 ++ leBytes step 8 ++ leBytes time 8 ++
      leBytes kind 2 ++ List.replicate 6 0 ++ d)
    let s := s.updMo n (fun m => { m with notes := m.notes + 1 })
    let s := match kind with
      | 4 => if leNat ((d.drop 2).take 1) = 1 then s.note (slotEv n 13) (BitVec.ofNat 64 a) [BitVec.ofNat 64 (leNat (d.take 2))] else s
      | _ => s
    let s := s.raiseSlot n 13 (16 * kind) (BitVec.ofNat 64 a)
    match kind with
    | 1 => s.noteReady n (leNat (d.take 1)) (leNat ((d.drop 1).take 1)) (leNat ((d.drop 8).take 8))
    | 2 => s.alarmRaise n 0x20 (BitVec.ofNat 64 (leNat (d.take 4)))
    | _ => s

end State
end Sys2Proof.Machine
end

