-- ==== Sys2Proof/Machine/BcnOps.lean ====
section
/-! DEFINITION. Beacon time and PTP: hard-set and slew, marks and delay compensation, the pair's skew, the two PTP domains and the
choice of the tie, 1PPS, the transmit timestamp queue (12 R241 to R259), and the staggered start that waits for the tie (13 R273). -/

namespace Sys2Proof.Machine

/-- CRC-8 of polynomial x^8 + x^2 + x + 1 over the low `n` bits of a number, least significant first (12 R245). -/
def crc8 (x : Nat) : Nat → Nat → Nat
  | 0, c => c
  | n + 1, c =>
    let top := (c.testBit 7).xor (x.testBit 0)
    crc8 (x / 2) n ((2 * c % 256).xor (if top then 0x07 else 0))

/-- The 80 bits of a W0 frame (12 R245). -/
def w0Frame (mark : Nat) (ctl tied cal holdover : Bool) : Nat :=
  let b := place mark 0 64 + place (b2n ctl) 64 1 + place (b2n tied) 65 1 + place (b2n cal) 66 1 + place (b2n holdover) 67 1
  b + place (crc8 b 72 0) 72 8

/-- Units of 2^-16 ns of one tick. -/
def tickSub : Int := 40960

namespace State

/-! ### The counter: slew and hard-set (R241 to R244) -/

/-- One tick of the slew: at the slew rate the remainder falls by one for each tick gained or lost (R242). -/
def slewTick (s : State) : State :=
  let r := s.f F.BCN_SLEW_slew
  if r = 0 then s
  else
    let acc := s.bcn.slewAcc + s.f F.BCN_CTL_slew_ppm
    if acc < 1000000 then { s with bcn := { s.bcn with slewAcc := acc } }
    else
      let v := signedOf r 32
      ({ s with bcn := { s.bcn with slewAcc := acc - 1000000 } } : State).setF F.BCN_SLEW_slew (wrapInt (if v < 0 then v + 1 else v - 1) 32)

/-- A slew remainder set: signed ticks to gain or lose. -/
def setSlew (s : State) (v : Int) : State :=
  ({ s with bcn := { s.bcn with slewAcc := 0 } } : State).setF F.BCN_SLEW_slew (wrapInt (clampInt v (-2147483648) 2147483647) 32)

/-- A session's timers moved. -/
def Session.shift (m : Nat → Nat) (u : Session) : Session :=
  { u with
    ackDue := u.ackDue.map m, lastRx := m u.lastRx, lastTx := m u.lastTx, batchDue := u.batchDue.map m }

/-- A slot's timers moved; run entry falls on a mark. -/
def MorSlot.shift (m : Nat → Nat) (x : MorSlot) : MorSlot :=
  { x with
    seq := x.seq.map (fun y => (y.1, y.2.map (fun d => if y.1 = .runEntry then nextMark (m d) else m d)))
    readyFrom := x.readyFrom.map m, pwrGood := x.pwrGood.map m
    pulse := x.pulse.map (fun p => { p with rise := m p.rise, fall := m p.fall, again := if p.again = 0 then 0 else m p.again })
    followSince := (x.followSince.1.map m, x.followSince.2.map m) }

/-- Time moves by a hard-set: what counts ticks and not beacon times moves with it (03 R58, 12 R254, R255, 13 R268, R273, 14 R289). -/
def shiftDue (s : State) (old new : Nat) : State :=
  let m (x : Nat) : Nat := x + new - old
  let s := allTenders.foldl (fun s i => s.updT i (fun t => { t with wdogDue := m t.wdogDue })) s
  { s with
    mor := { s.mor with
      unit := (s.mor.unit.1, s.mor.unit.2.map m), released := s.mor.released.map m, seqBase := s.mor.seqBase.map m
      lastStart := s.mor.lastStart.map m
      slots := s.mor.slots.map (MorSlot.shift m)
      ports := s.mor.ports.map (fun l => { l with
        lastFrame := m l.lastFrame, unacked := l.unacked.map (fun x => (x.1, m x.2)), windows := l.windows.map (fun w => (w.1, m w.2.1, w.2.2)) }) }
    par := { s.par with
      lastHealth := s.par.lastHealth.map (fun x => (x.1, m x.2)), liveEdge := s.par.liveEdge.map m
      lastT := s.par.lastT.map (fun x => (x.1, m x.2)), sentT := s.par.sentT.map m, healthySince := s.par.healthySince.map m
      liveNext := s.par.liveNext.map m, wire := { s.par.wire with unacked := s.par.wire.unacked.map (fun x => (x.1, m x.2)) }
      ownSince := s.par.ownSince.map m, downSince := s.par.downSince.map m, strapEnd := s.par.strapEnd.map m
      queue := s.par.queue.map (fun (q : MirrorItem) => { q with sentAt := m q.sentAt }) }
    kcp := { s.kcp with sess := s.kcp.sess.map (Session.shift m), monitorAt := s.kcp.monitorAt.map m }
    bcn := { s.bcn with
      waitFrom := s.bcn.waitFrom.map m, calAt := m s.bcn.calAt, ppsAt := m s.bcn.ppsAt, ppsFall := s.bcn.ppsFall.map m
      dom := s.bcn.dom.map (fun d => { d with
        lastSync := m d.lastSync, lockedAt := d.lockedAt.map m, masters := d.masters.map (fun x => { x with at_ := m x.at_ }) }) } }

/-- The time record of tender 19 (R241, R259, 15 R301). -/
def timeRecord (s : State) : State :=
  if s.prog.orders.isNone ∨ s.alive 19 = false ∨ s.emergency then s
  else
    let offs := [F.BCN_NOW_now.base, F.BCN_TRIM_trim.base, F.BCN_STATUS_tied.base, F.PTP_DOM_OFS_ofs.base,
      F.PTP_DOM_OFS_ofs.base + 0x40, F.PTP_DOM_STAT_state.base, F.PTP_DOM_STAT_state.base + 0x40]
    s.logSo ⟨0x0400, logSource 0x0A 0xF 0, 19, 0, s.pclkTime, offs.map (fun o => s.readReg 27 o)⟩

/-- LOG_HOURS.base and LOG_HBASE set again as the beacon is set; the hour in progress goes on (15 R313). -/
def hoursRebase (s : State) (new : Nat) : State :=
  let s := s.setF F.LOG_HOURS_base (s.f F.LOG_HOURS_base + (s.beacon - s.f F.LOG_HBASE_hbase) / 5760000000000)
  let s := s.setF F.LOG_HBASE_hbase new
  { s with log := { s.log with hourDue := new + (s.log.hourDue - s.beacon) } }

/-- The value at which the next PCLK cycle begins (R390). -/
def nextPclk (s : State) : Nat := s.beacon / 8 * 8 + 8

/-- A hard-set is ordered: the time record of this PCLK cycle is written, and the value is loaded at the start of the next one (R241, R390). -/
def hardSet (s : State) (v : Nat) : State :=
  let s := s.timeRecord
  { s with bcn := { s.bcn with hardPend := some v } }

/-- BCN_SET or BCN_EPOCH committed in service is discarded and shown (R243). -/
def setRefused (s : State) : State := s.setFb F.BCN_STATUS_set_refused true

/-- A hard-set is loaded at the start of a PCLK cycle, with bits [2:0] cleared, and the time record after it is written (R241, R390); a slot that has
entered run phase since it was ordered has it discarded (R243). -/
def hardLoad (s : State) : State :=
  match s.bcn.hardPend with
  | none => s
  | some v =>
    if s.beacon % 8 ≠ 0 then s
    else if s.inService then ({ s with bcn := { s.bcn with hardPend := none } } : State).setRefused
    else
      let new := v % 2 ^ 64 / 8 * 8
      let s := s.hoursRebase new
      let s := s.shiftDue s.beacon new
      ({ s with beacon := new, bcn := { s.bcn with hardPend := none } } : State).timeRecord

/-- The servo sets trim. The spec states that a keeper is steered by trim and slew and not how far (R242, R250): a free value within ±100 ppm. -/
def steer (s : State) : State :=
  let (x, s) := s.draw
  s.setF F.BCN_TRIM_trim (wrapInt (clampInt (signedOf (x % 2 ^ 32) 32) (-429497) 429497) 32)

/-! ### Marks and delay compensation (R245, R248) -/

/-- The compensation of a slot has reached its new value (R248). -/
def calReached (s : State) (n : Slot) (new old : Nat) : State :=
  let s := (s.updCal n (fun c => { c with target := none })).setFb F.BCN_SLOT_valid true n.val
  s.raise Ev.bcnSlotCal n.val (BitVec.ofNat 64 (new % 1024 + place old 16 10))

/-- One tick of the compensation towards its target at a mark. -/
def calSlew (s : State) (n : Slot) : State :=
  match (s.bcn.slots[n]).target with
  | none => s
  | some (new, old) =>
    let d := s.f F.BCN_SLOT_dly n.val
    let d' := if d < new then d + 1 else if new < d then d - 1 else d
    let s := s.setF F.BCN_SLOT_dly d' n.val
    if d' = new then s.calReached n new old else s

/-- A mark on one slot in run phase: the frame, launched its compensation early, the calibration asked for, one tick of slew. -/
def markSlot (s : State) (n : Slot) : State :=
  if (s.mo n).phase ≠ 2 then s
  else
    let c := s.bcn.slots[n]
    let cal := c.want || c.due.any (fun d => decide (d ≤ s.beacon))
    let s := s.send (.w0 n.val ((s.beacon : Int) - s.f F.BCN_SLOT_dly n.val) (w0Frame s.beacon s.control s.bcn.tied cal (s.fb F.BCN_STATUS_holdover)))
    let s := if cal then s.updCal n (fun c => { c with want := false, due := none, echo := some (s.beacon + 16384) }) else s
    s.calSlew n

/-- W0 rests high without frames: a follower that has lost the live wire, a keeper in control that has sent its failing word, and both keepers between
the agreement on a hand-over and the first word that shows the new controller (R247, 14 R286, R290, R293). -/
def w0Rests (s : State) : Bool := (s.following && s.par.liveLost) || (s.control && s.par.failing) || s.par.gap || s.par.roleAsked

/-- A mark (R245): a beacon value whose bits [13:0] are zero. -/
def mark (s : State) : State :=
  if s.clk.held ∨ s.beacon % 16384 ≠ 0 ∨ s.w0Rests then s
  else allSlots.foldl (fun s n => s.markSlot n) ({ s with bcn := { s.bcn with framesAt := some s.beacon } } : State)

/-- The Buoy of a slot follows this keeper's frames: this keeper is in control and its W0 has not failed, or the W0 of the keeper in control has
failed and this one's has not (R246, 13 R270). -/
def followed (s : State) (n : Slot) : Bool :=
  !bitOf (s.f F.MOR_FAULT_fault) (4 * n.val) && (s.control || bitOf (s.mo n).peerFault 0)

/-- The new compensation of R248 from the echo's tick; `skew` in 1/16 tick is what the other keeper's tick of the echo lacks of this one's, 0 for an
echo of this keeper's own W3. -/
def calNew (s : State) (n : Slot) (a m1 : Nat) (delta skew : Int) : Nat :=
  let d := s.f F.BCN_SLOT_dly n.val
  let z : Int :=
    if s.followed n then (16 * ((a : Int) - m1 + d - 1600) + skew - delta + 16) / 32
    else (16 * ((a : Int) - m1 - 1600) + skew - delta - signedOf (s.f F.BCN_PAIR_skew) 32 + 8) / 16
  (clampInt z 0 1023).toNat

/-- The echo on W3 arrives at tick `a`, here or by the other keeper's tick and over the pair link where this keeper's W3 has failed (13 R270): it is a
heartbeat edge, and the new compensation is computed (R248). -/
def calEchoAt (s : State) (n : Slot) (a : Nat) (skew : Int) : State :=
  if s.clk.held then s
  else
    let s := s.hbEdge n
    match (s.bcn.slots[n]).echo with
    | none => s
    | some m1 =>
      let delta : Int := (((s.port (s.portOf n)).ident.map (·.delta)).getD 0)
      let new := s.calNew n a m1 delta skew
      let old := s.f F.BCN_SLOT_dly n.val
      let s := s.setF F.BCN_SLOT_delta (wrapInt delta 16) n.val
      let s := s.setFb F.BCN_SLOT_followed (s.followed n) n.val
      let s := s.setF F.BCN_SLOT_rtt (wrapInt ((a : Int) - m1 - 1600) 16) n.val
      let s := s.updCal n (fun c => { c with echo := none, target := some (new, old) })
      if new = old then s.calReached n new old else s

/-- The echo at this keeper's own W3; it is forwarded where the other keeper's W3 has failed. -/
def calEcho (s : State) (n : Slot) (a : Nat) : State :=
  if s.clk.held then s else (s.forwardWire n 3 "ECHO" [a]).calEchoAt n a 0

/-- Calibration asked for slots of a mask at the next mark. -/
def calWant (s : State) (mask : Nat) : State :=
  (maskSlots mask).foldl (fun s n => s.updCal n (fun c => { c with want := true })) s

/-- The calibration period elapses (R248). -/
def calPeriod (s : State) : State :=
  let p := s.f F.BCN_CAL_period_s
  if s.clk.held ∨ p = 0 ∨ s.beacon < s.bcn.calAt + p * tickS then s
  else ({ s with bcn := { s.bcn with calAt := s.beacon } } : State).calWant 0xFFFF

/-! ### The tie (R244, R254, R255) -/

/-- A domain's engine. -/
def ptp (s : State) (d : Fin 2) : PtpDom := s.bcn.dom[d]

/-- The state with a domain's engine changed. -/
def updPtp (s : State) (d : Fin 2) (h : PtpDom → PtpDom) : State := { s with bcn := { s.bcn with dom := s.bcn.dom.set d (h (s.ptp d)) } }

/-- A domain is LOCKED. -/
def ptpLocked (s : State) (d : Fin 2) : Bool := decide (s.f F.PTP_DOM_STAT_state d.val = 2)

/-- A domain's last offset in ticks: PTP time less keeper time. -/
def ptpTicks (s : State) (d : Fin 2) : Int := signedOf (s.f F.PTP_DOM_OFS_ofs d.val) 64 / tickSub

/-- The tie changed at a commit: PTP_SWITCH (R255). -/
def tieChanged (s : State) (old : Nat) : State :=
  let new := s.f F.BCN_CTL_tie
  if new = old then s else s.raise Ev.ptpSwitch 0 (BitVec.ofNat 64 (old + 4 * new))

/-- The time service switches the tie to a domain: the tie and its offset as the slew remainder at one commit (R255). -/
def tieTo (s : State) (d : Fin 2) : State :=
  let old := s.f F.BCN_CTL_tie
  let s := (s.setF F.BCN_CTL_tie (d.val + 1)).setSlew (s.ptpTicks d)
  (((s.setFb F.BCN_STATUS_holdover false).tieChanged old).mirrorField F.BCN_CTL_tie).mirrorField F.BCN_SLEW_slew

/-- The preferred domain. -/
def ptpPrefer (s : State) : Fin 2 := Fin.ofNat 2 (s.f F.BCN_CTL_prefer)

/-- The time service runs: tender 19 is alive under Standing Orders, and this keeper does not follow (R250). -/
def timeService (s : State) : Bool := s.prog.orders.isSome && s.alive 19 && !s.following && !s.emergency

/-- The start-up set to a domain: the beacon value that stands for PTP time at the start of the next PCLK cycle is committed as BCN_SET, and the
bits that the load clears as BCN_SLEW, at one PEG with the tie (R244). -/
def tieSet (s : State) (d : Fin 2) : State :=
  let old := s.f F.BCN_CTL_tie
  let v := wrapInt ((s.nextPclk : Int) + s.ptpTicks d) 64
  let s := ((s.setF F.BCN_SET_set v).hardSet v).setSlew (v % 8 : Nat)
  let s := s.setF F.BCN_CTL_tie (d.val + 1)
  let s : State := { s with bcn := { s.bcn with tied := true, tieing := false, waitOver := true } }
  (((s.tieChanged old).mirrorField F.BCN_SET_set).mirrorField F.BCN_SLEW_slew).mirrorField F.BCN_CTL_tie

/-- The start-up set: the preferred domain has locked within the wait, and the keeper is out of service (R244). -/
def tieStart (s : State) (d : Fin 2) : State :=
  if s.timeService ∧ ¬ s.bcn.tied ∧ ¬ s.bcn.waitOver ∧ s.bcn.waitFrom.isSome ∧ d = s.ptpPrefer ∧ ¬ s.inService then s.tieSet d else s

/-- A keeper that its wait left untied takes up the tie to a domain that has locked, by slewing alone (R244). -/
def tieLater (s : State) (d : Fin 2) : State :=
  if s.timeService ∧ ¬ s.bcn.tied ∧ s.bcn.waitOver ∧ s.f F.BCN_CTL_tie = 0 then
    let s := s.tieTo d
    { s with bcn := { s.bcn with tieing := true } }
  else s

/-- The slew towards a tie taken up late is done: the keeper is tied once an exchange shows its offset within lock_ns, and slews on else. DEDUCED: the
spec says that it becomes tied by slewing, and not at which offset. -/
def tieSlewed (s : State) (d : Fin 2) : State :=
  if ¬ s.bcn.tieing ∨ s.f F.BCN_CTL_tie ≠ d.val + 1 ∨ s.f F.BCN_SLEW_slew ≠ 0 then s
  else if (signedOf (s.f F.PTP_DOM_OFS_ofs d.val) 64).natAbs ≤ s.f F.PTP_DOM_CFG_lock_ns d.val * 65536 then
    { s with bcn := { s.bcn with tied := true, tieing := false } }
  else s.setSlew (s.ptpTicks d)

/-- The time service's choice of the tie, at every change of a domain, of the tie and of the role: with the tie FREE an untied keeper whose wait is over takes
up a LOCKED domain; the other domain, LOCKED, takes the tie of a LOST one; where neither is LOCKED the keeper is in holdover (R244, R255). DEDUCED: holdover
ends once either is LOCKED, as the rule sets it for neither. -/
def tieRules (s : State) : State :=
  let tie := s.f F.BCN_CTL_tie
  if ¬ s.timeService then s
  else if tie = 0 then
    match [s.ptpPrefer, 1 - s.ptpPrefer].find? s.ptpLocked with
    | some d => s.tieLater d
    | none => s
  else if tie = 3 then s
  else
    let d : Fin 2 := Fin.ofNat 2 (tie - 1)
    let o : Fin 2 := Fin.ofNat 2 (2 - tie)
    if s.f F.PTP_DOM_STAT_state d.val = 3 ∧ s.ptpLocked o then s.tieTo o
    else s.setFb F.BCN_STATUS_holdover (!(s.ptpLocked d || s.ptpLocked o))

/-- A commit of BCN_CTL: an untied keeper whose tie it sets to a domain becomes tied by the slew that the same PEG commits (R244, R255). -/
def tieCommitted (s : State) (old : Nat) : State :=
  let tie := s.f F.BCN_CTL_tie
  let s : State := if tie = old then s
    else { s with bcn := { s.bcn with tieing := !s.bcn.tied && decide (tie = 1 ∨ tie = 2) } }
  s.tieRules

/-- wait_s is over (R244): a domain that has locked, the preferred one first, gives the start-up set, or by slewing the tie of a keeper that is in service by
then; with none the beacon runs untied and the staggered start proceeds. -/
def tieWaitOver (s : State) : State :=
  match s.bcn.waitFrom with
  | none => s
  | some t =>
    if s.clk.held ∨ s.bcn.waitOver ∨ s.beacon < t + s.f F.BCN_CTL_wait_s * tickS then s
    else match [s.ptpPrefer, 1 - s.ptpPrefer].find? s.ptpLocked with
      | some d => if s.timeService ∧ ¬ s.bcn.tied ∧ ¬ s.inService then s.tieSet d
        else ({ s with bcn := { s.bcn with waitOver := true } } : State).tieRules
      | none => { s with bcn := { s.bcn with waitOver := true } }

/-- The preferred domain has been LOCKED for 60 s: the tie returns to it (R255). -/
def tieRevert (s : State) : State :=
  let d := s.ptpPrefer
  let tie := s.f F.BCN_CTL_tie
  match (s.ptp d).lockedAt with
  | none => s
  | some t =>
    if s.clk.held ∨ ¬ s.timeService ∨ ¬ s.fb F.BCN_CTL_revert ∨ ¬ (tie = 1 ∨ tie = 2) ∨ tie = d.val + 1 ∨ s.ptpLocked d = false ∨
        s.beacon < t + 60 * tickS then s
    else s.tieTo d

/-! ### The PTP engines (R252 to R254) -/

/-- The engine of a domain runs. -/
def ptpRuns (s : State) (d : Fin 2) : Bool := s.fb F.PTP_DOM_CFG_en d.val && !s.clk.held && decide (s.f F.MAC_STATUS_mode ≠ 0)

/-- A receive stamp: the beacon less the mode's correction and the module's latency (R253). -/
def rxStamp (s : State) (b : Nat) : Nat := b - s.f F.PTP_CORR_rx - s.f F.PTP_MOD_DLY_rx

/-- A transmit stamp (R253). -/
def txStamp (s : State) (b : Nat) : Nat := b + s.f F.PTP_CORR_tx + s.f F.PTP_MOD_DLY_tx

/-- A beacon value mapped to PTP time, in 2^-16 ns (R244). -/
def ptpTime (s : State) (b : Nat) : Int := (s.f F.BCN_EPOCH_sec : Int) * 65536000000000 + (b : Int) * tickSub

/-- A Sync of a domain from its selected master: stamped; its transmit time is in it from a one-step master (R252). -/
def ptpSync (s : State) (d : Fin 2) (source seq : Nat) (corr : Int) (t1 : Option Int) (logInt : Nat) : State :=
  if ¬ s.ptpRuns d ∨ (s.ptp d).master ≠ some source then s
  else
    let s := s.setFb F.PTP_DOM_STAT_two_step t1.isNone d.val
    let s := s.setF F.PTP_DOM_STAT_sync_log (logInt % 256) d.val
    let st := s.f F.PTP_DOM_STAT_state d.val
    let s := if st = 0 ∨ st = 3 then s.setF F.PTP_DOM_STAT_state 1 d.val else s
    s.updPtp d (fun x => { x with lastSync := s.beacon, req := none, sync := some (seq, s.rxStamp s.beacon, corr, t1) })

/-- A Follow_Up gives the transmit time of the Sync with its sequence number. -/
def ptpFollowUp (s : State) (d : Fin 2) (source seq : Nat) (corr t1 : Int) : State :=
  if ¬ s.ptpRuns d ∨ (s.ptp d).master ≠ some source then s
  else match (s.ptp d).sync with
    | some (q, t2, c, none) => if q = seq then s.updPtp d (fun x => { x with sync := some (q, t2, c + corr, some t1) }) else s
    | _ => s

/-- Lists compared element by element. -/
def listLt : List Nat → List Nat → Bool
  | [], _ => false
  | _, [] => false
  | a :: l, b :: m => decide (a < b) || (decide (a = b) && listLt l m)

/-- Masters heard within the last 6 s. PRESUMED: announceReceiptTimeout 3 at an announce interval of 2 s, the defaults of IEEE 1588. -/
def liveMasters (s : State) (l : List PtpMaster) : List PtpMaster := l.filter (fun m => decide (s.beacon < m.at_ + 6 * tickS))

/-- The best of the masters that have been heard twice (R252). PRESUMED: the qualification of foreign masters of IEEE 1588. -/
def bestMaster (l : List PtpMaster) : Option PtpMaster :=
  (l.filter (fun m => decide (2 ≤ m.heard))).foldl (fun b m =>
    match b with
    | none => some m
    | some x => if listLt m.rank x.rank then some m else some x) none

/-- An Announce feeds the selection of the master (R252). -/
def ptpAnnounce (s : State) (d : Fin 2) (source gm : Nat) (rank : List Nat) : State :=
  if ¬ s.ptpRuns d then s
  else
    let known := s.liveMasters (s.ptp d).masters
    let old := known.find? (fun m => decide (m.source = source))
    let m : PtpMaster := ⟨source, rank, gm, ((old.map (·.heard)).getD 0) + 1, s.beacon⟩
    let l := known.filter (fun m => decide (m.source ≠ source)) ++ [m]
    let best := bestMaster l
    let s := s.updPtp d (fun x => { x with masters := l, master := best.map (·.source), sync := if best.map (·.source) = x.master then x.sync else none })
    let s : State := match best with
      | some b => s.setF F.PTP_DOM_GM_gm (b.gm % 2 ^ 64) d.val
      | none => s
    if s.f F.PTP_DOM_STAT_state d.val = 0 then s.setF F.PTP_DOM_STAT_state 1 d.val else s

/-- The keeper sends a Delay_Req once the Sync's times are known, and stamps it. -/
def ptpDelayReq (s : State) (d : Fin 2) : State :=
  if ¬ s.ptpRuns d then s
  else match (s.ptp d).sync with
    | some (_, _, _, some _) =>
      let q := (s.ptp d).seq
      let t3 := s.txStamp s.beacon
      (s.updPtp d (fun x => { x with seq := (q + 1) % 65536, req := some (q, t3) })).netSend (.delayReq d.val q t3)
    | _ => s

/-- A domain becomes LOCKED. -/
def ptpLock (s : State) (d : Fin 2) : State :=
  let s := (s.setF F.PTP_DOM_STAT_state 2 d.val).updPtp d (fun x => { x with lockedAt := some s.beacon })
  ((s.raise (Ev.ptpLockA + d.val) 0 0).tieStart d).tieRules

/-- PTP_DOM_d_CFG.en changed: the engine starts from nothing and acquires, or is off (R252, R254). -/
def ptpEnable (s : State) (d : Fin 2) (was : Bool) : State :=
  let en := s.fb F.PTP_DOM_CFG_en d.val
  if was = en then s
  else
    let s := s.updPtp d (fun x => { PtpDom.init with seq := x.seq, lastSync := s.beacon })
    (s.setF F.PTP_DOM_STAT_state (b2n en) d.val).tieRules

/-- A domain becomes LOST. -/
def ptpLose (s : State) (d : Fin 2) : State :=
  let s := (s.setF F.PTP_DOM_STAT_state 3 d.val).updPtp d (fun x => { x with lockedAt := none, good := 0, bad := 0, sync := none, req := none })
  (s.raise (Ev.ptpLostA + d.val) 0 0).tieRules

/-- A Delay_Resp completes an exchange: the offset (PTP time less keeper time) and the mean path delay, and the lock state (R252,
R254). -/
def ptpDelayResp (s : State) (d : Fin 2) (source seq : Nat) (corr t4 : Int) : State :=
  if ¬ s.ptpRuns d ∨ (s.ptp d).master ≠ some source then s
  else match (s.ptp d).sync, (s.ptp d).req with
    | some (_, t2, c, some t1), some (q, t3) =>
      if q ≠ seq then s
      else
        let up := s.ptpTime t2 - t1 - c
        let back := t4 - s.ptpTime t3 - corr
        let ofs := -((up - back) / 2)
        let dly := (up + back) / 2
        let s := s.setF F.PTP_DOM_OFS_ofs (wrapInt ofs 64) d.val
        let s := s.setF F.PTP_DOM_DLY_dly (wrapInt dly 64) d.val
        let s := s.setF F.PTP_DOM_STAT_exchanges ((s.f F.PTP_DOM_STAT_exchanges d.val + 1) % 2 ^ 32) d.val
        let abs := ofs.natAbs
        let good := if abs ≤ s.f F.PTP_DOM_CFG_lock_ns d.val * 65536 then (s.ptp d).good + 1 else 0
        let bad := if 1000 * 65536 < abs then (s.ptp d).bad + 1 else 0
        let s := s.updPtp d (fun x => { x with good := good, bad := bad, sync := none, req := none })
        let st := s.f F.PTP_DOM_STAT_state d.val
        let s := if 16 ≤ good ∧ st ≠ 2 then s.ptpLock d
          else if 16 ≤ bad ∧ st ≠ 3 then s.ptpLose d
          else s.tieSlewed d
        if s.timeService ∧ s.bcn.tied ∧ s.f F.BCN_CTL_tie = d.val + 1 ∧ s.ptpLocked d then s.steer else s
    | _, _ => s

/-- No valid Sync for loss_ms (R254). -/
def ptpSyncLoss (s : State) (d : Fin 2) : State :=
  let st := s.f F.PTP_DOM_STAT_state d.val
  if s.clk.held ∨ ¬ (st = 1 ∨ st = 2) ∨ s.beacon < (s.ptp d).lastSync + s.f F.PTP_DOM_CFG_loss_ms d.val * tickMs then s
  else s.ptpLose d

/-! ### 1PPS (R256, R259) -/

/-- A whole second of the beacon: the time record, and 1PPS out. -/
def ppsOut (s : State) : State :=
  if s.clk.held ∨ s.beacon % tickS ≠ 0 then s
  else
    let s := s.timeRecord
    if s.fb F.PTP_PPS_out_en then
      ({ s with bcn := { s.bcn with ppsFall := some (s.beacon + s.f F.PTP_PPS_width_us * tickUs) } } : State).send (.pin "PPS_OUT" true)
    else s

/-- 1PPS out falls width_us after its rise. -/
def ppsFalls (s : State) : State :=
  match s.bcn.ppsFall with
  | none => s
  | some t => if s.beacon < t then s else ({ s with bcn := { s.bcn with ppsFall := none } } : State).send (.pin "PPS_OUT" false)

/-- PTP_PPS.in_en rises: the 1.1 s of PPS_IN_LOST begin. -/
def ppsEnable (s : State) (was : Bool) : State :=
  if ¬ was ∧ s.fb F.PTP_PPS_in_en then { s with bcn := { s.bcn with ppsAt := s.beacon, ppsLost := false } } else s

/-- A rising edge of 1PPS in; tie PPS of a keeper that a domain has tied before, and that does not follow, steers the phase to the nearest second
boundary (R250, R256). -/
def ppsIn (s : State) : State :=
  if s.clk.held ∨ ¬ s.fb F.PTP_PPS_in_en then s
  else
    let s := s.setF F.PTP_PPS_IN_time s.beacon
    let s : State := { s with bcn := { s.bcn with ppsAt := s.beacon, ppsLost := false } }
    if s.f F.BCN_CTL_tie = 3 ∧ s.bcn.tied ∧ ¬ s.following then
      let r := s.beacon % tickS
      s.setSlew (if 2 * r < tickS then -(r : Int) else (tickS : Int) - r)
    else s

/-- No edge of 1PPS in for 1.1 s: PPS_IN_LOST once. -/
def ppsLost (s : State) : State :=
  if s.clk.held ∨ ¬ s.fb F.PTP_PPS_in_en ∨ s.bcn.ppsLost ∨ s.beacon < s.bcn.ppsAt + 1100 * tickMs then s
  else ({ s with bcn := { s.bcn with ppsLost := true } } : State).raise Ev.ppsInLost 0 0

/-! ### The transmit timestamp queue (R257) -/

/-- A two-step transmit stamp enters the queue, or is dropped and counted; PTP_TS_DROPPED at most once per millisecond. -/
def tsqPush (s : State) (tag : Nat) : State :=
  if s.bcn.tsq.length < 64 then { s with bcn := { s.bcn with tsq := s.bcn.tsq ++ [(s.txStamp s.beacon, tag)] } }
  else
    let s := s.bump F.PTP_TSQ_STAT_dropped
    let k := s.bcn.tsDrop.1 + 1
    if s.bcn.tsDrop.2.all (fun t => decide (t + tickMs ≤ s.beacon)) then
      ({ s with bcn := { s.bcn with tsDrop := (0, some s.beacon) } } : State).raise Ev.ptpTsDropped 0 (BitVec.ofNat 64 k)
    else { s with bcn := { s.bcn with tsDrop := (k, s.bcn.tsDrop.2) } }

/-- The head entry removed by a read of PTP_TSQ_TAG. -/
def tsqPop (s : State) : State := { s with bcn := { s.bcn with tsq := s.bcn.tsq.tail } }

/-! ### The pair's skew (R250) -/

/-- The skew computed from a pair of sync words: BCN_PAIR, BCN_PAIR_SKEW, and the follower's steering by trim and slew. -/
def pairSkew (s : State) (t1 t2 t3 t4 : Nat) : State :=
  let k : Int := (16 * (((t2 : Int) - t1) - ((t4 : Int) - t3))) / 2
  let s := s.setF F.BCN_PAIR_skew (wrapInt k 32)
  let s := if s.following then s.steer else s
  let s := if s.following ∧ 16 ≤ k.natAbs then s.setSlew (-(k / 16)) else s
  let s : State := if k.natAbs < 16 ∧ s.bcn.hardPend = none ∧ s.f F.BCN_SLEW_slew = 0 then { s with bcn := { s.bcn with starting := false } } else s
  if 32 < k.natAbs then
    let raised := s.bcn.skewOut
    let s : State := { s with bcn := { s.bcn with skewOut := true, skewInSince := none } }
    if raised then s else s.raise Ev.bcnPairSkew 0 0
  else
    match s.bcn.skewOut, s.bcn.skewInSince with
    | true, none => { s with bcn := { s.bcn with skewInSince := some s.beacon } }
    | true, some t => if t + tickMs ≤ s.beacon then { s with bcn := { s.bcn with skewOut := false, skewInSince := none } } else s
    | false, _ => s

/-! ### The staggered start (13 R273) -/

/-- Ticks from one unit of the keeper to the next. -/
def unitGap (k : Nat) : Nat := if k < 8 then 10 * tickMs else if k < 14 then 2 * tickMs else 100 * tickUs

/-- A unit of the keeper has been started: 0 to 7 the LPDDR5X groups, 8 to 11 the Buoy lanes of four slots each, 12 the pair lanes with
the Lens lanes, 13 the Ethernet lanes, 14 to 21 the tiles. -/
def unitStarted (s : State) (k : Nat) : Bool := decide (k < s.mor.unit.1)

/-- A unit of the keeper starts: what trains on its own terms is only enabled here, a Buoy link begins to train, a tile its self-test. -/
def startUnit (s : State) (k : Nat) : State :=
  if k < 8 then s
  else if k < 12 then ((List.range 4).map (fun j => (Fin.ofNat 16 (4 * (k - 8) + j) : Slot))).foldl (fun s p => s.linkStart p) s
  else if k < 14 then s
  else s.plbStart (Fin.ofNat 8 (k - 14))

/-- The slot sequence may begin: the keeper's own units have started, the Standing Orders are in force, and the beacon is tied or its
wait is over. -/
def seqReady (s : State) : Bool :=
  s.control && decide (22 ≤ s.mor.unit.1) && s.prog.orders.isSome && (s.bcn.tied || s.bcn.waitOver) && s.mor.strapsRead &&
    s.mor.seqBase.isNone && s.mor.released.isSome

/-- The next unit or slot of the staggered start begins. -/
def staggerStep (s : State) : State :=
  if s.clk.held then s
  else if s.mor.unit.1 < 22 then
    match s.mor.unit.2 with
    | none => s
    | some d =>
      if s.beacon < d then s
      else
        let k := s.mor.unit.1
        let s := (s.startUnit k).raise Ev.staggerStep 0 0
        { s with mor := { s.mor with unit := (k + 1, some (s.beacon + unitGap (k + 1))) } }
  else
    let s :=
      if s.seqReady then
        let s : State := (({ s with mor := { s.mor with seqBase := some s.beacon, lastStart := none } } : State).checkOrder)
        let s := s.mirrorItem 7 (.sequence true false) .nothing
        s.pwrOrder.zipIdx.foldl (fun s x =>
          if s.slotPresent x.1 ∧ (s.mo x.1).phase = 1 ∧ ((s.mo x.1).seq.isNone ∨ (s.mo x.1).seq = some (.queued, none)) ∧ ¬ (s.mo x.1).powered then
            s.updMo x.1 (fun m => { m with seq := some (.queued, some (s.beacon + x.2 * s.pwrSpacing)) })
          else s) s
      else s
    if ¬ s.control then s
    else match s.pwrOrder.find? (fun n => s.rowDue n .queued) with
      | none => s.staggerCheck
      | some n => s.startSlot n

end State
end Sys2Proof.Machine
end

