-- ==== Sys2Proof/Machine/ScfData.lean ====
section
/-! DEFINITION. The layouts of Scarf: segment records, manifests, the commit record, the reproducibility tuple (11 R216 to R218, R224,
08 R159). -/

namespace Sys2Proof.Machine

/-! ### Segment records (R216) -/

/-- The 96 bytes of a record. -/
def SegRec.bytes (r : SegRec) : List Byte :=
  leBytes r.off 8 ++ leBytes r.stored 4 ++ leBytes r.raw 4 ++ leBytes r.grain 4 ++ leBytes r.tensor 4 ++ leBytes r.toff 8 ++
    leBytes r.slot 1 ++ leBytes (b2n r.isRaw) 1 ++ leBytes 0 2 ++ leBytes r.index 4 ++ r.digest ++ List.replicate 8 0

/-- The record of 96 bytes. -/
def segRecOf (b : List Byte) : SegRec :=
  { off := numAt b 0 8, stored := numAt b 8 4, raw := numAt b 12 4, grain := numAt b 16 4, tensor := numAt b 20 4
    toff := numAt b 24 8, slot := numAt b 0x20 1, isRaw := bitOf (numAt b 0x21 1) 0, index := numAt b 0x24 4, digest := cut b 0x28 48 }

/-- Two records have the same coordinates, raw length and digest (R231). -/
def SegRec.same (a b : SegRec) : Bool :=
  decide (a.slot = b.slot ∧ a.grain = b.grain ∧ a.tensor = b.tensor ∧ a.toff = b.toff ∧ a.raw = b.raw ∧ a.digest = b.digest)

/-! ### Manifests (R217, R218) -/

/-- Pseudo-grain of the replicated tensors. -/
def replGrain : Nat := 0xFFFFFFFF

/-- Shard area of a slot within an image slot (R210). -/
def shardArea (slot : Nat) : Nat := slot * 0x3C0000000

/-- Records of a manifest. -/
def manRecs (m : List Byte) : List SegRec := (List.range (numAt m 0x2C 4)).map (fun i => segRecOf (cut m (0xA00 + 96 * i) 96))

/-- Step, image_seq, job, tray, arrangement generation, present slots of a manifest. -/
def manStep (m : List Byte) : Nat := numAt m 8 8
def manSeq (m : List Byte) : Nat := numAt m 0x10 8
def manJob (m : List Byte) : Nat := numAt m 0x18 8
def manTray (m : List Byte) : Nat := numAt m 0x20 2
def manArr (m : List Byte) : Nat := numAt m 0x28 4
def manSlots (m : List Byte) : Nat := numAt m 0x24 2

/-- The length that a manifest's header names. -/
def manLength (m : List Byte) : Nat := 0xA00 + 96 * numAt m 0x2C 4 + 144

/-- A manifest is whole, of its format, with the right digest, signed under a key. -/
def manGood (m key : List Byte) : Bool :=
  let n := manLength m - 144
  decide (m.length = n + 144 ∧ m.take 4 = [0x53, 0x43, 0x4D, 0x46] ∧ numAt m 4 2 = 1 ∧ cut m n 48 = sha384 (m.take n)) &&
    verifyBytes key (m.take n) (cut m (n + 48) 96)

/-- The digest field of a manifest. -/
def manDigest (m : List Byte) : List Byte := cut m (manLength m - 144) 48

/-- Lists of bytes in ascending order, without repeats. -/
def insertBytes (x : List Byte) : List (List Byte) → List (List Byte)
  | [] => [x]
  | y :: r => if x = y then y :: r else if beNat x < beNat y then x :: y :: r else y :: insertBytes x r

/-- Programs in ascending program_id. -/
def insertProg (x : Program) : List Program → List Program
  | [] => [x]
  | y :: r => if x.pid < y.pid then x :: y :: r else y :: insertProg x r

/-- The shard digest (R217). -/
def shardDigest (l : List SegRec) : List Byte := sha384 (l.flatMap (fun r => r.digest))

namespace State

/-! ### The reproducibility tuple (08 R159) -/

/-- Owner programs bound to some tender; while a replacement has taken effect on some of a program's tenders only, both versions (05 R92). -/
def boundPrograms (s : State) : List Program :=
  ((allTenders.filterMap (fun i => s.progOf i)).eraseDups).foldl (fun l p => insertProg p l) []

/-- The firmware digest that the holder of a slot announced last; zeros where it has announced none (DESIGN CHOICE). -/
def firmwareOf (s : State) (n : Slot) : List Byte := ((s.mo n).fw).getD (List.replicate 48 0)

/-- The 384 bytes of the tuple, for an image of some slots. -/
def tuple (s : State) (mask : Nat) : List Byte :=
  let j := s.trs.job
  sha384 ((s.prog.orders.map (·.digest)).getD []) ++
    sha384 (s.boundPrograms.flatMap (fun p => p.digest ++ leBytes p.tenders 4)) ++
    sha384 ((((maskSlots mask).filterMap (fun n => (s.mo n).fw)).foldl (fun l b => insertBytes b l) []).flatten) ++
    sha384 ((j.map (·.mapDigest)).getD []) ++
    sha384 (leBytes (2 ^ s.lgG) 8) ++
    sha384 ((j.map (·.planDigest)).getD []) ++
    sha384 (leBytes s.planSeed 8) ++
    sha384 (s.trs.dataOrder.getD [])

/-! ### The commit record (R224) -/

/-- Address of the commit word of the own (0) or buddy (1) images. -/
def commitAddr (w : Nat) : Nat := 0x203FF000 + 16 * w

/-- A commit word: step, count, place, valid. -/
def commitWord (s : State) (w : Nat) : Nat := s.rdNat (commitAddr w) 16
def commitStep (s : State) (w : Nat) : Nat := bits (s.commitWord w) 0 64
def commitPlace (s : State) (w : Nat) : Nat := bits (s.commitWord w) 96 1
def commitValid (s : State) (w : Nat) : Bool := bitOf (s.commitWord w) 97

/-- The descriptor of an image slot written: step, image_seq, manifest length, state, manifest digest. -/
def setDesc (s : State) (i step seq len state : Nat) (digest : List Byte) : State :=
  s.wrBytes (0x203FF020 + 0x60 * i)
    (leBytes step 8 ++ leBytes seq 8 ++ leBytes len 4 ++ leBytes state 1 ++ List.replicate 27 0 ++ digest)

/-- A descriptor's fields: manifest length and digest, state. -/
def descLen (s : State) (i : Nat) : Nat := s.rdNat (0x203FF020 + 0x60 * i + 16) 4
def descDigest (s : State) (i : Nat) : List Byte := s.rdBytes (0x203FF020 + 0x60 * i + 48) 48

/-- The status and step registers show the commit record. -/
def showCommit (s : State) : State :=
  let s := s.setF F.SCF_STATUS_own_slot (s.commitPlace 0)
  let s := s.setFb F.SCF_STATUS_own_valid (s.commitValid 0)
  let s := s.setF F.SCF_STATUS_buddy_slot (s.commitPlace 1)
  let s := s.setFb F.SCF_STATUS_buddy_valid (s.commitValid 1)
  let s := s.setF F.SCF_STEP_step (s.commitStep 0)
  s.setF F.SCF_BSTEP_bstep (s.commitStep 1)

/-- The swap: one 16-byte write of a commit word, which is the commit. -/
def commitSwap (s : State) (w step place : Nat) : State :=
  let count := bits (s.commitWord w) 64 32
  let v := step % 2 ^ 64 + place_ ((count + 1) % 2 ^ 32) 64 + place_ place 96 + place_ 1 97
  (s.wrNat (commitAddr w) 16 v).showCommit
where
  /-- a number at a bit position -/
  place_ (x lo : Nat) : Nat := x <<< lo

/-- A commit word marked invalid. -/
def commitInvalid (s : State) (w : Nat) : State := (s.wrNat (commitAddr w) 16 (s.commitWord w % 2 ^ 97)).showCommit

/-! ### Image slots and the manifest area (R210, R218) -/

/-- Base of image slot `i` and of its manifest. -/
def imgBase (s : State) (i : Nat) : Nat := s.f F.SCF_IMG_BASE_base i
def manBase (s : State) (i : Nat) : Nat := s.f F.SCF_MAN_BASE_mbase + 0x1000000 * i

/-- Bytes stored where an LPDDR5X base is set. -/
def lpStore (s : State) (a : Nat) (b : List Byte) : State := if isLpddr a then s.blockStore 9 a b else s

/-- The manifest of image slot `i` as its descriptor gives it. -/
def manAt (s : State) (i : Nat) : List Byte := s.rdBytes (s.manBase i) (s.descLen i)

/-- The committed own manifest. -/
def ownManifest (s : State) : List Byte := s.manAt (s.commitPlace 0)

/-- A segment's stored form in an image slot, decoded and checked against its record: none where it cannot be read, decoded or does not
match. -/
def segAt (s : State) (i : Nat) (r : SegRec) : Option (List Byte) :=
  let a := s.imgBase i + r.off
  if ¬ s.blockReads a r.stored then none
  else match Grain.load (s.rdBytes a r.stored) r.raw r.isRaw with
    | some b => if sha384 b = r.digest then some b else none
    | none => none

/-- What the reading of a segment's stored form meets is reported (17 R344). -/
def segMeets (s : State) (i : Nat) (r : SegRec) : State := s.blockMeets 9 (s.imgBase i + r.off) r.stored

end State

/-- A shard entry of a manifest (R217). -/
def shardEntry (holder present repl grains first : Nat) (l : List SegRec) (fw : List Byte) : List Byte :=
  leBytes holder 2 ++ leBytes (present + 2 * repl) 2 ++ leBytes grains 4 ++ leBytes ((l.map (·.raw)).sum) 8 ++
    leBytes ((l.map (·.stored)).sum) 8 ++ leBytes first 4 ++ leBytes l.length 4 ++
    (if present = 1 then shardDigest l else List.replicate 48 0) ++ fw

namespace State

/-- The manifest of the image in progress, signed under the MANIFEST key (R218). -/
def buildManifest (s : State) (g : ScfImage) : List Byte :=
  let recs := g.segs.map (·.rcd)
  let shard (n : Slot) : List Byte :=
    let l := recs.filter (fun r => decide (r.slot = n.val))
    let first := (recs.filter (fun r => decide (r.slot < n.val))).length
    let present := b2n (bitOf g.mask n.val)
    shardEntry (s.holderOf n) present (b2n (decide (present = 1 ∧ g.repl = n.val))) (g.grains.getD n.val 0) first l
      (if present = 1 then s.firmwareOf n else List.replicate 48 0)
  let b := [(0x53 : Byte), 0x43, 0x4D, 0x46] ++ leBytes 1 2 ++ leBytes s.ownPort 1 ++ leBytes g.lgG 1 ++ leBytes g.step 8 ++
    leBytes g.seq 8 ++ leBytes g.jobId 8 ++ leBytes (s.f F.GLB_TRAY_tray) 2 ++ leBytes g.buddy 2 ++ leBytes g.mask 2 ++ leBytes 0 2 ++
    leBytes g.arrGen 4 ++ leBytes recs.length 4 ++ leBytes g.boundary 8 ++ leBytes 0 8 ++ g.tuple ++ g.arrDigest ++
    List.replicate 16 0 ++ allSlots.flatMap shard ++ recs.flatMap SegRec.bytes
  b ++ sha384 b ++ s.signBytes 1 b

end State
end Sys2Proof.Machine
end

