-- ==== Sys2Proof/Machine/ScfOps.lean ====
section
/-! DEFINITION. Scarf: taking a step, ingest, replication to the counterpart, commit, discard, and the receiving side
(11 R210 to R233). -/

namespace Sys2Proof.Machine

/-- A byte string cut into fragments of at most `n` bytes, with their offsets; the first argument bounds their number. -/
def fragments (n : Nat) : Nat → Nat → List Byte → List (Nat × List Byte)
  | 0, _, _ => []
  | _, _, [] => []
  | k + 1, off, b => (off, b.take n) :: fragments n k (off + n) (b.drop n)

/-- Fragments put together while they follow one another from offset 0. -/
def gather (l : List (Nat × List Byte)) : Nat → List Byte → List Byte
  | 0, acc => acc
  | k + 1, acc =>
    match l.find? (fun x => decide (x.1 = acc.length ∧ x.2 ≠ [])) with
    | none => acc
    | some x => gather l k (acc ++ x.2)

/-- Extents cover the first `n` bytes. -/
def covers (l : List (Nat × Nat)) (n : Nat) : Nat → Nat → Bool
  | 0, at_ => decide (n ≤ at_)
  | k + 1, at_ =>
    if n ≤ at_ then true
    else match l.find? (fun x => decide (x.1 ≤ at_ ∧ at_ < x.1 + x.2)) with
      | none => false
      | some x => covers l n k (x.1 + x.2)

/-- Widths and lengths of a segment's sections (R221): the tensor's storage format, width 1 for a scale array. -/
def sectionWidths (fmts : List (Nat × Nat)) (l : List (Nat × Nat × Bool)) : List (Nat × Nat) :=
  l.map (fun x => (if x.2.2 then 0 else (((fmts.find? (fun f => decide (f.1 = x.1))).map (fun f => Grain.lgWidth f.2)).getD 0), x.2.1))

/-! ### Kinds of replication frames (R229) -/
namespace Rk
def hello : Nat := 1
def segHead : Nat := 2
def segData : Nat := 3
def segRef : Nat := 4
def segAck : Nat := 5
def segNak : Nat := 6
def prepare : Nat := 7
def prepared : Nat := 8
def commit : Nat := 9
def committed : Nat := 10
def abort : Nat := 11
def fetch : Nat := 12
def keepalive : Nat := 13
end Rk

namespace State

/-! ### State of the own image -/

/-- SCF_STATUS.state. -/
def scfState (s : State) : Nat := s.f F.SCF_STATUS_state

/-- The state byte of an image slot's descriptor (R224). -/
def descState (s : State) (i v : Nat) : State := s.wrBytes (0x203FF034 + 0x60 * i) (leBytes v 1)

/-- The image's state: in SCF_STATUS and in the descriptor of its slot. -/
def setScfState (s : State) (v : Nat) : State :=
  let s := s.setF F.SCF_STATUS_state v
  match s.scf.img with
  | none => s
  | some g => s.descState g.place v

def updImg (s : State) (h : ScfImage → ScfImage) : State := { s with scf := { s.scf with img := s.scf.img.map h } }

/-! ### Frames to the counterpart (R228 to R230) -/

/-- One replication frame to the counterpart in KCP_CTL.stamp_n asks for a two-step transmit stamp, which enters the queue (16 "Associations",
12 R257). The stamp identifier, which no rule states, is a free value. -/
def scfStamp (s : State) : Option Nat × State :=
  let n := s.f F.KCP_CTL_stamp_n
  if n = 0 then (none, s)
  else if s.scf.stampIn + 1 < n then (none, { s with scf := { s.scf with stampIn := s.scf.stampIn + 1 } })
  else
    let (k, s) := ({ s with scf := { s.scf with stampIn := 0 } } : State).draw
    (some (k % 65536), s.tsqPush (k % 65536))

/-- The tray at the other end of an association. -/
def assocTray (s : State) (assoc : Nat) : Nat :=
  if assoc = 0 then s.scf.buddy.getD 0
  else if assoc = 5 then s.f F.GLB_TRAY_tray
  else match s.scf.plan.bind (fun p => p.srcs[assoc - 1]?) with
    | some x => if assoc ≤ 4 then x.holder % 4096 else 0
    | none => ((s.scf.served.find? (fun x => decide (x.no = assoc))).map (·.tray)).getD 0

/-- The 64-byte header of a replication frame, big-endian (R228, 00 R2). -/
def replHeader (s : State) (assoc kind step seq seg off flags value len : Nat) : List Byte :=
  beBytes 0x5346 2 ++ beBytes 1 1 ++ beBytes kind 1 ++ beBytes (s.f F.GLB_TRAY_tray + place s.ownPort 15 1) 2 ++ beBytes (s.assocTray assoc) 2 ++
    beBytes ((s.trs.job.map (·.jobId)).getD 0) 8 ++ beBytes step 8 ++ beBytes seq 8 ++ beBytes seg 4 ++ beBytes off 4 ++ beBytes len 2 ++
    beBytes flags 2 ++ beBytes value 4 ++ List.replicate 16 0

/-- The session number of an association (16 R323). -/
def assocSession (n : Nat) : Nat := if n = 0 then 0xFE else 0xFD

/-- The KCP frame that carries a replication frame on an open association: class REPLICATION, its seq counting frames for the nonce only (16 R324, R325). -/
def assocFrame (s : State) (a : ScfAssoc) (stamp : Option Nat) (b : List Byte) : List Byte :=
  let h := s.kcpHeader 0xC (assocSession a.no) (if stamp.isSome then 2 else 0) (a.sent + 1) 0 0 b.length 0 (stamp.getD 0)
  let c := Gcm.sealed a.keyOut (s.kcpNonce (b2n (!a.initiator)) (a.sent + 1)) h b
  h ++ c.1 ++ c.2

/-- A frame leaves on an association, sealed where it goes over the port (5 is the pair link). Before the association has its keys nothing can be sealed, and
nothing leaves (16 R325); the responder of emergency-light mode sends no replication (16 R337). -/
def assocSend (s : State) (n : Nat) (stamp : Option Nat) (header data : List Byte) : State :=
  if n = 5 then s.pairPut (.scf n header data [])
  else match s.scf.assocs.find? (fun a => decide (a.no = n ∧ a.keyOut ≠ [])) with
    | none => s
    | some a =>
      let w := s.assocFrame a stamp (header ++ data)
      let s : State := { s with scf := { s.scf with assocs := s.scf.assocs.map (fun (b : ScfAssoc) => if b = a then { b with sent := b.sent + 1 } else b) } }
      if s.emergency then s else s.netSend (.scf n header data w)

/-- A replication frame of an association. -/
def scfSend (s : State) (assoc kind step seq seg off flags value : Nat) (data : List Byte) : State :=
  let (st, s) := if assoc = 0 then ({ s with scf := { s.scf with lastTx := s.beacon } } : State).scfStamp else (none, s)
  s.assocSend assoc st (s.replHeader assoc kind step seq seg off flags value data.length) data

/-- The most data bytes of a frame: 8,832, and the port's MTU less 168. -/
def scfMax (s : State) : Nat := min 8832 (s.f F.MAC_CTL_mtu - 168)

/-- A byte string sent as fragments of a kind, the last one flagged. -/
def scfBytes (s : State) (assoc kind step seq seg flags : Nat) (b : List Byte) : State :=
  let l := fragments s.scfMax (b.length + 1) 0 b
  l.foldl (fun s x => s.scfSend assoc kind step seq seg x.1
    (flags + (if x.1 + x.2.length = b.length then 2 else 0)) 0 x.2) s

/-- The counterpart answers. -/
def buddyUp (s : State) : Bool := s.fb F.SCF_STATUS_buddy_up

/-- A HELLO: what this keeper's buddy slots hold (R229). -/
def sendHello (s : State) : State :=
  let valid := s.commitValid 1 && !s.scf.buddyGap
  let recvState := match s.scf.recv with
    | none => if valid then 3 else 0
    | some r => if r.prepared.isSome then 2 else 1
  let c := if valid then manSeq (s.manAt (2 + s.commitPlace 1)) else 0
  let d := beBytes c 8 ++ beBytes (if valid then s.commitStep 1 else 0) 8 ++ beBytes ((s.scf.recv.map (·.seq)).getD 0) 8 ++
    beBytes ((s.scf.recv.map (·.step)).getD 0) 8
  s.scfSend 0 Rk.hello ((s.scf.img.map (·.step)).getD 0) ((s.scf.img.map (·.seq)).getD 0) 0 0 0
    (recvState + 8 * b2n valid) d

/-! ### Record numbers and replication (R216, R230, R231) -/

/-- Segments that a slot announced. -/
def announcedCount (g : ScfImage) (n : Nat) : Option Nat := (g.announced.find? (fun x => decide (x.1 = n))).map (·.2.2)

/-- The number in the segment table of a slot's segment: none while a lower image slot has not announced its count. -/
def segNumber (g : ScfImage) (slot index : Nat) : Option Nat :=
  (List.range slot).foldl (fun a n => do
    let x ← a
    if bitOf g.mask n then (do let c ← announcedCount g n; some (x + c)) else some x) (some index)

/-- A segment sent: a reference where the counterpart holds it already, else its record and its stored form. One that cannot be read is not sent, and what
its reading met is reported (17 R344, R347). -/
def sendSegment (s : State) (g : ScfImage) (x : ScfSeg) (no : Nat) : State :=
  let s := s.updImg (fun g => { g with segs := g.segs.map (fun y => if y.rcd.slot = x.rcd.slot ∧ y.rcd.index = x.rcd.index then
    { y with sentAt := some s.beacon } else y) })
  if ¬ g.full ∧ ¬ x.noRef ∧ s.scf.refs.any (fun r => r.same x.rcd) then
    (s.bump F.SCF_REPL_CNT_refs).scfSend 0 Rk.segRef g.step g.seq no 0 0 0 x.rcd.bytes
  else if ¬ s.blockReads (s.imgBase g.place + x.rcd.off) x.rcd.stored then s.segMeets g.place x.rcd
  else
    let s := s.scfSend 0 Rk.segHead g.step g.seq no 0 0 0 x.rcd.bytes
    s.scfBytes 0 Rk.segData g.step g.seq no 0 (s.rdBytes (s.imgBase g.place + x.rcd.off) x.rcd.stored)

/-- Durable segments go to the counterpart while the window has room, and not while the image before is COMMITTING (R230, R223). -/
def scfPump : Nat → State → State
  | 0, s => s
  | k + 1, s =>
    match s.scf.img with
    | none => s
    | some g =>
      let flying := (g.segs.filter (fun x => x.sentAt.isSome && !x.acked)).length
      if ¬ s.buddyUp ∨ s.scf.awaiting.isSome ∨ s.f F.SCF_REPL_window ≤ flying then s
      else match g.segs.find? (fun x => x.durable && x.sentAt.isNone && !x.acked && (segNumber g x.rcd.slot x.rcd.index).isSome) with
        | none => s
        | some x => scfPump k (s.sendSegment g x ((segNumber g x.rcd.slot x.rcd.index).getD 0))

/-- Replication goes on. -/
def scfGo (s : State) : State := scfPump (((s.scf.img.map (fun g => g.segs.length)).getD 0) + 1) s

/-- The manifest sent as PREPARE fragments. -/
def sendPrepare (s : State) (g : ScfImage) (m : List Byte) : State := s.scfBytes 0 Rk.prepare g.step g.seq 0 0 m

/-! ### Releasing, discarding, skipping (R213, R226, R15) -/

/-- The Buoys of an image release their shards. -/
def releaseShards (s : State) : State :=
  match s.scf.img with
  | none => s
  | some g =>
    if g.released then s
    else (s.toBuoys (maskSlots g.tags) "SHARD_RELEASE" [g.step]).updImg (fun g => { g with released := true })

/-- The image in progress is gone: no slot in an image; state IDLE, or COMMITTING where the image before still is. -/
def dropImage (s : State) : State :=
  let s := s.setScfState 0
  let s : State := { s with scf := { s.scf with img := s.scf.awaiting, awaiting := none, peerPrepared := none } }
  let s := match s.scf.img with
    | none => s
    | some g => (s.setF F.SCF_STATUS_state 5).setF F.SCF_PSTEP_pstep g.step
  allSlots.foldl (fun s n => s.setReg (F.SCF_SLOT_STAT_state.base + 0x10 * n.val) 0) s

/-- An image that was to be a full one ends without a commit: the next one is full (R231). -/
def keepFull (s : State) : State := { s with scf := { s.scf with needFull := s.scf.needFull || s.scf.img.any (·.full) } }

/-- The image in progress is discarded: SCF_DISCARD, the shards released, ABORT to the counterpart (R226). After the swap a discard has
no effect. -/
def scfDiscard (s : State) : State :=
  match s.scf.img with
  | none => s
  | some g =>
    if s.scfState = 0 ∨ s.scfState = 5 then s
    else
      let s := s.releaseShards
      let s := s.scfSend 0 Rk.abort g.step g.seq 0 0 0 0 []
      let s := s.keepFull.dropImage
      let s := s.bump F.SCF_CNT_discards
      s.raise Ev.scfDiscard 0 (BitVec.ofNat 64 g.step)

/-- A step is skipped for a reason (R15, R212, R213). -/
def scfSkip (s : State) (step reason : Nat) : State :=
  let s := { s with scf := { s.scf with skipped := some step } }
  (s.bump F.SCF_CNT_skipped).raise Ev.scfStepSkipped 0 (BitVec.ofNat 64 (place step 0 48 + place reason 48 8))

/-! ### Taking a step (R211 to R213, R9) -/

/-- Slots whose holder holds grains in the arrangement in force. -/
def imageSlots (s : State) : Nat := slotsMask (allSlots.filter (fun n => decide (s.f F.TRS_SCHED_grains n.val ≠ 0)))

/-- The buddy tray that is set. -/
def buddySet (s : State) : Option Nat := if s.fb F.SCF_BUDDY_valid then some (s.f F.SCF_BUDDY_tray) else none

/-- The address that a source of a restore descriptor gives, as one number (R236). -/
def srcAddr (kind : Nat) (b : List Byte) : Nat := if kind = 0 then beNat (b.take 4) else beNat (b.take 16)

/-- OPEN of an association: the nonce and the ephemeral key are free values, the body is signed under the SESSION key; it goes to the UDP port of this
keeper's own KCP_PORT (R236, 16 R326, R335). DESIGN CHOICE: privilege and key are zero. -/
def assocStart (s : State) (n hop : Nat) (addr : List Byte) : State :=
  let (k, s) := s.draw
  let (e, s) := s.draw
  let eph := e % (P384.n - 1) + 1
  let b := List.replicate 16 0 ++ beBytes k 32 ++ P384.publicKey eph ++ List.replicate 15 0
  let b := b ++ s.signBytes 3 b
  let s : State := { s with scf := { s.scf with assocs := s.scf.assocs.filter (fun (a : ScfAssoc) => decide (a.no ≠ n)) ++ [⟨n, b, eph, [], [], true, 0⟩] } }
  s.netSendTo hop (.assocOpen n addr (s.f F.KCP_PORT_udp) (s.plainHeader 1 0 b.length) b)

/-- OPEN to the counterpart, the keeper of the buddy tray whose strap is this keeper's own, at the address that BUDDY named (R211, 16 R335). DESIGN
CHOICE: each of the two opens, and the keys agreed last hold. -/
def buddyOpen (s : State) : State :=
  match s.kcp.buddyIds with
  | none => s
  | some (a, b, _, _) =>
    let addr := if s.clk.relief then b else a
    s.assocStart 0 addr (leBytes addr 19)

/-- The buddy that a step takes: a change takes effect here, and its first image is a full one (R9, R231). -/
def takeBuddy (s : State) : State :=
  let new := s.buddySet
  let s := match s.kcp.buddyNext with
    | none => s
    | some ids => ({ s with kcp := { s.kcp with buddyIds := some ids, buddyNext := none } } : State)
  if new = s.scf.buddy then s
  else
    let s : State := { s with scf := { s.scf with
      buddy := new, buddyKey := none, lostTold := false, lastRx := s.beacon, needFull := true, refs := [], helloAt := some s.beacon
      assocs := s.scf.assocs.filter (fun (a : ScfAssoc) => decide (a.no ≠ 0)) } }
    let s := s.setFb F.SCF_STATUS_buddy_up false
    if new.isSome then s.buddyOpen.sendHello else s

/-- The first tag of a step that Scarf takes opens the image. -/
def openImage (s : State) (step : Nat) : State :=
  let mask := s.imageSlots
  let s := s.takeBuddy
  let a := s.trs.active
  let g : ScfImage :=
    { step := step, seq := s.scf.nextSeq, buddy := s.scf.buddy.getD 0
      place := if s.commitValid 0 then 1 - s.commitPlace 0 else 0
      boundary := s.beacon, grains := (List.range 16).map (fun n => s.f F.TRS_SCHED_grains n), mask := mask, repl := (lowestBit mask 16).getD 0, tags := 0, announced := [], segs := []
      lgG := s.lgG, jobId := (s.trs.job.map (·.jobId)).getD 0, arrGen := (a.map (·.gen)).getD 0
      arrDigest := sha384 (((a.map (·.table)).getD []).flatMap (fun h => leBytes h 2)), tuple := s.tuple mask
      manifest := none, preparedAt := none, full := s.scf.needFull, released := false, told := false, asked := [] }
  let s := s.setDesc g.place step g.seq 0 1 (List.replicate 48 0)
  let s := { s with scf := { s.scf with awaiting := s.scf.img, img := some g, nextSeq := s.scf.nextSeq + 1, peerPrepared := none, needFull := false } }
  let s := (s.setScfState 1).setF F.SCF_PSTEP_pstep step
  allSlots.foldl (fun s n =>
    let s := s.setReg (F.SCF_SLOT_STAT_state.base + 0x10 * n.val) 0
    if bitOf mask n.val then
      (s.setF F.SCF_SLOT_STAT_state 1 n.val).setFb F.SCF_SLOT_STAT_repl (decide (g.repl = n.val)) n.val
    else s) s

/-- A boundary can be taken: no image is in progress, or the one that is has committed and awaits COMMITTED (R15, R223). DESIGN CHOICE: R227 has
a boundary skipped until the image before is IDLE; R15 and R223 have the next image ingest once the image before has committed, and are followed. A change of
buddy waits for IDLE, since the image in progress finishes with the old counterpart (R227). -/
def scfOpens (s : State) (step : Nat) : Bool :=
  decide (s.scfState = 0) ||
    (decide (s.scfState = 5) && decide (s.buddySet = s.scf.buddy) && s.kcp.buddyNext.isNone && s.scf.img.any (fun g => decide (g.step ≠ step)))

/-- A boundary tag of a slot: Scarf takes the step, skips it, or is not concerned (R15, R213, R227). -/
def scfBoundary (s : State) (n : Slot) (step : Nat) : State :=
  if ¬ s.fb F.SCF_CTL_en ∨ ¬ s.jobBound ∨ step % s.f F.SCF_CTL_k ≠ 0 ∨ bitOf s.imageSlots n.val = false then s
  else
    let s := if s.scfOpens step ∧ s.scf.skipped ≠ some step then s.openImage step else s
    match s.scf.img with
    | some g =>
      if g.step = step then
        if bitOf g.mask n.val ∧ bitOf g.tags n.val = false ∧ s.scfState = 1 then
          let s := s.updImg (fun g => { g with tags := g.tags ||| 2 ^ n.val })
          let s := s.setF F.SCF_SLOT_STAT_state 2 n.val
          s.toBuoy n "BOUNDARY_REQ" [step, b2n (decide (g.repl = n.val))]
        else s
      else if s.scf.skipped = some step then s
      else s.scfSkip step 0
    | none => s

/-! ### READY, SIGNED, PREPARED (R222, R225) -/

/-- Every shard is durable. -/
def allDurable (g : ScfImage) : Bool :=
  (maskSlots g.mask).all (fun n =>
    match announcedCount g n.val with
    | none => false
    | some c => decide ((g.segs.filter (fun x => decide (x.rcd.slot = n.val) && x.durable)).length = c))

/-- Every segment is acknowledged by the counterpart. -/
def allAcked (g : ScfImage) : Bool := g.segs.all (·.acked)

/-- A READY image goes on: its manifest is built, signed, stored and sent as PREPARE. -/
def scfSign (s : State) : State :=
  match s.scf.img with
  | none => s
  | some g =>
    let m := s.buildManifest g
    let s := s.lpStore (s.manBase g.place) m
    let s := s.setDesc g.place g.step g.seq m.length 3 (manDigest m)
    let s := s.updImg (fun g => { g with manifest := some m })
    (s.setScfState 3).sendPrepare g m

/-- The counterpart has acknowledged every segment: SCF_BUDDY_ACKED, once for an image. -/
def scfAcked (s : State) : State :=
  match s.scf.img with
  | none => s
  | some g => if g.told ∨ ¬ allAcked g then s else (s.updImg (fun g => { g with told := true })).raise Ev.scfBuddyAcked 0 0

/-- This keeper's counterpart is lost while the other keeper runs and that one's counterpart answers (R233). -/
def buddyAlone (s : State) : Bool := !s.buddyUp && s.scf.buddy.isSome && !s.fb F.PAR_STATUS_solo && !s.scf.peerBuddyLost

/-- A READY image goes on once every segment is acknowledged. -/
def scfOn (s : State) : State := if s.scfState = 2 ∧ s.scf.img.any allAcked then s.scfSign else s

/-- The image reaches READY once every shard is durable and every segment acknowledged; in the case of R233 once it is durable, and the shards of an image
that is READY or beyond are released then; under the commit hold it is HELD (R222, R225). -/
def scfReady (s : State) : State :=
  match s.scf.img with
  | none => s
  | some g =>
    let s := if allDurable g then s.scfAcked else s
    let s :=
      if s.scfState = 1 ∧ allDurable g ∧ (allAcked g ∨ s.buddyAlone) then
        if s.fb F.SCF_CTL_hold then s.setScfState 6 else (s.setScfState 2).scfOn
      else s.scfOn
    if s.buddyAlone ∧ s.scfState ≠ 0 ∧ s.scfState ≠ 1 ∧ s.scfState ≠ 5 then s.releaseShards else s

/-- Clearing hold lets a HELD image go on from READY (R225). -/
def scfHoldCleared (s : State) : State := if s.scfState = 6 then (s.setScfState 2).scfOn else s

/-! ### Ingest (R214, R215) -/

/-- A segment of a slot's shard is asked for (R213). -/
def segPull (s : State) (n : Slot) (index : Nat) : State :=
  match s.scf.img with
  | none => s
  | some g => (s.toBuoy n "SEG_REQ" [g.step, index]).updImg (fun g => { g with asked := g.asked ++ [(n.val, index)] })

/-- The first segment of a slot's shard that this keeper neither holds nor has asked for. -/
def segMissing (g : ScfImage) (n : Slot) : Option Nat :=
  (announcedCount g n.val).bind (fun c => (List.range c).find? (fun i =>
    !g.asked.contains (n.val, i) && !g.segs.any (fun x => decide (x.rcd.slot = n.val ∧ x.rcd.index = i) && (x.durable || decide (x.data ≠ [])))))

/-- The next segment of a slot's shard is asked for where none is on its way. -/
def segNext (s : State) (n : Slot) : State :=
  match s.scf.img with
  | none => s
  | some g =>
    if s.scfState ≠ 1 ∨ g.asked.any (fun x => decide (x.1 = n.val)) then s
    else match segMissing g n with
      | some i => s.segPull n i
      | none => s

/-- A slot's own link is up again: what was on its way is asked for anew (R215). -/
def segLinked (s : State) (n : Slot) : State :=
  (s.updImg (fun g => { g with asked := g.asked.filter (fun x => decide (x.1 ≠ n.val)) })).segNext n

/-- A Buoy announces its shard, or refuses the request because it still holds one (R212, R213). -/
def shardAnnounce (s : State) (n : Slot) (refused : Bool) (raw count : Nat) : State :=
  match s.scf.img with
  | none => s
  | some g =>
    if s.clk.held ∨ s.scfState ≠ 1 ∨ bitOf g.tags n.val = false ∨ (announcedCount g n.val).isSome then s
    else if refused ∨ s.f F.SCF_SLOT_BUDGET_bytes n.val < raw then
      ((s.releaseShards).keepFull.dropImage).scfSkip g.step (if refused then 2 else 1)
    else
      let s := s.updImg (fun g => { g with announced := g.announced ++ [(n.val, raw, count)] })
      if count = 0 then
        let s := s.setF F.SCF_SLOT_STAT_state 3 n.val
        ((s.raise Ev.scfShardIn n.val 0).scfGo).scfReady
      else (s.segPull n 0).scfGo

/-- Insertion by slot and then by index. -/
def insertSeg (x : ScfSeg) : List ScfSeg → List ScfSeg
  | [] => [x]
  | y :: r =>
    if y.rcd.slot = x.rcd.slot ∧ y.rcd.index = x.rcd.index then x :: r
    else if x.rcd.slot < y.rcd.slot ∨ (x.rcd.slot = y.rcd.slot ∧ x.rcd.index < y.rcd.index) then x :: y :: r
    else y :: insertSeg x r

/-- The next place for a segment in its shard area: after every one stored there. -/
def segPlace (g : ScfImage) (slot : Nat) : Nat :=
  (g.segs.filter (fun x => decide (x.rcd.slot = slot))).foldl (fun a x => max a (x.rcd.off + up64 x.rcd.stored)) (shardArea slot)

/-- A segment of a shard fails a digest: counted, and reported (R215, R240, 02 R32). -/
def shardBad (s : State) (slot : Nat) : State := (s.bump F.SCF_CNT_bad).raise Ev.scfShardBad slot 0

/-- A durable segment goes on to the other keeper in stored form with its record while that keeper's link to the slot is down (R215). -/
def segForward (s : State) (n : Slot) (place_ : Nat) (r : SegRec) : State :=
  if s.linkUp n ∧ ¬ (s.mo n).peerLink ∧ s.fb F.PAR_STATUS_link_up then
    s.pairSend "SEGMENT" (n.val :: (r.bytes ++ s.rdBytes (s.imgBase place_ + r.off) r.stored).map (fun (b : Byte) => b.toNat))
  else s

/-- The index of a segment that arrives: of the Buoy's oldest request, or of its record. -/
def segIndex (g : ScfImage) (n : Slot) (m : SegMsg) : Option Nat :=
  match m with
  | .raw _ _ _ _ _ => (g.asked.find? (fun x => decide (x.1 = n.val))).map (·.2)
  | .forwarded rb _ => some (segRecOf rb).index

/-- A segment arrives: digested, coded, written (R215). The Buoy answers requests in their order; a segment pulled again keeps its place. -/
def segmentIn (s : State) (n : Slot) (m : SegMsg) : State :=
  match s.scf.img with
  | none => s
  | some g =>
    match announcedCount g n.val, segIndex g n m with
    | none, _ => s
    | _, none => s
    | some count, some index =>
      let s := s.updImg (fun g => { g with asked := g.asked.erase (n.val, index) })
      let own := g.segs.filter (fun x => decide (x.rcd.slot = n.val))
      let again := own.find? (fun x => decide (x.rcd.index = index))
      if s.clk.held ∨ s.scfState ≠ 1 ∨ count ≤ index ∨ again.any (fun x => x.durable) then s
      else
        let off := match again with | some x => x.rcd.off | none => segPlace g n.val
        let made : Option (SegRec × List Byte × List Byte) := match m with
          | .raw grain tensor toff secs data =>
            if data.length = 0 ∨ 4194304 < data.length then none
            else
              let (st, isRaw) := Grain.store (sectionWidths ((s.trs.job.map (·.formats)).getD []) secs) data
              some (⟨off, st.length, data.length, grain, tensor, toff, n.val, isRaw, index, sha384 data⟩, data, st)
          | .forwarded rb st =>
            let r := segRecOf rb
            (match Grain.load st r.raw r.isRaw with
             | some b => if sha384 b = r.digest then some ({ r with off := off, slot := n.val, index := index }, b, st) else none
             | none => none)
        let fwd := match m with | .forwarded _ _ => true | .raw _ _ _ _ _ => false
        match made with
        | none => if fwd then s.shardBad n.val else (s.shardBad n.val).segPull n index
        | some (r, data, st) =>
          let s := s.setFb F.SCF_SLOT_STAT_pair fwd n.val
          let s := s.lpStore (s.imgBase g.place + off) st
          let s := s.updImg (fun g => { g with segs := insertSeg ⟨r, data, false, 1, none, again.any (·.acked), again.any (·.noRef)⟩ g.segs })
          if fwd then s else s.segNext n

/-- A segment's write completes: durable where its digests agree, else it is written again, in raw form (R215). A write held for a relock has not completed
(17 R341), one that met a lost channel has failed (17 R347). -/
def segmentDurable (s : State) (n : Slot) (index : Nat) (agree : Bool) : State :=
  match s.scf.img with
  | none => s
  | some g =>
    match g.segs.find? (fun x => decide (x.rcd.slot = n.val ∧ x.rcd.index = index) && !x.durable) with
    | none => s
    | some x =>
      if s.clk.held ∨ s.scfState ≠ 1 ∨ x.data = [] ∨ s.loadState (s.imgBase g.place + x.rcd.off) x.rcd.stored = .held then s
      else if ¬ agree ∨ s.blockFails (s.imgBase g.place + x.rcd.off) x.rcd.stored then
        let r := { x.rcd with stored := x.rcd.raw, isRaw := true, off := if x.rcd.isRaw ∨ segPlace g n.val = x.rcd.off + up64 x.rcd.stored then x.rcd.off else segPlace g n.val }
        let s := (s.shardBad n.val).lpStore (s.imgBase g.place + r.off) x.data
        s.updImg (fun g => { g with segs := insertSeg { x with rcd := r, tries := x.tries + 1 } g.segs })
      else
        let s := s.updImg (fun g => { g with segs := insertSeg { x with durable := true, data := [] } g.segs })
        let s := s.segForward n g.place x.rcd
        match s.scf.img with
        | none => s
        | some g =>
          let own := g.segs.filter (fun y => decide (y.rcd.slot = n.val) && y.durable)
          let s := s.setF F.SCF_SLOT_STAT_segs own.length n.val
          let s := s.setF F.SCF_SLOT_STAT_mib ((own.map (fun y => y.rcd.raw)).sum / 1048576) n.val
          let s := if announcedCount g n.val = some own.length then
              (s.setF F.SCF_SLOT_STAT_state 3 n.val).raise Ev.scfShardIn n.val 0
            else s
          s.scfGo.scfReady

/-! ### Commit (R223, R224, R227, R233) -/

/-- The commit record as it is mirrored (R224). -/
def commitMsg (s : State) : MirrorMsg := .commit (s.rdBytes (commitAddr 0) 416)

/-- This keeper does not run alone (14 R296). -/
def peerAlive (s : State) : Bool := !s.fb F.PAR_STATUS_solo

/-- The own image commits: the descriptor, the swap, the mirror; the shards are released. SCF_COMMIT and COMMIT follow the mirror's
acknowledgement. -/
def scfCommit (s : State) (peerToo : Bool) : State :=
  match s.scf.img with
  | none => s
  | some g =>
    if s.scfState ≠ 4 then s
    else
      let m := g.manifest.getD []
      let s := s.setDesc g.place g.step g.seq m.length 5 (manDigest m)
      let s := (s.releaseShards).commitSwap 0 g.step g.place
      let s := s.setFb F.SCF_STATUS_peer_stale (!peerToo)
      let s := s.setFb F.SCF_STATUS_lost_segs false
      (s.setScfState 5).mirrorItem 6 s.commitMsg .scfCommit

/-- What follows the acknowledged mirror of a commit: SCF_COMMIT, and COMMIT to the counterpart. -/
def scfCommitGo (s : State) : State :=
  match s.scf.committing with
  | none => s
  | some g => (s.raise Ev.scfCommit 0 (BitVec.ofNat 64 g.step)).scfSend 0 Rk.commit g.step g.seq 0 0 0 0 []

/-- A PREPARED image commits where nothing is waited for (R223, R233). -/
def scfTryCommit (s : State) : State :=
  match s.scf.img with
  | none => s
  | some g =>
    if s.scfState ≠ 4 then s
    else if s.control ∧ s.scf.peerPrepared = some g.step then s.scfCommit true
    else if s.control ∧ (¬ s.peerAlive ∨ s.fb F.SCF_CTL_solo ∨ s.scf.peerBuddyLost) then s.scfCommit false
    else if s.scf.peerBuddyLost then (s.scfCommit false).pairSend "COMMITTED_ALONE" [g.step]
    else if ¬ s.control ∧ s.scf.peerStep = some g.step then s.scfCommit true
    else s

/-- The other keeper reports PREPARED. -/
def peerPrepared (s : State) (step : Nat) : State :=
  if s.clk.held then s else ({ s with scf := { s.scf with peerPrepared := some step } } : State).scfTryCommit

/-- relief_wait_ms passes in PREPARED: the controlling keeper commits alone. -/
def reliefWaitOver (s : State) : State :=
  match s.scf.img with
  | none => s
  | some g =>
    if s.clk.held ∨ ¬ s.control ∨ s.scfState ≠ 4 ∨ ¬ g.preparedAt.any (fun t => decide (t + s.f F.SCF_CTL_relief_wait_ms * tickMs ≤ s.beacon)) then s
    else s.scfCommit false

/-- The follower tells whether it has committed the image of a step that the keeper in control has committed (R223). -/
def imageTell (s : State) (step : Nat) (committed : Bool) : State := s.pairSend "IMAGE" [step, b2n committed]

/-- The other keeper tells whether it has committed the image of a step: where it is the one committed here, peer_stale says so (R223). -/
def imageTold (s : State) (step : Nat) (committed : Bool) : State :=
  if s.clk.held ∨ ¬ s.control ∨ ¬ s.commitValid 0 ∨ s.commitStep 0 ≠ step then s else s.setFb F.SCF_STATUS_peer_stale (!committed)

/-- The mirrored commit of the other keeper: of a step that the follower has committed alone the image is on both; else the follower commits its own PREPARED image of that step, else discards it (R223); an image that
waits for a lost counterpart goes on waiting (R233). The keeper in control is told which it was. On the keeper in control it reports a commit that the other keeper made alone (R233). -/
def mirroredCommit (s : State) (step : Nat) : State :=
  if s.clk.held then s
  else if ¬ s.control ∧ s.commitValid 0 ∧ s.commitStep 0 = step then (s.setFb F.SCF_STATUS_peer_stale false).imageTell step true
  else if s.control then
    ({ s with scf := { s.scf with peerStep := some step } } : State).setFb F.SCF_STATUS_peer_stale true
  else match s.scf.img with
    | some g =>
      if s.scfState = 4 ∧ g.step = step then (s.scfCommit true).imageTell step true
      else
        let s := if ¬ s.buddyUp ∧ s.scf.buddy.isSome ∧ s.scfState ≠ 4 then ({ s with scf := { s.scf with peerStep := some step } } : State) else s.scfDiscard
        (s.setFb F.SCF_STATUS_peer_stale true).imageTell step false
    | none => (s.setFb F.SCF_STATUS_peer_stale true).imageTell step false

/-! ### The sender's side of replication (R230 to R233) -/

/-- A replication frame of the counterpart: from the configured buddy tray and the same strap, on the replication association; others
are dropped and counted (R230). -/
def fromBuddy (s : State) (h : ReplHdr) : Bool :=
  decide (h.assoc = 0) && decide (some (h.src % 4096) = s.scf.buddy) && decide (h.src / 32768 % 2 = s.ownPort) && !s.clk.held

/-- A frame's header holds: magic, version, zeros, this tray, the kind and the number of data bytes that came with it (R228). -/
def replGood (s : State) (h : ReplHdr) (kind len : Nat) : Bool :=
  decide (h.magic = 0x5346 ∧ h.version = 1 ∧ h.kind = kind ∧ h.dst = s.f F.GLB_TRAY_tray ∧ h.len = len ∧ h.len ≤ 8832) && h.clean

/-- Any frame from the counterpart keeps it alive. -/
def heardBuddy (s : State) : State := { s with scf := { s.scf with lastRx := s.beacon } }

/-- A frame of a tray or keeper that is not the counterpart. -/
def foreign (s : State) : State := if s.clk.held then s else s.bump F.SCF_REPL_CNT_foreign

/-- The frame belongs to the image in progress. -/
def forImage (s : State) (h : ReplHdr) : Bool := s.scf.img.any (fun g => decide (g.seq = h.seq))

/-- A segment of the image changed by its record number. -/
def updSegNo (s : State) (no : Nat) (h : ScfSeg → ScfSeg) : State :=
  s.updImg (fun g => { g with segs := g.segs.map (fun x => if segNumber g x.rcd.slot x.rcd.index = some no then h x else x) })

/-- SEG_ACK: the segment is durable at the counterpart; a shard whole there shows it. -/
def segAck (s : State) (h : ReplHdr) : State :=
  if ¬ s.fromBuddy h then s.foreign
  else
    let s := s.heardBuddy
    if ¬ s.forImage h then s
    else
      let s := s.updSegNo h.seg (fun x => { x with acked := true })
      match s.scf.img with
      | none => s
      | some g =>
        let s := (maskSlots g.mask).foldl (fun s n =>
          let own := g.segs.filter (fun x => decide (x.rcd.slot = n.val))
          if s.f F.SCF_SLOT_STAT_state n.val = 3 ∧ own.all (·.acked) then s.setF F.SCF_SLOT_STAT_state 4 n.val else s) s
        s.scfGo.scfReady

/-- SEG_NAK: the whole segment is sent again with its data, one that was acknowledged before too (17 R348). -/
def segNak (s : State) (h : ReplHdr) : State :=
  if ¬ s.fromBuddy h then s.foreign
  else
    let s := (s.heardBuddy).bump F.SCF_REPL_CNT_naks
    if ¬ s.forImage h then s
    else
      let named := s.scf.img.any (fun g => g.segs.any (fun x => decide (segNumber g x.rcd.slot x.rcd.index = some h.seg)))
      if ¬ named then s
      else ((s.updSegNo h.seg (fun x => { x with acked := false, sentAt := none, noRef := true })).bump F.SCF_REPL_CNT_resent).scfGo

/-- No answer within rto_ms of a segment's sending: it is sent again. -/
def segResend (s : State) : State :=
  match s.scf.img with
  | none => s
  | some g =>
    let due (x : ScfSeg) : Bool := !x.acked && x.sentAt.any (fun t => decide (t + s.f F.SCF_REPL_rto_ms * tickMs ≤ s.beacon))
    let k := (g.segs.filter due).length
    if s.clk.held ∨ k = 0 ∨ ¬ s.buddyUp then s
    else
      let s := s.updImg (fun g => { g with segs := g.segs.map (fun x => if due x then { x with sentAt := none } else x) })
      (s.bump F.SCF_REPL_CNT_resent k).scfGo

/-- PREPARED: the counterpart holds the whole manifest. -/
def preparedIn (s : State) (h : ReplHdr) : State :=
  if ¬ s.fromBuddy h then s.foreign
  else
    let s := s.heardBuddy
    match s.scf.img with
    | none => s
    | some g =>
      if s.scfState = 3 ∧ g.seq = h.seq then
        let s := (s.updImg (fun g => { g with preparedAt := some s.beacon })).setScfState 4
        (s.pairSend "PREPARED" [g.step]).scfTryCommit
      else s

/-- COMMITTED: the counterpart's commit record names the image, and this keeper's image returns to IDLE. -/
def committedIn (s : State) (h : ReplHdr) : State :=
  if ¬ s.fromBuddy h then s.foreign
  else
    let s := s.heardBuddy
    match s.scf.committing with
    | none => s
    | some g =>
      if (s.scf.awaiting.isSome ∨ s.scfState = 5) ∧ g.seq = h.seq then
        let rs : List SegRec := g.segs.map (fun x => x.rcd)
        let ps := s.scf.peerStep.filter (fun p => decide (g.step < p))
        let s := { s with scf := { s.scf with refs := rs, peerStep := ps } }
        let s := s.setDesc g.place g.step g.seq ((g.manifest.map List.length).getD 0) 0 ((g.manifest.map manDigest).getD [])
        if s.scf.awaiting.isSome then ({ s with scf := { s.scf with awaiting := none } } : State).scfGo.scfReady else s.dropImage
      else s

/-- What is unacknowledged is sent again after the counterpart's return (R232). -/
def scfResume (s : State) : State :=
  let s := s.updImg (fun g => { g with segs := g.segs.map (fun x => if x.acked then x else { x with sentAt := none }) })
  match s.scf.img with
  | none => s
  | some g =>
    let was := s.scfState
    let s := s.scfGo.scfReady
    if was = 3 then (match g.manifest with | some m => s.sendPrepare g m | none => s)
    else match s.scf.awaiting, decide (s.scfState = 5) with
      | some a, _ => s.scfSend 0 Rk.commit a.step a.seq 0 0 0 0 []
      | none, true => s.scfSend 0 Rk.commit g.step g.seq 0 0 0 0 []
      | none, false => s

/-- A receiving image begins; its descriptor says so (R224). -/
def recvStart (s : State) (r : ScfRecv) : State :=
  (({ s with scf := { s.scf with recv := some r } } : State).setF F.SCF_STATUS_recv 1).setDesc (2 + r.place) r.step r.seq 0 1 (List.replicate 48 0)

/-- The receiving or prepared image is gone; its descriptor is empty (R224). -/
def recvDrop (s : State) : State :=
  match s.scf.recv with
  | none => s
  | some r => (({ s with scf := { s.scf with recv := none } } : State).setF F.SCF_STATUS_recv 0).descState (2 + r.place) 0

/-- HELLO: the relation opens or resumes (R229, R231, R232). -/
def helloIn (s : State) (h : ReplHdr) : State :=
  if ¬ s.fromBuddy h then s.foreign
  else
    let s := s.heardBuddy
    let s := if bitOf h.value 3 then s
      else ({ s with scf := { s.scf with needFull := s.scf.needFull || s.scf.img.isNone, refs := [] } } : State).updImg
        (fun g => { g with full := true })
    let s := match s.scf.recv with
      | some r => if r.seq < h.seq ∧ r.prepared.isNone then s.recvDrop else s
      | none => s
    let s := if s.buddyUp then s else s.pairSend "BUDDY_BACK" []
    let s := match s.scf.dropped with
      | some (step, seq, m, true) =>
        ({ s with scf := { s.scf with dropped := some (step, seq, m, false) } } : State).scfSend 0 Rk.abort step seq 0 0 0 0 []
      | _ => s
    let answered := s.scf.helloAt.isSome
    let s := ({ s with scf := { s.scf with helloAt := none, lostTold := false } } : State).setFb F.SCF_STATUS_buddy_up true
    let s := if answered then s else s.sendHello
    s.scfResume

/-- No frame of the counterpart for lost_ms: it is lost, also one that has not answered yet (R232, R233). DESIGN CHOICE: one that has not answered is
waited for from the step that took it. -/
def buddyLost (s : State) : State :=
  if s.clk.held ∨ (¬ s.buddyUp ∧ s.scf.lostTold) ∨ s.scf.buddy.isNone ∨ s.beacon < s.scf.lastRx + s.f F.SCF_REPL_lost_ms * tickMs then s
  else
    let s := s.setFb F.SCF_STATUS_buddy_up false
    let s := { s with scf := { s.scf with helloAt := some s.beacon, lostTold := true } }
    let s := (s.sendHello).pairSend "BUDDY_LOST" []
    (s.raise Ev.scfBuddyLost 0 0).scfReady

/-- Every 10 ms a HELLO goes to a lost counterpart, and an OPEN while the association is not open (DESIGN CHOICE). -/
def helloRetry (s : State) : State :=
  match s.scf.helloAt with
  | none => s
  | some t =>
    if s.clk.held ∨ s.scf.buddy.isNone ∨ s.beacon < t + 10 * tickMs then s
    else
      let s : State := { s with scf := { s.scf with helloAt := some s.beacon } }
      let s := if s.scf.assocs.any (fun a => decide (a.no = 0 ∧ a.keyOut ≠ [])) then s else s.buddyOpen
      s.sendHello

/-- KEEPALIVE received. -/
def keepaliveIn (s : State) (h : ReplHdr) : State := if s.fromBuddy h then s.heardBuddy else s.foreign

/-- 1 ms without a frame sent: a KEEPALIVE. -/
def keepaliveTimer (s : State) : State :=
  if s.clk.held ∨ s.scf.buddy.isNone ∨ s.beacon < s.scf.lastTx + tickMs then s
  else s.scfSend 0 Rk.keepalive 0 0 0 0 0 0 []

/-! ### The receiving side (R230 to R232) -/

/-- The receiving image changed. -/
def updRecv (s : State) (h : ScfRecv → ScfRecv) : State := { s with scf := { s.scf with recv := s.scf.recv.map h } }

/-- A frame of a newer image opens a receiving image in the buddy slot that is not committed. -/
def recvOpen (s : State) (h : ReplHdr) : State :=
  let fresh : ScfRecv := ⟨h.seq, h.step, if s.commitValid 1 then 1 - s.commitPlace 1 else 0, [], [], none⟩
  match s.scf.recv with
  | none => s.recvStart fresh
  | some r => if r.seq < h.seq ∧ r.prepared.isNone then s.recvStart fresh else s

/-- A segment of a newer image while a prepared image holds the slot finds no space (R229, R232). -/
def recvFull (s : State) (h : ReplHdr) : State :=
  if s.scf.recv.any (fun r => decide (r.seq < h.seq)) then s.scfSend 0 Rk.segNak h.step h.seq h.seg 0 0 4 [] else s

/-- A segment of the receiving image is whole: decoded and digested, and answered. -/
def recvCheck (s : State) (no : Nat) : State :=
  match s.scf.recv with
  | none => s
  | some r =>
    match r.segs.find? (fun x => decide (x.no = no)) with
    | none => s
    | some x =>
      match s.segAt (2 + r.place) x.rcd with
      | some _ =>
        let s := s.updRecv (fun r => { r with segs := r.segs.map (fun y => if y.no = no then { y with durable := true } else y) })
        s.scfSend 0 Rk.segAck r.step r.seq no 0 0 0 []
      | none =>
        let s := (s.segMeets (2 + r.place) x.rcd).updRecv (fun r => { r with segs := r.segs.filter (fun y => decide (y.no ≠ no)) })
        (s.shardBad x.rcd.slot).scfSend 0 Rk.segNak r.step r.seq no 0 0 2 []

/-- SEG_HEAD: a record precedes its data; a record past the slot's 240 GiB finds no space. -/
def segHead (s : State) (h : ReplHdr) (data : List Byte) : State :=
  if ¬ s.fromBuddy h then s.foreign
  else
    let s := (s.heardBuddy).recvOpen h
    let r := segRecOf data
    if s.scf.recv.map (·.seq) ≠ some h.seq then s.recvFull h
    else if 0x3C00000000 < r.off + r.stored ∨ r.off % 64 ≠ 0 ∨ 4194304 < r.raw then s.scfSend 0 Rk.segNak h.step h.seq h.seg 0 0 4 []
    else s.updRecv (fun (x : ScfRecv) => { x with segs := x.segs.filter (fun (y : RecvSeg) => decide (y.no ≠ h.seg)) ++ [⟨h.seg, r, [], s.beacon, false⟩] })

/-- SEG_DATA on the replication association: a fragment is stored; a whole segment is checked. -/
def segData (s : State) (h : ReplHdr) (data : List Byte) : State :=
  if ¬ s.fromBuddy h then s.foreign
  else
    let s := s.heardBuddy
    match s.scf.recv with
    | none => s
    | some r =>
      match r.segs.find? (fun x => decide (x.no = h.seg) && !x.durable) with
      | none => s
      | some x =>
        if r.seq ≠ h.seq ∨ x.rcd.stored < h.off + data.length ∨ data = [] then s
        else
          let s := s.lpStore (s.imgBase (2 + r.place) + x.rcd.off + h.off) data
          let parts := x.parts ++ [(h.off, data.length)]
          let s := s.updRecv (fun r => { r with segs := r.segs.map (fun y => if y.no = h.seg then { y with parts := parts, last := s.beacon } else y) })
          if covers parts x.rcd.stored (parts.length + 1) 0 then s.recvCheck h.seg else s

/-- SEG_REF: the stored form is copied from the committed buddy image, decoded first where the record names the raw form, then decoded, digested and
answered as a sent segment is (R231). -/
def segRef (s : State) (h : ReplHdr) (data : List Byte) : State :=
  if ¬ s.fromBuddy h then s.foreign
  else
    let s := (s.heardBuddy).recvOpen h
    let r := segRecOf data
    match s.scf.recv with
    | none => s
    | some rc =>
      if rc.seq ≠ h.seq then s.recvFull h
      else match (if s.commitValid 1 then (manRecs (s.manAt (2 + s.commitPlace 1))).find? (fun x =>
          x.same r) else none) with
        | none => s.scfSend 0 Rk.segNak h.step h.seq h.seg 0 0 3 []
        | some o =>
          let b := if r.isRaw ∧ ¬ o.isRaw then (s.segAt (2 + s.commitPlace 1) o).getD []
            else if s.blockReads (s.imgBase (2 + s.commitPlace 1) + o.off) o.stored then
              s.rdBytes (s.imgBase (2 + s.commitPlace 1) + o.off) (min o.stored r.stored)
            else []
          let s := s.lpStore (s.imgBase (2 + rc.place) + r.off) b
          let s := s.updRecv (fun (x : ScfRecv) => { x with segs := x.segs.filter (fun (y : RecvSeg) => decide (y.no ≠ h.seg)) ++
            [⟨h.seg, r, [(0, r.stored)], s.beacon, false⟩] })
          s.recvCheck h.seg

/-- A segment is incomplete nak_ms after its last fragment: SEG_NAK, reason 1. -/
def segIncomplete (s : State) : State :=
  match s.scf.recv with
  | none => s
  | some r =>
    if s.clk.held then s
    else (r.segs.filter (fun x => !x.durable && decide (x.last + s.f F.SCF_REPL_nak_ms * tickMs ≤ s.beacon))).foldl (fun s x =>
      (s.updRecv (fun r => { r with segs := r.segs.map (fun y => if y.no = x.no then { y with last := s.beacon, parts := [] } else y) })).scfSend 0
        Rk.segNak r.step r.seq x.no 0 0 1 []) s

/-- A PREPARE fragment of the counterpart; a whole manifest that verifies, every record of it acknowledged, is answered PREPARED. -/
def prepareIn (s : State) (h : ReplHdr) (data : List Byte) : State :=
  if ¬ s.fromBuddy h then s.foreign
  else
    let s := (s.heardBuddy).recvOpen h
    match s.scf.recv with
    | none => s
    | some r =>
      if r.seq ≠ h.seq then s
      else if r.prepared.isSome then s.scfSend 0 Rk.prepared r.step r.seq 0 0 0 0 []
      else
        let parts := r.parts.filter (fun x => decide (x.1 ≠ h.off)) ++ [(h.off, data)]
        let s := s.updRecv (fun r => { r with parts := parts })
        let m := gather parts (parts.length + 1) []
        if m.length < 0xA00 ∨ m.length < manLength m then s
        else if manGood m (s.scf.buddyKey.getD []) ∧
            (manRecs m).zipIdx.all (fun x => r.segs.any (fun y => decide (y.no = x.2 ∧ y.rcd = x.1) && y.durable)) then
          let s := s.lpStore (s.manBase (2 + r.place)) m
          let s := s.setDesc (2 + r.place) r.step r.seq m.length 2 (manDigest m)
          let s := (s.updRecv (fun r => { r with prepared := some m, parts := [] })).setF F.SCF_STATUS_recv 2
          s.scfSend 0 Rk.prepared r.step r.seq 0 0 0 0 []
        else s.updRecv (fun r => { r with parts := [] })

/-- COMMIT: the buddy commit word names the prepared image, SCF_BUDDY_IMAGE, COMMITTED; a repeated COMMIT is answered again; one of a newer
image discards a prepared image (R232). -/
def commitIn (s : State) (h : ReplHdr) : State :=
  if ¬ s.fromBuddy h then s.foreign
  else
    let s := s.heardBuddy
    let done := s.scfSend 0 Rk.committed h.step h.seq 0 0 0 0 []
    match s.scf.recv with
    | some r =>
      if r.seq = h.seq ∧ r.prepared.isSome then
        let m := r.prepared.getD []
        let s := s.setDesc (2 + r.place) r.step r.seq m.length 3 (manDigest m)
        let s := s.commitSwap 1 r.step r.place
        let s := s.mirrorItem 6 s.commitMsg .nothing
        let s := ({ s with scf := { s.scf with recv := none, buddyGap := false } } : State).setF F.SCF_STATUS_recv 0
        (s.raise Ev.scfBuddyImage 0 0).scfSend 0 Rk.committed h.step h.seq 0 0 0 0 []
      else if s.commitValid 1 ∧ manSeq (s.manAt (2 + s.commitPlace 1)) = h.seq then done
      else if r.seq < h.seq ∧ r.prepared.isSome then s.recvDrop
      else s
    | none => if s.commitValid 1 ∧ manSeq (s.manAt (2 + s.commitPlace 1)) = h.seq then done else s

/-- ABORT: the receiving or prepared image of that image_seq is discarded. -/
def abortIn (s : State) (h : ReplHdr) : State :=
  if ¬ s.fromBuddy h then s.foreign
  else
    let s := s.heardBuddy
    if s.scf.recv.map (·.seq) = some h.seq then s.recvDrop else s

/-- The manifest that a FETCH asks for: committed or prepared, of the own image or of the buddy copy; with its image slot. -/
def fetchManifest (s : State) (prepared copy : Bool) : Option (List Byte × Nat) :=
  let w := b2n copy
  if ¬ prepared then
    (if s.commitValid w then some (s.manAt (2 * w + s.commitPlace w), 2 * w + s.commitPlace w) else none)
  else if copy then s.scf.recv.bind (fun r => r.prepared.map (fun m => (m, 2 + r.place)))
  else if s.scfState = 4 then s.scf.img.bind (fun g => g.manifest.map (fun m => (m, g.place)))
  else none

/-- FETCH: manifests or segments of a held image, answered with flags[0] set (R229, R236). A manifest is asked for
with seg 0 for the own image and 1 for the buddy copy. Segments are those of the buddy copy on the replication association, of the own image
over the pair link, and of the image last asked for on a restore association. A manifest that is not held is answered by an empty last
fragment (DESIGN CHOICE). -/
def fetchIn (s : State) (h : ReplHdr) (data : List Byte) : State :=
  let served := s.scf.served.find? (fun x => decide (x.no = h.assoc))
  if s.clk.held then s
  else if ¬ (s.fromBuddy h ∨ h.assoc = 5 ∨ served.isSome) then s.foreign
  else
    let copy := if h.value ≠ 2 then decide (h.seg % 2 = 1)
      else if h.assoc = 0 then true else (served.map (·.copy)).getD false
    let s : State := if h.assoc = 0 then s.heardBuddy
      else { s with scf := { s.scf with served := s.scf.served.map (fun (x : ScfServed) =>
        if x.no = h.assoc then { x with last := s.beacon, copy := copy } else x) } }
    if h.value = 0 ∨ h.value = 1 then
      match s.fetchManifest (decide (h.value = 1)) copy with
      | some (m, _) => s.scfBytes h.assoc Rk.prepare (manStep m) (manSeq m) 0 1 m
      | none => s.scfSend h.assoc Rk.prepare 0 0 0 0 3 0 []
    else if h.value = 2 then
      let held := [s.fetchManifest false copy, s.fetchManifest true copy].filterMap id
      match held.find? (fun x => decide (manSeq x.1 = h.seq)) with
      | none => s
      | some (m, i) =>
        let recs := (manRecs m).zipIdx.filter (fun x => decide (h.seg ≤ x.2 ∧ x.2 < h.seg + beNat (data.take 4)))
        recs.foldl (fun s x =>
          if ¬ s.blockReads (s.imgBase i + x.1.off) x.1.stored then s.segMeets i x.1
          else
          let s := s.scfSend h.assoc Rk.segHead h.step h.seq x.2 0 1 0 x.1.bytes
          s.scfBytes h.assoc Rk.segData h.step h.seq x.2 1 (s.rdBytes (s.imgBase i + x.1.off) x.1.stored)) s
    else s

/-! ### Losses and takeover (R226, R227) -/

/-- CHIP_DOWN of an image slot whose shard is not durable discards the image. -/
def scfChipDown (s : State) (n : Slot) : State :=
  match s.scf.img with
  | none => s
  | some g =>
    let st := s.f F.SCF_SLOT_STAT_state n.val
    if bitOf g.mask n.val ∧ (st = 1 ∨ st = 2) then s.scfDiscard else s

/-- The other keeper is lost: a follower discards an image that it has not yet prepared; a PREPARED image of the controller commits at
once (R226, R227). -/
def scfPeerLost (s : State) : State :=
  if s.control then s.scfTryCommit
  else if s.scfState = 1 ∨ s.scfState = 2 ∨ s.scfState = 3 ∨ s.scfState = 6 then s.scfDiscard
  else s

/-- A segment of an image slot has bytes on a channel. -/
def segOn (s : State) (c i : Nat) (r : SegRec) : Bool :=
  (linesOf (s.imgBase i + r.off) r.stored).any (fun l => decide (lpChannel (l * 64) = c))

/-- An LPDDR5X channel is lost: segments of an image still TAKING whose stored form lay on it, durable or only written, are pulled again; released shards mean a discard; the
committed own image's are marked lost (R227, R233). -/
def scfLoseChannel (s : State) (c : Nat) : State :=
  let s := if s.commitValid 0 ∧ isLpddr (s.imgBase (s.commitPlace 0)) ∧ (manRecs s.ownManifest).any (s.segOn c (s.commitPlace 0)) then
    s.setFb F.SCF_STATUS_lost_segs true else s
  match s.scf.img with
  | none => s
  | some g =>
    let hit := g.segs.filter (fun x => (x.durable || decide (x.data ≠ [])) && s.segOn c g.place x.rcd)
    if hit = [] ∨ s.scfState = 5 then s
    else if g.released ∨ s.scfState ≠ 1 then s.scfDiscard
    else
      let s := s.bump F.SCF_CNT_rewrites hit.length
      let s := s.updImg (fun g => { g with segs := g.segs.map (fun x => if hit.contains x then { x with durable := false, data := [] } else x) })
      hit.foldl (fun s x =>
        let n : Slot := Fin.ofNat 16 x.rcd.slot
        (s.setF F.SCF_SLOT_STAT_state 2 n.val).segPull n x.rcd.index) s

/-- What the buddy side and the manifests lose with a channel (17 R348): acknowledged segments of the receiving image are asked for again, a
committed buddy image is marked to need a full image, lost manifests are fetched again from the counterpart. -/
def scfRefetch (s : State) (c : Nat) : State :=
  let s := match s.scf.recv with
    | none => s
    | some r =>
      (r.segs.filter (fun x => x.durable && s.segOn c (2 + r.place) x.rcd)).foldl (fun (s : State) x =>
        (s.updRecv (fun (r : ScfRecv) => { r with segs := r.segs.filter (fun (y : RecvSeg) => decide (y.no ≠ x.no)) })).scfSend 0 Rk.segNak r.step r.seq
          x.no 0 0 2 []) s
  let bi := 2 + s.commitPlace 1
  let s := if s.commitValid 1 ∧ isLpddr (s.imgBase bi) ∧ (manRecs (s.manAt bi)).any (s.segOn c bi) then
      (({ s with scf := { s.scf with buddyGap := true } } : State)).sendHello else s
  ([(0, s.commitPlace 0), (1, 2 + s.commitPlace 1)]).foldl (fun (s : State) x =>
    if s.commitValid x.1 ∧ isLpddr (s.manBase x.2) ∧
        (linesOf (s.manBase x.2) (s.descLen x.2)).any (fun l => decide (lpChannel (l * 64) = c)) then
      ({ s with scf := { s.scf with refetch := s.scf.refetch ++ [(x.2, [])] } } : State).scfSend 0 Rk.fetch 0 0 (1 - x.1) 0 0 0 []
    else s) s

/-- The new controlling keeper carries its own image on; it sends COMMIT again where it is COMMITTING (R227). -/
def scfTakeover (s : State) : State :=
  let s := match s.scf.awaiting with
    | none => s
    | some a => s.scfSend 0 Rk.commit a.step a.seq 0 0 0 0 []
  match s.scf.img with
  | none => s
  | some g => if s.scfState = 5 then s.scfSend 0 Rk.commit g.step g.seq 0 0 0 0 [] else s.scfTryCommit

/-- The committed own image is checked against its descriptor and the MANIFEST key before it is used: once the manifest area has its base (R224). -/
def scfCheck (s : State) : State :=
  if ¬ s.scf.unchecked ∨ s.f F.SCF_MAN_BASE_mbase = 0 then s
  else
    let s : State := { s with scf := { s.scf with unchecked := false } }
    if s.commitValid 0 ∧ ¬ (manGood s.ownManifest (s.pubKey 1) ∧ manDigest s.ownManifest = s.descDigest (s.commitPlace 0)) then
      (s.commitInvalid 0).raise Ev.scfShardBad 0 0
    else s

/-- A keeper restart: the in-progress slot is discarded; its Buoys are told to release at their links' return and the counterpart gets ABORT when the
relation resumes. The committed image is to be checked before its use. The commit word itself is retained (R224, R226). -/
def scfRestart (s : State) : State :=
  let s := s.showCommit
  let s : State := { s with scf := { s.scf with unchecked := true } }
  match s.scf.img with
  | some g =>
    let s : State := { s with scf := { s.scf with dropped := some (g.step, g.seq, if g.released then 0 else g.tags, true) } }
    ((s.keepFull.dropImage).bump F.SCF_CNT_discards).raise Ev.scfDiscard 0 (BitVec.ofNat 64 g.step)
  | none => s

end State
end Sys2Proof.Machine
end

