-- ==== Sys2Proof/Machine/ScfLoad.lean ====
section
/-! DEFINITION. Scarf: rollback, the restore plan, the restore associations and the load (11 R234 to R238). -/

namespace Sys2Proof.Machine

/-! ### The restore descriptor (R235) -/

def rstFlags (d : List Byte) : Nat := numAt d 6 2
def rstStep (d : List Byte) : Nat := numAt d 8 8
def rstJob (d : List Byte) : Nat := numAt d 0x10 8
def rstArr (d : List Byte) : Nat := numAt d 0x18 4
def rstMask (d : List Byte) : Nat := numAt d 0x1C 2
def rstCount (d : List Byte) : Nat := numAt d 0x1E 2

/-- The descriptor has its magic, format, reserved zeros and one to four sources. -/
def rstValid (d : List Byte) : Bool :=
  decide (d.take 4 = [0x53, 0x43, 0x52, 0x53] ∧ numAt d 4 2 = 1 ∧ rstFlags d < 4 ∧ 1 ≤ rstCount d ∧ rstCount d ≤ 4) &&
    zeros (cut d 0x50 16) &&
    (List.range (rstCount d)).all (fun i =>
      let e := cut d (0x60 + 0x80 * i) 128
      decide (numAt e 0 2 / 4096 % 8 = 0 ∧ numAt e 4 1 < 2 ∧ numAt e 5 1 < 2) && zeros (cut e 6 2) && zeros (cut e 121 7) &&
        (decide (numAt e 5 1 = 1) || zeros (cut e 12 12)))

/-- A manifest's records of a grain in shards that are present. -/
def grainRecs (m : List Byte) (g : Nat) : List (Nat × SegRec) :=
  ((manRecs m).zipIdx.filter (fun x => decide (x.1.grain = g) && bitOf (manSlots m) x.1.slot)).map (fun x => (x.2, x.1))

namespace State

/-- The 608 bytes of a descriptor with its sources. -/
def rstBytes (s : State) (addr : Nat) : List Byte := s.rdBytes addr 0x260

/-- The sources of a descriptor. -/
def rstSources (s : State) (d : List Byte) : List RstSrc :=
  (List.range (rstCount d)).map (fun i =>
    let e := cut d (0x60 + 0x80 * i) 128
    let holder := numAt e 0 2
    let here := decide (holder % 4096 = s.f F.GLB_TRAY_tray ∧ holder / 32768 = s.ownPort)
    { holder := holder, tray := numAt e 2 2, copy := decide (numAt e 4 1 = 1), here := here, key := cut e 24 97
      phase := 0, asked := if bitOf (rstFlags d) 1 then [0, 1] else [0], parts := [], mans := [], last := s.beacon })

/-! ### Reporting (R237, R238) -/

/-- SCF_RESTORE_MISMATCH: step, slot of the shard and tray of the image (R238). -/
def rstMismatch (s : State) (step slot tray : Nat) : State :=
  (s.bump F.SCF_RST_STATUS_mismatches).raise Ev.scfRestoreMismatch 0 (BitVec.ofNat 64 (place step 0 48 + place slot 48 4 + place tray 52 12))

/-- The plan changed, and one of its sources changed. -/
def updPlan (s : State) (h : RstPlan → RstPlan) : State := { s with scf := { s.scf with plan := s.scf.plan.map h } }
def updSrc (s : State) (i : Nat) (h : RstSrc → RstSrc) : State := s.updPlan (fun p => { p with srcs := p.srcs.modify i h })

/-- The restore state and its reason. -/
def setRst (s : State) (state reason : Nat) : State := (s.setF F.SCF_RST_STATUS_state state).setF F.SCF_RST_STATUS_reason reason

/-- Every restore association of the plan ends (R236). -/
def rstClose (s : State) : State :=
  match s.scf.plan with
  | none => s
  | some p => p.srcs.zipIdx.foldl (fun (s : State) (x : RstSrc × Nat) => if x.1.here ∨ x.1.phase = 3 then s else s.send (.assocClose (x.2 + 1))) s

/-! ### Planning (R237) -/

/-- Grains that a restore needs: those that the arrangement gives to slots of the mask on this tray. -/
def rstNeed (s : State) (d : List Byte) : List Nat :=
  let arr := [s.trs.active, s.trs.pending].findSome? (fun a => a.bind (fun a => if a.gen = rstArr d then some a.table else none))
  let holders := (maskSlots (rstMask d)).map s.holderOf
  ((arr.getD []).zipIdx.filter (fun x => holders.contains x.1)).map (·.2)

/-- A source's manifests that pass a restore's checks. -/
def rstCands (d : List Byte) (x : RstSrc) : List (List Byte × Nat) :=
  x.mans.filter (fun m => manGood m.1 x.key && decide (manJob m.1 = rstJob d ∧ sha384 (cut m.1 0x40 384) = cut d 0x20 48))

/-- Steps without repeats, descending. -/
def stepsDown (l : List Nat) : List Nat := l.foldl (fun a x => ins x a) []
where
  /-- insertion in descending order without repeats -/
  ins (x : Nat) : List Nat → List Nat
    | [] => [x]
    | y :: r => if x = y then y :: r else if y < x then x :: y :: r else y :: ins x r

/-- All sources have answered or cannot: the candidates are verified and the step is chosen. -/
def planFinish (s : State) : State :=
  match s.scf.plan with
  | none => s
  | some p =>
    let s := p.srcs.foldl (fun (s : State) (x : RstSrc) =>
      (x.mans.filter (fun m => !(rstCands p.desc x).contains m)).foldl (fun (s : State) m => s.rstMismatch (manStep m.1) 0 x.tray) s) s
    let good := p.srcs.flatMap (fun x => rstCands p.desc x)
    let need := s.rstNeed p.desc ++ [replGrain]
    let steps := (stepsDown (good.map (fun m => manStep m.1))).filter (fun st =>
      decide (st ≤ rstStep p.desc) && (!bitOf (rstFlags p.desc) 0 || decide (st = rstStep p.desc)))
    match steps.find? (fun st => need.all (fun g => good.any (fun m => decide (manStep m.1 = st ∧ grainRecs m.1 g ≠ [])))) with
    | some st => (((s.updPlan (fun p => { p with step := some st })).setF F.SCF_RST_STEP_step st)).setRst 2 0
    | none => (s.rstClose).setRst 5 (if good = [] ∧ p.srcs.all (fun x => decide (x.phase = 3)) then 2 else 1)

/-- The plan is finished once no source is still opening or fetching. -/
def planCheck (s : State) : State :=
  match s.scf.plan with
  | none => s
  | some p =>
    if s.f F.SCF_RST_STATUS_state = 1 ∧ p.srcs.all (fun x => decide (2 ≤ x.phase)) then s.planFinish else s

/-- Source `i` is asked for its next manifest, or has answered. -/
def srcNext (s : State) (i : Nat) : State :=
  match s.scf.plan.bind (fun p => p.srcs[i]?) with
  | none => s
  | some x =>
    match x.asked with
    | v :: _ => (s.updSrc i (fun x => { x with phase := 1, parts := [], last := s.beacon })).scfSend (i + 1) Rk.fetch 0 0 (b2n x.copy) 0 0 v []
    | [] => (s.updSrc i (fun x => { x with phase := 2 })).setF F.SCF_RST_STATUS_answered (s.f F.SCF_RST_STATUS_answered ||| 2 ^ i)

/-- A source on this keeper answers from memory. -/
def srcHere (s : State) (i : Nat) : State :=
  match s.scf.plan.bind (fun p => p.srcs[i]?) with
  | none => s
  | some x =>
    let mans := x.asked.filterMap (fun v => s.fetchManifest (decide (v = 1)) x.copy)
    (s.updSrc i (fun x => { x with asked := [], mans := mans })).srcNext i

/-- A store of 1 to SCF_RST_CTL.plan. While a restore loads it has no effect (DESIGN CHOICE). -/
def rstPlan (s : State) : State :=
  if s.f F.SCF_RST_STATUS_state = 3 then s
  else
    let s := s.rstClose
    let addr := s.f F.SCF_RST_DESC_desc
    let d := s.rstBytes addr
    let s := ({ s with scf := { s.scf with plan := none } } : State).setF F.SCF_RST_STATUS_answered 0
    if ¬ rstValid d ∨ regionOf addr 0x260 ≠ some .gallery then s.setRst 5 3
    else if s.trs.active.map (·.gen) ≠ some (rstArr d) ∧ s.trs.pending.map (·.gen) ≠ some (rstArr d) then s.setRst 5 4
    else
      let p : RstPlan := ⟨addr, d, s.rstSources d, none⟩
      let s := ({ s with scf := { s.scf with plan := some p } } : State).setRst 1 0
      let s := p.srcs.zipIdx.foldl (fun (s : State) (x : RstSrc × Nat) =>
        if x.1.here then s.srcHere x.2 else s.assocStart (x.2 + 1) (srcAddr (numAt d (0x60 + 0x80 * x.2 + 5) 1) (cut d (0x60 + 0x80 * x.2 + 8) 16)) (cut d (0x60 + 0x80 * x.2 + 5) 1 ++ cut d (0x60 + 0x80 * x.2 + 8) 16)) s
      s.planCheck

/-- A store of 1 to SCF_RST_CTL.cancel: the plan is dropped; a running restore is not affected (R240). -/
def rstCancel (s : State) : State :=
  if s.f F.SCF_RST_STATUS_state = 3 then s
  else if s.scf.plan.isNone then s
  else ({ s.rstClose with scf := { s.rstClose.scf with plan := none } } : State).setRst 0 0

/-! ### The load (R234, R238) -/

/-- The load changed. -/
def updLoad (s : State) (h : ScfLoad → ScfLoad) : State := { s with scf := { s.scf with load := s.scf.load.map h } }

/-- A load ends with a result: the restore status, the associations and the action. -/
def loadEnd (s : State) (result : Nat) : State :=
  match s.scf.load with
  | none => s
  | some l =>
    let s : State := { s with scf := { s.scf with load := none } }
    let s : State :=
      if l.restore then
        let back := s.scf.plan.bind (fun p => p.step)
        let s := if result = Res.done then (match back with | some step => s.boundaryBack step | none => s) else s
        let s := s.rstClose
        let s := ({ s with scf := { s.scf with plan := none, needFull := true, refs := [] } } : State)
        if result = Res.done then (s.setRst 4 0).raise Ev.scfRestoreDone 0 0
        else s.setRst 5 (if result = Res.noReply then 2 else 5)
      else s
    s.actEnd l.ticket result

/-- The association that a copy is fetched over: none where it stands in this keeper's memory. -/
def candAssoc (s : State) (c : SegCand) : Option Nat :=
  if c.src = 8 then none
  else if c.src = 9 then some 0
  else if c.src = 10 then some 5
  else match s.scf.plan.bind (fun p => p.srcs[c.src]?) with
    | some x => if x.here then none else some (c.src + 1)
    | none => none

/-- The association of a copy's source has ended. -/
def srcGone (s : State) (c : SegCand) : Bool :=
  decide (c.src < 8) && (s.scf.plan.bind (fun p => p.srcs[c.src]?)).any (fun x => !x.here && decide (x.phase = 3))

/-- A copy of a segment is bad: counted and reported, reported where a restore loads, and the next copy is taken. -/
def loadBad (s : State) (c : SegCand) : State :=
  match s.scf.load with
  | none => s
  | some l =>
    let s := s.shardBad c.rcd.slot
    let s := if l.restore then s.rstMismatch c.step c.rcd.slot c.tray else s
    s.updLoad (fun (l : ScfLoad) => { l with fetch := none, items := match l.items with
      | it :: r => { it with cands := it.cands.drop 1 } :: r
      | [] => [] })

/-- Good bytes of the first segment go to its Buoys with the coordinates of its record. -/
def loadSend (s : State) (it : LoadItem) (r : SegRec) (b : List Byte) : State :=
  let s := s.toBuoys (maskSlots it.dests) "SEGMENT" ([r.grain, r.tensor, r.toff] ++ b.map (fun (x : Byte) => x.toNat))
  s.updLoad (fun (l : ScfLoad) => { l with fetch := none, items := l.items.drop 1 })

/-- The load goes on until a fetch must be awaited or every segment has been sent. The first argument bounds the segments and copies
taken. -/
def loadPump : Nat → State → State
  | 0, s => s
  | k + 1, s =>
    match s.scf.load with
    | none => s
    | some l =>
      match l.items with
      | [] => s
      | it :: _ =>
        match it.cands with
        | [] => s.loadEnd Res.rejected
        | c :: _ =>
          match s.candAssoc c with
          | none =>
            (match s.segAt c.place c.rcd with
             | some b => loadPump k (s.loadSend it c.rcd b)
             | none => loadPump k ((s.segMeets c.place c.rcd).loadBad c))
          | some a =>
            if s.srcGone c then s.loadEnd Res.noReply
            else if l.fetch.isSome then s
            else ((s.updLoad (fun (l : ScfLoad) => { l with fetch := some [], last := s.beacon })).updSrc c.src (fun x => { x with last := s.beacon })).scfSend a Rk.fetch c.step c.seq c.no 0 0 2 (beBytes 1 4)

/-- Copies and segments that a load can still take. -/
def loadFuel (s : State) : Nat := ((s.scf.load.map (fun l => (l.items.map (fun it => it.cands.length + 1)).sum)).getD 0) + 1

def loadGo (s : State) : State := loadPump s.loadFuel s

/-- A fragment of a fetched segment; a whole one is decoded and checked. -/
def loadData (s : State) (h : ReplHdr) (data : List Byte) : State :=
  match s.scf.load with
  | none => s
  | some l =>
    match l.items, l.fetch with
    | it :: _, some parts =>
      (match it.cands with
       | c :: _ =>
         if s.candAssoc c ≠ some h.assoc ∨ h.seg ≠ c.no then s
         else
           let parts := parts.filter (fun x => decide (x.1 ≠ h.off)) ++ [(h.off, data)]
           let s := s.updLoad (fun (l : ScfLoad) => { l with fetch := some parts, last := s.beacon })
           let b := gather parts (parts.length + 1) []
           if b.length < c.rcd.stored then s
           else match Grain.load (b.take c.rcd.stored) c.rcd.raw c.rcd.isRaw with
             | some raw => (if sha384 raw = c.rcd.digest then s.loadSend it c.rcd raw else s.loadBad c).loadGo
             | none => (s.loadBad c).loadGo
       | [] => s)
    | _, _ => s

/-- A Buoy of the mask acknowledges the segments it was sent. -/
def loadAck (s : State) (n : Slot) : State :=
  match s.scf.load with
  | none => s
  | some l =>
    if s.clk.held ∨ bitOf l.left n.val = false ∨ l.items.any (fun it => bitOf it.dests n.val) ∨ l.peerMan.isSome then s
    else
      let left := l.left - 2 ^ n.val
      let s := s.updLoad (fun (l : ScfLoad) => { l with left := left, last := s.beacon })
      if left = 0 then s.loadEnd Res.done else s

/-- Rollback: the segments of the mask's shards in a manifest, from the named copies. -/
def rollbackItems (s : State) (mask : Nat) (m : List Byte) (peer : Bool) : List LoadItem :=
  (maskSlots mask).flatMap (fun n =>
    ((manRecs m).zipIdx.filter (fun x => decide (x.1.slot = n.val))).map (fun x =>
      let c (src place : Nat) : SegCand := ⟨src, place, manStep m, manSeq m, manTray m, x.2, x.1⟩
      ⟨2 ^ n.val, if peer then [c 10 0] else c 8 (s.commitPlace 0) :: (if s.buddyUp then [c 9 0] else [])⟩))

/-- The step that a rollback is checked against, and whether it is the other keeper's image (R234, R233). -/
def rollbackStep (s : State) : Option (Nat × Bool) :=
  match s.scf.peerStep with
  | some p => if ¬ s.commitValid 0 ∨ s.commitStep 0 < p then some (p, true) else some (s.commitStep 0, false)
  | none => if s.commitValid 0 then some (s.commitStep 0, false) else none

/-- ROLL ROLLBACK with an expected step is stale (R234). -/
def rollbackStale (s : State) (step : Nat) : Bool :=
  match s.rollbackStep with
  | none => true
  | some (p, peer) => decide (p ≠ step) || (!peer && decide (some (manArr s.ownManifest) ≠ s.trs.active.map (·.gen)))

/-- What both loads begin with: the image in progress is discarded, the ledger closes the slots' entries (R226, R168). -/
def loadBegin (s : State) (mask : Nat) : State :=
  (maskSlots mask).foldl (fun s n => s.ldgAbort n) s.scfDiscard

/-- ROLL ROLLBACK is driven; slots with a replay list are told to run it (R206). -/
def driveRollback (s : State) (a : Action) : State :=
  let s := s.loadBegin a.mask
  let s := (maskSlots a.mask).foldl (fun (s : State) n =>
    let k := s.f F.OCC_REPLAY_count n.val
    let ctx := [s.f F.OCC_REPLAY_ctx0 n.val, s.f F.OCC_REPLAY_ctx1 n.val, s.f F.OCC_REPLAY_ctx2 n.val, s.f F.OCC_REPLAY_ctx3 n.val]
    if k = 0 then s else s.toBuoy n "REPLAY_LIST" (s.f F.OCC_REPLAY_TMO_ms :: ctx.take k)) s
  let l : ScfLoad := ⟨a.ticket, false, a.mask, [], none, none, a.mask, s.beacon⟩
  match s.rollbackStep with
  | none => s.actEnd a.ticket Res.rejected
  | some (step, true) =>
    ({ s.boundaryBack step with scf := { s.scf with load := some { l with peerMan := some [] } } } : State).scfSend 5 Rk.fetch 0 0 0 0 0 0 []
  | some (step, false) =>
    ({ s.boundaryBack step with scf := { s.scf with load := some { l with items := s.rollbackItems a.mask s.ownManifest false } } } : State).loadGo

/-- The segments of a restore: each needed grain in ascending order, then the replicated tensors (R238). -/
def restoreItems (s : State) (p : RstPlan) (step : Nat) : List LoadItem :=
  let mask := rstMask p.desc
  let arr := ([s.trs.active, s.trs.pending].findSome? (fun a => a.bind (fun a => if a.gen = rstArr p.desc then some a.table else none))).getD []
  let mans : List (Nat × RstSrc × List Byte × Nat) := p.srcs.zipIdx.flatMap (fun x =>
    ((rstCands p.desc x.1).filter (fun m => decide (manStep m.1 = step))).map (fun m => (x.2, x.1, m.1, m.2)))
  (s.rstNeed p.desc ++ [replGrain]).flatMap (fun g =>
    let dests := if g = replGrain then mask
      else slotsMask ((maskSlots mask).filter (fun n => decide (some (s.holderOf n) = arr[g]?)))
    match mans.find? (fun x => decide (grainRecs x.2.2.1 g ≠ [])) with
    | none => []
    | some first =>
      (grainRecs first.2.2.1 g).map (fun r =>
        ⟨dests, mans.filterMap (fun x =>
          ((grainRecs x.2.2.1 g).find? (fun y => decide (y.2.tensor = r.2.tensor ∧ y.2.toff = r.2.toff ∧ y.2.raw = r.2.raw))).map (fun y =>
            (⟨x.1, x.2.2.2, step, manSeq x.2.2.1, x.2.1.tray, y.1, { y.2 with digest := r.2.digest }⟩ : SegCand)))⟩))

/-- ROLL RESTORE with a descriptor address is stale unless that descriptor was planned and is unchanged, for the same slots (R237). -/
def restoreStale (s : State) (addr mask : Nat) : Bool :=
  match s.scf.plan with
  | none => true
  | some p => decide (s.f F.SCF_RST_STATUS_state ≠ 2 ∨ p.addr ≠ addr ∨ p.desc ≠ s.rstBytes addr ∨ rstMask p.desc ≠ mask)

/-- ROLL RESTORE is driven. -/
def driveRestore (s : State) (a : Action) : State :=
  match s.scf.plan with
  | none => s.actEnd a.ticket Res.rejected
  | some p =>
    let s := (s.loadBegin a.mask).setRst 3 0
    let l : ScfLoad := ⟨a.ticket, true, a.mask, s.restoreItems p (p.step.getD 0), none, none, a.mask, s.beacon⟩
    ({ s with scf := { s.scf with load := some l } } : State).loadGo

/-! ### Answers (R236) -/

/-- A PREPARE fragment that answers a FETCH: a manifest for the plan, the other keeper's manifest for a
rollback, or a manifest that a lost channel took (17 R348). -/
def fetchedManifest (s : State) (h : ReplHdr) (data : List Byte) : State :=
  if s.clk.held then s
  else if h.assoc = 0 then
    match s.scf.refetch with
    | [] => s
    | (i, parts) :: rest =>
      let parts := parts.filter (fun x => decide (x.1 ≠ h.off)) ++ [(h.off, data)]
      let m := gather parts (parts.length + 1) []
      if data = [] then { s with scf := { s.scf with refetch := rest } }
      else if m.length < 0xA00 ∨ m.length < manLength m then { s with scf := { s.scf with refetch := (i, parts) :: rest } }
      else
        let s : State := { s with scf := { s.scf with refetch := rest } }
        if manDigest m = s.descDigest i ∧ m.length = s.descLen i then s.lpStore (s.manBase i) m else s
  else if h.assoc = 5 then
    match s.scf.load with
    | some l =>
      (match l.peerMan with
       | some parts =>
         let parts := parts.filter (fun x => decide (x.1 ≠ h.off)) ++ [(h.off, data)]
         let m := gather parts (parts.length + 1) []
         let s := s.updLoad (fun (l : ScfLoad) => { l with peerMan := some parts, last := s.beacon })
         if m.length < 0xA00 ∨ m.length < manLength m then (if data = [] then s.loadEnd Res.rejected else s)
         else if cut m (manLength m - 144) 48 = sha384 (m.take (manLength m - 144)) ∧ some (manStep m) = s.scf.peerStep ∧
             some (manArr m) = s.trs.active.map (·.gen) then
           (s.updLoad (fun (l : ScfLoad) => { l with peerMan := none, items := s.rollbackItems l.mask m true })).loadGo
         else s.loadEnd Res.rejected
       | none => s)
    | none => s
  else
    let i := h.assoc - 1
    match s.scf.plan.bind (fun p => p.srcs[i]?) with
    | none => s
    | some x =>
      if x.phase ≠ 1 then s
      else
        let parts := x.parts.filter (fun y => decide (y.1 ≠ h.off)) ++ [(h.off, data)]
        let m := gather parts (parts.length + 1) []
        let s := s.updSrc i (fun (x : RstSrc) => { x with parts := parts, last := s.beacon })
        if data = [] ∧ bitOf h.flags 1 then ((s.updSrc i (fun (x : RstSrc) => { x with asked := x.asked.drop 1 })).srcNext i).planCheck
        else if m.length < 0xA00 ∨ m.length < manLength m then s
        else ((s.updSrc i (fun (x : RstSrc) => { x with asked := x.asked.drop 1, mans := x.mans ++ [(m, 0)] })).srcNext i).planCheck

/-- The record that precedes a fetched segment keeps the association alive. -/
def fetchedHead (s : State) (h : ReplHdr) : State :=
  if s.clk.held then s else (s.updLoad (fun (l : ScfLoad) => { l with last := s.beacon })).updSrc (h.assoc - 1) (fun (x : RstSrc) => { x with last := s.beacon })

/-- A fragment of a fetched segment. -/
def fetchedData (s : State) (h : ReplHdr) (data : List Byte) : State :=
  if s.clk.held then s else (s.updSrc (h.assoc - 1) (fun (x : RstSrc) => { x with last := s.beacon })).loadData h data

/-- An ACCEPT with an attestation report that names the source and carries an equal owner digest opens the association; any other answer
leaves the source out. -/
def srcAnswered (s : State) (i : Nat) (good : Bool) : State :=
  match s.scf.plan.bind (fun p => p.srcs[i]?) with
  | none => s
  | some x =>
    if s.clk.held ∨ x.here ∨ x.phase ≠ 0 then s
    else if good then (s.srcNext i).planCheck
    else (s.updSrc i (fun (x : RstSrc) => { x with phase := 3 })).planCheck

/-- A source has ended its association: while planning it is unreachable, while loading from it the action ends NOREPLY (R236, R238). -/
def srcClosed (s : State) (i : Nat) : State :=
  match s.scf.plan.bind (fun p => p.srcs[i]?) with
  | none => s
  | some x =>
    if x.here ∨ x.phase = 3 then s
    else
      let wanted := s.scf.load.bind (fun l => l.items.head?.bind (fun it => it.cands.head?.map (·.src)))
      let s := s.updSrc i (fun (x : RstSrc) => { x with phase := 3 })
      if wanted = some i then s.loadEnd Res.noReply else s.planCheck

/-- 10 s without a frame end an association: while planning the source is unreachable, while loading from it the action ends NOREPLY. -/
def assocIdle (s : State) : State :=
  if s.clk.held then s
  else
    let s : State := { s with scf := { s.scf with served := s.scf.served.filter (fun (x : ScfServed) => decide (s.beacon < x.last + 10 * tickS)) } }
    match s.scf.plan with
    | none => s
    | some p =>
      let dead := (p.srcs.zipIdx.filter (fun x => decide (!x.1.here ∧ x.1.phase ≠ 3 ∧ x.1.last + 10 * tickS ≤ s.beacon))).map (·.2)
      if dead = [] then s
      else
        let wanted := s.scf.load.bind (fun l => l.items.head?.bind (fun it => it.cands.head?.map (·.src)))
        let s := dead.foldl (fun (s : State) i => (s.send (.assocClose (i + 1))).updSrc i (fun (x : RstSrc) => { x with phase := 3 })) s
        if wanted.any (fun c => dead.contains c) then s.loadEnd Res.noReply else s.planCheck

end State
end Sys2Proof.Machine
end

