-- ==== Sys2Proof/Machine/ActOps.lean ====
section
/-! DEFINITION. Issuing an acting instruction and driving the accepted action (04 R84 to R88, 10 R204). -/

namespace Sys2Proof.Machine

/-! ### Operand layouts (R86) -/

/-- What g[ra] of a sub-action names. -/
inductive ActForm
  | slotCore | slot | mask | nothing
  deriving DecidableEq, Repr

def SubAct.form : SubAct → ActForm
  | .rsetCore | .fencFence | .fencUnfence => .slotCore
  | .rsetLinks | .rsetMemory | .rsetWarm | .rsetCold | .rsetHold | .rsetRelease | .quarLink | .quarSlot | .quarRelease => .slot
  | .pwrOn | .pwrOff | .pwrCycle | .pwrCap | .ocltStop | .ocltAt | .ocltRelease | .rollRollback | .rollRestore => .mask
  | .ocltCancel => .nothing

/-- Slots and core that an operand names; none outside its layout. -/
def SubAct.targets (x : SubAct) (ga : Nat) : Option (Nat × Option Nat) :=
  match x.form with
  | .slotCore => if ga = ga % 16 + place (bits ga 16 16) 16 16 then some (2 ^ (ga % 16), some (bits ga 16 16)) else none
  | .slot => if ga < 16 then some (2 ^ ga, none) else none
  | .mask => if 0 < ga ∧ ga < 65536 then some (ga, none) else none
  | .nothing => if ga = 0 then some (0, none) else none

/-- g[rb] lies in its range. -/
def SubAct.secondOk (x : SubAct) (gb : Nat) : Bool :=
  match x with
  | .rsetCold => decide (gb = 0 ∨ (100 ≤ gb ∧ gb ≤ 1000000))
  | .pwrCycle => decide (10 ≤ gb ∧ gb ≤ 60000)
  | .pwrCap => decide (1 ≤ gb ∧ gb ≤ 65535)
  | .ocltAt | .rollRollback | .rollRestore => true
  | _ => decide (gb = 0)

/-- Where an acting instruction comes from: the word, pc, operands, and the session command it answers. -/
structure ActIssue where
  iword : Nat
  pc : Nat
  ga : Word
  gb : Word
  cmd : Option (Nat × Nat)

/-- The sub-action of a major and an fn (04 R86). -/
def subOf (major fn : Nat) : Option SubAct :=
  [SubAct.rsetCore, .rsetLinks, .rsetMemory, .rsetWarm, .rsetCold, .rsetHold, .rsetRelease, .pwrOn, .pwrOff, .pwrCycle, .pwrCap, .fencFence,
    .fencUnfence, .ocltStop, .ocltAt, .ocltCancel, .ocltRelease, .rollRollback, .rollRestore, .quarLink, .quarSlot, .quarRelease].find?
    (fun x => decide (x.code = (major, fn)))

namespace State

/-- The targets of R84: OCLT CANCEL has the slots of the pending OCLT AT. -/
def actTargets (s : State) (x : SubAct) (ga : Nat) : Option (Nat × Option Nat) :=
  match x with
  | .ocltCancel => if ga = 0 then some (s.f F.OCC_STATUS_sched, none) else none
  | x => x.targets ga

/-- Every target exists. -/
def targetsExist (s : State) (mask : Nat) (core : Option Nat) : Bool :=
  (maskSlots mask).all (fun n => s.slotPresent n && core.all (fun c => decide (c < s.coresOf n)))

/-- A running action overlaps the targets (R84). A pending OCLT AT runs only from the time at which it fires. -/
def actBusy (s : State) (mask : Nat) (core : Option Nat) : Bool :=
  s.act.running.any (fun a =>
    (decide (a.phase ≠ .pending) || s.atReached) && decide (mask.land a.mask ≠ 0) && (core.isNone || a.core.isNone || decide (core = a.core)))

/-- The state checks of a sub-action: the status that returns, if one does (R86). -/
def actState (s : State) (x : SubAct) (mask : Nat) (gb : Word) : Option Nat :=
  match x with
  | .ocltAt =>
    if gb.toNat < s.beacon + 3200 then some St.late
    else if s.atPending then some St.busy
    else none
  | .ocltRelease =>
    if s.occ.trigAt.any (fun x => decide (x.1 = s.beacon ∧ mask.land x.2 ≠ 0)) then some St.busy
    else if (maskSlots mask).any (fun n => decide ((s.mo n).phase = 3)) then some St.refused else none
  | .quarRelease => if (maskSlots mask).any s.quarRefused then some St.refused else none
  | .rollRollback => if s.rollbackStale gb.toNat then some St.stale else none
  | .rollRestore => if s.restoreStale gb.toNat mask then some St.stale else none
  | _ => none

/-! ### Driving the tray (R86, R204) -/

/-- A sub-action that the Buoy carries out: it is told, and where the link is not up it does not answer. -/
def driveBuoy (s : State) (a : Action) : State :=
  if (maskSlots a.mask).all s.linkUp then
    s.toBuoys (maskSlots a.mask) "ACTION" [a.sub.code.1, a.sub.code.2, a.ticket, a.core.getD 0, a.gb.toNat]
  else s.actEnd a.ticket Res.noReply

/-- A slot is put into stagger phase with RESET_L held low: for a time, or until RELEASE. -/
def driveHold (s : State) (n : Slot) (us : Option Nat) : State :=
  (((s.ldgReset n).updMo n (fun m => { m with readyFrom := none }))).toStagger n (.hold us)

/-- Slots whose part is done at once. -/
def partsDone (s : State) (ticket : Nat) (l : List Slot) : State := l.foldl (fun s n => s.actPart ticket n) s

/-- An accepted action drives the tray. DESIGN CHOICE: PWR ON of a slot that is powered is done at once, without a sequence; RSET HOLD is done once
RESET_L is held low, for no rule of R204 bounds a ready report of it. -/
def actDrive (s : State) (ticket : Nat) : State :=
  match s.actionOf ticket with
  | none => s
  | some a =>
    if a.phase ≠ .accepted then s
    else
      let s := s.updAct ticket (fun a => { a with phase := .driving, since := s.beacon })
      let slots := maskSlots a.mask
      match a.sub with
      | .rsetCore => s.driveBuoy a
      | .rsetMemory => s.driveBuoy a
      | .rsetWarm => (slots.foldl (fun s n => s.ldgReset n) s).driveBuoy a
      | .rsetLinks =>
        slots.foldl (fun (s : State) n =>
          let s := s.toBuoy n "ACTION" [0x50, 1, a.ticket, 0, 0]
          if s.blkState (s.portOf n) = 5 then s else s.linkTrain (s.portOf n)) s
      | .rsetCold =>
        slots.foldl (fun s n => s.driveHold n (some (if a.gb = 0 then 100 else a.gb.toNat))) s
      | .rsetHold => slots.foldl (fun s n => s.driveHold n none) s
      | .rsetRelease =>
        slots.foldl (fun (s : State) n =>
          match (s.mo n).seq with
          | some (.hold, _) => s.holdEnd n
          | _ => s.actPart ticket n) s
      | .pwrOn =>
        let on := slots.filter (fun n => (s.mo n).powered)
        (s.queuePower (slotsMask (slots.filter (fun n => !(s.mo n).powered)))).partsDone ticket on
      | .pwrOff => slots.foldl (fun s n => (s.ldgReset n).powerOff n 0) s
      | .pwrCycle => slots.foldl (fun s n => (s.ldgReset n).powerOff n a.gb.toNat) s
      | .pwrCap | .fencFence | .fencUnfence => s.driveBuoy a
      | .ocltStop => s.driveStop ticket 1
      | .ocltAt => s.atSchedule a
      | .ocltCancel => s.atCancel ticket
      | .ocltRelease => s.occRelease a
      | .rollRollback => s.driveRollback a
      | .rollRestore => s.driveRestore a
      | .quarLink => (slots.foldl (fun s n => s.quarLink n) s).actEnd ticket Res.done
      | .quarSlot =>
        (slots.foldl (fun (s : State) n => (s.updMo n (fun m => { m with quarSlot := true })).slotState n) s).actEnd ticket Res.done
      | .quarRelease => (slots.foldl (fun s n =>
          let r := s.quarRelease n
          if ¬ s.linkUp n ∧ r.linkUp n then r.segLinked n else r) s).actEnd ticket Res.done

/-! ### Issue (R84, R87, R88) -/

/-- Step 8: ticket, record, report; the tray is driven once the acceptance is mirrored, OCLT STOP and AT at once. -/
def actAccept (s : State) (a : Action) : State :=
  let s : State := { s with act := ⟨s.act.running ++ [a]⟩ }
  let s := (s.actRecord a Ev.actAccepted).actEvent a Ev.actAccepted 0
  if a.sub = .ocltStop ∨ a.sub = .ocltAt then (s.actDrive a.ticket).mirrorItem 2 (actionMsg a) .nothing
  else s.mirrorItem 2 (actionMsg a) (.actDrive a.ticket)

/-- The stop that the hardware path has decided in this very CCLK cycle, where no other running action has a target of the mask (10 R195). -/
def hwStopNow (s : State) (mask : Nat) : Option StopNow :=
  match s.occ.stopAt.filter (fun x => decide (x.tick = s.beacon ∧ x.hw = true)) with
  | none => none
  | some h => if ({ s with act := ⟨s.act.running.filter (fun a => decide (a.ticket ≠ h.ticket))⟩ } : State).actBusy mask none then none else some h

/-- An OCLT STOP in the cycle of a hardware trigger: one stop under one ticket, the instruction's; the trigger is counted as merged
(10 R195). A stop that has ended, every slot of it being stopped already, stands as the instruction's, and so does its end. -/
def actJoin (s : State) (h : StopNow) (a : Action) : State :=
  let s : State := { s with occ := { s.occ with stopAt := some { h with hw := false } } }
  let s :=
    match s.actionOf h.ticket with
    | some x => s.updAct h.ticket (fun _ => { a with mask := a.mask ||| x.mask, phase := x.phase, left := x.left, result := x.result })
    | none => { s with act := ⟨s.act.running ++ [{ a with mask := a.mask ||| h.mask, phase := .driving, left := 0 }]⟩ }
  let s := (s.actRecord a Ev.actAccepted).actEvent a Ev.actAccepted 0
  let s := s.joinStop h.ticket h.mask a.mask
  let s := ((s.bump F.OCC_CNT_merged).setF F.OCC_STATUS_cause (s.f F.OCC_STATUS_cause ||| 1)).mirrorItem 2
    (actionMsg { a with ticket := h.ticket, mask := a.mask ||| h.mask }) .nothing
  match s.actionOf h.ticket with
  | some x => if x.phase = .driving ∧ x.left = 0 then s.stopDone x else s
  | none => s

/-- Steps 2 to 8 of R84: the status word that returns, and the state. -/
def actIssue (s : State) (i : Tender) (x : SubAct) (q : ActIssue) : Word × State :=
  let (mask, core) := (s.actTargets x q.ga.toNat).getD (0, none)
  if ¬ s.control then (statusWord St.notControl 0 0, s)
  else if x = .ocltCancel ∧ (s.atPending = false ∨ s.atReached) then (statusWord St.empty 0 0, s)
  else if ¬ s.targetsExist mask core then (statusWord St.noTarget 0 0, s)
  else
    let armed := decide (mask.land (s.armedSlots x.cls) = mask)
    let first := (lowestBit mask 16).getD 0
    let arming := s.armWord x.cls mask first
    let act (tk : Nat) : Action :=
      { ticket := tk, sub := x, mask := mask, core := core, tender := some i, iword := q.iword, pc := q.pc, ga := q.ga, gb := q.gb
        arming := arming, phase := .accepted, result := 0, first := first, recSlot := first, since := s.beacon, left := mask
        cmd := q.cmd }
    if ¬ armed then
      let (tk, s) := s.newTicket
      (statusWord St.withheld 0 tk, (s.actRecord (act tk) Ev.actWithheld).actEvent (act tk) Ev.actWithheld 0)
    else match (if x = .ocltStop then s.hwStopNow mask else none) with
    | some h => (statusWord St.accepted 0 h.ticket, s.actJoin h (act h.ticket))
    | none =>
    if s.actBusy mask core then (statusWord St.busy 0 0, s)
    else match s.actState x mask q.gb with
      | some st => (statusWord st 0 0, s)
      | none =>
        let (tk, s) := s.newTicket
        (statusWord St.accepted 0 tk, (s.actAccept (act tk)).recoveryMode i x)

/-- The checks of a request block that a system instruction reads, or of an extent that it names (R60): every byte's region, the
alignment and the permission. An extent of no bytes is not checked. -/
def blockChecks (s : State) (i : Tender) (k : AccKind) (ea : Word) (n align : Nat) : List TrapReq :=
  if n = 0 then []
  else
    [regionCheck ea,
     trapIf (inRegion ea.toNat && decide (regionEnd ea.toNat < ea.toNat + n)) Cause.address (BitVec.ofNat 64 (regionEnd ea.toNat)),
     alignCheck ea align,
     trapIf (!s.memAdmits i (s.t i).prv k ea.toNat n) Cause.access (BitVec.ofNat 64 (s.admitEnd i (s.t i).prv k ea.toNat))]

/-- The slots bound to the program of a tender. -/
def boundSlots (s : State) (i : Tender) : Nat := ((s.progOf i).map (·.slots)).getD 0

/-- One acting instruction of a tender (R84 step 1, R63, and the steps that follow). -/
def actInstr (s : State) (i : Tender) (x : SubAct) (rd ra rb : Fin 32) (fn : BitVec 10) : State :=
  s.instr i (fun s =>
    let w := encA x.code.1 rd ra rb fn
    let ga := s.g i ra
    let gb := s.g i rb
    let tgt := s.actTargets x ga.toNat
    let mask := match tgt with | some (m, _) => m | none => 0
    s.guarded i
      ([trapIf (decide (fn.toNat ≠ x.code.2) || tgt.isNone || !x.secondOk gb.toNat) Cause.sysArg w,
        trapIf (!(s.t i).prv && decide (mask.land (s.boundSlots i) ≠ mask)) Cause.scope ga] ++
        (if x = .rollRestore then s.blockChecks i .load gb 0x260 64 else []))
      (fun s =>
        let (st, s) := s.actIssue i x ⟨w.toNat, (s.t i).pc.toNat, ga, gb, none⟩
        s.result i rd st))

/-! ### The Buoy's answers (R204) -/

/-- The time within which a Buoy reports itself ready, in ticks. -/
def readyBound (x : SubAct) : Option Nat :=
  match x with
  | .rsetCore => some tickMs
  | .rsetLinks => some (400 * tickMs)
  | .rsetMemory => some (1500 * tickMs)
  | .rsetWarm => some (2000 * tickMs)
  | .rsetCold | .rsetRelease => some (2600 * tickMs)
  | .pwrOn | .pwrCycle => some (3000 * tickMs)
  | _ => none

/-- A Buoy reports its part of an action done, or refuses it. Where the action ends only with the slot's report of being ready, the ACTION_DONE
message does not end the part. -/
def actionAnswer (s : State) (n : Slot) (ticket : Nat) (ok : Bool) : State :=
  match s.actionOf ticket with
  | none => s
  | some a =>
    if s.clk.held ∨ a.phase ≠ .driving ∨ bitOf a.left n.val = false then s
    else if ¬ ok then s.actEnd ticket Res.rejected
    else if (readyBound a.sub).isSome then s
    else
      let s := match a.sub with
        | .fencFence => (s.updMo n (fun m => { m with fenced := m.fenced.filter (fun c => decide (some c ≠ a.core)) ++ a.core.toList })).slotState n
        | .fencUnfence => (s.updMo n (fun m => { m with fenced := m.fenced.filter (fun c => decide (some c ≠ a.core)) })).slotState n
        | _ => s
      s.actPart ticket n

/-- The tick from which a driven action waits for a slot's report: its start, or the release of RESET_L, or PWR_GOOD. -/
def readyStart (s : State) (n : Slot) (a : Action) : Option Nat :=
  match a.sub with
  | .rsetCore | .rsetLinks | .rsetMemory | .rsetWarm => some a.since
  | _ => (s.mo n).readyFrom

/-- A driven action waits for a slot's report beyond its bound. -/
def readyLate (s : State) (n : Slot) (a : Action) : Bool :=
  decide (a.phase = .driving) && bitOf a.left n.val &&
    (readyBound a.sub).any (fun b => (s.readyStart n a).any (fun t => decide (t + b ≤ s.beacon)))

/-- A report that is late ends the action with TIMEOUT. -/
def readyTimeout (s : State) (n : Slot) : State :=
  match s.act.running.find? (s.readyLate n) with
  | some a => if s.clk.held then s else (s.updMo n (fun m => { m with readyFrom := none })).actEnd a.ticket Res.timeout
  | none => s

/-- A link that goes down leaves the actions that its Buoy carries out without an answer. -/
def actNoReply (s : State) (n : Slot) : State :=
  match s.drivenOn n [.rsetCore, .rsetMemory, .rsetWarm, .pwrCap, .fencFence, .fencUnfence] with
  | some a => s.actEnd a.ticket Res.noReply
  | none => s

/-- A keeper that takes control ends what was mirrored as accepted and not as complete with result TAKEOVER (R88); the schedule of an OCLT AT
that has not fired stays (10 R193). -/
def actTakeover (s : State) : State :=
  let l := (s.act.running.filter (fun a => decide (a.phase ≠ .ended))).map (·.ticket)
  l.foldl (fun s tk => (s.updAct tk (fun a => { a with cmd := none })).actEnd tk Res.takeover) { s with scf := { s.scf with load := none } }

/-- A link that goes down leaves without an answer the actions that its Buoy carries out (04 R85). -/
def linkLeft (s : State) (p : Slot) (r : State) : State :=
  if (s.port p).serving ∧ ¬ (r.port p).serving then
    (r.actNoReply (r.slotOf p)).dmaPortsClosed (fun x => decide (1 ≤ x / 256 ∧ x / 256 ≤ 4 ∧ x % 256 = (r.slotOf p).val))
  else r

/-- No valid frame for 20 µs, with what the link's loss ends. -/
def linkGone (s : State) (p : Slot) : State := s.linkLeft p (s.linkDown p)

/-- A link whose frames stop at once goes down at once: its reference clock is lost, or the link is disabled. -/
def linkLose (s : State) (p : Slot) : State := s.linkLeft p (s.linkFall p)

end State
end Sys2Proof.Machine
end

