-- ==== Sys2Proof/Machine/DmaOps.lean ====
section
/-! DEFINITION. Memory errors, the loss of a channel and its redirection, patrol scrub, the DMA channels (17 R339 to R358). -/

namespace Sys2Proof.Machine
namespace State

/-- ABORT: the running transfer and then the queue end ABORTED in channel order; the number ended (04 R77). A descriptor paced after this channel starts
(R356). -/
def dmaAbort (s : State) (c : Fin 32) : Nat × State :=
  let x := s.dch c
  let k := b2n x.running.isSome + x.queue.length
  let s := s.dmaCut c 1
  let s := s.updCh c (fun x => { x with queue := [], headSince := none, due := false })
  let s := x.queue.foldl (fun s d => s.dmaReport c d 1) s
  (k, if k = 0 then s else s.dmaAfter c)

/-- A DMA block reset: every channel in channel order (R357). -/
def dmaReset (s : State) : State := (List.finRange 32).foldl (fun s c => (s.dmaAbort c).2) s

/-- A descriptor queued with the channel's next sequence number (R351, R355). -/
def dmaQueue (s : State) (c : Fin 32) (d : DmaDesc) : Nat × State :=
  let q := s.f F.DMA_CH_NEXT_next c.val
  let s := s.setF F.DMA_CH_NEXT_next ((q + 1) % 2 ^ 48) c.val
  (q, (s.updCh c (fun x => { x with queue := x.queue ++ [{ d with seq := q }] })).dmaKick c)

/-- A paced timer starts the head descriptor at the first multiple of its period after it reached the head (R356). -/
def dmaTimer (s : State) (c : Fin 32) : State :=
  let x := s.dch c
  match x.queue, x.headSince with
  | d :: _, some t =>
    let p := d.pacePeriod * tickUs
    if s.clk.held ∨ ¬ d.paced ∨ d.paceKind ≠ 0 ∨ s.beacon < (t / p + 1) * p then s else s.dmaGo c
  | _, _ => s

/-! ### Loss of a channel (R346 to R349) -/

/-- Transfers that have bytes still to come on a lost channel end CHANNEL_LOST, the beats before them written; what a source port gave for those is a free
value (R355, R357). -/
def dmaLoseChannel (s : State) (ch : Nat) : State :=
  (List.finRange 32).foldl (fun s c =>
    match (s.dch c).running with
    | none => s
    | some d =>
      let on (a n : Nat) : Bool := isLpddr a && (linesOf a n).any (fun l => decide (lpChannel (l * 64) = ch))
      match ((List.range d.count).drop (s.dch c).pos).find? (fun i =>
          (!d.fill && !d.srcPort && on (dmaHome d (d.src + i * d.ss)) (2 ^ d.ws)) || (!d.dstPort && on (dmaHome d (d.dst + i * d.sd)) (2 ^ d.wd))) with
      | none => s
      | some i =>
        let a := ((s.dmaMeets d i).map (·.2)).getD (dmaHome d (d.src + i * d.ss))
        let (b, s) := if d.srcPort then s.drawBytes (64 * (i - (s.dch c).pos)) else ([], s)
        (s.errRecord a 4 c.val 1).dmaEnd c d b i 3) s

/-- Sequence ranges of the mirrored records that stand on a channel. -/
def mirrorRanges (s : State) (c : Nat) : List (Nat × Nat) :=
  (s.log.held.filter (fun q => decide (q ≤ s.f F.LOG_MIRRORED_mirrored ∧
    lpChannel (s.f F.LOG_MIRROR_BASE_mbase + q % 16777216 * 128) = c))).foldl (fun l q =>
      match l with
      | (a, b) :: r => if q = b + 1 then (a, q) :: r else (q, q) :: (a, b) :: r
      | [] => [(q, q)]) []

/-- A channel leaves service, and block stores held for it go on or fail: MEM_CHANNEL_LOST; a keeper that runs alone reports the ranges of mirrored
records lost in the record of the loss (R346, R348, 11 R227). DESIGN CHOICE: the first five, for which that record has room. -/
def loseChannel (s : State) (c : Nat) : State :=
  let first := s.mc.lost.isNone
  let s := (s.dropChannel c).heldGo
  let s := if first ∧ s.fb F.PAR_STATUS_solo then
      s.note Ev.memChannelLost 0 (((s.mirrorRanges c).reverse.take 5).flatMap (fun x => [BitVec.ofNat 64 x.1, BitVec.ofNat 64 x.2]))
    else s
  let s := s.raise Ev.memChannelLost c 0
  (s.dmaLoseChannel c).scfLoseChannel c

/-- Redirection of the lost channel is in force: each region fares as R348 states. -/
def redirected (s : State) : State :=
  match s.mc.lost with
  | none => s
  | some c =>
    if s.clk.held ∨ s.mc.redirected then s
    else
      let s := ({ s with mc := { s.mc with redirected := true } } : State).setF F.MEM_STATUS_redirecting 0
      let s := (s.trcLoseChannel).sightLoseChannel
      let s := allSlots.foldl (fun (s : State) n =>
        let a := 0x203C0000 + 32 * n.val
        let k := s.rdNat (a + 16) 8
        if k ≠ 0 ∧ (linesOf (s.dumpSeg n) k).any (fun l => decide (lpChannel (l * 64) = c)) then s.wrNat (a + 26) 1 5 else s) s
      let s := if s.fb F.PAR_STATUS_solo then s else (s.pairSend "MIRROR_COPY" [c]).pairSend "LOAD_COPY" [c]
      let s := s.scfRefetch c
      (List.finRange 32).foldl (fun s k => s.dmaKick k) s

/-- The other keeper's copy of bytes asked for: they are taken where they stand in the logbook mirror or the load area, on the channel lost here (R348). -/
def copyIn (s : State) (a : Nat) (b : List Byte) : State :=
  let inside (base size : Nat) : Bool := decide (base ≠ 0 ∧ base ≤ a ∧ a + b.length ≤ base + size)
  if s.clk.held ∨ ¬ s.fb F.PAR_STATUS_link_up ∨ ¬ s.mc.redirected ∨ s.mc.lost ≠ some (lpChannel a) ∨ 2048 < a % 2048 + b.length then s
  else if inside (s.f F.LOG_MIRROR_BASE_mbase) 0x80000000 || inside (s.f F.MEM_LOAD_load) 0x1C000000 then s.store a b
  else s

/-- A channel's PHY loses lock: self-refresh and relock; its requests are held (R341). -/
def phyLoss (s : State) (c : Nat) : State :=
  if s.clk.held ∨ bitOf (s.f F.MEM_CH_UP_up) c = false ∨ s.mc.relock.any (fun x => x.1 = c) then s
  else { s with mc := { s.mc with relock := s.mc.relock ++ [(c, s.beacon)] } }

/-- The channel relocks within 10 ms: counted, and the held requests proceed (R341). -/
def phyRelock (s : State) (c : Nat) : State :=
  match s.mc.relock.find? (fun x => x.1 = c) with
  | none => s
  | some (_, t) =>
    if s.clk.held ∨ ¬ s.clk.refclk ∨ t + 10 * tickMs < s.beacon then s
    else (({ s with mc := { s.mc with relock := s.mc.relock.filter (fun x => decide (x.1 ≠ c)) } } : State).bump F.MEM_CH_CNT_retrain 1 c).heldGo

/-- The channel has not relocked within 10 ms and leaves service (R346). -/
def relockTimeout (s : State) (c : Nat) : State :=
  match s.mc.relock.find? (fun x => x.1 = c) with
  | none => s
  | some (_, t) => if s.clk.held ∨ s.beacon < t + 10 * tickMs then s else s.loseChannel c

/-- A group of eight channels has trained; a channel that failed is out of service (R341, R346). -/
def trained (s : State) (g : Fin 8) (failed : Nat) : State :=
  if s.clk.held ∨ ¬ s.unitStarted g.val ∨ bits (s.f F.MEM_CH_UP_up) (8 * g.val) 8 ≠ 0 then s
  else
    let good := 255 - failed % 256
    let s := s.setF F.MEM_CH_UP_up (s.f F.MEM_CH_UP_up ||| good * 2 ^ (8 * g.val))
    let s := s.setF F.MEM_STATUS_trained (popCount (s.f F.MEM_CH_UP_up) 64)
    ((List.range 8).filter (fun k => bitOf failed k)).foldl (fun s k => s.loseChannel (8 * g.val + k)) s

/-! ### Errors (R343, R344, 03 R46) -/

/-- A correctable error: corrected and counted; a channel's count within one hour that first passes ce_thresh raises MEM_CE_HIGH. -/
def memCe (s : State) (a req rkind : Nat) : State :=
  if isLpddr a then
    let c := lpChannel a
    let s := (s.bump F.MEM_CH_CNT_ce 1 c).errRecord a 1 req rkind
    let (t0, k) := match s.mc.ceHour.find? (fun x => x.1 = c) with
      | some (_, t, k) => if s.beacon < t + 3600 * tickS then (t, k + 1) else (s.beacon, 1)
      | none => (s.beacon, 1)
    let s : State := { s with mc := { s.mc with ceHour := (c, t0, k) :: s.mc.ceHour.filter (fun x => decide (x.1 ≠ c)) } }
    if k = s.f F.MEM_CTL_ce_thresh + 1 then s.raise Ev.memCeHigh c 0 else s
  else if 0x10000000 ≤ a ∧ a < 0x12000000 then (s.bump F.MEM_SRAM_CNT_gal_ce).errRecord a 1 req rkind
  else if 0x20000000 ≤ a ∧ a < 0x20400000 then (s.bump F.MEM_SRAM_CNT_ret_ce).errRecord a 1 req rkind
  else (s.bump F.GLB_LMEM_CNT_ce).errRecord a 1 req rkind

/-- An uncorrectable error: recorded, MEM_UE; `ue_limit` of them within 1 s remove the channel (R344, R346). The line stays as it is until
it is written. -/
def memUe (s : State) (a req rkind : Nat) : State :=
  let s : State := if s.poison.contains (a / 64) then s else { s with poison := (a / 64) :: s.poison }
  if isLpddr a then
    let c := lpChannel a
    let s := (s.bump F.MEM_CH_CNT_ue 1 c).errRecord a 2 req rkind
    let times := (s.mc.ueTimes.filter (fun x => decide (s.beacon < x.2 + tickS))) ++ [(c, s.beacon)]
    let s := ({ s with mc := { s.mc with ueTimes := times } } : State).raise Ev.memUe 0 0
    if s.f F.MEM_CTL_ue_limit ≤ (times.filter (fun x => x.1 = c)).length ∧ bitOf (s.f F.MEM_CH_UP_up) c then s.loseChannel c else s
  else if 0x10000000 ≤ a ∧ a < 0x12000000 then (((s.bump F.MEM_SRAM_CNT_gal_ue).errRecord a 2 req rkind)).raise Ev.memUe 0 0
  else if 0x20000000 ≤ a ∧ a < 0x20400000 then (((s.bump F.MEM_SRAM_CNT_ret_ue).errRecord a 2 req rkind)).raise Ev.memUe 0 0
  else ((s.bump F.GLB_LMEM_CNT_ue).errRecord a 2 req rkind).raise Ev.memUe 0 0

/-! ### The end of a transfer (R353 to R355) -/

/-- What a failing access of a transfer leaves in the memory error record, and MEM_UE where the data was uncorrectable (R344, R347, R355). -/
def dmaFault (s : State) (why : DmaFail) (a c : Nat) : State :=
  match why with
  | .lost => s.errRecord a 4 c 1
  | .pool => s.errRecord a 5 c 1
  | .stale => s.memStale a c 1
  | .ue => s.memUe a c 1

/-- The running transfer of a channel goes on to its end: all its elements, or those before the first that fails; or to its next pause, which keeps the
holding register and the position (R353 to R355). `port` holds the bytes a source port of another unit gave, none where a port closed. -/
def dmaRun (s : State) (c : Fin 32) (b : DmaBeats) (port : Option (List Byte)) : State :=
  match (s.dch c).running with
  | none => s
  | some d =>
    if s.clk.held ∨ ¬ s.fb F.DMA_CH_CTL_en c.val ∨ s.dmaHeld d then s
    else
      let pos := (s.dch c).pos
      let upTo := (b.upTo.map (fun k => max pos (min k d.count))).getD d.count
      let ended := ((List.range upTo).drop pos).find? (fun i => b.ue.any (fun k => dmaSameBeat d k i) || (s.dmaMeets d i).isSome)
      let bytes := port.getD []
      let given := ((s.dmaPortState d).map (·.length)).getD (64 * pos + bytes.length)
      let s := (s.bump F.DMA_CH_CNT_pauses (b.pauses + b2n (decide (upTo < d.count ∧ ended = none))) c.val).updCh c (fun x => { x with paused := false })
      let s := if d.fill ∨ d.srcPort then s else
        (b.ce.filter (fun i => decide (pos ≤ i ∧ i < ended.getD upTo))).foldl (fun s i => s.memCe (dmaHome d (d.src + i * d.ss)) c.val 1) s
      match ended with
      | some i =>
        let (why, a) := (s.dmaMeets d i).getD (.ue, dmaHome d (d.src + i * d.ss))
        let s := (s.dmaMove c d bytes i).dmaIdle c
        (((s.dmaFault why a c.val).dmaReport c d why.status).dmaAfter c).dmaKick c
      | none =>
        if (d.srcPort || d.dstPort) && port.isNone then ((s.dmaCut c 4).dmaAfter c).dmaKick c
        else if d.srcPort && decide (given < 64 * upTo) then s.dmaEnd c d bytes (max pos (given / 64)) 4
        else if upTo < d.count then (s.dmaMove c d bytes upTo).updCh c (fun x => { x with paused := true })
        else s.dmaEnd c d bytes d.count 0

/-- A line met by patrol scrub: a corrected line is written back as it was (R343). -/
def scrub (s : State) (a : Nat) (ecc : Ecc) : State :=
  if s.clk.held ∨ ¬ s.fb F.MEM_CTL_scrub_en ∨ ¬ isLpddr a ∨ s.lpState a ≠ .ok then s
  else match ecc with
    | .clean => s
    | .corrected => s.memCe a 0 3
    | .uncorrectable => s.memUe a 0 3

end State
end Sys2Proof.Machine
end

