-- ==== Sys2Proof/Machine/LogOps.lean ====
section
/-! DEFINITION. The logbook beyond writing a record: the mirror, the floor, reading through the windows, LOG_SNAP, operating hours, custody
and the seal (15 R303, R306 to R316). -/

namespace Sys2Proof.Machine

/-- Ticks of an operating hour (R313). -/
def hourTicks : Nat := 5760000000000

/-- Records that the mirror holds (R306). -/
def mirrorSize : Nat := 16777216

namespace State

/-! ### Records by number (R304, R306, R311) -/

/-- Address of a sequence number's place in the mirror. -/
def mirrorAddr (s : State) (q : Nat) : Nat := s.f F.LOG_MIRROR_BASE_mbase + q % mirrorSize * 128

/-- The 128 bytes of a record that the logbook holds: from the ring while it stands there, else from the mirror. -/
def recordBytes (s : State) (q : Nat) : List Byte :=
  if s.rdNat (ringAddr q) 8 = q then wholeRecord (s.rdBytes (ringAddr q) 120) (s.f F.LOG_HOURS_pcc)
  else s.rdBytes (s.mirrorAddr q) 128

/-- The reader's cursor, latch and flag changed. -/
def updReader (s : State) (rdr : Nat) (h : LogReader → LogReader) : State :=
  let i : Fin 32 := Fin.ofNat 32 rdr
  { s with log := { s.log with readers := s.log.readers.set i (h (s.log.readers[i])) } }

/-- A read of LOG_WIN_00 or LOG_FWIN_00 latches the lowest record at or above the reader's cursor and the floor (R311). -/
def logLatch (s : State) (rdr : Nat) : State :=
  let cur := (s.log.readers[(Fin.ofNat 32 rdr : Fin 32)]).cursor
  let fl := s.f F.LOG_FLOOR_floor
  let q := s.log.held.find? (fun q => decide (cur ≤ q ∧ fl ≤ q))
  s.updReader rdr (fun x => { x with latch := q.map s.recordBytes, passed := x.passed || decide (cur < fl) })

/-! ### The mirror (R306, R310) -/

/-- Records removed from the logbook, by count and with the record that says so (R310). -/
def forceRemove (s : State) : State :=
  let sealed := s.fb F.LOG_STATUS_sealed
  let sq := s.f F.LOG_SEAL_SEQ_seal_seq
  let out := (s.log.held.filter (fun q => !sealed || decide (sq < q))).take 65536
  let s : State := { s with log := { s.log with held := s.log.held.filter (fun q => decide (¬ out.contains q)) } }
  let s := if sealed then s else s.setF F.LOG_FLOOR_floor (s.f F.LOG_FLOOR_floor + 65536)
  (s.bump F.LOG_CNT_forced out.length).logHwWords 0x0404 0x0F 0xF
    [BitVec.ofNat 64 (out.head?.getD 0), BitVec.ofNat 64 (out.getLast?.getD 0)]

/-- The mirror holds as many records at or above the floor as it has places. -/
def mirrorFull (s : State) : Bool :=
  decide (mirrorSize ≤ (s.log.held.filter (fun q => decide (q ≤ s.f F.LOG_MIRRORED_mirrored))).length)

/-- The condition of LOG_RING_HIGH as it stands (R306). -/
def ringHigh (s : State) : State :=
  if s.log.unmirrored.length < 24576 ∧ s.log.highRaised then
    ({ s with log := { s.log with highRaised := false } } : State).setFb F.LOG_STATUS_ring_high false
  else s

/-- A mirrored record enters the follower's ring under its number, which LOG_NEXT then follows (14 R287, 15 R306, R308). One that came already stands. -/
def recordKeep (s : State) (b : List Byte) : State :=
  let q := leNat (b.take 8)
  let add (l : List Nat) : List Nat := if l.contains q then l else l ++ [q]
  let s := (s.wrBytes (ringAddr q) (b.take 120)).wrNat logNextAddr 8 (q + 1)
  ringRise { s with log := { s.log with held := add s.log.held, unmirrored := add s.log.unmirrored } }

/-- The place of a record in the follower's ring is free: no other record that is not mirrored holds it (R306). -/
def recordRoom (s : State) (b : List Byte) : Bool :=
  let q := leNat (b.take 8)
  s.log.unmirrored.all (fun r => decide (r = q ∨ r % 32768 ≠ q % 32768))

/-- Mirrored records that waited for their places enter the ring, in order, and are acknowledged (R307). -/
def recordsEnter : Nat → State → State
  | 0, s => s
  | k + 1, s =>
    match s.par.recWait with
    | [] => s
    | b :: r =>
      if s.recordRoom b then recordsEnter k (((s.updPar (fun p => { p with recWait := r })).recordKeep b).pairSend "MIRROR_ACK" [])
      else s

/-- The mirror write of the oldest unmirrored record completes, or fails and is retried (R306). The mirror has its region once
LOG_MIRROR_BASE names LPDDR5X, and DMA_CH_22 copies while its DMA_CH_CTL.en is set (17 R357). -/
def mirrorWrite (s : State) (ok : Bool) : State :=
  match s.log.unmirrored with
  | [] => s
  | q :: r =>
    let a := s.mirrorAddr q
    if s.clk.held ∨ ¬ s.fb F.LOG_CTL_mirror_en ∨ ¬ s.fb F.DMA_CH_CTL_en 22 ∨ ¬ isLpddr a then s
    else match s.loadState a 128 with
      | .held => s
      | .lost => (s.bump F.LOG_CNT_mirror_err).raise Ev.logMirrorErr 0 0
      | _ =>
        if ¬ ok then (s.bump F.LOG_CNT_mirror_err).raise Ev.logMirrorErr 0 0
        else
          let s := if s.mirrorFull then s.forceRemove else s
          let s := s.store a (s.recordBytes q)
          let s : State := { s with log := { s.log with unmirrored := r } }
          let s := (s.setF F.LOG_MIRRORED_mirrored q).ringHigh
          recordsEnter s.par.recWait.length s

/-- Ring entries that are free from the next record's on, up to a bound (R306). -/
def ringFree (s : State) (most : Nat) : Nat :=
  ((List.range most).takeWhile (fun j =>
    (s.log.unmirrored ++ s.log.unacked).all (fun q => decide (q % 32768 ≠ (s.logNext + j) % 32768)))).length

/-- A record that waited enters the ring, or goes as a health record while this keeper follows; its tender goes on (R305, R307). -/
def waiterEnter (s : State) (w : LogWaiter) : State :=
  match w with
  | .record d => ((s.logTender d).map (·.2)).getD s
  | .logw k =>
    let i := tenderOf k
    match (s.t i).logWait with
    | none => s
    | some x =>
      match s.logTender ⟨x.trigger, x.source, k, x.lit, x.time, x.snap⟩ with
      | none => s
      | some (q, s) =>
        let s := s.updT i (fun t => { t with run := .running, logWait := none })
        match x.rd with
        | some rd => (s.result i rd (BitVec.ofNat 64 q)).resumed i
        | none =>
          let due := s.beacon + ((s.progOf i).map (·.budget)).getD 0 * tickUs
          (s.updReader (8 + k) (fun r => { r with cursor := q })).updT i
            (fun t => { t with handler := t.handler.map (fun h => { h with due := due }) })

/-- Tender-written records that waited for room enter the ring, as many as it has room for, those that waited longest; those that enter in one
step are numbered in ascending order of the writing tender (R305, R307). -/
def wakeLogw (s : State) : State :=
  let n := if s.following then s.log.waiters.length else s.ringFree s.log.waiters.length
  let go := s.log.waiters.take n
  let s : State := { s with log := { s.log with waiters := s.log.waiters.drop n } }
  (allTenders.flatMap (fun i => go.filter (fun w => decide (w.writer = i.val)))).foldl waiterEnter s

/-! ### LOG_SNAP (R303) -/

/-- An enabled entry that names a word it may not is ignored. -/
def snapIgnored (s : State) (e : Nat) : Bool :=
  let pos := s.f F.LOG_SNAP_pos e
  let ev := s.f F.LOG_SNAP_event e
  s.fb F.LOG_SNAP_en e && decide (pos < 2 ∨ 12 ≤ pos ∨ (0x3C0 ≤ ev ∧ ev < 0x3C4))

/-- What a store to an entry leaves: its ignored bit, and the count of stores that left it newly ignored. -/
def snapStored (s : State) (e : Nat) : State :=
  let was := s.fb F.LOG_SNAP_ignored e
  let now := s.snapIgnored e
  let s := s.setFb F.LOG_SNAP_ignored now e
  if now ∧ ¬ was then s.bump F.LOG_CNT_snap_ign else s

/-! ### Operating hours (R313) -/

/-- The hour sector of boot flash as its last write leaves it: power-cycle count and operating hours. -/
def flashHour (s : State) : Nat × Nat :=
  (s.sec.flash.writing.filterMap (fun w => match w with | .hour p h => some (p, h) | _ => none)).getLast?.getD
    (s.sec.flash.pcc, s.sec.flash.hours)

/-- A full hour of powered time: the hour sector of boot flash is written. -/
def hourTick (s : State) : State :=
  if s.beacon < s.log.hourDue then s
  else
    let h := s.flashHour
    let s : State := { s with log := { s.log with hourDue := s.log.hourDue + hourTicks } }
    { s with sec := { s.sec with flash := { s.sec.flash with writing := s.sec.flash.writing ++ [.hour h.1 (h.2 + 1)] } } }

/-- Operating hours at a beacon time that is not before LOG_HBASE. -/
def hoursAt (s : State) (time : Nat) : Nat := s.f F.LOG_HOURS_base + (time - s.f F.LOG_HBASE_hbase) / hourTicks

/-! ### Custody, floor, seal (R309, R314, R315) -/

/-- The session holds custody. -/
def hasCustody (s : State) (x : Sess) : Bool := s.fb F.LOG_STATUS_custody && decide (s.f F.LOG_STATUS_holder = x.val)

/-- Custody and the floor are mirrored with the session's position (14 R287). DEDUCED: they are part of what a takeover must carry on. -/
def custodyShow (s : State) : State :=
  s.mirrorItem 5 (.custody (if s.fb F.LOG_STATUS_custody then some (s.f F.LOG_STATUS_holder) else none) (s.f F.LOG_FLOOR_floor)) .nothing

/-- CUSTODY: taken by one session at a time, or given back. -/
def custodyTake (s : State) (x : Sess) (take : Bool) : Nat × State :=
  if take then
    if s.fb F.LOG_STATUS_custody ∧ ¬ s.hasCustody x then (St.refused, s)
    else (St.ok, ((s.setFb F.LOG_STATUS_custody true).setF F.LOG_STATUS_holder x.val).custodyShow)
  else if s.hasCustody x then (St.ok, ((s.setFb F.LOG_STATUS_custody false).setF F.LOG_STATUS_holder 0).custodyShow)
  else (St.refused, s)

/-- A session's custody ends with it. -/
def custodyDrop (s : State) (x : Sess) : State :=
  if s.hasCustody x then ((s.setFb F.LOG_STATUS_custody false).setF F.LOG_STATUS_holder 0).custodyShow else s

/-- FLOOR: the floor is raised between itself and LOG_NEXT, not past the seal. -/
def floorRaise (s : State) (x : Sess) (f : Nat) : Nat × State :=
  let old := s.f F.LOG_FLOOR_floor
  if ¬ s.hasCustody x ∨ f < old ∨ s.logNext < f ∨ (s.fb F.LOG_STATUS_sealed ∧ s.f F.LOG_SEAL_SEQ_seal_seq + 1 < f) then (St.refused, s)
  else
    let s : State := { s with log := { s.log with held := s.log.held.filter (fun q => decide (f ≤ q)) } }
    (St.ok, (s.setF F.LOG_FLOOR_floor f).custodyShow.raise Ev.logFloorRaised 0 (BitVec.ofNat 64 old))

/-- SEAL: the records up to the highest written and the dumps are frozen, and the seal block is to be signed. -/
def sealStart (s : State) (x : Sess) (dumps : Bool) : Nat × State :=
  if ¬ s.hasCustody x ∨ s.fb F.LOG_STATUS_sealed then (St.refused, s)
  else
    let last := s.logNext - 1
    let s := s.setF F.LOG_SEAL_SEQ_seal_seq last
    let s := (s.setFb F.LOG_STATUS_sealed true).setFb F.LOG_STATUS_sealing true
    let g : SealSt := ⟨s.f F.LOG_FLOOR_floor, s.beacon, s.log.held.filter (fun q => decide (q ≤ last)), dumps⟩
    (St.ok, { s with log := { s.log with sealing := some g } })

/-- The dump index and every slot's dump as a seal digests them (R314). -/
def sealDumps (s : State) : List Byte :=
  s.rdBytes 0x203C0000 512 ++ allSlots.flatMap (fun n =>
    s.rdBytes (s.dumpSeg n) (s.rdNat (0x203C0000 + 32 * n.val + 16) 8))

/-- The seal block of 320 bytes. -/
def sealBlock (s : State) (g : SealSt) : List Byte :=
  let b := [(0x43 : Byte), 0x53, 0x54, 0x44] ++ leBytes 1 2 ++ leBytes (b2n g.dumps) 2 ++ leBytes g.first 8 ++
    leBytes (s.f F.LOG_SEAL_SEQ_seal_seq) 8 ++ leBytes g.recs.length 8 ++ leBytes g.time 8 ++ leBytes (s.hoursAt g.time) 4 ++
    leBytes (s.f F.LOG_HOURS_pcc) 4 ++ sha384 (g.recs.flatMap s.recordBytes) ++
    (if g.dumps then sha384 s.sealDumps else List.replicate 48 0) ++ s.identity
  b ++ s.signBytes 2 b ++ List.replicate 32 0

/-- The seal block is signed and written: CUSTODY_SEALED. -/
def sealDone (s : State) : State :=
  match s.log.sealing with
  | none => s
  | some g =>
    if s.clk.held ∨ s.emergency ∨ s.alive 20 = false then s
    else
      let s := s.wrBytes (s.f F.LOG_SEAL_BASE_sbase) (s.sealBlock g)
      let s : State := { s with log := { s.log with sealing := none } }
      (s.setFb F.LOG_STATUS_sealing false).raise Ev.custodySealed 0 0

/-- The seal is gone. -/
def sealDrop (s : State) : State :=
  let s : State := { s with log := { s.log with sealing := none } }
  ((s.setFb F.LOG_STATUS_sealed false).setFb F.LOG_STATUS_sealing false).setF F.LOG_SEAL_SEQ_seal_seq 0

/-- A change of control before CUSTODY_SEALED abandons the seal, on the keeper that takes control and on the one that loses it (R315). -/
def sealTakeover (s : State) : State := if s.log.sealing.isSome then s.sealDrop else s

/-- RELEASE of the custody session: the seal and custody end, and a record is written. DESIGN CHOICE: a record of hardware with trigger
CUSTODY_SEALED whose word 0 is the last sealed sequence number. -/
def sealRelease (s : State) (x : Sess) : Nat × State :=
  if ¬ s.hasCustody x then (St.refused, s)
  else
    let q := s.f F.LOG_SEAL_SEQ_seal_seq
    (St.ok, (s.sealDrop.custodyDrop x).logHwWords Ev.custodySealed 0x0F 0xF [BitVec.ofNat 64 q])

end State
end Sys2Proof.Machine
end

