-- ==== Sys2Proof/Machine/SecOps.lean ====
section
/-! DEFINITION. Program images and their binding, boot flash, the owner record, the floor record, attestation
(05 R89 to R92, 18 R364 to R369). -/

namespace Sys2Proof.Machine

/-! ### Program images (05 R89) -/

def imgKind (b : List Byte) : Nat := numAt b 6 1
def imgVersion (b : List Byte) : Nat := numAt b 8 4
def imgEpoch (b : List Byte) : Nat := numAt b 0xC 4
def imgAbi (b : List Byte) : Nat := numAt b 0x10 4
def imgCode (b : List Byte) : Nat := numAt b 0x14 4
def imgData (b : List Byte) : Nat := numAt b 0x18 4
def imgEntry (b : List Byte) : Nat := numAt b 0x1C 4
def imgBind (b : List Byte) : List Byte := cut b 0x20 128
def imgPid (b : List Byte) : Nat := numAt b 0xA0 8
def imgKey (b : List Byte) : Nat := numAt b 0xA8 1
def imgDigest (b : List Byte) : List Byte := cut b 0xC0 48
def imgBody (b : List Byte) : List Byte := cut b 0x200 (imgCode b + imgData b)

/-- The reserved bytes of a binding block are zero. -/
def bindZeros (b : List Byte) : Bool := zeros (cut b 7 1) && zeros (cut b 0x14 4) && zeros (cut b 0x78 8)

/-- An image has the format, the sizes, the reserved zeros and the digest of R89. -/
def imgForm (b : List Byte) (kind : Nat) : Bool :=
  decide (b.take 4 = [0x54, 0x4E, 0x44, 0x50] ∧ numAt b 4 2 = 1 ∧ imgKind b = kind ∧ numAt b 7 1 = 0 ∧ imgCode b % 4 = 0 ∧
    imgCode b + imgData b ≤ 0x20000 ∧ (imgBody b).length = imgCode b + imgData b ∧
    imgDigest b = sha384 (b.take 0xC0 ++ imgBody b)) &&
    zeros (cut b 0xA9 23) && zeros (cut b 0x150 176) && (if kind = 1 then bindZeros (imgBind b) else zeros (imgBind b))

/-- The bits of the binding block that must be zero are, and the budget is in its range. -/
def bindForm (b : List Byte) : Bool :=
  decide (numAt b 0 4 < 2 ^ 24 ∧ numAt b 0xC 1 < 32 ∧ numAt b 0xD 1 < 4 ∧
    (numAt b 0x10 4 = 0 ∨ (10 ≤ numAt b 0x10 4 ∧ numAt b 0x10 4 ≤ 10000)))

/-- The gallery windows of a binding block: keeper address and size. -/
def bindGallery (b : List Byte) : List (Nat × Nat) :=
  ((List.range 4).map (fun i => (numAt b (0x18 + 8 * i) 4, numAt b (0x1C + 8 * i) 4))).filter (fun x => decide (x.2 ≠ 0)) |>.map
    (fun x => (0x10000000 + x.1, x.2))

/-- The LPDDR windows of a binding block. -/
def bindLpddr (b : List Byte) : List (Nat × Nat) :=
  ((List.range 4).map (fun i => (numAt b (0x38 + 16 * i) 8, numAt b (0x40 + 16 * i) 8))).filter (fun x => decide (x.2 ≠ 0))

/-- The entries of a handler table: event number or index, the flags, the offset, up to the first entry that is not valid. -/
def handlerRaw (b : List Byte) (at_ : Nat) : List (List Byte) :=
  ((List.range 64).map (fun i => cut b (at_ + 8 * i) 8)).takeWhile (fun e => bitOf (numAt e 0 2) 12)

/-- A handler table entry. -/
def handlerOf (e : List Byte) : HandlerEnt :=
  ⟨numAt e 0 2 % 1024, bitOf (numAt e 0 2) 10, bitOf (numAt e 0 2) 11, numAt e 4 4⟩

/-- An event number of the catalogue (05 R99). -/
def inCatalogue (e : Nat) : Bool :=
  decide (e ≤ 0x106 ∨ (0x140 ≤ e ∧ e ≤ 0x149) ∨ (0x180 ≤ e ∧ e ≤ 0x187) ∨
    (0x1C0 ≤ e ∧ e ≤ 0x1C4) ∨ (0x200 ≤ e ∧ e ≤ 0x208) ∨ (0x240 ≤ e ∧ e ≤ 0x244) ∨ (0x280 ≤ e ∧ e ≤ 0x286) ∨
    (0x2C0 ≤ e ∧ e ≤ 0x2C3) ∨ (0x300 ≤ e ∧ e ≤ 0x30C) ∨ (0x340 ≤ e ∧ e ≤ 0x363) ∨ (0x380 ≤ e ∧ e ≤ 0x3AF) ∨
    (0x3C0 ≤ e ∧ e ≤ 0x3C7) ∨ 0x3F0 ≤ e)

/-- A handler table ends as it must, and each entry is in order (R91). DESIGN CHOICE: the table lies in the code and data of the image. A slotrel
index names no one slot: it is one "for an unbound slot" where the program binds no slot at all. -/
def handlersOk (b : List Byte) (slots : Nat) : Bool :=
  let raw := handlerRaw (imgBody b) (imgEntry b)
  let stop := cut (imgBody b) (imgEntry b + 8 * raw.length) 8
  decide (imgEntry b + 8 * raw.length ≤ (imgBody b).length) && (decide (raw.length = 64) || (decide (stop.length = 8) && zeros stop)) &&
    raw.all (fun e =>
      let h := handlerOf e
      decide (numAt e 0 2 < 8192 ∧ numAt e 2 2 = 0 ∧ h.offset < imgCode b) &&
        (if h.trap then decide (h.event = 0)
         else if h.slotrel then decide (h.event < 16 ∧ slots ≠ 0)
         else inCatalogue h.event))

/-- Two windows overlap. -/
def windowsMeet (x y : Nat × Nat) : Bool := decide (x.1 < y.1 + y.2 ∧ y.1 < x.1 + x.2)

/-- The program of an image. -/
def programOf (b : List Byte) : Program :=
  let k := imgBind b
  { pid := imgPid b, version := imgVersion b, epoch := imgEpoch b, digest := imgDigest b, codeSize := imgCode b, body := imgBody b, image := b
    tenders := numAt k 0 4, slots := numAt k 4 2, sessions := numAt k 6 1, sets := numAt k 8 4, dma := numAt k 0xC 1 * 2 ^ 27
    trapPass := bitOf (numAt k 0xD 1) 0, trapResume := bitOf (numAt k 0xD 1) 1, raise := numAt k 0xE 2
    budget := if numAt k 0x10 4 = 0 then 100 else numAt k 0x10 4, gallery := bindGallery k, lpddr := bindLpddr k
    handlers := (handlerRaw (imgBody b) (imgEntry b)).map handlerOf, endings := [] }

namespace State

/-! ### Boot flash (18 R363, R364) -/

/-- The bytes of the flash map from an offset on. DESIGN CHOICE: a byte never written reads 0xFF. -/
def flashBytes (s : State) (off n : Nat) : List Byte := (List.range n).map (fun i => spGet 0xFF s.sec.flash.bytes (off + i))

/-- A flash write is queued. -/
def flashQueue (s : State) (w : FlashWrite) : State :=
  { s with sec := { s.sec with flash := { s.sec.flash with writing := s.sec.flash.writing ++ [w] } } }

/-- What a flash write leaves in flash; a floor record goes to the copy that is not the latest (R367). -/
def flashApply (f : FlashSt) (w : FlashWrite) : FlashSt :=
  match w with
  | .owner r => { f with owner := some r }
  | .floor r =>
    (match f.floors with
     | (some a, some b) => if a.count ≤ b.count then { f with floors := (some r, some b) } else { f with floors := (some a, some r) }
     | (some a, none) => { f with floors := (some a, some r) }
     | (none, b) => { f with floors := (some r, b) })
  | .hour p h => { f with pcc := p, hours := h }
  | .bytes off d => { f with bytes := d.zipIdx.foldl (fun m x => spPut 0xFF m (off + x.2) x.1) f.bytes }

/-- The floor record of flash that is in force at boot: the copy with the higher count (R367). -/
def flashFloor (s : State) : FloorRecord :=
  match s.sec.flash.floors with
  | (some a, some b) => if a.count < b.count then b else a
  | (some a, none) => a
  | (none, some b) => b
  | (none, none) => FloorRecord.empty

/-- A failed signature or MAC: SEC_CNT and SEC_VERIFY_FAIL. -/
def verifyFailed (s : State) : State := (s.bump F.SEC_CNT_verify_fail).raise Ev.secVerifyFail 0 0

/-- A refused load or floor write. -/
def secRefused (s : State) : State := s.bump F.SEC_CNT_refused

/-! ### Floors (R367, R368) -/

/-- The floor of an owner program's program_id, none where it has no entry among 1 to 31. -/
def floorOf (s : State) (pid : Nat) : Option Nat :=
  (s.sec.floor.entries.toList.drop 1).findSome? (fun e => e.bind (fun x => if x.1 = pid then some x.2 else none))

/-- A floor record put in force and queued for flash. -/
def floorPut (s : State) (r : FloorRecord) : State :=
  ({ s with sec := { s.sec with floor := r } } : State).flashQueue (.floor r)

/-- A new program_id takes a free entry with floor 0; none where no entry is free (R367). -/
def floorTake (s : State) (pid : Nat) : Option State :=
  if (s.floorOf pid).isSome then some s
  else match (List.finRange 32).find? (fun e => decide (e.val ≠ 0) && (s.sec.floor.entries[e]).isNone) with
    | none => none
    | some e => some (s.floorPut ⟨s.sec.floor.entries.set e (some (pid, 0)), s.sec.floor.count + 1⟩)

/-- The epoch of the image in force for a floor entry: the Standing Orders for entry 0, else the bound program with its program_id. -/
def epochInForce (s : State) (e : Fin 32) : Option (Nat × Nat) :=
  if e = 0 then s.prog.orders.map (fun o => (0, o.epoch))
  else (s.sec.floor.entries[e]).bind (fun x => (s.boundPrograms.find? (fun p => p.pid = x.1)).map (fun p => (x.1, p.epoch)))

/-- SEC_FLOOR_RAISE.raise: the selected entry's floor rises to the epoch in force (R367). -/
def floorRaiseSel (s : State) : State :=
  let e : Fin 32 := Fin.ofNat 32 (s.f F.SEC_FLOOR_SEL_entry)
  match s.epochInForce e with
  | none => s.secRefused
  | some (pid, ep) =>
    let old := ((s.sec.floor.entries[e]).map (·.2)).getD 0
    s.floorPut ⟨s.sec.floor.entries.set e (some (pid, max old ep)), s.sec.floor.count + 1⟩

/-- SEC_FLOOR_RAISE.clear: an entry whose program is unbound is freed; entry 0 never (R367). -/
def floorClearSel (s : State) : State :=
  let e : Fin 32 := Fin.ofNat 32 (s.f F.SEC_FLOOR_SEL_entry)
  if e = 0 ∨ (s.sec.floor.entries[e]).isNone then s.secRefused
  else match s.epochInForce e with
    | some _ => s.secRefused
    | none => s.floorPut ⟨s.sec.floor.entries.set e none, s.sec.floor.count + 1⟩

/-- The entries of a record with an entry of the other keeper's: the floor of its program_id rises to the higher; a program_id that has none here takes the
same place where that is free, else the first free one, and none where none is free (R368). -/
def FloorRecord.join (es : Vector (Option (Nat × Nat)) 32) (x : Fin 32 × Nat × Nat) : Vector (Option (Nat × Nat)) 32 :=
  let (e, pid, y) := x
  match (List.finRange 32).find? (fun (k : Fin 32) => decide (k = 0 ↔ e = 0) && (es[k]).any (fun z => decide (z.1 = pid))) with
  | some k => es.set k (some (pid, max y (((es[k]).map (·.2)).getD 0)))
  | none =>
    match (e :: List.finRange 32).find? (fun k => (es[k]).isNone && (decide (k ≠ 0) || decide (e = 0))) with
    | some k => es.set k (some (pid, y))
    | none => es

/-- The floor records of the two keepers are merged at a resync (R368). -/
def floorMerge (s : State) (o : FloorRecord) : State :=
  let mine := s.sec.floor
  let es := ((List.finRange 32).filterMap (fun e => (o.entries[e]).map (fun x => (e, x)))).foldl (fun es x => FloorRecord.join es (x.1, x.2)) mine.entries
  if es = mine.entries then s
  else (s.floorPut ⟨es, max mine.count o.count + 1⟩).setFb F.SEC_STATUS_floor_conflict true

/-! ### Owner programs (05 R91, R92) -/

/-- The public half of the key that an image names (05 R89). -/
def imageKey (s : State) (b : List Byte) : Option (List Byte) :=
  if imgKind b = 0 then
    (if imgKey b = 0 ∨ (imgKey b = 1 ∧ ¬ s.sec.flash.revoked) then some (Config.vendorKey (imgKey b)) else none)
  else if imgKey b < 4 then (s.ownerKey (imgKey b)).map (·.key)
  else none

/-- An image is one that the keeper accepts under R89. -/
def imageGood (s : State) (b : List Byte) (kind : Nat) : Bool :=
  imgForm b kind && ((s.imageKey b).map (fun k => verifyDigest k (imgDigest b) (cut b 0xF0 96))).getD false

/-- A load of a program is still pending on some tender of a mask (05 R92). -/
def bindPending (s : State) (mask : Nat) : Bool :=
  allTenders.any (fun i => bitOf mask i.val && ((s.t i).bindPend.any (fun w => w.isSome)))

/-- The status that a program image is refused with under R89 and R91, none where it is taken. -/
def programRefusal (s : State) (b : List Byte) : Option Nat :=
  let p := programOf b
  let others := s.prog.owned.toList.filterMap (fun o => o.bind (fun q => if q.pid = p.pid then none else some q))
  let abi := (s.prog.orders.map (·.abi)).getD 0
  if ¬ s.imageGood b 1 then some St.invalid
  else if s.bindPending p.tenders then some St.busy
  else
    let abiBad : Bool := decide (p.epoch < (s.floorOf p.pid).getD 0) || decide (imgAbi b / 65536 ≠ abi / 65536) ||
      decide (abi % 65536 < imgAbi b % 65536) || !(bindForm (imgBind b))
    let shared : Bool := allTenders.any (fun i => bitOf p.tenders i.val && (s.progOf i).any (fun (q : Program) => decide (q.pid ≠ p.pid)))
    let galBad : Bool := p.gallery.any (fun (w : Nat × Nat) => decide (w.1 < 0x11000000 ∨ 0x12000000 < w.1 + w.2 ∨ w.1 % 4096 ≠ 0 ∨ w.2 % 4096 ≠ 0))
    let base := s.f F.MEM_OWNER_owner
    let memBad : Bool := p.lpddr.any (fun (w : Nat × Nat) => decide (base = 0 ∨ w.1 < base ∨ base + 0x20000000 < w.1 + w.2 ∨
        w.1 % 65536 ≠ 0 ∨ w.2 % 65536 ≠ 0))
    let meet : Bool := others.any (fun (q : Program) => q.gallery.any (fun x => p.gallery.any (windowsMeet x)) ||
      q.lpddr.any (fun x => p.lpddr.any (windowsMeet x)))
    if abiBad || shared || galBad || memBad || meet || !(handlersOk b p.slots) then some St.refused else none

/-- A program taken in: it is held, and asked of each of its tenders; the version that it replaces runs on at each of its tenders until the
replacement or the unbinding takes effect there, and a binding still pending of a version now replaced is asked of the new one's tenders alone (R91, R92).
The answer is the status of the LOAD. -/
def programLoad (s : State) (b : List Byte) : Nat × State :=
  match s.programRefusal b with
  | some st =>
    let s := s.secRefused.raise Ev.programRefused 0 0
    (st, if st = St.invalid then s.verifyFailed else s)
  | none =>
    let p := programOf b
    let old := (List.finRange 16).find? (fun k => (s.prog.owned[k]).any (fun q => decide (q.pid = p.pid)))
    match old.orElse (fun _ => (List.finRange 16).find? (fun k => (s.prog.owned[k]).isNone)) with
    | none => (St.full, s.secRefused.raise Ev.programRefused 0 0)
    | some k =>
      match s.floorTake p.pid with
      | none => (St.full, s.secRefused.raise Ev.programRefused 0 0)
      | some s =>
        let was := s.prog.owned[k]
        let s : State := { s with prog := { s.prog with owned := s.prog.owned.set k (some p), loading := s.prog.loading ++ [p.pid] } }
        (St.ok, allTenders.foldl (fun s i =>
          let s := if (s.t i).prog = some k.val then s.updT i (fun x => { x with old := x.old.orElse (fun _ => was) }) else s
          if bitOf p.tenders i.val then s.updT i (fun x => { x with bindPend := some (some k.val) })
          else if (s.t i).prog = some k.val then s.updT i (fun x => { x with bindPend := some none })
          else if (s.t i).bindPend = some (some k.val) then s.updT i (fun x => { x with bindPend := none })
          else s) s)

/-- UNBIND of a program_id: each tender lets it go between two events (R92). -/
def programUnbind (s : State) (pid : Nat) : Nat × State :=
  match (List.finRange 16).find? (fun k => (s.prog.owned[k]).any (fun q => decide (q.pid = pid))) with
  | none => (St.noTarget, s)
  | some k =>
    let s : State := { s with prog := { s.prog with loading := s.prog.loading.filter (fun q => decide (q ≠ pid)) } }
    let s := s.unbindProg k.val
    (St.ok, if allTenders.any (fun i => decide ((s.t i).prog = some k.val)) then s
      else { s with prog := { s.prog with owned := s.prog.owned.set k none } })

/-- A binding or unbinding takes effect on a tender between two events, when no handler runs there; the last one of a load reports the
program bound, once mirrored (R92, 14 R287). -/
def bindingDone (s : State) (i : Tender) : State :=
  match (s.t i).bindPend with
  | none => s
  | some want =>
    if (s.t i).handler.isSome then s
    else
      let before := (s.t i).prog
      let s := s.updT i (fun x => { x with prog := want, bindPend := none, old := none })
      let s := match want with
        | some k => (match s.prog.owned[Fin.ofNat 16 k] with
            | some p => s.wrBytes (home i ownerBase) p.body
            | none => s)
        | none => s
      let s : State := match before with
        | some k =>
          if want ≠ some k ∧ ¬ allTenders.any (fun j => decide ((s.t j).prog = some k ∨ (s.t j).bindPend = some (some k))) then
            { s with prog := { s.prog with owned := s.prog.owned.set (Fin.ofNat 16 k) none } }
          else s
        | none => s
      match want with
      | some k =>
        (match s.prog.owned[Fin.ofNat 16 k] with
         | some p =>
           if s.prog.loading.contains p.pid ∧ ¬ allTenders.any (fun j => decide ((s.t j).bindPend = some (some k))) then
             ({ s with prog := { s.prog with loading := s.prog.loading.filter (fun q => decide (q ≠ p.pid)) } } : State).mirrorItem 9 (.program p.image) (.programLoaded k)
           else s
         | none => s)
      | none => s

/-! ### The Standing Orders (05 R90) -/

/-- The Standing Orders image at a place of boot flash: 0 A, 1 B; none where it is not valid or its epoch is below its floor. -/
def ordersAt (s : State) (k : Nat) : Option (List Byte) :=
  let off := 0x10000 + 0x100000 * k
  let h := s.flashBytes off 0x200
  if 0x20000 < imgCode h + imgData h then none
  else
    let b := h ++ s.flashBytes (off + 0x200) (imgCode h + imgData h)
    if s.imageGood b 0 ∧ (((s.flashFloor).entries[(0 : Fin 32)]).map (·.2)).getD 0 ≤ imgEpoch b then some b else none

/-- The image that starts: the valid one with the higher version, or with the higher epoch where the versions are equal. -/
def ordersPick (s : State) : Option (List Byte × Nat) :=
  match s.ordersAt 0, s.ordersAt 1 with
  | some a, some b =>
    if imgVersion a < imgVersion b ∨ (imgVersion a = imgVersion b ∧ imgEpoch a < imgEpoch b) then some (b, 1) else some (a, 0)
  | some a, none => some (a, 0)
  | none, some b => some (b, 1)
  | none, none => none

/-! ### Owner records (18 R366) -/

/-- The owner record of an image. -/
def ownerOf (b : List Byte) : OwnerRecord :=
  let n := numAt b 6 2
  { generation := numAt b 8 8, serial := cut b 0x10 16, prev := cut b 0x20 48
    entries := (List.range n).map (fun i =>
      let e := cut b (0x50 + 128 * i) 128
      ⟨numAt e 0 1, numAt e 1 1, numAt e 2 2, cut e 16 97⟩)
    digest := cut b (0x50 + 128 * n) 48, sig := cut b (0x80 + 128 * n) 96 }

/-- The unused bytes of an owner record's entries are zero, and a program key has privilege zero. -/
def ownerEntriesOk (b : List Byte) : Bool :=
  (List.range (numAt b 6 2)).all (fun i =>
    let e := cut b (0x50 + 128 * i) 128
    zeros (cut e 4 12) && zeros (cut e 113 15) && decide (numAt e 1 1 < 4) && (decide (0x20 ≤ numAt e 0 1) || decide (numAt e 1 1 = 0)))

/-- An owner record's signature verifies under the root key of the record in force, or for a claim under its own (R366). -/
def ownerSigned (s : State) (b : List Byte) : Bool :=
  let r : OwnerRecord := ownerOf b
  let root := match s.sec.owner with
    | some o => (o.entries.find? (fun (k : OwnerKey) => decide (k.index = 0))).map (fun (k : OwnerKey) => k.key)
    | none => (r.entries.find? (fun (k : OwnerKey) => decide (k.index = 0))).map (fun (k : OwnerKey) => k.key)
  (root.map (fun k => verifyDigest k r.digest r.sig)).getD false

/-- An owner record meets what R366 asks beside its signature. -/
def ownerGood (s : State) (b : List Byte) : Bool :=
  let n := numAt b 6 2
  let r : OwnerRecord := ownerOf b
  let len := 0x50 + 128 * n
  let idx : List Nat := r.entries.map (fun (k : OwnerKey) => k.index)
  let form : Bool := decide (b.take 4 = [0x4F, 0x57, 0x4E, 0x52]) && decide (numAt b 4 2 = 1) && decide (1 ≤ n) && decide (n ≤ 36) &&
    decide (b.length = len + 144)
  let here : Bool := decide (r.serial = serialBytes) && decide (idx.Nodup) && idx.contains 0 && decide (r.digest = sha384 (b.take len)) &&
    decide (r.prev = s.ownerDigest) && (s.sec.owner.map (fun (o : OwnerRecord) => o.generation)).all (fun g => decide (g < r.generation))
  form && here && ownerEntriesOk b

/-- LOAD of an owner record: written to flash, in force from the next reset on. -/
def ownerLoad (s : State) (b : List Byte) : Nat × State :=
  if ¬ s.ownerGood b then (St.refused, s.secRefused)
  else if ¬ s.ownerSigned b then (St.refused, s.secRefused.verifyFailed)
  else (St.ok, (s.flashQueue (.owner (ownerOf b))).setFb F.SEC_STATUS_owner_pending true)

/-- LOAD of bytes of the boot flash map: an image of the Standing Orders, the owner record, the owner configuration, a stored program. Each
is checked when whole. -/
def flashLoad (s : State) (off : Nat) (b : List Byte) : Nat × State :=
  if off = 0x10000 ∨ off = 0x110000 then
    if ¬ s.imageGood b 0 then (St.invalid, s.secRefused.verifyFailed)
    else if imgEpoch b < (((s.sec.floor).entries[(0 : Fin 32)]).map (·.2)).getD 0 then (St.refused, s.secRefused)
    else (St.ok, s.flashQueue (.bytes off b))
  else if off = 0x210000 then s.ownerLoad b
  else if off = 0x250000 then (if b.length ≤ 0x40000 then (St.ok, s.flashQueue (.bytes off b)) else (St.refused, s.secRefused))
  else if 0x290000 ≤ off ∧ off < 0x690000 ∧ (off - 0x290000) % 0x40000 = 0 then
    if s.imageGood b 1 then (St.ok, s.flashQueue (.bytes off b)) else (St.invalid, s.secRefused.verifyFailed)
  else (St.noTarget, s)

/-- LOAD of a truss map, a format plan or an arrangement table: it goes to the load area, where the Standing Orders verify the signature of
an image and name its place to the TRS block (08 R151, 17 R345). DESIGN CHOICE: at 0, 64 MiB and 128 MiB of the area. -/
def trsStore (s : State) (k : Nat) (b : List Byte) : Nat × State :=
  let a := s.f F.MEM_LOAD_load + k * 0x4000000
  if ¬ isLpddr a ∨ 0x4000000 < b.length then (St.refused, s)
  else
    let s := s.store a b
    if k = 2 then (St.ok, s)
    else if (s.trsImage a).valid then
      (St.ok, if k = 0 then s.setF F.TRS_MAP_SRC_map a else s.setF F.TRS_PLAN_SRC_plan a)
    else (St.invalid, s.verifyFailed)

/-! ### Attestation (18 R369) -/

/-- The report of 688 bytes for a nonce. -/
def attestReport (s : State) (nonce : List Byte) : List Byte :=
  let o := s.prog.orders
  let b := [(0x41 : Byte), 0x54, 0x53, 0x54] ++ leBytes 1 2 ++ leBytes 0x1620 2 ++ leBytes 0xB1 1 ++
    leBytes (b2n s.clk.relief + 2 * b2n s.control + 4 * b2n s.emergency + 8 * b2n (s.fb F.SEC_STATUS_owner_pending)) 1 ++
    leBytes (s.f F.GLB_TRAY_tray + place (b2n s.clk.relief) 15 1) 2 ++ leBytes (s.f F.LOG_HOURS_pcc) 4 ++ serialBytes ++
    (nonce ++ List.replicate 32 0).take 32 ++ leBytes s.beacon 8 ++ leBytes (s.hoursAt s.beacon) 4 ++ leBytes s.sec.floor.count 4 ++
    s.identity ++ (o.map (·.digest)).getD (List.replicate 48 0) ++ leBytes ((o.map (·.version)).getD 0) 4 ++
    leBytes ((o.map (·.epoch)).getD 0) 4 ++ List.replicate 8 0 ++ s.ownerDigest ++
    sha384 (s.boundPrograms.flatMap (fun p => p.digest ++ leBytes p.tenders 4)) ++ s.pubKey 1 ++ s.pubKey 2 ++ s.pubKey 3 ++
    List.replicate 13 0
  b ++ s.signBytes 0 b

end State

/-! ### Another keeper's report -/

/-- Fields of a report: origin, identity, owner digest, MANIFEST key, SESSION key. -/
def repOrigin (r : List Byte) : Nat := numAt r 0xA 2
def repIdentity (r : List Byte) : List Byte := cut r 0x50 48
def repOwner (r : List Byte) : List Byte := cut r 0xC0 48
def repManifestKey (r : List Byte) : List Byte := cut r 0x120 97
def repSessionKey (r : List Byte) : List Byte := cut r 0x1E2 97

/-- A report of a keeper, followed by its device certificate, holds together: the certificate names its serial and its identity and is
signed by a vendor key, and the report is signed by the certificate's key (18 "To verify a keeper"). -/
def reportGood (r : List Byte) : Bool :=
  let b := r.take 592
  let sig := cut r 592 96
  let c := cut r 688 256
  decide (r.length = 944 ∧ b.take 4 = [0x41, 0x54, 0x53, 0x54] ∧ numAt b 4 2 = 1 ∧ c.take 4 = [0x44, 0x43, 0x52, 0x54] ∧ numAt c 6 1 < 2 ∧
    cut c 8 16 = cut b 0x10 16 ∧ sha384 (cut c 0x18 97) = repIdentity b) &&
    verifyBytes (Config.vendorKey (numAt c 6 1)) (c.take 0xA0) (cut c 0xA0 96) && verifyBytes (cut c 0x18 97) b sig

end Sys2Proof.Machine
end

