-- ==== Sys2Proof/Machine/KcpCore.lean ====
section
/-! DEFINITION. KCP sessions (16 R323 to R334): frames in and out, the windows, commands from their arrival to their report, event and
telemetry frames, the end of a session. -/

namespace Sys2Proof.Machine

/-- The code of a command (16 R332). -/
def kcpCode : KcpCmd → Nat
  | .attest _ => 0x01
  | .regRead _ => 0x10
  | .regWrite _ => 0x11
  | .peg _ => 0x12
  | .readMem _ _ => 0x13
  | .subscribe _ _ _ _ _ _ => 0x20
  | .arm _ _ _ => 0x30
  | .renew _ _ => 0x31
  | .disarm _ _ => 0x32
  | .act _ _ _ _ => 0x40
  | .load _ _ _ _ => 0x50
  | .unbind _ => 0x51
  | .bindJob _ => 0x60
  | .buddy _ _ _ _ _ => 0x61
  | .noticeSub _ _ => 0x62
  | .custody _ => 0x70
  | .floor _ => 0x71
  | .seal _ => 0x72
  | .release => 0x73
  | .debug _ => 0x80
  | .tenderReset _ => 0x81
  | .macsecSa _ _ _ _ _ _ => 0x90
  | .owner c _ => c
  | .flashWrite _ _ _ => 0xD0
  | .restart => 0xD1
  | .close => 0

namespace State

/-- The session with a number. -/
def ses (s : State) (x : Sess) : Session := s.kcp.sess[x]

/-- The state with a session changed. -/
def updSes (s : State) (x : Sess) (h : Session → Session) : State :=
  { s with kcp := { s.kcp with sess := s.kcp.sess.set x (h (s.ses x)) } }

/-- A session's position as it is mirrored (14 R287). -/
def sessMsg (s : State) (x : Sess) : MirrorMsg :=
  let u := s.ses x
  let sent := u.unacked ++ u.waiting
  let firstDone := (sent.find? (fun f => decide (f.cls = 6))).map (fun f => f.ref)
  .session x {
    isOpen := u.isOpen, priv := u.priv, key := u.key, slots := u.slots, inc := u.incAt, keyIn := u.keyIn, keyOut := u.keyOut
    via := u.via, station := u.station
    rxNext := u.rxNext, txNext := u.txNext, nextCmd := u.nextCmd
    owed := (firstDone.or (u.cmds.head?.map (fun c => c.num))).getD u.nextCmd
    cursor := (s.log.readers[Fin.ofNat 32 x.val]).cursor
    window := sent.map (fun f => ⟨f.seq, f.cls, f.ref, f.code, f.body⟩)
    sub := u.sub.map (fun y => (y.events, y.slots, y.owner, y.time, y.telemetry, y.next)) }

/-- The position is mirrored where it has changed. -/
def sessShow (s : State) (x : Sess) : State := s.mirrorItem 5 (s.sessMsg x) .nothing

/-- The mirrored position of a session as the follower keeps it: what the host has acknowledged is dropped. -/
def sessKeep (s : State) (x : Sess) (p : SessPos) : State :=
  let i : Fin 32 := Fin.ofNat 32 x.val
  let s : State := { s with log := { s.log with readers := s.log.readers.set i { s.log.readers[i] with cursor := if p.isOpen then p.cursor else 1 } } }
  s.updSes x (fun u =>
    if p.isOpen then
      let b := if u.isOpen ∧ u.keyIn = p.keyIn then u else Session.closed
      let tx (f : SentFrame) : TxFrame := ⟨f.seq, f.cls, f.ref, f.code, f.body, s.beacon, s.f F.KCP_CTL_rto_ms⟩
      { b with
        isOpen := true, priv := p.priv, key := p.key, slots := p.slots, incAt := p.inc, keyIn := p.keyIn, keyOut := p.keyOut
        via := p.via, station := p.station
        rxNext := p.rxNext, rxAck := p.rxNext - 1, txNext := p.txNext, nextCmd := p.nextCmd
        cmds := b.cmds.filter (fun c => decide (p.owed ≤ c.num))
        unacked := (p.window.filter (fun f => decide (f.seq ≠ 0))).map tx, waiting := (p.window.filter (fun f => decide (f.seq = 0))).map tx
        sub := p.sub.map (fun y => ⟨y.1, y.2.1, y.2.2.1, y.2.2.2.1, y.2.2.2.2.1, y.2.2.2.2.2⟩) }
    else Session.closed)

/-- The keeper serves sessions: it runs, is in control and KCP is enabled, or the responder of R337 runs. -/
def kcpServes (s : State) : Bool :=
  !s.clk.held && !s.clk.shutDown && (s.emergency || (s.control && s.fb F.KCP_CTL_en))

/-! ### Frames out (R329, R330) -/

/-- A sequenced frame is sent, or sent again: it carries the cumulative acknowledgement. -/
def frameOut (s : State) (x : Sess) (f : TxFrame) (flags : Nat) : State :=
  let s := s.netSend (s.sessOut x f.cls flags f.seq (s.ses x).rxAck f.ref f.code f.body)
  s.updSes x (fun u => { u with ackDue := none, lastTx := s.beacon })

/-- Waiting frames enter the window of 64, in order. -/
def pumpSess (x : Sess) : Nat → State → State
  | 0, s => s
  | k + 1, s =>
    match (s.ses x).waiting with
    | [] => s
    | f :: r =>
      if 64 ≤ (s.ses x).unacked.length then s
      else
        let f : TxFrame := { f with seq := (s.ses x).txNext, sentAt := s.beacon, interval := s.f F.KCP_CTL_rto_ms }
        let s := s.updSes x (fun u => { u with waiting := r, unacked := u.unacked ++ [f], txNext := u.txNext + 1 })
        pumpSess x k ((s.frameOut x f 0).sessShow x)

/-- A sequenced frame for a session. -/
def sessSend (s : State) (x : Sess) (cls ref code : Nat) (body : List Byte) : State :=
  if (s.ses x).isOpen then
    pumpSess x 64 (s.updSes x (fun u => { u with waiting := u.waiting ++ [(⟨0, cls, ref, code, body, 0, 0⟩ : TxFrame)] }))
  else s

/-- An acknowledgement frame, unsequenced. -/
def sendAck (s : State) (x : Sess) : State :=
  let s := s.netSend (s.sessOut x 9 0 0 (s.ses x).rxAck 0 0 [])
  s.updSes x (fun u => { u with ackDue := none, lastTx := s.beacon })

/-- A standalone acknowledgement is due within KCP_CTL.ack_us. -/
def ackSoon (s : State) (x : Sess) : State :=
  s.updSes x (fun u => if u.ackDue.isSome then u else { u with ackDue := some (s.beacon + s.f F.KCP_CTL_ack_us * tickUs) })

/-- Bytes that a frame's body may have: the MTU without the longest IP and UDP headers and the KCP header and trailer (R319, R320, R323). -/
def bodyMax (s : State) : Nat := s.f F.MAC_CTL_mtu - 104

/-! ### Event frames (R333) -/

/-- A record matches a subscription. -/
def recMatches (u : Subscription) (b : List Byte) : Bool :=
  let trig := numAt b 8 2
  if trig < 0x400 then bitOf u.events trig && (decide (0x100 ≤ trig) || bitOf u.slots (trig / 16))
  else if trig = 0x400 then u.time
  else decide (0x8000 ≤ trig) && u.owner

/-- Records from a sequence number on that are mirrored under R287. -/
def recsFrom (s : State) (q : Nat) : List Nat :=
  s.log.held.filter (fun r => decide (q ≤ r) && (match s.log.unacked.head? with | none => true | some a => decide (r < a)))

/-- Records in one frame at most. -/
def recMax (s : State) : Nat := min 64 (s.bodyMax / 128)

/-- Event frames leave while the window has space; with batching a frame that is not full waits until `flush`. -/
def evPump (x : Sess) (flush : Bool) : Nat → State → State
  | 0, s => s
  | k + 1, s =>
    match (s.ses x).sub with
    | none => s
    | some u =>
      if 64 ≤ (s.ses x).unacked.length ∨ (s.ses x).waiting ≠ [] then s
      else
        let cand := s.recsFrom u.next
        let hit := (cand.filter (fun q => recMatches u (s.recordBytes q))).take s.recMax
        match hit.getLast?, hit.head? with
        | some last, some first =>
          if s.f F.KCP_CTL_batch_us ≠ 0 ∧ hit.length < s.recMax ∧ ¬ flush then
            s.updSes x (fun v => { v with batch := hit
                                          batchDue := if v.batchDue.isSome then v.batchDue else some (s.beacon + s.f F.KCP_CTL_batch_us * tickUs) })
          else
            let s := s.updSes x (fun v => { v with sub := some { u with next := last + 1 }, batch := [], batchDue := none })
            evPump x flush k (s.sessSend x 7 first hit.length (hit.flatMap s.recordBytes))
        | _, _ =>
          s.updSes x (fun v => { v with sub := some { u with next := ((cand.getLast?).map (· + 1)).getD u.next }, batch := [], batchDue := none })

/-! ### Telemetry (R334) -/

/-- A sample merged into those held: increases add, cmd_cycles takes the later value, coincident is ORed. -/
def telemMerge (t : TelemHeld) : List TelemHeld → List TelemHeld
  | [] => [t]
  | y :: r =>
    if y.slot = t.slot ∧ y.engine = t.engine then
      { y with done := (y.done + t.done) % 2 ^ 64, busy := (y.busy + t.busy) % 2 ^ 64, cmdCycles := t.cmdCycles,
               coincident := y.coincident || t.coincident, time := t.time } :: r
    else y :: telemMerge t r

/-- Telemetry frames leave while the window has space. -/
def telemPump (x : Sess) : Nat → State → State
  | 0, s => s
  | k + 1, s =>
    let u := s.ses x
    if u.telem = [] ∨ 64 ≤ u.unacked.length ∨ u.waiting ≠ [] then s
    else
      let n := max 1 ((s.bodyMax - 8) / 8)
      let l := u.telem.take n
      let body := leBytes ((l.map (fun (t : TelemHeld) => t.time)).foldl max 0) 8 ++
        l.flatMap (fun t => leBytes (telemWord t.slot t.engine t.coincident t.cmdCycles t.done t.busy).toNat 8)
      telemPump x k ((s.updSes x (fun v => { v with telem := v.telem.drop n })).sessSend x 8 0 l.length body)

/-- Telemetry of one engine for every session that subscribed to it. -/
def telemAdd (s : State) (t : TelemHeld) : State :=
  (List.finRange 8).foldl (fun s x =>
    if (s.ses x).isOpen ∧ ((s.ses x).sub.map (fun (u : Subscription) => u.telemetry)).getD false then
      s.updSes x (fun u => { u with telem := telemMerge t u.telem }) else s) s

/-- What waits for a session's window leaves as far as there is room. -/
def kcpPump (s : State) (x : Sess) : State :=
  if s.kcpServes ∧ ¬ s.emergency ∧ (s.ses x).isOpen then
    telemPump x 64 (evPump x false 64 (pumpSess x 64 s))
  else s

/-- Samples that have arrived leave at once while a session's window has space (R334). -/
def telemOut (s : State) : State :=
  (List.finRange 8).foldl (fun s x => if s.kcpServes ∧ ¬ s.emergency ∧ (s.ses x).isOpen then telemPump x 64 s else s) s

/-- The same for every session. -/
def kcpPumpAll (s : State) : State := (List.finRange 8).foldl (fun s x => s.kcpPump x) s

/-! ### Staging sets and handles -/

/-- Every entry of a staging set is discarded and counted (04 R74). -/
def dropSet (s : State) (k : Fin 64) : State :=
  let s := s.bump F.EVT_CNT_discards (s.sets[k]).length
  { s with sets := s.sets.set k [] }

/-- The staging set of a session (04 R70). -/
def sessSet (x : Sess) : Fin 64 := Fin.ofNat 64 (24 + x.val)

/-! ### Commands (R332, R83, 14 R287) -/

/-- A command of a session by its number. -/
def cmdOf (s : State) (x : Sess) (num : Nat) : Option SessCmd := (s.ses x).cmds.find? (fun c => decide (c.num = num))

/-- The state with a command changed. -/
def updCmd (s : State) (x : Sess) (num : Nat) (h : SessCmd → SessCmd) : State :=
  s.updSes x (fun u => { u with cmds := u.cmds.map (fun (c : SessCmd) => if c.num = num then h c else c) })

/-- A command completes: its completion is mirrored before it is reported (02 R20). A second completion changes nothing (04 R83). -/
def kcpDone (s : State) (x : Sess) (num status : Nat) (body : List Byte) : State :=
  match s.cmdOf x num with
  | none => s
  | some c =>
    if c.phase = .completed ∨ c.phase = .reported then s
    else
      let s := s.updCmd x num (fun c => { c with phase := .completed, status := status, body := body })
      let s : State := { s with kcp := { s.kcp with handles := s.kcp.handles.filter (fun h => decide (h ≠ c.handle)) } }
      s.mirrorItem 1 (.completion x.val num status body) (.cmdReport x.val num)

/-- The tender that has a slot's commands. -/
def slotTender (n : Nat) : Tender := tenderOf (n % 16)

/-- The tender that the KCP block names for a command (05 R93, R95): for a command naming one slot that slot's tender; none where no tender's program
answers it. -/
def cmdTender (s : State) (x : Sess) (c : SessCmd) : Option Tender :=
  match c.cmd with
  | .attest _ => some 22
  | .arm _ _ _ | .renew _ _ | .disarm _ _ => some 23
  | .act major fn ga _ =>
    (subOf major fn).bind (fun a => (s.actTargets a ga.toNat).map (fun m => slotTender ((lowestBit m.1 16).getD 0)))
  | .custody _ | .floor _ | .seal _ | .release => some 20
  | .debug slot => some (slotTender slot)
  | .owner _ body =>
    let b := (body.head?.map (·.toNat)).getD 0xFF
    if b = 0xFF then (if (s.progOf 18).any (fun p => bitOf p.sessions x.val) then some 18 else none)
    else if b < 16 ∧ ((s.progOf (tenderOf b)).any (fun p => bitOf p.slots b && bitOf p.sessions x.val)) then some (tenderOf b) else none
  | .subscribe _ _ _ _ _ _ | .load _ _ _ _ | .unbind _ | .bindJob _ | .buddy _ _ _ _ _ | .noticeSub _ _ | .tenderReset _
  | .macsecSa _ _ _ _ _ _ => some 18
  | .regRead _ | .regWrite _ | .peg _ | .readMem _ _ | .flashWrite _ _ _ | .restart | .close => none

/-- KCP_COMMAND to the tender named for a command (05 R95, R391). -/
def announce (s : State) (i : Tender) (x : Sess) (c : SessCmd) : State :=
  s.raiseTo i Ev.kcpCommand x.val (BitVec.ofNat 64 (c.handle + place (kcpCode c.cmd) 24 16))

/-- The command announced to its tender. -/
def tell (s : State) (x : Sess) (c : SessCmd) : State :=
  match s.cmdTender x c with
  | some i => s.announce i x c
  | none => s

/-- Completions are reported in issue order (04 R83). -/
def reportGo (x : Sess) : Nat → State → State
  | 0, s => s
  | k + 1, s =>
    match (s.ses x).cmds with
    | [] => s
    | c :: r =>
      if c.phase = .completed ∧ c.mirrored then
        reportGo x k ((s.updSes x (fun u => { u with cmds := r })).sessSend x 6 c.num c.status c.body)
      else s

/-- A completion has been acknowledged by the follower. -/
def kcpReport (s : State) (x : Sess) (num : Nat) : State :=
  reportGo x ((s.ses x).cmds.length + 1) (s.updCmd x num (fun c => { c with mirrored := true }))

/-- Data for a command before its completion. -/
def respond (s : State) (x : Sess) (num : Nat) (body : List Byte) : State := s.sessSend x 5 num 0 body

/-! ### The end of a session (R328) -/

/-- A session ends: its staging set, its custody and its subscription go, and SESSION_CLOSE is raised with the reason of 05 R391. A
command that a tender has runs to its end there, so its handle stays open, and the end of an action that it asked for completes no command of a later session
(R328, R336). -/
def sessEnd (s : State) (x : Sess) (why : Nat) : State :=
  let u := s.ses x
  if ¬ u.isOpen then s
  else
    let s := (s.dropSet (sessSet x)).custodyDrop x
    let s : State := { s with
      kcp := { s.kcp with
        sess := s.kcp.sess.set x Session.closed
        loads := s.kcp.loads.filter (fun l => decide (l.sess ≠ x.val))
        subPending := s.kcp.subPending.filter (fun p => decide (p.2.2.1 ≠ x.val))
        reads := s.kcp.reads.filter (fun r => decide (r.1 ≠ x)) }
      act := ⟨s.act.running.map (fun a => if a.cmd.any (fun c => decide (c.1 = x.val)) then { a with cmd := none } else a)⟩ }
    (s.sessShow x).raise Ev.sessionClose (x.val + place u.priv 3 2) (BitVec.ofNat 64 why)

/-! ### Frames in (R329, R330) -/

/-- A frame taken in order: CLOSE ends the session; a command gets its number and its handle and is mirrored as accepted. -/
def frameTake (s : State) (x : Sess) (seq : Nat) (c : KcpCmd) : State :=
  match c with
  | .close => s.sessEnd x 0
  | c =>
    let n := (s.ses x).nextCmd
    let h := s.kcp.nextHandle
    let s := s.updSes x (fun u => { u with nextCmd := n + 1, cmds := u.cmds ++ [(⟨n, seq, h, c, .received, 0, [], false, none⟩ : SessCmd)] })
    let s : State := { s with kcp := { s.kcp with nextHandle := (h + 1) % 2 ^ 24 } }
    s.mirrorItem 1 (.command x.val n seq h c) (.cmdExec x.val n)

/-- Frames are delivered in seq order. -/
def deliverGo (x : Sess) : Nat → State → State
  | 0, s => s
  | k + 1, s =>
    let u := s.ses x
    match u.rxHeld.find? (fun f => decide (f.1 = u.rxNext)) with
    | none => s
    | some f =>
      let s := s.updSes x (fun u => { u with rxHeld := u.rxHeld.filter (fun g => decide (g.1 ≠ f.1)), rxNext := u.rxNext + 1 })
      deliverGo x k (s.frameTake x f.1 f.2)

/-- A keeper that has asked for the role holds the commands that come until the handover (14 R293). -/
def kcpHolds (s : State) : Bool :=
  !s.clk.held && !s.clk.shutDown && !s.emergency && !s.control && s.par.roleAsked && s.fb F.KCP_CTL_en && s.portUp

/-- The port takes a frame of a session: at the service address, or where the responder runs at either (R321, R337). -/
def sessTakes (s : State) (h : KcpHead) : Bool := s.portUp && s.headTaken h && decide (h.version = 1) && (!h.station || s.emergency)

/-- What the host port does with a frame of a session that it does not take: another version draws REFUSE (R323), one at a station address is dropped and
counted (R321). -/
def sessOff (s : State) (h : KcpHead) : State :=
  if ¬ s.portUp ∨ ¬ s.headTaken h then s
  else if h.station ∧ ¬ s.emergency then s.bump F.KCP_CNT_dropped
  else if h.version ≠ 1 ∧ s.kcpServes then s.netSend (s.plainOut h 3 0x05 [])
  else s

/-- The host's cumulative acknowledgement: what it covers leaves the window, whose new room is used (R329). -/
def ackTake (s : State) (x : Sess) (ack : Nat) : State :=
  if (s.ses x).unacked.all (fun f => decide (ack < f.seq)) then s
  else
    let s := s.updSes x (fun u => { u with unacked := u.unacked.filter (fun f => decide (ack < f.seq)) })
    (s.sessShow x).kcpPump x

/-- A valid frame of a session: the host is there, and is answered where it reached the keeper (R323, R328). -/
def sessHeard (s : State) (x : Sess) (h : KcpHead) : State :=
  s.updSes x (fun u => { u with lastRx := s.beacon, via := h.via, station := h.station })

/-- A sequenced frame that the port has taken reaches its session. An acknowledgement of it follows within ack_us where no other frame leaves first (R329). -/
def sessFrame (s : State) (x : Sess) (h : KcpHead) (c : KcpCmd) : State :=
  if ¬ s.kcpServes ∨ ¬ (s.ses x).isOpen then s
  else
    let s := ((s.sessHeard x h).ackTake x h.ack).ackSoon x
    let u := s.ses x
    if h.seq < u.rxNext ∨ u.rxHeld.any (fun f => decide (f.1 = h.seq)) then s.bump F.KCP_CNT_dup
    else if u.rxNext + 64 < h.seq then s
    else deliverGo x 65 (s.updSes x (fun u => { u with rxHeld := u.rxHeld ++ [(h.seq, c)] }))

/-- A sequenced frame of a session arrives at the port. -/
def kcpFrame (s : State) (x : Sess) (h : KcpHead) (c : KcpCmd) : State :=
  let t := s.sessTakes h
  let off := s.sessOff h
  if ¬ s.portUp then s
  else if ¬ t then off.headIn h
  else
    let s := s.headIn h
    if s.kcpHolds then { s with kcp := { s.kcp with heldCmds := s.kcp.heldCmds ++ [(x, h, c)] } } else s.sessFrame x h c

/-- The commands held for a handover are taken (14 R293). -/
def kcpFreed (s : State) : State :=
  let l := s.kcp.heldCmds
  let s : State := { s with kcp := { s.kcp with heldCmds := [] } }
  l.foldl (fun s f => s.sessFrame f.1 f.2.1 f.2.2) s

/-- The follower has acknowledged a command: its frame may be acknowledged, and it is handed to its handler (R330). The answer is the
command where it is still to be run. -/
def cmdAccepted (s : State) (x : Sess) (num : Nat) : Option SessCmd × State :=
  match s.cmdOf x num with
  | none => (none, s)
  | some c =>
    if c.phase ≠ .received then (none, s)
    else
      let s := s.updSes x (fun u => { u with rxAck := max u.rxAck c.frame })
      (some c, (s.ackSoon x).updCmd x num (fun c => { c with phase := .handed }))

/-- A standalone acknowledgement frame of a host. -/
def hostAck (s : State) (x : Sess) (h : KcpHead) : State :=
  let t := s.sessTakes h
  let off := s.sessOff h
  if ¬ s.portUp then s
  else if ¬ t then off.headIn h
  else
    let s := s.headIn h
    if ¬ s.kcpServes ∨ ¬ (s.ses x).isOpen then s else (s.sessHeard x h).ackTake x h.ack

/-- An unacknowledged frame's retransmission time has passed: it is sent again whole, and its interval doubles up to 128 ms. -/
def retransmit (s : State) (x : Sess) (seq : Nat) : State :=
  match (s.ses x).unacked.find? (fun f => decide (f.seq = seq)) with
  | none => s
  | some f =>
    if ¬ s.kcpServes ∨ s.beacon < f.sentAt + f.interval * tickMs then s
    else
      let s := s.frameOut x f 1
      s.updSes x (fun u => { u with unacked := u.unacked.map (fun (g : TxFrame) =>
        if g.seq = seq then { g with sentAt := s.beacon, interval := min 128 (2 * g.interval) } else g) })

/-- No valid frame from the host for idle_s. -/
def sessIdle (s : State) (x : Sess) : State :=
  if s.kcpServes ∧ (s.ses x).isOpen ∧ (s.ses x).lastRx + s.f F.KCP_CTL_idle_s * tickS ≤ s.beacon then s.sessEnd x 2 else s

/-- The time of a standalone acknowledgement has come. -/
def ackDelay (s : State) (x : Sess) : State :=
  match (s.ses x).ackDue with
  | none => s
  | some d => if s.kcpServes ∧ (s.ses x).isOpen ∧ d ≤ s.beacon then s.sendAck x else s

/-- One second without sending. -/
def idleAck (s : State) (x : Sess) : State :=
  if s.kcpServes ∧ (s.ses x).isOpen ∧ (s.ses x).lastTx + tickS ≤ s.beacon then s.sendAck x else s

/-- The batching time of a partly filled event frame has passed. -/
def batchOver (s : State) (x : Sess) : State :=
  match (s.ses x).batchDue with
  | none => s
  | some d => if s.kcpServes ∧ ¬ s.emergency ∧ (s.ses x).isOpen ∧ d ≤ s.beacon then evPump x true 64 s else s

/-! ### A change of control (R331, 02 R20) -/

/-- The incarnation after a change of control, kept in retained SRAM (17 R340). -/
def nextIncarnation (s : State) : State := s.wrNat incAddr 1 ((s.incarnation + 1) % 256)

/-- The register of the Buoy's window that shows an action's effect, the bits that do, and their value then (02 R20, 13 R281). -/
def actWindow (a : Action) : Option (Nat × Word × Word) :=
  let core := a.core.getD 0
  let bit (k : Nat) (v : Bool) : Word × Word := (1#64 <<< k, if v then 1#64 <<< k else 0)
  match a.sub with
  | .fencFence => some (0x100 + 8 * (core / 64), bit (core % 64) true)
  | .fencUnfence => some (0x100 + 8 * (core / 64), bit (core % 64) false)
  | .ocltStop => some (0x50, bit 2 true)
  | .ocltRelease => some (0x50, bit 2 false)
  | .rsetHold => some (0x50, bit 3 true)
  | .rsetRelease => some (0x50, bit 3 false)
  | .pwrCap => some (0x70, BitVec.allOnes 64, a.gb)
  | _ => none

/-- The result of an action by what this keeper holds of the tray: done where its effect stands, TAKEOVER where it is under way in a sequence or a phase
command that the new controller resumes, none where it had no effect yet (02 R20). DESIGN CHOICE: a reset, a power cycle, a cap or a roll-back leaves nothing
here that shows it, and is run again. -/
def actOutcome (s : State) (a : Action) : Option Nat :=
  let all (p : Slot → Bool) : Option Nat :=
    if (maskSlots a.mask).all p then some Res.done
    else if (maskSlots a.mask).any (fun n => (s.mo n).seq.isSome || (s.mo n).pulse.isSome) then some Res.takeover
    else none
  match a.sub with
  | .pwrOn => all (fun n => (s.mo n).powered && decide ((s.mo n).phase = 2))
  | .pwrOff => all (fun n => !(s.mo n).powered)
  | .rsetHold => all (fun n => decide ((s.mo n).phase = 1) && !(s.mo n).w2)
  | .rsetRelease => all (fun n => decide ((s.mo n).phase = 2))
  | .rsetCold | .pwrCycle => all (fun _ => false)
  | .fencFence => all (fun n => (s.mo n).fenced.any (fun c => decide (some c = a.core)))
  | .fencUnfence => all (fun n => (s.mo n).fenced.all (fun c => decide (some c ≠ a.core)))
  | .ocltStop => all (fun n => (s.mo n).stopped)
  | .ocltRelease => all (fun n => !(s.mo n).stopped)
  | .ocltAt => if s.atPending ∧ s.occ.atTicket = a.ticket then some Res.done else none
  | .ocltCancel => if s.atPending then none else some Res.done
  | .quarLink => all (fun n => (s.port (s.portOf n)).quarLink)
  | .quarSlot => all (fun n => (s.mo n).quarSlot)
  | .quarRelease => all (fun n => !(s.port (s.portOf n)).quarLink && !(s.mo n).quarSlot)
  | _ => none

/-- A command that a takeover carries on is completed with an outcome, or run where there is none. -/
def redoEnd (s : State) (x : Sess) (num : Nat) (o : Option Word) : State :=
  match o with
  | some w => (s.updCmd x num (fun c => { c with phase := .handed })).kcpDone x num St.ok (leBytes w.toNat 8)
  | none => (s.updCmd x num (fun c => { c with phase := .received })).release (.cmdExec x.val num)

/-- Buoys can be asked: each link trained, and quarantined or not (13 R281). -/
def asksAll (s : State) (mask : Nat) : Bool :=
  (maskSlots mask).all (fun n => let p := s.portOf n
    decide (s.f F.BLK_STATUS_state p.val = 3 ∨ s.f F.BLK_STATUS_state p.val = 4))

/-- The commands that a takeover has still to carry on, in issue order: one whose action's end was mirrored completes with it; one that issued no action
has had no effect on the tray and is run; of any other the state is read back through the Buoys, or taken from what this keeper holds, and those behind it
wait for the answers (02 R20). -/
def redoGo (x : Sess) : Nat → State → State
  | 0, s => s
  | k + 1, s =>
    match (s.ses x).redo with
    | [] => s
    | r :: rest =>
      let next (o : Option Word) : State := redoGo x k ((s.updSes x (fun u => { u with redo := rest })).redoEnd x r.num o)
      match ((s.cmdOf x r.num).bind (fun c => c.outcome)), r.action with
      | some w, _ => next (some w)
      | none, none => next none
      | none, some a =>
        match r.awaited, r.silent, actWindow a with
        | some (_ + 1), false, _ => s
        | some 0, false, _ => next (if r.shown then some (a.payload Res.done) else none)
        | none, false, some (off, m, w) =>
          if s.asksAll a.mask then
            let l := maskSlots a.mask
            let s := s.updSes x (fun u => { u with redo := { r with awaited := some l.length, shown := true } :: rest })
            l.foldl (fun s n => s.winSend (s.portOf n) off (.readback x r.num m w)) s
          else next ((s.actOutcome a).map a.payload)
        | _, _, _ => next ((s.actOutcome a).map a.payload)

/-- Commands carried on as far as they can be. -/
def redoAll (s : State) (x : Sess) : State := redoGo x ((s.ses x).redo.length + 1) s

/-- A Buoy has answered for a command's effect: shown or not; or has not answered. -/
def cmdReadDone (s : State) (x : Sess) (num : Nat) (effect : Option Bool) : State :=
  (s.updSes x (fun u => { u with redo := u.redo.map (fun r =>
    match r.awaited with
    | some (k + 1) =>
      if r.num = num then { r with awaited := some k, shown := r.shown && effect.getD false, silent := r.silent || effect.isNone } else r
    | _ => r) })).redoAll x

/-- Sessions on the new controller: one whose incarnation at ACCEPT has come round again ends (R328). After a takeover the keeper's frames go on after the
highest that the host had acknowledged, and what was sent beyond it is replaced: records from the first that is not acknowledged, completions that were
mirrored and are not acknowledged (R331). A takeback goes on at the next sequence number with the window as it stands (14 R293). Commands accepted and not
completed are carried on; `acts` are the actions mirrored as accepted (02 R20). -/
def sessTakeover (s : State) (acts : List Action) (back : Bool) : State :=
  (List.finRange 8).foldl (fun s x =>
    let u := s.ses x
    if ¬ u.isOpen then s
    else if u.incAt = s.incarnation then s.sessEnd x 3
    else
      let sent := u.unacked ++ u.waiting
      let told := (sent.filter (fun f => decide (f.cls = 6))).map (fun f => f.ref)
      let s := s.updSes x (fun u =>
        let u := { u with rxHeld := [], lastRx := s.beacon, lastTx := s.beacon, batch := [], batchDue := none, telem := [] }
        if back then { u with cmds := u.cmds.filter (fun c => !told.contains c.num) }
        else { u with
          unacked := [], waiting := [], txNext := (u.unacked.head?.map (fun f => f.seq)).getD u.txNext
          sub := u.sub.map (fun y => { y with next := ((sent.find? (fun f => decide (f.cls = 7))).map (fun f => f.ref)).getD y.next }) })
      let u := s.ses x
      let s := s.updSes x (fun v => { v with redo := (u.cmds.filter (fun c => decide (c.phase = .received ∨ c.phase = .handed))).map (fun c =>
        ⟨c.num, acts.find? (fun a => decide (a.cmd = some (x.val, c.num))), none, false, false⟩) })
      (reportGo x (u.cmds.length + 1) (s.redoAll x)).kcpPump x) s

end State
end Sys2Proof.Machine
end

