-- ==== Sys2Proof/Machine/MacOps.lean ====
section
/-! DEFINITION. The Ethernet port, opening sessions and associations, identification, pod notices (16 R317 to R322, R326, R327,
R335, R337). -/

namespace Sys2Proof.Machine

/-! ### Port modes (R317, R318) -/

/-- The lane groups of each mode, widest mode and lowest-numbered group first: mode and lane mask. -/
def laneGroups : List (Nat × Nat) :=
  [(1, 0xFF), (2, 0x0F), (2, 0xF0), (3, 0x03), (3, 0x0C), (3, 0x30), (3, 0xC0)]

/-- The lanes in use: those of the group that the mode and the lanes in lock name. -/
def groupOf (mode lanes : Nat) : Nat :=
  ((laneGroups.find? (fun g => decide (g.1 = mode ∧ lanes.land g.2 = g.2))).map (·.2)).getD 0

/-- The widest mode no wider than a limit whose lanes lie within some lanes. -/
def pickMode (limit good : Nat) : Option (Nat × Nat) :=
  laneGroups.find? (fun g => decide (limit ≤ g.1 ∧ good.land g.2 = g.2))

namespace State

/-- The module is told to run the application of a mode (R318). -/
def ethSelect (s : State) (mode : Nat) : State :=
  if s.fb F.MAC_CTL_cmis_en ∧ s.fb F.MAC_STATUS_module ∧ s.kcp.ethApp ≠ some mode then
    ({ s with kcp := { s.kcp with ethApp := some mode } } : State).send (.i2c "module application" mode)
  else s

/-- The widest mode that training may take: max_mode, and no wider than before the port went down unless MAC_CTL.upgrade has been stored (R318). -/
def ethLimit (s : State) : Nat := max (s.f F.MAC_CTL_max_mode) (s.kcp.ethCap.getD 0)

/-- The port goes down, and with it the DMA ports of its queues (17 R355). It comes back no wider than it was (R318). -/
def ethClose (s : State) : State :=
  let mode := s.f F.MAC_STATUS_mode
  let s : State := if mode = 0 then s else { s with kcp := { s.kcp with ethCap := some (max mode (s.kcp.ethCap.getD 0)) } }
  ((((s.setF F.MAC_STATUS_mode 0).setFb F.MAC_STATUS_degraded false).setF F.PTP_CORR_tx 0).setF F.PTP_CORR_rx 0).dmaPortsClosed (fun x => decide (x / 256 = 6 ∨ x / 256 = 7))

/-- The fixed timestamp corrections of a port mode in ticks, transmit and receive (12 R253). -/
def ptpCorr (mode : Nat) : Nat × Nat :=
  match mode with
  | 1 => (62, 85)
  | 2 => (72, 103)
  | 3 => (92, 134)
  | _ => (0, 0)

/-- A lane in use loses lock: the port goes down, and what the next training may take is the widest group that trained without error at the
last attempt; the module's matching application is selected (R318). -/
def ethDown (s : State) (lost : Nat) : State :=
  let mode := s.f F.MAC_STATUS_mode
  let lanes := s.f F.MAC_STATUS_lanes
  if s.clk.held ∨ mode = 0 ∨ (groupOf mode lanes).land lost = 0 then s
  else
    let s := s.bump F.MAC_CNT_lane_loss ((List.range 8).filter (fun i => bitOf lost i && bitOf lanes i)).length
    let s := s.setF F.MAC_STATUS_lanes (lanes - lanes.land lost)
    let wide := (s.kcp.trainedOk.filterMap (fun m => (laneGroups.find? (fun g => decide (g.2 = m))).map (·.1))).filter (fun m => decide (s.ethLimit ≤ m))
    let s := s.ethClose
    (s.ethSelect (max s.ethLimit (wide.foldl min 3))).raise Ev.ethDown 0 0

/-- The port may train: it runs, its lanes have been started, its module is there. -/
def ethTrains (s : State) : Bool :=
  !s.clk.held && !s.clk.shutDown && s.clk.refclk && s.fb F.MAC_CTL_en && s.unitStarted 13 && s.fb F.MAC_STATUS_module

/-- Training ends: the widest mode that the attempt allows comes up (R318). `good` are the lanes that trained without error. -/
def ethUp (s : State) (good : Nat) : State :=
  if ¬ s.ethTrains ∨ s.f F.MAC_STATUS_mode ≠ 0 then s
  else
    let s : State := { s with kcp := { s.kcp with
      trainedOk := (laneGroups.filter (fun g => decide (good.land g.2 = g.2))).map (·.2) } }
    match pickMode s.ethLimit good with
    | none => s
    | some (mode, lanes) =>
      let s := s.ethSelect mode
      let low := decide (s.f F.MAC_CTL_max_mode < mode)
      let s := ((s.setF F.MAC_STATUS_mode mode).setF F.MAC_STATUS_lanes lanes).setFb F.MAC_STATUS_degraded low
      let s := (s.setF F.PTP_CORR_tx (ptpCorr mode).1).setF F.PTP_CORR_rx (ptpCorr mode).2
      let s := s.raise Ev.ethUp 0 (BitVec.ofNat 64 mode)
      if low then s.raise Ev.ethDegrade 0 0 else s

/-- A store to MAC_CTL.upgrade: the port trains again at max_mode, whose application the module runs then. -/
def ethUpgrade (s : State) : State :=
  let s := s.ethClose
  ({ s with kcp := { s.kcp with ethCap := none } } : State).ethSelect (s.f F.MAC_CTL_max_mode)

/-- The module is inserted or removed (R318). -/
def modulePresent (s : State) (present : Bool) : State :=
  if s.clk.held then s
  else
    let up := s.portUp
    let s := s.setFb F.MAC_STATUS_module present
    let s : State := { s with kcp := { s.kcp with ethApp := none } }
    if present then s.ethSelect s.ethLimit
    else
      let s := (s.ethClose.setF F.MAC_STATUS_lanes 0).setFb F.MAC_STATUS_intl false
      if up then s.raise Ev.ethDown 0 0 else s

/-- IntL of the module changes; while it is asserted its flags are read. -/
def moduleInt (s : State) (asserted : Bool) : State :=
  if s.clk.held ∨ ¬ s.fb F.MAC_STATUS_module then s
  else
    let s := s.setFb F.MAC_STATUS_intl asserted
    if asserted ∧ s.fb F.MAC_CTL_cmis_en then s.send (.i2c "module flags" 0x50) else s

/-- The module's monitors are read every second. -/
def moduleMonitor (s : State) : State :=
  if s.clk.held ∨ ¬ s.fb F.MAC_STATUS_module ∨ ¬ s.fb F.MAC_CTL_cmis_en ∨ s.kcp.monitorAt.any (fun t => decide (s.beacon < t + tickS)) then s
  else ({ s with kcp := { s.kcp with monitorAt := some s.beacon } } : State).send (.i2c "module monitors" 0x50)

/-- What is wrong with a frame is counted where a counter is given, and the frame is dropped (R319 to R322, R324, R325). -/
def portFault (s : State) (f : PortFault) : State :=
  if s.clk.held ∨ ¬ s.portUp then s
  else
    match f with
    | .none | .stackedTags | .ipForm | .udpSum => s
    | .badFcs => s.bump F.MAC_CNT_rx_crc
    | .fecUncorr k => s.bump F.MAC_CNT_fec_uncorr k
    | .oversize => s.bump F.MAC_CNT_oversize
    | .icv => if s.f F.MACSEC_CTL_mode = 0 then s else (s.bump F.MACSEC_CNT_icv_fail).macsecFail
    | .badTag => s.bump F.KCP_CNT_badtag
    | .dropped => s.bump F.KCP_CNT_dropped

/-! ### Addresses (R320, R321) -/

/-- The 128-bit address of a pair of registers. -/
def ip6 (s : State) (lo hi : Fld) : Nat := s.f lo + s.f hi * 2 ^ 64

/-- The keeper answers the service address: it is in control. -/
def serves (s : State) : Bool := s.control && !s.clk.held

/-- The MAC with which an address is answered: the station's, or the service address's while this keeper is in control. -/
def macOf (s : State) (v6 : Bool) (addr : Nat) : Option Nat :=
  let sta := if v6 then s.ip6 F.KCP_IP6_STA_LO_addr F.KCP_IP6_STA_HI_addr else s.f F.KCP_IP4_sta4
  let svc := if v6 then s.ip6 F.KCP_IP6_SVC_LO_addr F.KCP_IP6_SVC_HI_addr else s.f F.KCP_IP4_svc4
  if addr = 0 ∨ ¬ s.fb (if v6 then F.KCP_PORT_ip6_en else F.KCP_PORT_ip4_en) then none
  else if addr = sta then some (s.f F.MAC_STA_addr)
  else if addr = svc ∧ s.serves then some (s.f F.MAC_SVC_addr)
  else none

/-- An ARP request or neighbour solicitation: answered for an address of the keeper's; the asker joins the neighbour cache of 64 entries for
its IP version. DESIGN CHOICE: the oldest entry makes room. -/
def arpRequest (s : State) (v6 : Bool) (addr asker mac : Nat) : State :=
  if s.clk.held ∨ ¬ s.portUp then s
  else match s.macOf v6 addr with
    | none => s
    | some m =>
      let v := if v6 then 6 else 4
      let rest := s.kcp.neighbours.filter (fun n => decide (¬ (n.1 = v ∧ n.2.1 = asker)))
      let same := rest.filter (fun n => decide (n.1 = v))
      let other := rest.filter (fun n => decide (n.1 ≠ v))
      let s : State := { s with kcp := { s.kcp with neighbours := other ++ (same.drop (same.length - 63)) ++ [(v, asker, mac)] } }
      s.netSend (.arp v6 addr m false)

/-- The service address is claimed: a gratuitous ARP and an unsolicited neighbour advertisement. -/
def claimOut (s : State) : State :=
  let s := if s.fb F.KCP_PORT_ip4_en then s.netSend (.arp false (s.f F.KCP_IP4_svc4) (s.f F.MAC_SVC_addr) true) else s
  if s.fb F.KCP_PORT_ip6_en then
    s.netSend (.arp true (s.ip6 F.KCP_IP6_SVC_LO_addr F.KCP_IP6_SVC_HI_addr) (s.f F.MAC_SVC_addr) true) else s

/-- A keeper that takes control claims the service address three times at 1 ms intervals. -/
def claimStart (s : State) : State := claimOut { s with kcp := { s.kcp with claims := (2, s.beacon + tickMs) } }

/-- The next repetition of the claim. -/
def claimRepeat (s : State) : State :=
  let (n, due) := s.kcp.claims
  if s.clk.held ∨ n = 0 ∨ ¬ s.control ∨ s.beacon < due then s
  else claimOut { s with kcp := { s.kcp with claims := (n - 1, due + tickMs) } }

/-- INFO is answered without authentication (R337). -/
def infoReply (s : State) (h : KcpHead) : State :=
  let t := s.portUp && s.headTaken h
  let s := if s.portUp then s.headIn h else s
  if s.clk.held ∨ ¬ t ∨ ¬ (s.emergency ∨ s.fb F.KCP_CTL_en) ∨ ¬ (h.station ∨ s.control) then s
  else if h.version ≠ 1 then s.netSend (s.plainOut h 3 0x05 [])
  else s.netSend (s.plainOut h 0xD 0 (leBytes (s.f F.GLB_ID_maker) 2 ++ leBytes (s.f F.GLB_ID_part) 2 ++ leBytes (s.f F.GLB_ID_stepping) 1 ++
    leBytes (s.f F.PAR_STATUS_state + place (b2n s.emergency) 7 1) 1 ++ leBytes (s.f F.GLB_TRAY_tray + place (b2n s.clk.relief) 15 1) 2 ++
    serialBytes ++ leBytes (s.f F.MAC_STATUS_mode) 1 ++ List.replicate 7 0 ++ s.identity ++ List.replicate 48 0))

/-! ### Opening (R326, R327, R336) -/

/-- An OPEN body's parts. -/
def openEph (b : List Byte) : List Byte := cut b 0x30 97

/-- Why a host's OPEN is refused, none where it is granted. DESIGN CHOICE: the order of the checks. -/
def openRefusal (s : State) (version : Nat) (b : List Byte) : Option Nat :=
  let priv := numAt b 0 1
  let reserved : Bool := zeros (cut b 2 14) && zeros (cut b 0x91 15) && decide (b.length = 256) && decide (priv < 4)
  if version ≠ 1 then some 0x05
  else if ¬ s.emergency ∧ ¬ s.control then some 0x06
  else if ¬ reserved ∨ (P384.decode (openEph b)).isNone then some 0x07
  else match (if numAt b 1 1 < 32 then s.ownerKey (0x20 + numAt b 1 1) else none) with
    | none => some 0x03
    | some k =>
      if ¬ verifyBytes k.key (b.take 0xA0) (cut b 0xA0 96) then some 0x02
      else if ¬ (k.priv = 0 ∨ (k.priv = 1 ∧ (priv = 1 ∨ priv = 2)) ∨ (2 ≤ k.priv ∧ priv = k.priv)) ∨ (s.emergency ∧ priv ≠ 0) then some 0x04
      else if (s.emergency ∧ (List.finRange 8).any (fun x => (s.ses x).isOpen)) ∨ (List.finRange 8).all (fun x => (s.ses x).isOpen) then some 0x01
      else none

/-- A refused OPEN. -/
def openRefuse (s : State) (h : KcpHead) (reason : Nat) (b : List Byte) : State :=
  let s := (s.bump F.KCP_CNT_refused).netSend (s.plainOut h 3 reason [])
  s.raise Ev.sessionRefused (reason + place (numAt b 1 1) 8 5 + place (numAt b 0 1) 13 2) 0

/-- A granted OPEN: the lowest free session number, the keeper's nonce and ephemeral key drawn free, the keys of the session. The session is
mirrored before ACCEPT is answered. -/
def openGrant (s : State) (h : KcpHead) (b : List Byte) : State :=
  match (List.finRange 8).find? (fun x => !(s.ses x).isOpen) with
  | none => s
  | some x =>
    let k := s.ownerKey (0x20 + numAt b 1 1)
    let (n, s) := s.draw
    let (e, s) := s.draw
    let nonce := leBytes n 32
    let eph := e % (P384.n - 1) + 1
    let priv := numAt b 0 1
    let slots := if priv = 3 then (k.map (·.slots)).getD 0 else 0xFFFF
    let head := leBytes x.val 1 ++ leBytes priv 1 ++ leBytes slots 2 ++ leBytes s.incarnation 1 ++ List.replicate 11 0 ++ nonce ++
      P384.publicKey eph ++ List.replicate 15 0 ++ s.identity
    let body := head ++ s.signBytes 3 (b ++ head)
    let secret := match P384.decode (openEph b) with | none => [] | some q => P384.shared eph q
    let keys := hkdf384 (cut b 0x10 32 ++ nonce) secret (ascii "KCP1" ++ leBytes x.val 1) 64
    let u : Session := { Session.closed with
      isOpen := true, priv := priv, key := numAt b 1 1, slots := slots, incAt := s.incarnation, keyIn := keys.take 32, keyOut := keys.drop 32,
      via := h.via, station := h.station, lastRx := s.beacon, lastTx := s.beacon }
    let s := s.updSes x (fun _ => u)
    s.mirrorItem 5 (s.sessMsg x) (.sessionAccept x.val body)

/-- A host's OPEN. Sessions are opened at the service address (R321); the responder answers there only while this keeper holds control (R337). -/
def hostOpen (s : State) (h : KcpHead) (b : List Byte) : State :=
  let t := s.portUp && s.headTaken h
  let s := if s.portUp then s.headIn h else s
  if s.clk.held ∨ ¬ t ∨ ¬ (s.emergency ∨ s.fb F.KCP_CTL_en) then s
  else if h.station ∧ ¬ s.emergency then s.bump F.KCP_CNT_dropped
  else if s.emergency ∧ ¬ h.station ∧ ¬ s.control then s
  else match s.openRefusal h.version b with
    | some r => s.openRefuse h r b
    | none => s.openGrant h b

/-- The session's mirroring is acknowledged: ACCEPT is answered and SESSION_OPEN raised. -/
def sessionAccepted (s : State) (x : Sess) (body : List Byte) : State :=
  let u := s.ses x
  if u.isOpen then
    (s.netSend (s.plainOut { via := u.via, station := u.station } 2 0 body)).raise Ev.sessionOpen (x.val + place u.priv 3 2 + place u.key 5 5) 0
  else s

/-! ### Associations between keepers (R335, 11 R236) -/

/-- Another keeper's report holds and its owner is this keeper's. -/
def peerReport (s : State) (r : List Byte) : Bool := reportGood r && decide (repOwner r = s.ownerDigest)

/-- The first frame that each side sends on an association: its attestation report with its device certificate. -/
def assocReport (s : State) (n : Nat) : State := s.assocSend n none [] (s.attestReport (List.replicate 32 0) ++ Config.deviceCert)

/-- The keys of an association, from the nonces of both sides and the shared secret (16 R326). -/
def assocKeys (n : Nat) (opened accepted secret : List Byte) : List Byte :=
  hkdf384 (cut opened 0x10 32 ++ cut accepted 0x10 32) secret (ascii "KCP1" ++ leBytes (assocSession n) 1) 64

/-- An association is open. -/
def assocSet (s : State) (n : Nat) (initiator : Bool) (keyIn keyOut : List Byte) : State :=
  { s with scf := { s.scf with assocs := s.scf.assocs.filter (fun (a : ScfAssoc) => decide (a.no ≠ n)) ++ [⟨n, [], 0, keyIn, keyOut, initiator, 0⟩] } }

/-- An OPEN of an association is answered with ACCEPT, whose nonce and ephemeral key are free values, and this keeper's report is its first frame
(11 R236). -/
def assocAccept (s : State) (n : Nat) (h : KcpHead) (b : List Byte) : State :=
  let (k, s) := s.draw
  let (e, s) := s.draw
  let eph := e % (P384.n - 1) + 1
  let head := leBytes (assocSession n) 1 ++ leBytes 0 1 ++ leBytes 0xFFFF 2 ++ leBytes s.incarnation 1 ++ List.replicate 11 0 ++ leBytes k 32 ++
    P384.publicKey eph ++ List.replicate 15 0 ++ s.identity
  let secret := match P384.decode (openEph b) with | none => [] | some q => P384.shared eph q
  let keys := assocKeys n b head secret
  ((s.assocSet n false (keys.take 32) (keys.drop 32)).netSend (s.plainOut h 2 0 (head ++ s.signBytes 3 (b ++ head)))).assocReport n

/-- The identity that BUDDY named for a keeper of the buddy tray. -/
def buddyKnows (s : State) (r : List Byte) : Bool :=
  match s.kcp.buddyIds with
  | none => false
  | some (_, _, a, b) => decide (repIdentity r = a ∨ repIdentity r = b)

/-- An OPEN of an association by another keeper: its body holds, its key lies on the curve, and it is signed under the SESSION key of its report. A fifth
restore association is refused (R236, 16 R326, R327). -/
def assocOpen (s : State) (n : Nat) (h : KcpHead) (b r : List Byte) : State :=
  let t := s.portUp && s.headTaken h
  let s := if s.portUp then s.headIn h else s
  if s.clk.held ∨ ¬ t ∨ ¬ s.fb F.KCP_CTL_en ∨ s.emergency then s
  else if h.version ≠ 1 then s.openRefuse h 0x05 b
  else if ¬ (zeros (cut b 2 14) ∧ zeros (cut b 0x91 15) ∧ b.length = 256 ∧ numAt b 0 1 < 4) ∨ (P384.decode (openEph b)).isNone then
    s.openRefuse h 0x07 b
  else if ¬ verifyBytes (repSessionKey r) (b.take 0xA0) (cut b 0xA0 96) ∨ ¬ reportGood r then s.openRefuse h 0x02 b
  else if n = 0 then
    if s.buddyKnows r then
      assocAccept { s with scf := { s.scf with buddyKey := some (repManifestKey r), lastRx := s.beacon } } 0 h b
    else s.openRefuse h 0x03 b
  else if ¬ s.peerReport r then s.openRefuse h 0x03 b
  else if 4 ≤ s.scf.served.length then s.openRefuse h 0x01 b
  else assocAccept { s with scf := { s.scf with served := s.scf.served ++ [⟨n, s.beacon, false, repOrigin r % 4096⟩] } } n h b

/-- ACCEPT of an association that this keeper opened, with the report that is the other side's first frame: the counterpart (0) must have an
identity that BUDDY named; a restore source the origin that the descriptor gives and this keeper's owner. The ACCEPT must be signed under the SESSION key of
that report over the OPEN and itself (16 R326). -/
def assocAccepted (s : State) (n : Nat) (b r : List Byte) : State :=
  match s.scf.assocs.find? (fun a => decide (a.no = n ∧ a.eph ≠ 0)) with
  | none => s
  | some a =>
    if s.clk.held ∨ ¬ s.portUp then s
    else
      let signed := decide (b.length = 304 ∧ numAt b 0 1 = assocSession n) && (P384.decode (openEph b)).isSome &&
        verifyBytes (repSessionKey r) (a.body ++ b.take 0xD0) (cut b 0xD0 96)
      let secret := match P384.decode (openEph b) with | none => [] | some q => P384.shared a.eph q
      let keys := assocKeys n a.body b secret
      let opened := (s.assocSet n true (keys.drop 32) (keys.take 32)).assocReport n
      if n = 0 then
        if signed ∧ reportGood r ∧ s.buddyKnows r then
          { opened with scf := { opened.scf with buddyKey := some (repManifestKey r), lastRx := s.beacon } }
        else s
      else
        let want := (s.scf.plan.bind (fun p => p.srcs[n - 1]?)).map (fun (x : RstSrc) => x.holder)
        if signed ∧ s.peerReport r ∧ want = some (repOrigin r) then opened.srcAnswered (n - 1) true else s.srcAnswered (n - 1) false

/-- The other end closes an association: one that this keeper serves is gone, a source that this keeper has asked is unreachable (11 R236). -/
def assocClosed (s : State) (n : Nat) : State :=
  if s.clk.held ∨ ¬ s.portUp ∨ n = 0 then s
  else
    let s : State := { s with scf := { s.scf with
      served := s.scf.served.filter (fun (x : ScfServed) => decide (x.no ≠ n))
      assocs := s.scf.assocs.filter (fun (a : ScfAssoc) => decide (a.no ≠ n)) } }
    if 5 ≤ n then s else s.srcClosed (n - 1)

/-- REFUSE of an association that this keeper opened. -/
def assocRefused (s : State) (n : Nat) : State :=
  if s.clk.held ∨ ¬ s.portUp ∨ n = 0 then s else s.srcAnswered (n - 1) false

/-! ### Pod notices (R335) -/

/-- A notice's fields. -/
def noticeBody (s : State) (kind slot number time mask : Nat) (report : List Byte) : List Byte :=
  let b := leBytes kind 1 ++ leBytes slot 1 ++ leBytes (s.f F.GLB_TRAY_tray) 2 ++ leBytes number 4 ++ leBytes time 8 ++
    leBytes ((s.trs.job.map (·.jobId)).getD 0) 8 ++ leBytes mask 2 ++ List.replicate 6 0 ++ s.identity ++ report
  b ++ s.signBytes 3 b

/-- A notice's copies go to every subscriber. The responder of emergency-light mode sends none (R337). -/
def noticeOut (s : State) (body : List Byte) : State :=
  if s.emergency then s else s.kcp.subscribers.foldl (fun s p => s.netSendTo p.addr (s.noticeFrame p.addr body)) s

/-- A NOTICE that a program sends (04 R82): DESIGN CHOICE its body's first 80 bytes with this keeper's next number put in, signed under the
SESSION key; the first copy goes at once, two more follow at 10 µs intervals. -/
def noticeSent (s : State) (body : List Byte) : State :=
  let n := s.kcp.noticeNext
  let b := (body ++ List.replicate 80 0).take 80
  let b := b.take 4 ++ leBytes n 4 ++ b.drop 8
  let b := b ++ s.signBytes 3 b
  let s : State := { s with kcp := { s.kcp with
    noticeNext := (n + 1) % 2 ^ 32, repeats := s.kcp.repeats ++ [(⟨n, b, 2, s.beacon + 10 * tickUs⟩ : NoticeRepeat)] } }
  s.noticeOut b

/-- A notice of a loss or a scheduled stop: the first copy goes at once, two more follow at 10 µs intervals. -/
def notice (s : State) (kind slot time mask : Nat) : State :=
  if s.emergency then s
  else
  let n := s.kcp.noticeNext
  let body := s.noticeBody kind slot n time mask []
  let s : State := { s with kcp := { s.kcp with
    noticeNext := (n + 1) % 2 ^ 32, repeats := s.kcp.repeats ++ [(⟨n, body, 2, s.beacon + 10 * tickUs⟩ : NoticeRepeat)] } }
  s.noticeOut body

/-- Another copy of the notices that are due. -/
def noticeRepeat (s : State) : State :=
  if s.clk.held then s
  else
    let due := s.kcp.repeats.filter (fun r => decide (r.due ≤ s.beacon))
    let s := due.foldl (fun s (r : NoticeRepeat) => s.noticeOut r.body) s
    { s with kcp := { s.kcp with repeats := s.kcp.repeats.filterMap (fun (r : NoticeRepeat) =>
        if s.beacon < r.due then some r
        else if r.left ≤ 1 then none
        else some { r with left := r.left - 1, due := r.due + 10 * tickUs }) } }

/-- A notice sent to one address, outside the numbering of losses: SUBSCRIBE, SUBSCRIBED, UNSUBSCRIBE. -/
def noticeTo (s : State) (addr kind : Nat) : State :=
  let n := s.kcp.noticeNext
  let rep := if kind < 2 then s.attestReport (List.replicate 32 0) ++ Config.deviceCert else []
  let body := s.noticeBody kind 0xFF n s.beacon 0 rep
  netSendTo { s with kcp := { s.kcp with noticeNext := (n + 1) % 2 ^ 32 } } addr (s.noticeFrame addr body)

/-- A notice body's signature and identity. -/
def noticeSigned (key b : List Byte) : Bool := verifyBytes key (b.take (b.length - 96)) (b.drop (b.length - 96))

/-- The report that a SUBSCRIBE or SUBSCRIBED carries, where it and the notice hold together. -/
def noticeReport (b : List Byte) : Option (List Byte) :=
  let r := (b.drop 0x50).take (b.length - 0x50 - 96)
  if reportGood r ∧ repIdentity r = cut b 0x20 48 ∧ noticeSigned (repSessionKey r) b then some r else none

/-- Notices are taken: by this keeper at its station address, by the keeper in control also at the service address (R321, R335); not by the responder (R337).
DESIGN CHOICE: while KCP is served. -/
def noticeTakes (s : State) (h : KcpHead) : Bool :=
  !s.clk.held && s.portUp && s.headTaken h && decide (h.version = 1) && (h.station || s.control) && s.fb F.KCP_CTL_en && !s.emergency

/-- A notice that the port takes has its effect. -/
def noticeAt (s : State) (h : KcpHead) (effect : State → State) : State :=
  let t := s.noticeTakes h
  let s := if s.portUp then s.headIn h else s
  if t then effect s else s

/-- SUBSCRIBE: the sender joins the table of 64 subscribers and is answered. -/
def noticeSubscribe (s : State) (f : NoticeFrom) (b : List Byte) : State :=
  s.noticeAt f.head fun s =>
  let addr := f.addr
  match noticeReport b with
    | none => s.bump F.KCP_CNT_dropped
    | some r =>
      let rest := s.kcp.subscribers.filter (fun p => decide (p.identity ≠ repIdentity r))
      if 64 ≤ rest.length then s.bump F.KCP_CNT_dropped
      else
        let s : State := { s with kcp := { s.kcp with subscribers := rest ++ [(⟨addr, repIdentity r, repSessionKey r, []⟩ : NoticePeer)] } }
        (s.mirrorItem 5 (.subscriber true addr (repIdentity r) (repSessionKey r)) .nothing).noticeTo addr 1

/-- SUBSCRIBED: the subscription asked for by NOTICE_SUB holds where the report's identity is the one named; the command completes. -/
def noticeSubscribed (s : State) (f : NoticeFrom) (b : List Byte) : State :=
  s.noticeAt f.head fun s =>
  let addr := f.addr
  match s.kcp.subPending.find? (fun p => decide (p.1 = addr)) with
    | none => s.bump F.KCP_CNT_dropped
    | some p =>
      let good := (noticeReport b).filter (fun r => decide (repIdentity r = p.2.1))
      let s : State := { s with kcp := { s.kcp with subPending := s.kcp.subPending.filter (fun q => decide (q ≠ p)) } }
      let x : Sess := Fin.ofNat 8 p.2.2.1
      match good with
      | none => (s.bump F.KCP_CNT_dropped).kcpDone x p.2.2.2 St.invalid []
      | some r =>
        let rest := s.kcp.subscribed.filter (fun q => decide (q.identity ≠ p.2.1))
        let s : State := { s with kcp := { s.kcp with subscribed := rest ++ [(⟨addr, p.2.1, repSessionKey r, []⟩ : NoticePeer)] } }
        (s.mirrorItem 5 (.subscribed true addr p.2.1 (repSessionKey r)) .nothing).kcpDone x p.2.2.2 St.ok []

/-- UNSUBSCRIBE removes a subscriber. -/
def noticeUnsubscribe (s : State) (f : NoticeFrame) : State :=
  s.noticeAt f.head fun s =>
  let b := f.body
  match s.kcp.subscribers.find? (fun p => decide (p.identity = cut b 0x20 48)) with
    | none => s.bump F.KCP_CNT_dropped
    | some p =>
      if noticeSigned p.key b then
        mirrorItem { s with kcp := { s.kcp with subscribers := s.kcp.subscribers.filter (fun q => decide (q ≠ p)) } } 5
          (.subscriber false p.addr p.identity p.key) .nothing
      else s.bump F.KCP_CNT_dropped

/-- The whole body goes to the notice ring while it has space. -/
def noticeRing (s : State) (b : List Byte) : State :=
  let tail := s.f F.KCP_NRING_tail
  if (tail + 1) % 64 = s.f F.KCP_NRING_head then s.bump F.KCP_CNT_dropped
  else (s.store (s.f F.KCP_NRING_base + 256 * tail) ((b ++ List.replicate 256 0).take 256)).setF F.KCP_NRING_tail ((tail + 1) % 64)

/-- A notice of a loss or a scheduled stop from a keeper subscribed to: verified, taken once, raised with its time and mask as literal words. -/
def noticeIn (s : State) (f : NoticeFrame) : State :=
  s.noticeAt f.head fun s =>
  let b := f.body
  match s.kcp.subscribed.find? (fun p => decide (p.identity = cut b 0x20 48)) with
    | none => s.bump F.KCP_CNT_dropped
    | some p =>
      let kind := numAt b 0 1
      let number := numAt b 4 4
      if ¬ noticeSigned p.key b ∨ kind < 3 ∨ 5 < kind then s.bump F.KCP_CNT_dropped
      else if p.seen.contains number then s
      else
        let s : State := { s with kcp := { s.kcp with subscribed := s.kcp.subscribed.map (fun (q : NoticePeer) =>
          if q = p then { q with seen := q.seen ++ [number] } else q) } }
        let s := s.noticeRing b
        let pl := BitVec.ofNat 64 (kind + place (numAt b 2 2) 8 12 + place (numAt b 1 1) 20 4 + place number 32 32)
        (s.note Ev.podNoticeIn pl [BitVec.ofNat 64 (numAt b 8 8), BitVec.ofNat 64 (numAt b 0x18 2)]).raise Ev.podNoticeIn 0 pl

end State
end Sys2Proof.Machine
end

