-- ==== Sys2Proof/Machine/ParCore.lean ====
section
/-! DEFINITION. What the pair of keepers tells each other of its health, the quiet point, and a change of role (14 R284, R286, R293,
R296, R299). -/

namespace Sys2Proof.Machine
namespace State

/-- PAIR_LIVE_IN shows edges. -/
def peerLive (s : State) : Bool := s.fb F.PAR_STATUS_peer_live

/-- PAIR_LIVE_OUT toggles: powered and out of reset, a service tender running, not in emergency-light mode (R284). -/
def liveOut (s : State) : Bool := s.clk.pwrok && !s.clk.held && s.firstService.isSome && !s.emergency

/-- The functions of this keeper's failed wires, which the peer carried, are lost with it, each reported once (R296). DESIGN CHOICE: by MOR_WIRE_FAULT. -/
def wiresLost (s : State) : State :=
  ((List.range 64).filter (fun k => bitOf (s.f F.MOR_FAULT_fault) k)).foldl (fun s k => s.raise Ev.morWireFault (k / 4 + 16 * (k % 4)) 0) s

/-- This keeper runs alone from now on (R296): Scarf commits without the peer; what relies on the peer's wires is lost,
and records that waited for its acknowledgements enter the ring (15 R307). -/
def runAlone (s : State) : State := (s.setFb F.PAR_STATUS_solo true).wiresLost.scfPeerLost.wakeLogw

/-- The held steps of every mirrored item are released, in order, and mirroring stops. -/
def stopMirroring (s : State) : State :=
  let q := s.par.queue
  let s : State := { s with
    par := { s.par with queue := [], mirroring := false }
    log := { s.log with unacked := [] } }
  (q.foldl (fun s i => match i.held with | .nothing => s | h => s.release h) s).setFb F.PAR_STATUS_in_sync false

/-- The role: control, and PAR_STATUS.state. PAR_LAST shows when control was taken or given up last, or the role first settled (R299). -/
def setRole (s : State) (control : Bool) (state : Nat) : State :=
  let change := decide (s.control ≠ control ∨ s.f F.PAR_STATUS_state = 0)
  let s := (s.setFb F.PAR_STATUS_control control).setF F.PAR_STATUS_state state
  let s := s.setFb F.KCP_STATUS_svc control
  if change then s.setF F.PAR_LAST_beacon s.beacon else s

/-- PAIR_LIVE_OUT at a tick: it toggles every 1 µs while its conditions hold, and is low else (R284). -/
def liveTick (s : State) : State :=
  let level (b : Bool) (next : Option Nat) : State := (s.updPar (fun p => { p with liveLevel := b, liveNext := next })).send (.pin "PAIR_LIVE_OUT" b)
  if s.liveOut then
    match s.par.liveNext with
    | none => level true (some (s.beacon + tickUs))
    | some t => if t ≤ s.beacon then level (!s.par.liveLevel) (some (t + tickUs)) else s
  else if s.par.liveNext.isNone then s
  else level false none

end State
end Sys2Proof.Machine
end

