-- ==== Sys2Proof/Machine/PwrOps.lean ====
section
/-! DEFINITION. Resets of tenders, of blocks and of the keeper, secure boot, the thermal path, the reference clock and the core voltage
(03 R57, 05 R90, 10 R205, 18 R363 to R371, 19 R374 to R388). -/

namespace Sys2Proof.Machine
namespace State

/-! ### Tender reset (03 R57, 04 R74) -/

/-- A KCP_COMMAND of a command still waits for a tender. -/
def announced (s : State) (i : Tender) (c : SessCmd) : Bool :=
  let w := BitVec.ofNat 64 (c.handle + place (kcpCode c.cmd) 24 16)
  ((s.t i).queue ++ (s.t i).merges ++ (s.evt.inflight.filter (fun f => decide (f.target = i))).map (·.ev)).any (fun e =>
    decide (e.event = Ev.kcpCommand ∧ e.payload = w))

/-- A restarted tender resumes each session from its oldest uncompleted command: those that it had taken are announced to it again (02 R22). -/
def reannounce (s : State) (i : Tender) : State :=
  (List.finRange 8).foldl (fun s x => (s.ses x).cmds.foldl (fun s c =>
    if c.phase = .handed ∧ s.cmdTender x c = some i ∧ ¬ s.announced i c then s.announce i x c else s) s) s

/-- A tender starts at its entry address: TENDER_RESET_nn, and the commands that it answers and that are uncompleted. -/
def tenderStart (s : State) (i : Tender) : State :=
  let e := s.f F.TND_TENDER_ENTRY_entry i.val
  let s := s.updT i (fun x => { TenderSt.init with
    pc := BitVec.ofNat 48 e, run := .running, hcause := x.hcause, hpc := x.hpc, hval := x.hval, queue := x.queue, merges := x.merges
    prog := x.prog, bindPend := x.bindPend, old := x.old })
  (s.raise (Ev.tenderReset + i.val) i.val (BitVec.ofNat 64 e)).reannounce i

/-- What a tender waits for inside an instruction is dropped: its request to the security block, its LOGW, a window's reply, a phase command's
end. -/
def dropWaits (s : State) (i : Tender) : State :=
  { s with
    sec := { s.sec with queue := s.sec.queue.filter (fun r => decide (r.tender ≠ i)) }
    log := { s.log with waiters := s.log.waiters.filter (fun w => decide (w ≠ .logw i.val)) }
    mor := { s.mor with
      ports := s.mor.ports.map (fun (l : LinkSt) => { l with windows := l.windows.map (fun w =>
        match w.2.2 with
        | .tender j _ => if j = i then (w.1, w.2.1, .nobody) else w
        | .half j .. => if j = i then (w.1, w.2.1, .nobody) else w
        | _ => w) })
      slots := s.mor.slots.map (fun (m : MorSlot) => { m with pulse := m.pulse.map (fun p =>
        if (p.by_.map (·.1)) = some i then { p with by_ := none } else p) }) } }

/-- A tender reset: its registers, its default staging set, what it waits for; its queue, its program and its memory stay, and a posted store from
before it that fails later sets no flag (03 R57). -/
def tenderReset (s : State) (i : Tender) : State :=
  if (s.t i).run = .inReset then s
  else
    let s := s.dropWaits i
    let s : State := { s with mc := { s.mc with posted := s.mc.posted.map (fun p => if p.tender = i then { p with stale := true } else p) } }
    (s.dropSet (Fin.ofNat 64 i.val)).tenderStart i

/-- Tender resets by mask, in ascending order. -/
def tenderResets (s : State) (mask : Nat) : State :=
  if s.clk.held ∨ s.clk.shutDown ∨ s.emergency then s
  else allTenders.foldl (fun s i => if bitOf mask i.val then s.tenderReset i else s) s

/-! ### Block reset (R363, 04 R74, 10 R205) -/

/-- Staged entries of a block are discarded from every set and counted. -/
def dropStaged (s : State) (b : Nat) : State :=
  let out := fun (l : List Staged) => l.filter (fun x => decide (x.off / 0x10000 ≠ b))
  let n := (s.sets.toList.map (fun l => l.length - (out l).length)).foldl (· + ·) 0
  let s := s.bump F.EVT_CNT_discards n
  { s with sets := s.sets.map out }

/-- What a block's registers show that does not stand in the stored values. DESIGN CHOICE: a reset of MOR and PWR leaves the phases and
the sequences, one of TND and EVT the tenders, their queues and the staging sets, one of MEM the channels, one of LOG the records. -/
def blockState (s : State) (b : Nat) : State :=
  match b with
  | 0x02 => allTenders.foldl (fun s i => s.updT i (fun x => { x with hcause := 0, hpc := 0, hval := 0 })) s
  | 0x03 => s.setArms (Vector.replicate 16 ArmEntry.none)
  | 0x04 =>
    let on := s.plb.tiles.toList.map (fun t => t.started)
    on.zipIdx.foldl (fun s x => if x.1 then s.plbStart (Fin.ofNat 8 x.2) else s) { s with plb := PlbSt.init }
  | 0x05 => { s with trs := TrsSt.init }
  | 0x06 => { s with ldg := LdgSt.init }
  | 0x07 => { s with trace := TrcSt.init }
  | 0x08 => allSlots.foldl (fun s n => ((s.freeW1 n).updMo n (fun m => { m with stopped := false, resumeAt := none })).wired n)
      { s with occ := OccSt.init }
  | 0x09 => { s.scfDiscard with scf := { ScfSt.init with nextSeq := s.scf.nextSeq } }
  | 0x0A => { s with bcn := { BcnSt.init with dom := s.bcn.dom, tsq := s.bcn.tsq, ppsAt := s.bcn.ppsAt, waitOver := true } }
  | 0x0B => { s with bcn := { s.bcn with dom := BcnSt.init.dom, tsq := [], tsDrop := (0, none), ppsAt := s.beacon, ppsLost := false, ppsFall := none } }
  | 0x0F => { s with log := { s.log with readers := LogSt.init.readers, sealing := none, highRaised := false } }
  | 0x10 => (List.finRange 8).foldl (fun s x => s.sessEnd x 1) s
  | 0x12 => s.dmaReset
  | b => if 0x20 ≤ b then s.updPort (Fin.ofNat 16 (b - 0x20)) (fun _ => LinkSt.init) else s

/-- A block reset: the block's registers take their reset values, its staged entries go. GLB, SEC, PAR, 0x14 and 0x16 to 0x1F are not
reset, nor offsets above 0x2F. -/
def blockReset (s : State) (b : Nat) : State :=
  if b = 0 ∨ b = 1 ∨ b = 0xE ∨ b = 0x14 ∨ (0x16 ≤ b ∧ b ≤ 0x1F) ∨ 0x2F < b then s
  else
    let s := (s.dropStaged b).blockState b
    let s : State := { s with regs := s.regs.filter (fun x => decide (x.1 / 0x10000 ≠ b)) }
    let s := if b = 0x0F then (s.setF F.LOG_HOURS_pcc s.flashHour.1).setF F.LOG_HOURS_base s.flashHour.2 else s
    match s.prog.orders with
    | some o => if b = 2 then allTenders.foldl (fun s i => s.setF F.TND_TENDER_ENTRY_entry (o.entry / 4 * 4) i.val) s else s
    | none => s

/-! ### Reset of the keeper (R205, R374, R384, R385) -/

/-- What survives every reset: boot flash, the pins, what the model keeps for itself. -/
def afterReset (s fresh : State) : State := { fresh with pending := s.pending, out := s.out, draws := s.draws }

/-- The straps and the cause of the reset as the registers show them. -/
def resetShown (s : State) (relief : Bool) (cause warm : Nat) : State :=
  ((((({ s with clk := { s.clk with relief := relief } } : State).setFb F.PAR_STATUS_strap relief).setFb F.GLB_STATUS_strap relief).setF
    F.GLB_CAUSE_cause cause).setF F.GLB_CAUSE_warm_count warm)

/-- PWROK falls: everything but boot flash is lost; a boot flash write under way is cut; every pin is released, and the LPDDR5X packages are held in
reset (R374). -/
def powerLoss (s : State) : State :=
  if ¬ s.clk.pwrok then s
  else
    let r := s.afterReset State.reset
    let r := (if s.clk.thermTrip then r.send (.pin "THERM_TRIP_L" true) else r).send (.pin "LP_PKG_RESET_L" false)
    { r with
      clk := { r.clk with pwrok := false, relief := s.clk.relief, warmHigh := s.clk.warmHigh, refclk := s.clk.refclk }
      sec := { r.sec with flash := { s.sec.flash with writing := [] } } }

/-- PWROK rises: power-on reset begins; PAIR_ROLE is read. A part whose TEST_MODE is high stays in that reset (R377). -/
def powerOn (s : State) (relief testMode : Bool) : State :=
  if s.clk.pwrok then s
  else ({ s with clk := { s.clk with pwrok := true, held := true, testMode := testMode } } : State).resetShown relief 0 0

/-- A keeper warm reset: tenders, blocks and links are reset, the mooring wires fall back to inputs, gallery memory is cleared; retained SRAM,
local memory and LPDDR5X keep their contents, boot flash and what tells of the trip stay (R205, R339, R385). The beacon counts on (12 R241), and
with it the powered time (15 R313). -/
def warmReset (s : State) (cause : Nat) (cut : Bool) : State :=
  let r := s.afterReset State.reset
  let keep : List Nat := s.log.held.filter (fun q => decide (s.logNext ≤ q + 32768))
  let warm := min 255 (s.f F.GLB_CAUSE_warm_count + 1)
  let s' : State := { r with
    beacon := s.beacon
    clk := { s.clk with held := true, releasing := false }
    mem := s.mem.filter (fun c => decide (¬ (0x10000000 ≤ c.1 ∧ c.1 < 0x12000000)))
    poison := s.poison.filter (fun k => decide (¬ (0x400000 ≤ k ∧ k < 0x480000)))
    log := { r.log with hourDue := s.log.hourDue, held := keep, unmirrored := s.log.unmirrored.filter (fun q => keep.contains q) }
    scf := { r.scf with nextSeq := s.scf.nextSeq, img := if s.f F.SCF_STATUS_state = 5 then none else s.scf.img, dropped := s.scf.dropped }
    sec := { r.sec with flash := if cut then { s.sec.flash with writing := [] } else s.sec.flash } }
  let s' := (s'.resetShown s.clk.relief cause warm).setFb F.THM_STATUS_tripped (s.fb F.THM_STATUS_tripped)
  let s' := ((s'.setF F.LOG_HOURS_pcc (s.f F.LOG_HOURS_pcc)).setF F.LOG_HOURS_base (s.f F.LOG_HOURS_base)).setF F.LOG_HBASE_hbase
    (s.f F.LOG_HBASE_hbase)
  if s.clk.refclk then s' else { s' with clk := { s'.clk with refclk := false } }

/-- WARM_RESET_L falls: the failing word goes, and the reset is at once; a boot flash write is cut. -/
def warmPin (s : State) : State :=
  if ¬ s.clk.pwrok ∨ ¬ s.clk.warmHigh then s
  else
    let s := if s.clk.held then s else s.failWord
    let s := s.warmReset 1 true
    { s with clk := { s.clk with warmHigh := false } }

/-- WARM_RESET_L rises. -/
def warmPinRise (s : State) : State :=
  if s.clk.warmHigh then s else { s with clk := { s.clk with warmHigh := true, riseAt := some s.beacon } }

/-- GLB_RESET with the warm key: the failing word goes, a boot flash write is waited for up to 200 ms, then the reset (R363). -/
def warmOrder (s : State) : State :=
  let s := s.failWord
  if s.sec.flash.writing = [] then s.warmReset 2 false
  else { s with sec := { s.sec with warmWait := some (s.beacon + 200 * tickMs) } }

/-- The ordered warm reset comes: the writes are done, or the 200 ms are over. -/
def warmDue (s : State) : State :=
  match s.sec.warmWait with
  | none => s
  | some d => if s.sec.flash.writing = [] then s.warmReset 2 false else if d ≤ s.beacon then s.warmReset 2 true else s

/-- A boot flash write completes. -/
def flashDone (s : State) : State :=
  match s.sec.flash.writing with
  | [] => s
  | w :: r =>
    if ¬ s.clk.pwrok then s
    else
      let s : State := { s with sec := { s.sec with flash := { flashApply s.sec.flash w with writing := r } } }
      let s := match w with | .floor _ => s.setFb F.SEC_STATUS_floor_conflict false | _ => s
      s.warmDue

/-- The internal reset is released: strap phase runs, secure boot starts. At a power-on reset the beacon counts from zero here, the power-cycle count
rises, and the hours count begins at the beacon's zero; at a warm reset the beacon has counted on (R384, 12 R241). Scarf checks what it had
committed. -/
def released (s : State) : State :=
    let cold := decide (s.f F.GLB_CAUSE_cause = 0)
    let now := if cold then 0 else s.beacon
    let s : State := { s with
      clk := { s.clk with held := false, releasing := false }
      beacon := now
      mor := { s.mor with released := some now, unit := (0, some now) }
      bcn := { s.bcn with ppsAt := now } }
    let pcc := s.sec.flash.pcc + 1
    let s : State :=
      if cold then
        let s : State := { s with log := { s.log with hourDue := hourTicks } }
        let s := s.flashQueue (.hour pcc s.sec.flash.hours)
        ((s.setF F.LOG_HOURS_pcc pcc).setF F.LOG_HOURS_base s.sec.flash.hours).setF F.LOG_HBASE_hbase 0
      else s
    s.scfRestart

/-- The conditions of the release hold: it comes at once at a power-on reset, where the beacon stands at zero; at a warm reset by pin not before 50 µs
after the pin's rise, and at a PCLK edge, the next one where the beacon stands between two (R384, 12 R390). -/
def resetRelease (s : State) : State :=
  if ¬ s.clk.held ∨ ¬ s.clk.pwrok ∨ ¬ s.clk.warmHigh ∨ s.clk.testMode then s
  else if s.f F.GLB_CAUSE_cause = 1 ∧ s.clk.riseAt.any (fun t => decide (s.beacon < t + 50 * tickUs)) then s
  else if s.f F.GLB_CAUSE_cause = 0 ∨ s.beacon % 8 = 0 then s.released
  else { s with clk := { s.clk with releasing := true } }

/-! ### Secure boot (R365 to R367, 05 R90) -/

/-- Local memory of a tender gets an image's code and data, and its entry register the image's entry. -/
def bootTender (b : List Byte) (entry : Nat) (s : State) (i : Tender) : State :=
  (s.wrBytes (home i 0) b).setF F.TND_TENDER_ENTRY_entry (entry / 4 * 4) i.val

/-- The base registers of the LPDDR5X map that the Standing Orders write, once, before a job is bound (17 R345). -/
def mapBases (s : State) : State :=
  let s := (List.range 4).foldl (fun (s : State) k => s.setF F.SCF_IMG_BASE_base (0x100000000000 + k * 0x3C00000000) k) s
  let s := ((s.setF F.TRC_REGION_region 0x10F000000000).setF F.OCC_DUMP_BASE_base 0x10F400000000).setF F.TRC_SIGHT_BASE_sbase 0x10F600000000
  let s := ((s.setF F.LOG_MIRROR_BASE_mbase 0x10F700000000).setF F.SCF_MAN_BASE_mbase 0x10F780000000).setF F.MEM_LOAD_load 0x10F784000000
  (s.setF F.MEM_OWNER_owner 0x10F7A0000000).setF F.PLB_WOUT_BASE_wout 0x10F7C0000000

/-- The fields that the Standing Orders load from the owner's signed configuration (13 R273, 16 R320, 18 GLB_TRAY). -/
def ownerFields : List Fld :=
  [F.GLB_TRAY_tray, F.PWR_CTL_spacing_ms, F.PWR_ORDER_order, F.KCP_PORT_pfx4, F.KCP_PORT_pfx6, F.KCP_IP4_sta4, F.KCP_IP4_svc4, F.KCP_GW4_gw4,
   F.KCP_IP6_STA_LO_addr, F.KCP_IP6_STA_HI_addr, F.KCP_IP6_SVC_LO_addr, F.KCP_IP6_SVC_HI_addr, F.KCP_GW6_LO_addr, F.KCP_GW6_HI_addr]

/-- The owner's configuration is loaded, its MACsec associations among it (16 R320, R322). What it gives is a free value; without an owner there is none. -/
def configLoad (s : State) : State :=
  if s.sec.owner.isNone then s
  else
    let cfg := s.flashBytes 0x250000 0x40000
    let s := ownerFields.foldl (fun (s : State) x => match Config.ownerField cfg x.base x.lo with | some v => s.setF x v | none => s) s
    { s with kcp := { s.kcp with sas := s.kcp.sas ++ (Config.ownerSas cfg).map (fun a => ⟨a.1, a.2.1, a.2.2.1, a.2.2.2.1, a.2.2.2.2, 1⟩) } }

/-- The Standing Orders are taken from flash, copied and released; without a valid image the keeper is to enter emergency-light mode (05 R90). -/
def ordersStart (s : State) : State :=
  match s.ordersPick with
  | none => (s.updPar (fun p => { p with emergDue := 1 })).failWord
  | some (b, k) =>
    let o : Orders := ⟨imgVersion b, imgEpoch b, imgAbi b, imgDigest b, imgEntry b, k⟩
    let s : State := { s with prog := { s.prog with orders := some o } }
    let s := s.setF F.GLB_STATUS_image k
    let s := allTenders.foldl (fun s i => bootTender (imgBody b) o.entry s i) s
    let s := allTenders.foldl (fun s i => s.tenderStart i) s
    let s := (List.range 23).foldl (fun s c =>
      s.setF F.DMA_CH_CTL_prio (if 4 ≤ c ∧ c < 20 then 2 else 1) c) s
    let s := s.mapBases.configLoad.scfCheck
    { s with bcn := { s.bcn with waitFrom := some s.beacon } }

/-- The owner programs stored in flash are loaded again (05 "Owner programs"). -/
def storedLoad (s : State) : State :=
  (List.range 16).foldl (fun s k =>
    let off := 0x290000 + 0x40000 * k
    let h := s.flashBytes off 0x200
    if h.take 4 = [0x54, 0x4E, 0x44, 0x50] ∧ imgCode h + imgData h ≤ 0x20000 then
      (s.programLoad (h ++ s.flashBytes (off + 0x200) (imgCode h + imgData h))).2
    else s) s

/-- Secure boot ends (18 "Secure boot"): the root secret is reconstructed or not, the records of flash are taken, the Standing Orders are chosen
and the tenders released. -/
def bootDone (s : State) (pufOk : Bool) : State :=
  if s.clk.held ∨ s.prog.orders.isSome ∨ s.emergency ∨ s.par.emergDue ≠ 0 ∨ s.clk.shutDown then s
  else if ¬ pufOk then (s.updPar (fun p => { p with emergDue := 1 })).failWord
  else
    let s := (s.setFb F.SEC_STATUS_puf_ok true).setFb F.GLB_STATUS_puf_ok true
    let s : State := { s with sec := { s.sec with owner := s.sec.flash.owner, floor := s.flashFloor } }
    let s := (s.setFb F.SEC_STATUS_owned s.sec.owner.isSome).setFb F.GLB_STATUS_owned s.sec.owner.isSome
    let s := (s.setFb F.SEC_STATUS_owner_pending false).setFb F.SEC_STATUS_vkey1_revoked s.sec.flash.revoked
    let s := s.setFb F.SEC_STATUS_flash_ok (s.sec.flash.floors.1.isSome || s.sec.flash.floors.2.isSome)
    let s := s.ordersStart
    if s.prog.orders.isSome then s.storedLoad else s

/-! ### Thermal (R371, R387, R388) -/

/-- A sensor's reading as the register holds it, and the highest since the last read. -/
def sensorSet (s : State) (k : Nat) (c : BitVec 8) : State :=
  let peak := BitVec.ofNat 8 (s.f F.THM_SENSOR_peak k)
  (s.setF F.THM_SENSOR_temp c.toNat k).setF F.THM_SENSOR_peak (if peak.toInt < c.toInt then c.toNat else peak.toNat) k

/-- The record of THM_TRIP that hardware writes (R388, 15 R302). -/
def tripRecord (s : State) : State :=
  let ws := s.soWords 0 ⟨Ev.thmTrip, s.f F.EVT_ROUTE_prio Ev.thmTrip, false, false, 0, 1, 0, 0⟩
  s.logHw ⟨Ev.thmTrip, logSource 0x15 0xF 0x4000, 0x1F, litMask ws, s.pclkTime, ws.map (·.1)⟩

/-- Temperatures are sampled: THM_WARN at the first passing of warn_c and again only after every sensor has fallen 5 °C below it; THM_TRIP at the
first passing of trip_c: the record, the failing word, and the shutdown 20 µs later. Under internal reset the trip path alone runs (R388). -/
def thmSample (s : State) (temps : Vector (BitVec 8) 24) : State :=
  let l := temps.toList.zipIdx
  let top := l.foldl (fun (m : BitVec 8 × Nat) x => if m.1.toInt < x.1.toInt then x else m) (temps[0], 0)
  if ¬ s.clk.pwrok ∨ s.clk.shutDown then s
  else if s.clk.held then
    if ¬ s.fb F.THM_STATUS_tripped ∧ (s.f F.THM_CTL_trip_c : Int) ≤ top.1.toInt then
      let s := s.setFb F.THM_STATUS_tripped true
      { s with clk := { s.clk with tripAt := some (s.beacon + 20 * tickUs) } }
    else s
  else
    let s := l.foldl (fun s x => s.sensorSet x.2 x.1) s
    let s := (s.setF F.THM_STATUS_max_c top.1.toNat).setF F.THM_STATUS_max_sensor top.2
    let warn : Int := s.f F.THM_CTL_warn_c
    let trip : Int := s.f F.THM_CTL_trip_c
    let s :=
      if ¬ s.fb F.THM_STATUS_warn ∧ warn ≤ top.1.toInt then (s.setFb F.THM_STATUS_warn true).raise Ev.thmWarn 0 0
      else if s.fb F.THM_STATUS_warn ∧ top.1.toInt + 5 ≤ warn then s.setFb F.THM_STATUS_warn false
      else s
    if ¬ s.fb F.THM_STATUS_tripped ∧ trip ≤ top.1.toInt then
      let s := ((s.setFb F.THM_STATUS_tripped true).raise Ev.thmTrip 0 0).tripRecord
      let s := s.failWord
      { s with clk := { s.clk with tripAt := some (s.beacon + 20 * tickUs) } }
    else s

/-- 20 µs after the trip: tenders, Plumb, Scarf and every SerDes but the pair link stop, LPDDR5X enters self-refresh, THERM_TRIP_L goes low. The
mooring outputs keep their levels. -/
def thermalShutdown (s : State) : State :=
  match s.clk.tripAt with
  | none => s
  | some d =>
    if ¬ s.clk.pwrok ∨ s.clk.shutDown ∨ (¬ s.clk.held ∧ s.beacon < d) then s
    else
      let s : State := { s with
        clk := { s.clk with shutDown := true, thermTrip := true }
        tnd := s.tnd.map (fun (x : TenderSt) => { x with run := .inReset })
        mc := { s.mc with relock := (List.range 64).map (fun c => (c, s.beacon)) } }
      let s := allSlots.foldl (fun s p => (s.setF F.BLK_STATUS_state 0 p.val).setF F.BLK_STATUS_lanes_up 0 p.val) s
      ((s.ethClose.setF F.MAC_STATUS_lanes 0).setFb F.TRC_LENS_CTL_up false).send (.pin "THERM_TRIP_L" false)

/-! ### The reference clock (R383) -/

/-- REFCLK stops or drifts: the beacon and the tenders go on; the Buoy links, the Lens port and Ethernet go down, and every LPDDR5X channel enters
its relock. The pair link's own loss is `pairDown`. -/
def refLoss (s : State) : State :=
  if ¬ s.clk.pwrok ∨ ¬ s.clk.refclk then s
  else
    let s : State := { s with clk := { s.clk with refclk := false } }
    if s.clk.held then s
    else
      let s := allSlots.foldl (fun s p => s.linkLose p) s
      let s := (s.lensLost).ethDown 0xFF
      (List.range 64).foldl (fun s c => s.phyLoss c) s

/-- REFCLK returns: the PLLs lock again and the links retrain. -/
def refReturn (s : State) : State :=
  if ¬ s.clk.pwrok ∨ s.clk.refclk then s
  else
    let s : State := { s with clk := { s.clk with refclk := true } }
    if s.clk.held ∨ s.clk.shutDown then s
    else allSlots.foldl (fun s p => if s.blkState p = 0 ∧ s.fb F.BLK_CTL_en p.val then s.linkStart p else s) s

/-! ### The core voltage (R380) -/

/-- One step of adaptive voltage scaling: at most once a millisecond, at most 5 mV, within 680 to 800 mV. A regulator that does not answer leaves
the set point. -/
def avsStep (s : State) (mv : Nat) (answers : Bool) : State :=
  if s.clk.held ∨ s.clk.vddAt.any (fun t => decide (s.beacon < t + tickMs)) = true ∨
      mv < 680 ∨ 800 < mv ∨ mv + 5 < s.clk.vdd ∨ s.clk.vdd + 5 < mv then s
  else
    let s := s.send (.i2c "VOUT_COMMAND" mv)
    if answers then { s with clk := { s.clk with vdd := mv, vddAt := some s.beacon } }
    else s.raise Ev.pmbusFault 0xFF 0

end State
end Sys2Proof.Machine
end

