-- ==== Sys2Proof/Machine/ParOps.lean ====
section
/-! DEFINITION. Principal and relief (14 R284 to R298): the live wires and health words, mirroring, takeover and takeback, resynchronisation,
emergency-light mode. -/

namespace Sys2Proof.Machine

/-- The value nearest to `near` whose low 32 bits are given. -/
def near32 (near low : Nat) : Nat :=
  let base := near / 2 ^ 32 * 2 ^ 32 + low
  if near + 2 ^ 31 < base then base - 2 ^ 32 else if base + 2 ^ 31 < near then base + 2 ^ 32 else base

namespace State

/-- Ticks of PAR_CFG.silence_us. -/
def silence (s : State) : Nat := s.f F.PAR_CFG_silence_us * tickUs

/-- A health word has arrived within the silence threshold. -/
def wordsArrive (s : State) : Bool := s.par.lastHealth.any (fun x => decide (s.beacon < x.2 + s.silence))

/-! ### Taking and giving control (R290, R291, R293, R294) -/

/-- The words of the TAKEOVER record that say how many entries each staging set held at the last mirrored PEG, a byte for each set (R287). -/
def setCountWords (s : State) : List Word :=
  if s.par.setCounts = [] then []
  else (List.range 8).map (fun w => BitVec.ofNat 64 (leNat ((List.range 8).map (fun k =>
    BitVec.ofNat 8 ((s.par.setCounts[8 * w + k]?).getD 0)))))

/-- The rows of the power and reset sequences stretch by the time since the failed keeper's last word (13 R282). -/
def stretchRows (s : State) : State :=
  match s.par.lastHealth with
  | none => s
  | some (_, t) =>
    let gap := s.beacon - t
    allSlots.foldl (fun s n => s.updMo n (fun m => { m with
      seq := m.seq.map (fun x => (x.1, x.2.map (fun d => if x.1 = .runEntry then nextMark (d + gap) else d + gap))) })) s

/-- Tender cursors restart at the floor (15 R312). -/
def cursorsTakeover (s : State) : State :=
  (List.range 24).foldl (fun s k => s.updReader (8 + k) (fun r => { r with cursor := s.f F.LOG_FLOOR_floor })) s

/-- What every keeper does that takes control (R251, R287, R290, R321, R331 and the chapters' takeover rules): every staging set is empty, the
incarnation rises, the service address is claimed, W1 goes low for the slots stopped, the tie is taken over as it stands, actions and sessions
are carried on. DEDUCED: a tie to a domain was tied. -/
def inControl (s : State) (back : Bool) : State :=
  let acts := s.act.running
  let s : State := { s with sets := Vector.replicate 64 [] }
  let s := s.updPar (fun p => { p with gap := false })
  let s : State := { s with bcn := { s.bcn with starting := false, tied := s.bcn.tied || decide (s.f F.BCN_CTL_tie = 1 ∨ s.f F.BCN_CTL_tie = 2) } }
  let s := (s.setRole true 2).tieRules.nextIncarnation
  let s := (s.mirrorItem 5 (.incarnation s.incarnation) .nothing).claimStart.occTakeover
  let s := (s.act.running.filter (fun a => decide (a.phase = .ended))).foldl (fun s a => s.release (.actDeliver a.ticket)) s
  let s := s.cursorsTakeover.actTakeover.trsTakeover.trcTakeover.sealTakeover.scfTakeover
  allSlots.foldl (fun s n => s.pwrGoodTake n) (s.sessTakeover acts back)

/-- A takeover: 1 a failing word, 2 silence, 3 alone at power-up. -/
def takeControl (s : State) (reason : Nat) : State :=
  let stale := s.fb F.PAR_STATUS_detached
  let s := if reason = 3 then s else s.raise Ev.peerLost 0 (BitVec.ofNat 64 reason)
  let s := if stale then s.wrNat logNextAddr 8 (s.logNext - 1 + 2 ^ 32) else s
  let next := s.logNext
  let s := ((s.setFb F.PAR_STATUS_stale stale).setFb F.PAR_STATUS_detached false).bump F.PAR_CNT_takeovers
  let s := s.updPar (fun p => { p with failedBy := none, roleAsked := false, healthySince := none, healthyRaised := false, mirroring := false })
  let s := if reason = 3 then s.enterStagger else s.stretchRows
  let s := ((s.setFb F.PAR_STATUS_in_sync false).setFb F.PAR_STATUS_solo true).wiresLost.inControl false
  let payload : Word := BitVec.ofNat 64 (reason + place (b2n stale) 8 1 + place next 16 48)
  (s.note Ev.takeover payload s.setCountWords).raise Ev.takeover 0 payload

/-- TAKEOVER: the failure of the keeper in control is established. -/
def takeover (s : State) : State :=
  match s.par.failedBy with
  | none => s
  | some r => if s.clk.held ∨ ¬ s.following ∨ s.emergency ∨ s.clk.shutDown then s else s.takeControl r

/-- This keeper becomes a follower. One that is out of service has its beacon set to its peer's at the start of the next PCLK cycle, and the cleared bits
as its slew (12 R251). -/
def follow (s : State) (peerBeacon : Nat) : State :=
  let v := peerBeacon + (s.nextPclk - s.beacon)
  let s := if s.inService then s
    else (({ s with bcn := { s.bcn with starting := true } } : State).hardSet v).setSlew (v % 8 : Nat)
  (s.setRole false 1).setFb F.PAR_STATUS_solo false

/-- A principal takes control when its strap phase ends; its slots that are in strap phase enter stagger phase. -/
def principalStart (s : State) : State :=
  let s := (s.setRole true 2).enterStagger
  if s.peerLive then s else s.setFb F.PAR_STATUS_solo true

/-- The peer's last health word, which has arrived within the silence threshold, shows it in control. -/
def peerInControl (s : State) : Bool := s.wordsArrive && s.par.lastHealth.any (fun x => bitOf x.1 2)

/-- The settling of the roles once strap phase has ended (R294): a keeper that finds its peer in control follows, else a principal takes control and a
relief waits. -/
def roleStart (s : State) : State :=
  if s.f F.PAR_STATUS_state ≠ 0 then s
  else if s.peerInControl then s.follow ((s.par.lastT.map (fun x => x.1 + (s.beacon - x.2))).getD s.beacon)
  else if s.clk.relief then s.updPar (fun p => { p with strapEnd := some s.beacon, peerSeen := false })
  else s.principalStart

/-- A relief that has seen neither an edge nor a word of a peer for alone_ms after its strap phase takes control. -/
def aloneOver (s : State) : State :=
  match s.par.strapEnd with
  | none => s
  | some t =>
    if s.clk.held ∨ ¬ s.clk.relief ∨ s.f F.PAR_STATUS_state ≠ 0 ∨ s.emergency ∨ s.peerLive ∨ s.par.peerSeen ∨
        s.beacon < t + s.f F.PAR_CFG_alone_ms * tickMs then s
    else s.takeControl 3

/-- Control is handed over at a quiet point (R293); W0 rests high until the other keeper is seen in control. -/
def handOver (s : State) : State :=
  let s := (s.w0Gap.stopMirroring.pairSend "HANDOVER" []).sealTakeover
  let s := s.updPar (fun p => { p with yieldPending := false, healthySince := none, healthyRaised := false, ownSince := none, gap := true })
  (s.setFb F.PAR_STATUS_in_sync true).setRole false 1

/-- A role request arrives at the keeper in control: it hands over where it is quiet, and refuses else. -/
def roleRequest (s : State) : State :=
  if s.clk.held ∨ ¬ s.control ∨ s.emergency ∨ ¬ s.fb F.PAR_STATUS_link_up then s
  else if s.quiet ∧ s.par.mirroring then s.handOver
  else s.pairSend "ROLE_REFUSED" []

/-- The handover arrives: this keeper takes control, its peer following in sync. -/
def takeback (s : State) : State :=
  if s.clk.held ∨ ¬ s.following ∨ s.emergency ∨ ¬ s.fb F.PAR_STATUS_link_up then s
  else
    let s := s.updPar (fun p => { p with roleAsked := false, mirroring := true, ownSince := none, healthySince := none })
    let s := (s.bump F.PAR_CNT_takebacks).setFb F.PAR_STATUS_solo false
    (s.inControl true).kcpFreed.raise Ev.takeback 0 0

/-- A healthy peer follows. -/
def peerFollows (s : State) : Bool := s.par.mirroring && s.peerLive && s.fb F.PAR_STATUS_link_up

/-- A store of 1 to PAR_CTL.yield: the handover comes at the next quiet point; ignored where no healthy peer follows. -/
def yieldAsked (s : State) : State :=
  if s.control ∧ s.peerFollows then s.updPar (fun p => { p with yieldPending := true }) else s

/-- A pending handover whose quiet point has come. -/
def yieldDue (s : State) : State :=
  if s.par.yieldPending ∧ s.control ∧ ¬ s.emergency then
    if ¬ s.peerFollows then s.updPar (fun p => { p with yieldPending := false })
    else if s.quiet then s.handOver else s
  else s

/-- What the copying of R295 sends, in order: the records of the ring above the floor, the arming entries and the ticket counter, the session positions, the
commit record and the dump index, the slots, the images, a ledger snapshot. DEDUCED: "its whole mirrored state" (R288) takes in commands and completions that
a session still awaits, running actions, committed ST fields, the floor records (18 R368), subscriptions, custody, LOG_NEXT and the incarnation. -/
def resyncItems (s : State) : List MirrorMsg :=
  let floor := s.f F.LOG_FLOOR_floor
  let ring := s.log.held.filter (fun q => decide (floor ≤ q ∧ s.logNext ≤ q + 32768))
  let cmds (x : Sess) : List MirrorMsg := (s.ses x).cmds.flatMap (fun c => MirrorMsg.command x.val c.num c.frame c.handle c.cmd ::
    (if c.phase = .completed then [MirrorMsg.completion x.val c.num c.status c.body] else []))
  let arr (a : Option Arrangement) (act : Bool) : List MirrorMsg := (a.map (fun a => MirrorMsg.arrangement a.gen a.step a.table act)).toList
  [MirrorMsg.resyncBegin, .logNext s.logNext] ++ ring.map (fun q => .record (s.rdBytes (ringAddr q) 120)) ++
    (List.finRange 16).map s.armMsg ++ [MirrorMsg.ticket s.lastTicket] ++
    (List.finRange 8).flatMap (fun x => s.sessMsg x :: cmds x) ++ s.act.running.map actionMsg ++
    [s.commitMsg, .dumpIndex (s.rdBytes 0x203C0000 512)] ++
    allSlots.map s.slotMsg ++ [MirrorMsg.sequence s.mor.seqBase.isSome s.mor.seqDone] ++
    (s.prog.owned.toList.filterMap (fun o => o.map (fun p => MirrorMsg.program p.image))) ++
    (if s.trs.job.isSome then [s.trussMsg] else []) ++ arr s.trs.active true ++ arr s.trs.pending false ++ [MirrorMsg.job s.jobBound s.trs.dataOrder] ++
    allSlots.map s.ledgerMsg ++ [MirrorMsg.stFields (stRegs.map (fun r => (r.1, r.2, s.reg r.1 &&& r.2))), .floors s.sec.floor.entries s.sec.floor.count] ++
    (match s.kcp.buddyNext.or s.kcp.buddyIds with
     | some (a, b, ia, ib) => if s.fb F.SCF_BUDDY_valid then [MirrorMsg.buddyIds (s.f F.SCF_BUDDY_tray) a b ia ib] else []
     | none => []) ++
    s.kcp.subscribers.map (fun q => .subscriber true q.addr q.identity q.key) ++
    s.kcp.subscribed.map (fun q => .subscribed true q.addr q.identity q.key) ++
    [MirrorMsg.custody (if s.fb F.LOG_STATUS_custody then some (s.f F.LOG_STATUS_holder) else none) floor, .incarnation s.incarnation, .synced]

/-- The follower is resynchronised over the SNAPSHOT class and mirroring resumes (R295). -/
def resync (s : State) : State :=
  if s.clk.held ∨ ¬ s.control ∨ s.emergency ∨ ¬ s.fb F.PAR_STATUS_link_up then s
  else
    let s := s.trcSync.bump F.PAR_CNT_resyncs
    let s := s.resyncItems.foldl (fun s m => s.pairPut (.snapshot m)) s
    let s := ((s.setFb F.PAR_STATUS_detached false).setFb F.PAR_STATUS_solo false).setFb F.PAR_STATUS_in_sync true
    s.updPar (fun p => { p with mirroring := true, downSince := none })

/-! ### Live wire and health words (R284, R286, R289) -/

/-- The keeper in control has lost its follower: neither live wire nor health words (R296). -/
def followerGone (s : State) : State :=
  if s.control ∧ ¬ s.peerLive ∧ ¬ s.wordsArrive ∧ ¬ s.fb F.PAR_STATUS_solo then
    (s.stopMirroring.runAlone).raise Ev.peerLost 0 2
  else s

/-- An edge on PAIR_LIVE_IN. A keeper that holds control alone and sees the wire return takes it that the peer may hold control too (R292). -/
def liveEdge (s : State) : State :=
  if s.clk.held then s
  else
    let back := s.control && s.fb F.PAR_STATUS_solo && !s.peerLive && !s.fb F.PAR_STATUS_link_up && s.par.liveEdge.isSome
    (s.setFb F.PAR_STATUS_peer_live true).updPar (fun p => { p with
      liveEdge := some s.beacon, liveLost := false, wireTold := false, split := p.split || back, peerSeen := p.peerSeen || p.strapEnd.isSome })

/-- No edge for 5 µs. For a follower that has had no health word for silence_us either, the failure of the keeper in control is established (R289). -/
def liveLoss (s : State) : State :=
  match s.par.liveEdge with
  | none => s
  | some t =>
    if s.clk.held ∨ ¬ s.peerLive ∨ s.beacon < t + 5 * tickUs then s
    else
      let s := (s.setFb F.PAR_STATUS_peer_live false).updPar (fun p =>
        { p with liveLost := true, healthySince := none, healthyRaised := false })
      let s := if s.following then s.w0Gap else s
      if s.following ∧ s.par.lastHealth.isSome ∧ ¬ s.wordsArrive then s.updPar (fun p => { p with failedBy := some 2 })
      else s.followerGone

/-- No health word for silence_us: with the live wire lost the failure of the keeper in control is established; while it toggles the link is down
and a follower's mirror is stale (R288, R289). -/
def healthSilence (s : State) : State :=
  match s.par.lastHealth with
  | none => s
  | some (_, t) =>
    if s.clk.held ∨ s.emergency ∨ s.beacon < t + s.silence then s
    else
      let s := s.updPar (fun p => { p with healthySince := none, healthyRaised := false })
      if s.following then
        if s.par.liveLost ∨ ¬ s.peerLive then s.updPar (fun p => { p with failedBy := some 2 })
        else if s.fb F.PAR_STATUS_detached then s
        else (((s.setFb F.PAR_STATUS_detached true).setFb F.PAR_STATUS_in_sync false).raise Ev.pairLinkDown 0 0).scfPeerLost
      else s.followerGone

/-- What this keeper's own health is while it follows (R293). -/
def ownHealthy (s : State) : Bool :=
  s.liveOut && s.prog.orders.isSome && s.fb F.PAR_STATUS_in_sync && !s.failingNow && s.portUp

/-- The word of this keeper that an echo answers: of the last two sent, the one whose departure lies nearest to the tick at which the peer received it
(R286). DEDUCED: a word still in flight when the peer's departed is not the one echoed, and words leave 10 µs apart. -/
def echoed (s : State) (t4 : Nat) : Option Nat :=
  s.par.sentT.foldl (fun (b : Option Nat) o =>
    match b with
    | none => some o
    | some x => if ((t4 : Int) - o).natAbs < ((t4 : Int) - x).natAbs then some o else some x) none

/-- A health word arrives: departure by the peer's beacon, the echo (the peer's tick when it received this keeper's last word), the peer's
highest sequence number, its state byte. DEDUCED: the skew takes the peer's departure and arrival and this keeper's arrival and departure. A word
that shows the relief no longer quiet ends a request: the principal waits for the next quiet point. -/
def healthIn (s : State) (t1 e2 _e3 _seq state _thermal : Nat) : State :=
  let keep := s.updPar (fun p => { p with
    lastHealth := some (state % 256, s.beacon), lastT := some (t1, s.beacon), peerSeen := p.peerSeen || p.strapEnd.isSome })
  if s.clk.held ∨ ¬ s.fb F.PAR_STATUS_link_up then s
  else if s.emergency then keep
  else
    let s := keep
    let s := match s.echoed (near32 t1 e2) with
      | some o => if e2 = 0 then s else s.pairSkew t1 s.beacon o (near32 t1 e2)
      | none => s
    let good := s.peerLive && bitOf state 4 && bitOf state 5 && bitOf state 7 && !bitOf state 3
    let s := s.updPar (fun p => { p with
      healthySince := if good then (if p.healthySince.isSome then p.healthySince else some s.beacon) else none
      healthyRaised := p.healthyRaised && good
      roleAsked := p.roleAsked && bitOf state 6
      gap := p.gap && !bitOf state 2
      ownSince := if s.following && s.ownHealthy then (if p.ownSince.isSome then p.ownSince else some s.beacon) else none })
    if s.f F.PAR_STATUS_state = 0 ∧ s.mor.strapsRead ∧ bitOf state 2 then s.follow t1
    else if s.following then
      if bitOf state 3 then s.updPar (fun p => { p with failedBy := some 1 })
      else if s.par.liveLost ∧ ¬ s.par.wireTold then
        (s.updPar (fun p => { p with wireTold := true })).raise Ev.peerLost 0 3
      else if ¬ s.clk.relief ∧ s.fb F.PAR_CTL_takeback_en ∧ bitOf state 2 ∧ bitOf state 6 ∧ ¬ s.par.roleAsked ∧
          s.par.ownSince.any (fun t => decide (t + 30 * tickS ≤ s.beacon)) then
        let s := (s.w0Gap.pairSend "ROLE_REQUEST" []).updPar (fun p => { p with roleAsked := true })
        { s with kcp := { s.kcp with heldCmds := [] } }
      else s
    else if s.control then
      let s := s.updPar (fun p => { p with split := bitOf state 2 })
      if bitOf state 2 then s
      else if (bitOf state 3 ∧ s.par.mirroring) ∨ (state % 4 = 3 ∧ ¬ s.fb F.PAR_STATUS_solo) then (s.stopMirroring.runAlone).raise Ev.peerLost 0 1
      else if state % 4 = 1 ∧ ¬ bitOf state 3 ∧ ¬ s.par.mirroring then s.resync
      else s
    else s

/-- 30 s of unbroken health of the principal, which the relief in control reports. -/
def peerHealthy (s : State) : State :=
  if s.clk.held ∨ ¬ s.clk.relief ∨ ¬ s.control ∨ s.emergency ∨ s.par.healthyRaised ∨ ¬ s.par.healthySince.any (fun t => decide (t + 30 * tickS ≤ s.beacon)) then s
  else (s.updPar (fun p => { p with healthyRaised := true })).raise Ev.peerHealthy 0 0

/-- A split is resolved (R292): the keeper that took control later yields and writes the record; the other moves its next sequence number above the
highest that either delivered. Both facts of the peer come with the word: its last change of role and its next sequence number. -/
def splitResolve (s : State) (peerLast peerNext : Nat) : State :=
  if s.clk.held ∨ ¬ s.par.split ∨ ¬ s.control ∨ s.emergency then s
  else
    let s := s.updPar (fun p => { p with split := false })
    let mine := s.f F.PAR_LAST_beacon
    if peerLast < mine ∨ (peerLast = mine ∧ s.clk.relief) then
      let s := s.logHwWords 0x0402 0x0E 0xF [BitVec.ofNat 64 mine, BitVec.ofNat 64 s.beacon]
      let s := s.stopMirroring.updPar (fun p => { p with healthySince := none, healthyRaised := false, ownSince := none, yieldPending := false })
      (s.sealTakeover.setRole false 1).setFb F.PAR_STATUS_solo false
    else if s.logNext ≤ peerNext then s.wrNat logNextAddr 8 (peerNext + 1) else s

/-! ### The pair link (R285, R288) -/

/-- The pair link trains; of a link that is up the lanes in lock change, and it runs on those left (R285). Items that are not acknowledged are sent again. -/
def pairUp (s : State) (lanes : Nat) : State :=
  if s.clk.held ∨ ¬ s.clk.refclk ∨ ¬ s.unitStarted 12 ∨ lanes = 0 ∨ 4 < lanes then s
  else if s.fb F.PAR_STATUS_link_up then s.setF F.PAR_STATUS_lanes lanes
  else
    let s := ((s.setFb F.PAR_STATUS_link_up true).setF F.PAR_STATUS_lanes lanes).updPar (fun p => { p with downSince := none })
    let s := allSlots.foldl (fun s n => s.tellLink n (s.linkUp n)) s.pairTrained
    let s := s.raise Ev.pairLinkUp 0 0
    if s.control ∧ s.fb F.PAR_STATUS_detached then s.resync
    else s.par.queue.foldl (fun s i => s.pairPut (.mirror i.row i.msg)) s

/-- The pair link is lost. -/
def pairDown (s : State) : State :=
  if s.clk.held ∨ ¬ s.fb F.PAR_STATUS_link_up then s
  else
    let s := ((s.setFb F.PAR_STATUS_link_up false).setF F.PAR_STATUS_lanes 0).updPar (fun p => { p with
      downSince := some s.beacon, wire := { PairWire.init with discarded := p.wire.discarded } })
    let s := s.raise Ev.pairLinkDown 0 0
    let over5 := match s.scf.load with
      | none => false
      | some l => l.peerMan.isSome || (l.items.head?.bind (fun it => it.cands.head?)).any (fun c => decide (s.candAssoc c = some 5))
    if over5 then s.loadEnd Res.noReply else s

/-- The pair link has been down for silence_us while the live wire toggles: the follower is detached (R288). -/
def detach (s : State) : State :=
  match s.par.downSince with
  | none => s
  | some t =>
    if s.clk.held ∨ ¬ s.control ∨ s.emergency ∨ ¬ s.par.mirroring ∨ ¬ s.peerLive ∨ s.beacon < t + s.silence then s
    else
      let s := s.stopMirroring.setFb F.PAR_STATUS_detached true
      (s.bump F.PAR_CNT_detaches).runAlone

/-! ### Mirroring (R287, R288) -/

/-- The follower acknowledges the oldest item: its held step proceeds, and the ring entry of a record may free. -/
def mirrorAck (s : State) : State :=
  match s.par.queue with
  | [] => s
  | i :: r =>
    if s.clk.held then s
    else
      let wait := (s.beacon - i.sentAt) * 5 / 8
      let s := s.updPar (fun p => { p with queue := r })
      let s := if s.f F.PAR_LAG_max_ns < wait then s.setF F.PAR_LAG_max_ns (min wait (2 ^ 32 - 1)) else s
      let s : State := match i.held with
        | .record q => { s with log := { s.log with unacked := s.log.unacked.filter (fun x => decide (x ≠ q)) } }
        | _ => s
      let s := match i.held with | .nothing => s | h => s.release h
      s.wakeLogw

/-- An acknowledgement is overdue by lag_us: MIRROR_LAG with the row of the oldest item. -/
def mirrorLag (s : State) : State :=
  match s.par.queue.find? (fun i => !i.lagged) with
  | none => s
  | some i =>
    if s.clk.held ∨ s.emergency ∨ s.beacon < i.sentAt + s.f F.PAR_CFG_lag_us * tickUs then s
    else
      let s := s.updPar (fun p => { p with queue := p.queue.map (fun (j : MirrorItem) => if j = i then { j with lagged := true } else j) })
      (s.bump F.PAR_LAG_lags).raise Ev.mirrorLag 0 (BitVec.ofNat 64 i.row)

/-- The snapshot of the ledger goes to the follower every 100 µs, and the drain points of the trace streams with it. -/
def ledgerSnapshot (s : State) : State :=
  if s.clk.held ∨ ¬ s.control ∨ s.emergency ∨ ¬ s.par.mirroring then s
  else allSlots.foldl (fun s n => s.mirrorItem 10 (s.ledgerMsg n) .nothing) s.trcTell

/-- The digest key of a mirrored PEG is in force (07 R139). -/
def mirroredKey (s : State) (off : Nat) : State :=
  if off = 0x40010 ∨ off = 0x40018 then
    { s with plb := { s.plb with key := s.f F.PLB_DKEY_LO_key_lo + 2 ^ 64 * s.f F.PLB_DKEY_HI_key_hi } }
  else s

/-- The phase and the levels that the keeper in control mirrors for a slot: the follower drives W0, W2 and W3 alike, and enters run phase with it, once the
beacon has gained what its own start set cleared (01 R7, 12 R251, 13 R268). -/
def slotMirrored (s : State) (n : Slot) (ph : Nat) (h : MorSlot → MorSlot) : State :=
  let old := (s.mo n).phase
  let s := s.updMo n h
  let s :=
    if ph = 2 then
      if old = 2 then s.updMo n (fun m => { m with phase := 2 })
      else if old = 3 then s.runPhase n s.beacon
      else if s.bcn.starting then s.updMo n (fun m => { m with enterRun := true })
      else s.runPhase n (s.beacon + 2 * tickUs)
    else s.updMo n (fun m => { m with phase := ph, enterRun := false, probeAt := none })
  s.slotState n

/-- A committed value of ST fields as the follower keeps it. DEDUCED: a slew and a set of the beacon are the controller's own, whose beacon the follower keeps
to (12 R251). -/
def fieldKeep (s : State) (off : Nat) (mask v : Word) : State :=
  if off = F.BCN_SLEW_slew.base then s
  else
    let p : Slot := Fin.ofNat 16 (off / 0x10000 - 0x20)
    let was := s.f F.BLK_MAP_slot p.val
    let s := (s.setReg off ((s.reg off &&& ~~~mask) ||| (v &&& mask))).mirroredKey off
    if 0x20 ≤ off / 0x10000 ∧ off % 0x10000 = 0x20 then s.remapCommitted p was else s

/-- What the follower keeps of a mirrored item. -/
def mirrorKeep (s : State) (m : MirrorMsg) : State :=
  match m with
  | .record b => s.recordKeep b
  | .command x num frame h c =>
    if (s.cmdOf (Fin.ofNat 8 x) num).isSome then s
    else s.updSes (Fin.ofNat 8 x) (fun u => { u with
      cmds := (u.cmds ++ [(⟨num, frame, h, c, .received, 0, [], false, none⟩ : SessCmd)]), nextCmd := num + 1, rxNext := max u.rxNext (frame + 1)
      rxAck := max u.rxAck frame })
  | .completion x num st body =>
    let s : State := match (s.cmdOf (Fin.ofNat 8 x) num).map (fun (c : SessCmd) => c.cmd) with
      | some (.bindJob d) => if st = St.ok then { s with trs := { s.trs with dataOrder := some d } } else s
      | _ => s
    s.updCmd (Fin.ofNat 8 x) num (fun c => { c with phase := .completed, status := st, body := body, mirrored := true })
  | .action tk major fn mask recSlot t iw pc ga gb arm cmd =>
    (match subOf major fn with
     | none => s
     | some x =>
       let core := ((x.targets ga.toNat).getD (0, none)).2
       let a : Action := ⟨tk, x, mask, core, t, iw, pc, ga, gb, arm, if x = .ocltAt then .pending else .driving, 0, (lowestBit mask 16).getD 0,
         recSlot, s.beacon, mask, cmd⟩
       let s : State := { s with act := ⟨s.act.running.filter (fun b => decide (b.ticket ≠ tk)) ++ [a]⟩ }
       if x = .rollRollback ∨ x = .rollRestore then s.scfDiscard
       else if x = .ocltAt then s.atShow tk gb.toNat mask else s)
  | .actionEnd tk result =>
    let s := match s.actionOf tk with
      | some a => (match a.cmd with
        | some (x, num) => s.updCmd (Fin.ofNat 8 x) num (fun c => { c with outcome := some (a.payload result) })
        | none => s)
      | none => s
    let s : State := { s with act := ⟨s.act.running.filter (fun a => decide (a.ticket ≠ tk))⟩ }
    if tk = s.occ.atTicket ∧ s.atPending ∧ result ≠ Res.takeover then s.atClear else s
  | .ticket t => s.wrNat ticketAddr 8 t
  | .arming e v cls slots sess gen exp => s.setArms (s.evt.arms.set e ⟨v, cls, slots, sess, gen, exp⟩)
  | .session x p =>
    let s := if p.isOpen then s else s.custodyDrop x
    s.sessKeep x p
  | .commit b => s.updPar (fun p => { p with commitMirror := b })
  | .slot n ph stopped powered w1 w0 w2 w3 row due =>
    let o := s.f F.MOR_PROXY_out
    (s.setF F.MOR_PROXY_out (if w1 then o ||| 2 ^ n.val else o - o.land (2 ^ n.val))).slotMirrored n (ph % 4) (fun m => { m with
      stopped := stopped, powered := powered, w0 := w0, w2 := w2, w3 := w3
      drv := decide (ph % 4 = 1) && (if m.phase = 1 then m.drv else decide (m.phase = 0))
      pulse := if ph % 4 = 1 ∧ 2 ≤ m.phase then some ⟨false, s.beacon, s.beacon, true, none, 0, 0, none⟩ else m.pulse
      seq := (SeqStep.ofCode row).map (fun r => (r, due)) })
  | .subscriber on addr identity key =>
    { s with kcp := { s.kcp with subscribers := s.kcp.subscribers.filter (fun (q : NoticePeer) => decide (q.identity ≠ identity)) ++
        (if on then [⟨addr, identity, key, []⟩] else []) } }
  | .subscribed on addr identity key =>
    { s with kcp := { s.kcp with subscribed := s.kcp.subscribed.filter (fun (q : NoticePeer) => decide (q.identity ≠ identity)) ++
        (if on then [⟨addr, identity, key, []⟩] else []) } }
  | .dumpIndex b => s.wrBytes 0x203C0000 (b.take 512)
  | .logNext n =>
    let s := s.wrNat logNextAddr 8 n
    { s with log := { s.log with held := s.log.held.filter (fun q => decide (q < n)), unmirrored := s.log.unmirrored.filter (fun q => decide (q < n)) } }
  | .incarnation k => s.wrNat incAddr 1 k
  | .custody h floor =>
    let s := (s.setFb F.LOG_STATUS_custody h.isSome).setF F.LOG_STATUS_holder (h.getD 0)
    ({ s with log := { s.log with held := s.log.held.filter (fun q => decide (floor ≤ q)) } } : State).setF F.LOG_FLOOR_floor floor
  | .job bound d =>
    let s : State := { s with trs := { s.trs with dataOrder := d } }
    if bound ∧ s.trs.job.isSome then s.setF F.TRS_STATUS_state 2 else s
  | .stFields l => l.foldl (fun s x => s.fieldKeep x.1 x.2.1 x.2.2) s
  | .resyncBegin =>
    { s with
      act := ⟨[]⟩
      kcp := { s.kcp with sess := Vector.replicate 8 Session.closed, subscribers := [], subscribed := [] }
      par := { s.par with recWait := [] } }
  | .copy _ => s
  | .buddyIds tray a b ia ib =>
    let s := (s.setF F.SCF_BUDDY_tray tray).setFb F.SCF_BUDDY_valid true
    { s with kcp := { s.kcp with buddyNext := some (a, b, ia, ib) } }
  | .setCounts l => s.updPar (fun p => { p with setCounts := l })
  | .sequence begun done =>
    { s with mor := { s.mor with seqBase := if begun then some (s.mor.seqBase.getD s.beacon) else none, seqDone := done } }
  | .accepted .. => s
  | .wireFault .. => s
  | .copied .. => s
  | .copyAsk .. => s
  | .proxyAlarm _ => s
  | .proxyHeartbeat _ => s
  | .proxyEcho .. => s
  | .stField off mask v => s.fieldKeep off mask v
  | .program b => (s.programLoad b).2
  | .floors es c => s.floorMerge ⟨es, c⟩
  | .truss ma pa m p =>
    ((((s.store ma m).store pa p).setF F.TRS_MAP_SRC_map ma).setF F.TRS_PLAN_SRC_plan pa).trsLoad
  | .arrangement gen step table act => s.trsMirrored ⟨gen, step, table⟩ act
  | .ledger n l u => s.ldgMirrored n l u
  | .drained n k => s.trcDrained n k
  | .link .. => s
  | .health _ => s
  | .buddy _ => s
  | .image .. => s
  | .synced =>
    ((s.trcSync.setFb F.PAR_STATUS_in_sync true).setFb F.PAR_STATUS_detached false).pairPut
      (.snapshot (.floors s.sec.floor.entries s.sec.floor.count))

/-- A health record of the relief as the keeper in control enters it: time and snapshot kept, source bit [13] set (15 R308). -/
def healthDraft (b : List Byte) : LogDraft :=
  ⟨numAt b 8 2, numAt b 10 2 ||| 0x2000, numAt b 13 1, numAt b 14 2, numAt b 16 8,
    (List.range (numAt b 12 1 % 16)).map (fun k => BitVec.ofNat 64 (numAt b (24 + 8 * k) 8))⟩

/-- The other keeper's counterpart is lost, or answers again (11 R233). -/
def peerBuddy (s : State) (lost : Bool) : State :=
  if s.clk.held ∨ s.emergency ∨ ¬ s.fb F.PAR_STATUS_link_up then s
  else (({ s with scf := { s.scf with peerBuddyLost := lost } } : State).scfTryCommit).scfReady

/-- A mirrored item arrives at the follower: it is stored and acknowledged. A record whose place in the ring is not free waits for it (15 R307); a copy is not
acknowledged. The follower's own floor record comes back as a copy at the end of a resynchronisation (18 R368). -/
def mirrorIn (s : State) (m : MirrorMsg) : State :=
  if s.clk.held ∨ s.emergency ∨ ¬ s.fb F.PAR_STATUS_link_up then s
  else if ¬ s.following then (match m with | .copy (.floors es c) => s.floorMerge ⟨es, c⟩ | _ => s)
  else match m with
    | .copy c => s.mirrorKeep c
    | .record b =>
      if s.par.recWait = [] ∧ s.recordRoom b then (s.recordKeep b).pairSend "MIRROR_ACK" []
      else s.updPar (fun p => { p with recWait := p.recWait ++ [b] })
    | m => (s.mirrorKeep m).pairSend "MIRROR_ACK" []

/-- The other keeper tells whether its link to a slot is up; where it is not, it gets the slot's segments that are durable here (11 R215). -/
def peerLinkTold (s : State) (n : Slot) (up : Bool) : State :=
  let s := s.updMo n (fun x => { x with peerLink := up })
  match s.scf.img with
  | none => s
  | some g => (g.segs.filter (fun x => decide (x.rcd.slot = n.val) && x.durable)).foldl (fun s x => s.segForward n g.place x.rcd) s

/-- What arrives in the MIRROR and PROXY classes of the pair link: a mirrored item, the report on the other keeper's counterpart or on its wires, an edge
forwarded for a wire of this keeper that has failed, a health record of the relief. -/
def mirrorClass (s : State) (m : MirrorMsg) : State :=
  match m with
  | .buddy lost => s.peerBuddy lost
  | .image step c => if s.fb F.PAR_STATUS_link_up ∧ ¬ s.emergency then s.imageTold step c else s
  | .wireFault n w => if s.fb F.PAR_STATUS_link_up then s.peerWire n w else s
  | .link n up => if s.fb F.PAR_STATUS_link_up then s.peerLinkTold n up else s
  | .accepted n lo hi => s.updMo n (fun x => { x with peerSerial := some (lo, hi) })
  | .health b => if s.control ∧ s.fb F.PAR_STATUS_link_up ∧ ¬ s.clk.held ∧ ¬ s.emergency then s.logHw (healthDraft b) else s
  | .copied a b => s.copyIn a b
  | .copyAsk load c => if s.fb F.PAR_STATUS_link_up ∧ ¬ s.clk.held then s.pairSend "COPY" [b2n load, c] else s
  | .proxyAlarm n => if s.fb F.PAR_STATUS_link_up then s.alarmWire n else s
  | .proxyHeartbeat n => if s.fb F.PAR_STATUS_link_up ∧ ¬ s.clk.held then s.hbEdge n else s
  | .proxyEcho n a => if s.fb F.PAR_STATUS_link_up then s.calEchoAt n a (signedOf (s.f F.BCN_PAIR_skew) 32) else s
  | m => s.mirrorIn m

/-! ### Emergency-light mode (R297, R298) -/

/-- Entry: the staging sets of the tenders and the sessions go with them (04 R74); the failing word; a healthy follower takes control; a keeper that stays in control keeps the hardware paths alone. -/
def emergencyEntry (s : State) : State :=
  let cause := s.par.emergDue
  if s.clk.held ∨ cause = 0 ∨ s.emergency then s
  else
    let stays := s.control && !s.peerFollows
    let s := ((s.failWord).atClear.sealTakeover.setFb F.LOG_STATUS_custody false).setF F.LOG_STATUS_holder 0
    let s := s.logHwWords 0x0403 0x0E 0xF [BitVec.ofNat 64 cause]
    let s := s.setArms (s.evt.arms.map (fun (a : ArmEntry) => { a with valid := false }))
    let s := (List.range 32).foldl (fun s k => s.dropSet (Fin.ofNat 64 k)) s
    let s := (s.setRole stays 3).setFb F.GLB_STATUS_emergency true
    let s := s.setFb F.KCP_STATUS_responder true
    { s with
      tnd := s.tnd.map (fun (x : TenderSt) => if x.run = .halted then x else { x with run := .inReset })
      bcn := { s.bcn with tied := false }
      act := ⟨[]⟩
      kcp := { s.kcp with sess := Vector.replicate 8 Session.closed, handles := [], repeats := [], claims := (0, 0) }
      par := { s.par with queue := [], mirroring := false, emergDue := 0, yieldPending := false, flashed := 0 } }

/-- The responder's restart: a valid image has been written; the Standing Orders are reloaded and released without a warm reset, the levels of the
mooring outputs kept, and the keeper rejoins under R294. -/
def restart (s : State) : State :=
  if ¬ s.emergency ∨ s.clk.held ∨
      ¬ ((bitOf s.par.flashed 0 ∧ (s.ordersAt 0).isSome) ∨ (bitOf s.par.flashed 1 ∧ (s.ordersAt 1).isSome)) then s
  else match s.ordersPick with
    | none => s
    | some _ =>
      let s := (s.setFb F.GLB_STATUS_emergency false).setFb F.KCP_STATUS_responder false
      let s := s.updPar (fun p => { p with failing := false })
      let s : State := { s with prog := { s.prog with orders := none } }
      let s := s.ordersStart
      (s.setRole false 0).roleStart

end State
end Sys2Proof.Machine
end

