-- ==== Sys2Proof/Machine/RegEffect.lean ====
section
/-! DEFINITION. What a store to a register does beside setting its fields: the triggers that blocks attach to W1S and WO fields and
to changes of RW fields, the grant path of arming (18 R370), and what a PEG commit starts (04 R73). -/

namespace Sys2Proof.Machine

/-- Who makes a register access: a tender at ORDER or at HOST, or a session with its privilege (16 R326: 0 OWNER, 1 OPERATOR,
2 OBSERVER, 3 TENANT). -/
inductive RegBy
  | tender (i : Tender) (order : Bool)
  | sess (x : Sess) (priv : Nat)
  deriving DecidableEq, Repr

/-- The reader number of R311. -/
def RegBy.reader : RegBy → Nat
  | .tender i _ => i.val + 8
  | .sess x _ => x.val

/-- The staging set that a plain store uses (04 R70). -/
def RegBy.set : RegBy → Fin 64
  | .tender i _ => Fin.ofNat 64 i.val
  | .sess x _ => Fin.ofNat 64 (24 + x.val)

/-- A KCP register write of an OWNER session. -/
def RegBy.owner : RegBy → Bool
  | .sess _ p => decide (p = 0)
  | _ => false

/-- ORDER fields accept this store: ORDER programs and OWNER sessions (07 R147). -/
def RegBy.ordered : RegBy → Bool
  | .tender _ o => o
  | .sess _ p => decide (p = 0)

/-- RC fields are cleared by this access's read: tenders, OWNER and OPERATOR sessions (18 R362). -/
def RegBy.clears : RegBy → Bool
  | .tender _ _ => true
  | .sess _ p => decide (p ≤ 1)

namespace State

/-! ### The grant path (05 R101, 18 R370) -/

/-- ARM_CHANGED of an entry (05 R391): what was done is 0 granted, 1 renewed, 2 removed. -/
def armChanged (s : State) (e : Nat) (a : ArmEntry) (what : Nat) : State :=
  s.raise Ev.armChanged (e + place a.cls 4 3 + place a.sess 7 3 + place what 10 2)
    (BitVec.ofNat 64 (a.token e + place a.slots 32 16))

/-- The class whose entries the DISARM with a handle names: every entry of a class (05 R102). -/
def disarmClass (s : State) (h : Nat) : Option Nat :=
  (List.finRange 8).findSome? (fun x => (s.ses x).cmds.findSome? (fun c =>
    if c.handle = h then (match c.cmd with | .disarm false key => some key | _ => none) else none))

/-- The entries that a REMOVE of entry `e` with a handle invalidates: that entry, and where the handle is that of a DISARM of every entry of a class each
valid one of the class. DESIGN CHOICE: one store removes them all, for a handle applies once (05 R101, R102, 18 R370). -/
def removes (s : State) (h : Nat) (e k : Fin 16) : Bool :=
  decide (k = e) || (s.disarmClass h).any (fun c => s.armLive s.evt.arms[k] && decide ((s.evt.arms[k]).cls = c))

/-- A store to EVT_GRANT: it applies once for an outstanding handle, from tender 23 at ORDER; every other store is ignored and
counted. -/
def grantStore (s : State) (by_ : RegBy) (v : Nat) : State :=
  let h := bits v 0 24
  let e : Fin 16 := Fin.ofNat 16 (bits v 24 4)
  let a := s.evt.arms[e]
  let cls := bits v 28 3
  let op := bits v 51 2
  if by_ ≠ .tender 23 true ∨ 6 ≤ cls ∨ op = 3 ∨ bitOf v 31 ∨ ¬ s.kcp.handles.contains h ∨
      (op = 1 ∧ (¬ s.armLive a ∨ a.cls ≠ cls)) then s.bump F.EVT_CNT_grant_rej
  else
    let exp := s.f F.EVT_GRANT_EXP_exp
    let new : ArmEntry := match op with
      | 0 => { valid := true, cls := cls, slots := bits v 32 16, sess := bits v 48 3, gen := (a.gen + 1) % 2 ^ 28, expiry := exp }
      | 1 => { a with expiry := exp }
      | _ => { a with valid := false }
    let gone := (List.finRange 16).filter (fun k => decide (op = 2) && s.removes h e k && decide (k ≠ e))
    let s := s.setArms ((gone.foldl (fun (v : Vector ArmEntry 16) (k : Fin 16) => v.set k { v[k] with valid := false }) s.evt.arms).set e new)
    let s := (gone ++ [e]).foldl (fun (s : State) k => s.mirrorItem 4 (s.armMsg k) .nothing) s
    let s : State := { s with kcp := { s.kcp with handles := s.kcp.handles.filter (fun x => decide (x ≠ h)) } }
    gone.foldl (fun s k => s.armChanged k.val s.evt.arms[k] op) (s.armChanged e.val new op)

/-! ### Triggers -/

/-- BLK_CTL of a port: a link disabled goes down, a link enabled trains, retrain trains it again, a lane not permitted leaves it (13 R274, R276). -/
def blkCtl (s : State) (p : Slot) (was : Bool) (retrain : Bool) : State :=
  let en := s.fb F.BLK_CTL_en p.val
  let s := s.lanesBarred p
  if was ∧ ¬ en then (s.linkLose p).setF F.BLK_STATUS_state 5 p.val
  else if (¬ was ∧ en) ∨ (retrain ∧ en) then s.linkStart p
  else s

/-- TRC_SLOT_nn_CTL: enabling writes an ANCHOR, rearm and trig act (09 R171, R175, R177). -/
def trcCtl (s : State) (n : Slot) (was : Bool) (trig : Nat) : State :=
  let s := if ¬ was ∧ s.fb F.TRC_SLOT_CTL_en n.val then s.trcEnable n else s
  let s := if bitOf trig 7 then s.trcRearm n else s
  if bitOf trig 3 then s.trcTrigger n 1 else s

/-- THM_CTL.trip_c (18 R371): a store may lower it, never raise it; the bounds are 110 and warn_c + 5. -/
def tripStored (s : State) (old : Nat) : State :=
  s.setF F.THM_CTL_trip_c (min old (clampNat (s.f F.THM_CTL_trip_c) (s.f F.THM_CTL_warn_c + 5) 110))

/-- SCF_CTL: discard, full, and a cleared hold (11 R225, R226, R240). -/
def scfCtl (s : State) (wasHold : Bool) (trig : Nat) : State :=
  let s := if bitOf trig 18 then s.scfDiscard else s
  let s : State := if bitOf trig 19 then { s with scf := { s.scf with needFull := true } } else s
  let s := if wasHold ∧ ¬ s.fb F.SCF_CTL_hold then s.scfHoldCleared else s
  s.scfTryCommit

/-- A change of distribution hold, and the load, bind and unbind triggers of TRS_CTL (08 R152, R157). -/
def trsCtl (s : State) (wasDist : Bool) (trig : Nat) : State :=
  let s := if bitOf trig 0 then s.trsLoad else s
  let s := if bitOf trig 1 then s.trsBind else s
  let s := if bitOf trig 2 then s.trsUnbind else s
  if ¬ wasDist ∧ s.fb F.TRS_CTL_dist_en then s.trsDistribute else s

/-- A trace head stored while a lost channel has shortened the segments: a value outside the segment is stored as 0 (09 R173). -/
def headStored (s : State) (n : Slot) : State :=
  let s := if s.segSize ≤ s.f F.TRC_SLOT_HEAD_head n.val then s.setF F.TRC_SLOT_HEAD_head 0 n.val else s
  s.trcRoom n

/-- What a store starts in the register's block. `old` is the register before the store, `trig` the ones that the store carries in
W1S and WO fields, at their places, `touched` the fields' bits that the store reaches. -/
def regEffect (s : State) (by_ : RegBy) (off : Nat) (old trig touched : Nat) : State :=
  let r := off % 0x10000
  let b := off / 0x10000
  let n (base stride : Nat) : Slot := Fin.ofNat 16 ((r - base) / stride)
  match b with
  | 0x00 =>
    if r = 0x28 ∧ bits trig 0 16 = 0x5753 then s.warmOrder
    else if r = 0x30 ∧ bits trig 16 16 = 0x4252 then s.blockReset (bits trig 0 6)
    else s
  | 0x01 =>
    if r = 0x88 then
      let s := if bitOf trig 0 then s.floorRaiseSel else s
      if bitOf trig 1 then s.floorClearSel else s
    else s
  | 0x02 => if r = 0 then s.tenderResets (bits trig 0 24) else s
  | 0x03 => if r = 8 then s.grantStore by_ trig else s
  | 0x04 =>
    if r = 0 then
      let cleared := bits old 0 8 - (bits old 0 8).land (s.f F.PLB_CTL_tile_en)
      if cleared = 0 then s else s.plbDisable cleared
    else if r = 0x38 ∨ r = 0x40 then s.plbHeadMoved
    else if 0x100 ≤ r ∧ r < 0x200 ∧ r % 0x10 = 0 then s.sampleCtl (n 0x100 0x10)
    else s
  | 0x05 => if r = 0 then s.trsCtl (bitOf old 3) trig else s
  | 0x07 =>
    if r = 8 then (if bitOf old 0 ∧ ¬ s.fb F.TRC_LENS_CTL_en then s.lensLost else s)
    else if r = 0x48 then (if s.sightSize ≤ s.f F.TRC_SIGHT_HEAD_shead then s.setF F.TRC_SIGHT_HEAD_shead 0 else s)
    else if 0x100 ≤ r ∧ r < 0x500 then
      match r % 0x40 with
      | 0x00 => s.trcCtl (n 0x100 0x40) (bitOf old 0) trig
      | 0x10 => s.headStored (n 0x100 0x40)
      | 0x28 => if bitOf touched 0 then s.trcMark (n 0x100 0x40) (bits trig 32 32) (bits trig 0 32) else s
      | _ => s
    else s
  | 0x08 =>
    if r = 0x38 then
      let s := if bits trig 0 16 = 0 then s else s.dumpStart (bits trig 0 16)
      if bits trig 16 16 ≠ 0 then s.dumpAbort (bits trig 16 16) else if bits trig 0 16 ≠ 0 then s.dumpGo else s
    else s
  | 0x09 =>
    if r = 0 then s.scfCtl (bitOf old 17) trig
    else if r = 0x60 then s.scfCheck
    else if r = 0x90 then
      let s := if bitOf trig 0 then s.rstPlan else s
      if bitOf trig 1 then s.rstCancel else s
    else s
  | 0x0A => if r = 0x40 ∧ bits trig 16 16 ≠ 0 then s.calWant (bits trig 16 16) else s
  | 0x0B =>
    if r = 0x28 then s.ppsEnable (bitOf old 1)
    else if r = 0x100 then s.ptpEnable 0 (bitOf old 10)
    else if r = 0x140 then s.ptpEnable 1 (bitOf old 10)
    else s
  | 0x0E =>
    if r = 0 then
      let s := if bitOf trig 1 then s.resync else s
      if bitOf trig 2 then s.yieldAsked else s
    else s
  | 0x0F => if 0x200 ≤ r ∧ r < 0x300 then s.snapStored ((r - 0x200) / 8) else s
  | 0x11 =>
    if r = 0 then (if bitOf trig 3 ∨ (¬ bitOf old 0 ∧ s.fb F.MAC_CTL_en) then s.ethUpgrade
      else if bitOf old 0 ∧ ¬ s.fb F.MAC_CTL_en then s.ethDown 0 else s)
    else s
  | 0x12 =>
    if r = 0 then s.dmaMode (bits old 0 2) by_.owner
    else if 0x100 ≤ r ∧ r < 0x500 ∧ r % 0x20 = 0 then
      let c : Fin 32 := Fin.ofNat 32 ((r - 0x100) / 0x20)
      if ¬ bitOf old 2 ∧ s.fb F.DMA_CH_CTL_en c.val then
        let s := s.dmaKick c
        if 23 ≤ c.val ∧ c.val ≤ 26 then
          s.kcp.reads.foldl (fun s r => s.release (.readMem r.1.val r.2.1 r.2.2.1 r.2.2.2)) { s with kcp := { s.kcp with reads := [] } }
        else s
      else s
    else s
  | 0x13 =>
    if r = 0x18 ∧ 48 < s.f F.MEM_SHARE_floor0 + s.f F.MEM_SHARE_floor1 + s.f F.MEM_SHARE_floor2 + s.f F.MEM_SHARE_floor3 then
      s.setReg off (BitVec.ofNat 64 old)
    else s
  | 0x15 => if r = 0 then s.tripStored (bits old 8 8) else s
  | b => if 0x20 ≤ b ∧ b ≤ 0x2F ∧ r = 0 then s.blkCtl (Fin.ofNat 16 (b - 0x20)) (bitOf old 0) (bitOf trig 1) else s

/-! ### PEG (04 R73) -/

/-- The entries of a set that a commit applies: a map that is no permutation applies no slot field (13 R280), and in service a hard-set
and an epoch are discarded (12 R243). -/
def pegTaken (s : State) (l : List Staged) : List Staged :=
  let slotOf (p : Nat) : Nat :=
    match l.find? (fun e => decide (e.off = 0x200020 + p * 0x10000)) with
    | some e => bits e.val.toNat 0 4
    | none => s.f F.BLK_MAP_slot p
  let perm := decide (((List.range 16).map slotOf).Nodup)
  l.filter (fun e =>
    if 0x200000 ≤ e.off ∧ e.off % 0x10000 = 0x20 then perm
    else if e.off = 0xA0018 ∨ e.off = 0xA0030 then !s.inService
    else true)

/-- What the commit of one entry starts. -/
def pegEffect (s : State) (old : State) (e : Staged) : State :=
  let b := e.off / 0x10000
  let r := e.off % 0x10000
  if b = 0x0A ∧ r = 0 then s.tieChanged (old.f F.BCN_CTL_tie)
  else if b = 0x0A ∧ r = 0x28 then s.setSlew (signedOf e.val.toNat 32)
  else if b = 0x0A ∧ r = 0x30 then s.hardSet e.val.toNat
  else if 0x20 ≤ b ∧ r = 0x20 then
    let p : Slot := Fin.ofNat 16 (b - 0x20)
    s.remapCommitted p (old.f F.BLK_MAP_slot p.val)
  else s

/-- Some field of the register at an offset is among entries. -/
def hasOff (l : List Staged) (off : Nat) : Bool := l.any (fun e => decide (e.off = off))

/-- A COMMIT: every entry taken takes effect at once, the set empties, then the blocks act on what changed (R73). The number is that of
the entries applied. -/
def pegCommit (s : State) (k : Fin 64) : Nat × State :=
  let l := s.sets[k]
  let taken := s.pegTaken l
  let old := s
  let s : State := { s with sets := s.sets.set k [] }
  let s := taken.foldl (fun s e =>
    if e.off = 0xA0028 then s else s.setReg e.off ((s.reg e.off &&& ~~~e.mask) ||| (e.val &&& e.mask))) s
  let s := taken.foldl (fun s e => s.pegEffect old e) s
  let s := if hasOff taken 0xA0000 then s.tieCommitted (old.f F.BCN_CTL_tie) else s
  let lost := l.filter (fun e => !taken.contains e)
  let s := lost.foldl (fun s e =>
    if 0x200000 ≤ e.off then s.setF F.BLK_STATUS_qreason 4 (e.off / 0x10000 - 0x20) else s.setRefused) s
  let s := if hasOff taken 0x40010 ∨ hasOff taken 0x40018 ∨ hasOff taken 0x40020 then s.plbKeyCommit else s
  let s := if hasOff taken 0x40028 then allSlots.foldl (fun s n => s.sampleCtl n) s else s
  let s := if hasOff taken 0x50020 ∧ hasOff taken 0x50028 then s.trsCommit else s
  let s := (List.finRange 8).foldl (fun s k =>
    if hasOff taken (0x70600 + 32 * k.val) ∨ hasOff taken (0x70608 + 32 * k.val) then s.sightPeg k else s) s
  (taken.length, if taken = [] then s
    else (taken.foldl (fun s e => s.mirrorItem 8 (.stField e.off e.mask e.val) .nothing) s).mirrorItem 8
      (.setCounts (s.sets.toList.map (fun (l : List Staged) => l.length))) .nothing)

/-- A DISCARD: the set empties with no effect; the number is that of the entries discarded. -/
def pegDiscard (s : State) (k : Fin 64) : Nat × State := ((s.sets[k]).length, { s with sets := s.sets.set k [] })

end State
end Sys2Proof.Machine
end

