-- ==== Sys2Proof/Machine/RegAccess.lean ====
section
/-! DEFINITION. Access to register space (00 R3, R4; 03 R36, R38, R39; 04 R70 to R72; 07 R147; 18 R360 to R362): the one reading
and the one storing of a register that tenders, sessions, STG and the blocks' rows use. -/

namespace Sys2Proof.Machine

/-- A register that an offset of register space reaches: its description, its instance, its own offset, and whether it is reached through
the staging view of its block (18 R361). -/
structure RegLoc where
  desc : RegDesc
  inst : Nat
  off : Nat
  view : Bool
  deriving DecidableEq, Repr

/-- The register at an 8-byte-aligned offset, none where R359 leaves it unassigned. -/
def regLoc (off : Nat) : Option RegLoc :=
  if off % 0x10000 < 0x8000 then (regAt off).map (fun d => ⟨d.1, d.2, off, false⟩)
  else (regAt (off - 0x8000)).map (fun d => ⟨d.1, d.2, off - 0x8000, true⟩)

/-- The fields of a register that lie wholly within the bits `lo` to `lo + n - 1` (18 R360). -/
def RegLoc.fields (l : RegLoc) (lo n : Nat) : List FieldDesc :=
  l.desc.fields.filter (fun f => decide (lo ≤ f.lo ∧ f.lo + f.len ≤ lo + n))

/-- The ST fields of a register that a store reaches (18 R360). -/
def RegLoc.stFields (l : RegLoc) (lo n : Nat) : List FieldDesc := (l.fields lo n).filter (fun f => decide (f.acc = .st))

/-- The bits of a field. -/
def FieldDesc.mask (f : FieldDesc) : Word := BitVec.ofNat 64 (place (2 ^ f.len - 1) f.lo f.len)

/-- The bits of the fields of a list. -/
def fieldsMask (l : List FieldDesc) : Word := l.foldl (fun m f => m ||| f.mask) 0

/-- HOST access to a block under R36: none, read, read and write. -/
def hostBlock (b : Nat) (store : Bool) : Bool :=
  if b = 1 ∨ b = 2 ∨ b = 3 ∨ b = 0xE then false
  else if b = 0 ∨ b = 0xF then !store
  else true

/-- Why a register store stops. -/
inductive RegStop
  /-- no register there (R39) -/
  | unassigned
  /-- not permitted: a staging view, an ORDER field, a BLK_MAP (R147, R280, R361) -/
  | access
  /-- pending in another set (R71) -/
  | conflict
  /-- the set has no entry left (R71) -/
  | full
  /-- the block refuses staging now, or the value (R72) -/
  | refused
  deriving DecidableEq, Repr

namespace State

/-! ### Reading -/

/-- What a read of a register returns, fields whose reads return zero left out. -/
def regValue (s : State) (rdr : Nat) (l : RegLoc) : Word :=
  if l.view then
    (l.desc.fields.filter (fun f => decide (f.acc = .st) && !f.rz)).foldl (fun v f =>
      let p := (List.finRange 64).findSome? (fun k =>
        ((s.sets[k]).find? (fun e => decide (e.off = l.off ∧ e.mask &&& f.mask ≠ 0))).map (·.val))
      v ||| ((p.getD (s.readReg rdr l.off)) &&& f.mask)) 0
  else s.readReg rdr l.off &&& ~~~(fieldsMask (l.desc.fields.filter (fun f => f.rz || decide (f.acc = .wo))))

/-- What a read does beside returning: RC fields wholly within it are cleared, the tag of the transmit timestamp queue removes its entry
(12 R257). -/
def readClears (s : State) (l : RegLoc) (lo n : Nat) : State :=
  let rc := (l.fields lo n).filter (fun f => decide (f.acc = .rc))
  if l.view ∨ rc = [] then s
  else if l.off = 0xB0018 then s.tsqPop
  else s.setReg l.off (s.reg l.off &&& ~~~(fieldsMask rc))

/-- A read of the bits `lo` to `lo + n - 1` of a register: windows latch first, the random register draws, then what is read clears. The
window register of a Buoy link is read by its own rule, R281. -/
def regLoad (s : State) (by_ : RegBy) (l : RegLoc) (lo n : Nat) : Word × State :=
  let part (w : Word) : Word := BitVec.ofNat 64 (bits w.toNat lo n)
  if ¬ l.view ∧ l.off = 0x100A0 then
    let (r, s) := s.draw
    (part (BitVec.ofNat 64 r), s)
  else
    let s := if ¬ l.view ∧ (l.off = 0xF0080 ∨ l.off = 0xF0100) then s.logLatch by_.reader else s
    let v := part (s.regValue by_.reader l)
    (v, if by_.clears then s.readClears l lo n else s)

/-! ### Staging (04 R70 to R72) -/

/-- Why a value is not staged into a register's fields by a set, if it is not. A buddy that is this tray itself is refused (01 R8). -/
def stageStop (s : State) (k : Fin 64) (l : RegLoc) (fs : List FieldDesc) (v : Word) : Option RegStop :=
  let m := fieldsMask fs
  if (0x40010 ≤ l.off ∧ l.off ≤ 0x40020 ∧ s.plbKeyBusy) ∨
      (l.off = 0x90068 ∧ bitOf v.toNat 12 ∧ fs.any (fun f => f.lo = 0) ∧ bits v.toNat 0 12 = s.f F.GLB_TRAY_tray) ∨
      (l.desc.name = "EVT_ROUTE" ∧ fs.any (fun f => f.lo = 0) ∧ 24 ≤ bits v.toNat 0 5) then some .refused
  else if (List.finRange 64).any (fun j => decide (j ≠ k) && (s.sets[j]).any (fun e => decide (e.off = l.off ∧ e.mask &&& m ≠ 0))) then
    some .conflict
  else if ¬ (s.sets[k]).any (fun e => decide (e.off = l.off)) ∧ 64 ≤ (s.sets[k]).length then some .full
  else none

/-- A value as the fields of a list hold it: each field's store rule applied (the limits that its Meaning states). -/
def fieldsValue (fs : List FieldDesc) (v : Nat) : Word :=
  fs.foldl (fun w f => w ||| BitVec.ofNat 64 (place (f.norm.apply f.len (bits v f.lo f.len)) f.lo f.len)) 0

/-- A value staged into a register's fields: a later write to a field pending in the set replaces it. -/
def stage (s : State) (k : Fin 64) (l : RegLoc) (fs : List FieldDesc) (v : Word) : State :=
  let m := fieldsMask fs
  let w := fieldsValue fs v.toNat
  let q := s.sets[k]
  let q' : List Staged :=
    if q.any (fun e => decide (e.off = l.off)) then
      q.map (fun e => if e.off = l.off then { e with mask := e.mask ||| m, val := (e.val &&& ~~~m) ||| w } else e)
    else q ++ [⟨l.off, m, w⟩]
  { s with sets := s.sets.set k q' }

/-! ### Storing -/

/-- A field is open to this store without ORDER: it is no ORDER field, but for the priority of a channel that the program is bound to
(17 R358); the sampling fields of a slot ask for a program bound to the slot (07). -/
def fieldOpen (s : State) (by_ : RegBy) (l : RegLoc) (f : FieldDesc) : Bool :=
  by_.ordered ||
    (match by_ with
     | .tender i _ =>
       let p := s.progOf i
       if l.desc.name = "DMA_CH_CTL" ∧ f.lo = 0 then decide (27 ≤ l.inst) && ((p.map (fun q => bitOf q.dma l.inst)).getD false)
       else if l.desc.name = "PLB_SLOT_RATE" ∧ ¬ f.ord then (p.map (fun q => bitOf q.slots l.inst)).getD false
       else !f.ord
     | _ => !f.ord)

/-- A store that is not open to a field would change it: it carries another value for an RW or ST field than the field reads, or a 1 for a
field whose ones act (R147). -/
def fieldBarred (s : State) (by_ : RegBy) (l : RegLoc) (v : Word) (f : FieldDesc) : Bool :=
  !s.fieldOpen by_ l f &&
    (let x := bits v.toNat f.lo f.len
     match f.acc with
     | .rw | .st => decide (x ≠ bits (s.regValue by_.reader l).toNat f.lo f.len)
     | .w1c | .w1s | .wo => decide (x ≠ 0)
     | _ => false)

/-- Why a store stops, if it does. The value stands at its place in the 64 bits. The bases of the image slots and of the manifests are refused while
an image is in progress (11 R240). DESIGN CHOICE: a tender's store so refused traps as a refused staging does. -/
def storeStop (s : State) (by_ : RegBy) (l : RegLoc) (lo n : Nat) (v : Word) : Option RegStop :=
  let st := (l.stFields lo n).filter (fun f => s.fieldOpen by_ l f)
  if l.view then some (match by_ with | .tender _ _ => .access | .sess _ _ => .refused)
  else if 0x200000 ≤ l.off ∧ l.off % 0x10000 = 0x20 ∧ ¬ by_.owner then some .access
  else if (l.fields lo n).any (s.fieldBarred by_ l v) then some .access
  else if 0x90040 ≤ l.off ∧ l.off ≤ 0x90060 ∧ s.scfState ≠ 0 then some .refused
  else if st = [] then none
  else s.stageStop by_.set l st v

/-- The registers whose value has its home outside the stored registers: the reader's cursor and flag (15 R311). A session's cursor is mirrored
with the session (15 R312). -/
def readerStore (s : State) (by_ : RegBy) (l : RegLoc) (lo n : Nat) (v : Word) : Option State :=
  if l.off = 0xF0058 then
    some (if n = 64 then
        let s := s.updReader by_.reader (fun x => { x with cursor := v.toNat })
        match by_ with
        | .sess x _ => s.sessShow x
        | .tender _ _ => s
      else s)
  else if l.off = 0xF0060 then
    some (if lo = 0 ∧ bitOf v.toNat 0 then s.updReader by_.reader (fun x => { x with passed := false }) else s)
  else none

/-- A store that nothing stops: RW fields take the value by their store rule, W1C fields are cleared where it carries ones, ST fields are
staged in the default set, and the block does what the store triggers. A window store goes to the Buoy of a port whose link is up or
quarantined (13 R279, R281); one that clears ALARM through BW_ALARM releases the wire (13 R269). -/
def regStore (s : State) (by_ : RegBy) (l : RegLoc) (lo n : Nat) (v : Word) : State :=
  match s.readerStore by_ l lo n v with
  | some s => s
  | none =>
    let fs := (l.fields lo n).filter (fun f => s.fieldOpen by_ l f)
    if 0x200000 ≤ l.off ∧ l.off % 0x10000 = 0x38 then
      let p : Slot := Fin.ofNat 16 (l.off / 0x10000 - 0x20)
      if n = 64 ∧ (s.blkState p = 3 ∨ s.blkState p = 4) then
        (if s.f F.BLK_WIN_ADDR_offset p.val = 0x58 ∧ bitOf v.toNat 63 then s.updMo (s.slotOf p) (fun m => { m with alarm := false })
         else s).linkSend p "WIN_WRITE" [s.f F.BLK_WIN_ADDR_offset p.val, v.toNat]
      else s
    else
      let old := s.reg l.off
      let rw := fs.filter (fun f => decide (f.acc = .rw))
      let w1c := fieldsMask (fs.filter (fun f => decide (f.acc = .w1c)))
      let act := fs.filter (fun f => decide (f.acc = .w1s ∨ f.acc = .wo))
      let rwv := fieldsValue rw v.toNat
      let rwv := if l.desc.name = "DMA_CH_CTL" ∧ ¬ by_.ordered ∧ 2 ≤ bits rwv.toNat 0 2 then putField rwv 0 2 1 else rwv
      let new := ((old &&& ~~~(fieldsMask rw)) ||| rwv) &&& ~~~(w1c &&& v)
      let st := fs.filter (fun f => decide (f.acc = .st))
      let s := if new = old then s else s.setReg l.off new
      let s := if st = [] then s else s.stage by_.set l st v
      s.regEffect by_ l.off old.toNat (v &&& fieldsMask act).toNat (fieldsMask fs).toNat

end State
end Sys2Proof.Machine
end

