-- ==== Sys2Proof/Machine/KcpExec.lean ====
section
/-! DEFINITION. What each KCP command does once it is accepted (16 R332; 18 R362; 04 R73, R84; 05 R92, R101; 15 R309, R314, R315):
who may give it, the tender it is announced to, its effect and its completion. -/

namespace Sys2Proof.Machine

/-- Privileges that a command permits, as a mask of the codes of R326. -/
def cmdPriv : KcpCmd → Nat
  | .attest _ | .regRead _ | .subscribe _ _ _ _ _ _ => 0xF
  | .readMem _ _ | .arm _ _ _ | .renew _ _ | .disarm _ _ | .act _ _ _ _ | .bindJob _ => 0x3
  | .debug _ => 0x9
  | .owner _ _ => 0xF
  | .close => 0xF
  | _ => 0x1

/-- Bytes placed by offset over a buffer of a length. -/
def placeParts (total : Nat) (parts : List (Nat × List Byte)) : List Byte :=
  parts.foldl (fun b p => b.take p.1 ++ p.2 ++ b.drop (p.1 + p.2.length)) (List.replicate total 0)

/-- The fragments cover the image from `at_` on. -/
def partsWhole (total : Nat) (parts : List (Nat × List Byte)) : Nat → Nat → Bool
  | 0, at_ => decide (total ≤ at_)
  | k + 1, at_ =>
    if total ≤ at_ then true
    else match parts.find? (fun p => decide (p.1 ≤ at_ ∧ at_ < p.1 + p.2.length)) with
      | none => false
      | some p => partsWhole total parts k (p.1 + p.2.length)

/-- The registers of a slot that a TENANT of the slot may read (18 R362). -/
def tenantNames : List String :=
  ["PLB_SLOT_RATE", "PLB_SLOT_CNT", "LDG_SLOT_STAT", "LDG_SLOT_CNT", "TRC_SLOT_CTL", "TRC_SLOT_MATCH", "TRC_SLOT_HEAD", "TRC_SLOT_TAIL",
   "TRC_SLOT_STAT", "TRC_SLOT_MARK", "OCC_SNAP", "OCC_DUMP_STAT", "SCF_SLOT_STAT", "SCF_SLOT_BUDGET", "BCN_SLOT", "MOR_STRAP", "PWR_STAGE"]

namespace State

/-! ### Register commands (18 R362) -/

/-- A TENANT may read the register at a place of register space. -/
def tenantReads (s : State) (slots : Nat) (l : RegLoc) : Bool :=
  !l.view && (decide (l.off ≤ 0x10) ||
    (decide (0x200000 ≤ l.off) && bitOf slots (s.slotOf (Fin.ofNat 16 (l.off / 0x10000 - 0x20))).val) ||
    (tenantNames.contains l.desc.name && bitOf slots l.inst))

/-- A register that the responder of emergency-light mode serves (16 R337): GLB, the identity registers of SEC, LOG. -/
def responderReads (l : RegLoc) : Bool :=
  decide (l.off / 0x10000 = 0 ∨ l.off / 0x10000 = 0xF ∨ (0x10010 ≤ l.off ∧ l.off < 0x10040))

/-- The register at a keeper address, 8-byte-aligned. -/
def regOfAddr (a : Nat) : Option RegLoc :=
  if 0x40000000 ≤ a ∧ a < 0x40300000 ∧ a % 8 = 0 then regLoc (a - 0x40000000) else none

/-- One register of a REG_READ: its value and status byte. A window register of a Buoy link is asked for, and its value comes later. -/
def regReadOne (s : State) (x : Sess) (num pos a : Nat) : List Byte × State :=
  let u := s.ses x
  let out (v : Word) (st : Nat) : List Byte := leBytes v.toNat 8 ++ leBytes st 1
  match regOfAddr a with
  | none => (out 0 (if u.priv = 3 then St.denied else St.noTarget), s)
  | some l =>
    if u.priv = 3 ∧ ¬ s.tenantReads u.slots l then (out 0 St.denied, s)
    else if s.emergency ∧ ¬ responderReads l then (out 0 St.noTarget, s)
    else if ¬ l.view ∧ 0x200000 ≤ l.off ∧ l.off % 0x10000 = 0x38 then
      let p : Slot := Fin.ofNat 16 (l.off / 0x10000 - 0x20)
      let all := out (BitVec.allOnes 64) St.ok
      if s.blkState p = 3 ∨ s.blkState p = 4 then (all, s.winSend p (s.f F.BLK_WIN_ADDR_offset p.val) (.sess x num pos))
      else (all, s.setFb F.BLK_STATUS_win_err true p.val)
    else
      let (v, s) := s.regLoad (.sess x u.priv) l 0 64
      (out v St.ok, s)

/-- A window read of a session's command is still awaited. -/
def winAwaited (s : State) (x : Sess) (num : Nat) : Bool :=
  s.mor.ports.toList.any (fun (l : LinkSt) => l.windows.any (fun w =>
    match w.2.2 with | .sess y k _ => decide (y = x ∧ k = num) | _ => false))

/-- REG_READ: nine bytes for each register. -/
def doRegRead (s : State) (x : Sess) (num : Nat) (addrs : List Nat) : State :=
  if addrs = [] ∨ 64 < addrs.length then s.kcpDone x num St.malformed []
  else
    let (body, s) := addrs.foldl (fun (q : List Byte × State) a =>
      let (b, s) := q.2.regReadOne x num q.1.length a
      (q.1 ++ b, s)) ([], s)
    if s.winAwaited x num then s.updCmd x num (fun c => { c with body := body }) else s.kcpDone x num St.ok body

/-- One pair of a REG_WRITE. -/
def regWriteOne (s : State) (x : Sess) (a : Nat) (v : Word) : Nat × State :=
  match regOfAddr a with
  | none => (St.noTarget, s)
  | some l =>
    let by_ : RegBy := .sess x (s.ses x).priv
    match s.storeStop by_ l 0 64 v with
    | none => (St.ok, s.regStore by_ l 0 64 v)
    | some .conflict => (St.conflict, s)
    | some .full => (St.full, s)
    | some .unassigned => (St.noTarget, s)
    | some _ => (St.refused, s)

/-- REG_WRITE: the pairs in body order, each applied whole before the next. -/
def doRegWrite (s : State) (x : Sess) (num : Nat) (pairs : List (Nat × Word)) : State :=
  if pairs = [] ∨ 64 < pairs.length then s.kcpDone x num St.malformed []
  else
    let (body, s) := pairs.foldl (fun (q : List Byte × State) p =>
      let (st, s) := q.2.regWriteOne x p.1 p.2
      (q.1 ++ leBytes st 1, s)) ([], s)
    s.kcpDone x num St.ok body

/-- PEG of the session's set: COMMIT, DISCARD or COUNT. -/
def doPeg (s : State) (x : Sess) (num op : Nat) : State :=
  let k := sessSet x
  match op with
  | 0 => let (c, s) := s.pegCommit k; s.kcpDone x num St.ok (leBytes c 8)
  | 1 => let (c, s) := s.pegDiscard k; s.kcpDone x num St.ok (leBytes c 8)
  | 2 => s.kcpDone x num St.ok (leBytes (s.sets[k]).length 8)
  | _ => s.kcpDone x num St.malformed []

/-! ### Memory and subscriptions -/

/-- The regions that an OPERATOR may read: trace, dump, sightings, logbook mirror, manifests. -/
def operatorRegions (s : State) : List (Nat × Nat) :=
  [(s.f F.TRC_REGION_region, 0x400000000), (s.f F.OCC_DUMP_BASE_base, 0x200000000), (s.f F.TRC_SIGHT_BASE_sbase, 0x100000000),
   (s.f F.LOG_MIRROR_BASE_mbase, 0x80000000), (s.f F.SCF_MAN_BASE_mbase, 0x4000000)].filter (fun r => decide (r.1 ≠ 0))

/-- RESPONSE frames of a length of memory, in pieces. -/
def readChunks (x : Sess) (num addr left step : Nat) : Nat → State → State
  | 0, s => s
  | k + 1, s =>
    if left = 0 then s
    else
      let n := min step left
      readChunks x num (addr + n) (left - n) step k (s.respond x num (s.rdBytes addr n))

/-- READ_MEM, over the lowest of DMA_CH_23 to DMA_CH_26 that is enabled; with none enabled it waits for one. Memory that cannot be read ends it with a status
that the spec does not state: a free value. -/
def doReadMem (s : State) (x : Sess) (num addr len : Nat) : State :=
  if 0x400000000 < len ∨ len = 0 then s.kcpDone x num St.malformed []
  else if regionOf addr len ≠ some .lpddr then s.kcpDone x num St.noTarget []
  else if (s.ses x).priv = 1 ∧ ¬ inWindows s.operatorRegions addr len then s.kcpDone x num St.denied []
  else match (List.range 4).find? (fun k => s.fb F.DMA_CH_CTL_en (23 + k)) with
    | none => { s with kcp := { s.kcp with reads := s.kcp.reads ++ [(x, num, addr, len)] } }
    | some k =>
      if s.loadState addr len ≠ .ok ∨ s.poisoned addr len then
        let (v, s) := s.draw
        s.kcpDone x num (v % 256) []
      else
        let step := max 1 s.bodyMax
        ((readChunks x num addr len step (len / step + 1) s).bump F.DMA_CH_CNT_bytes len (23 + k)).kcpDone x num St.ok []

/-- SUBSCRIBE: the subscription replaces the earlier one. -/
def doSubscribe (s : State) (x : Sess) (num events slots : Nat) (owner time telemetry : Bool) (start : Nat) : State :=
  let u := s.ses x
  if start ≠ 0 ∧ start < s.f F.LOG_FLOOR_floor then s.kcpDone x num St.malformed []
  else if u.priv = 3 ∧ (2 ^ 256 ≤ events ∨ slots - slots.land u.slots ≠ 0 ∨ owner ∨ time ∨ telemetry) then s.kcpDone x num St.denied []
  else
    let sub : Subscription := ⟨events, slots, owner, time, telemetry, if start = 0 then s.logNext else start⟩
    let s := s.updSes x (fun v => { v with sub := some sub, batch := [], batchDue := none, telem := if telemetry then v.telem else [] })
    ((s.sessShow x).kcpDone x num St.ok []).kcpPump x

/-! ### Commands that a tender's program answers -/

/-- The handle of an arming command is outstanding until a grant uses it (18 R370). -/
def openHandle (s : State) (h : Nat) : State := { s with kcp := { s.kcp with handles := s.kcp.handles ++ [h] } }

/-- The entry that a token names, while its generation stands (05 R102). -/
def tokenEntry (s : State) (token : Nat) : Option ArmEntry :=
  let a := s.evt.arms.get (Fin.ofNat 16 (token % 16))
  if s.armLive a ∧ a.gen = token / 16 then some a else none

/-- The longest arming of a privilege, in ms. -/
def armLimit (priv : Nat) : Nat := if priv = 0 then 604800000 else 86400000

/-- An arming command is within what the owner's mask and the limits of R102 leave to the privilege. -/
def armAllowed (s : State) (priv cls ms : Nat) : Bool :=
  decide (1 ≤ ms ∧ ms ≤ armLimit priv) && (decide (priv = 0) || bitOf (s.f F.EVT_OPMASK_classes) cls)

/-- ARM, RENEW and DISARM go to tender 23 with their handle (05 R101). -/
def doArming (s : State) (x : Sess) (c : SessCmd) : State :=
  let go (s : State) : State := (s.openHandle c.handle).tell x c
  match c.cmd with
  | .arm cls slots _ => if 6 ≤ cls ∨ 2 ^ 16 ≤ slots then s.kcpDone x c.num St.malformed [] else go s
  | .disarm byToken key => if ¬ byToken ∧ 6 ≤ key then s.kcpDone x c.num St.malformed [] else go s
  | _ => go s

/-- The owner's policy and the limits of R102, applied by the Standing Orders on tender 23 to an arming command with a handle: the status that
refuses it, none where the tender may write the grant (05 R101, R102). -/
def armRefusal (s : State) (priv : Nat) : KcpCmd → Option Nat
  | .arm cls _ ms =>
    if ¬ s.armAllowed priv cls ms then some St.refused
    else if s.evt.arms.toList.all (fun a => s.armLive a) then some St.full
    else none
  | .renew token ms =>
    match s.tokenEntry token with
    | none => some St.noTarget
    | some a => if s.armAllowed priv a.cls ms then none else some St.refused
  | .disarm byToken key => if byToken ∧ (s.tokenEntry key).isNone then some St.noTarget else none
  | _ => none

/-- The command with a handle that was handed over, with its session. -/
def cmdByHandle (s : State) (h : Nat) : Option (Sess × SessCmd) :=
  (List.finRange 8).findSome? (fun x => ((s.ses x).cmds.find? (fun c => decide (c.handle = h ∧ c.phase = .handed))).map (fun c => (x, c)))

/-- Tender 23 takes a KCP_COMMAND: what the policy refuses is completed so, and its handle is closed. -/
def armPolicy (s : State) (h : Nat) : State :=
  match s.cmdByHandle h with
  | none => s
  | some (x, c) =>
    match s.armRefusal (s.ses x).priv c.cmd with
    | some st => s.kcpDone x c.num st []
    | none => s

/-- ACT: the slot tender of the lowest target issues the acting instruction. Its word and pc, which stand in its record, are those of the
tender's program: free values. -/
def doAct (s : State) (x : Sess) (c : SessCmd) (major fn : Nat) (ga gb : Word) : State :=
  match subOf major fn with
  | none => s.kcpDone x c.num St.malformed []
  | some a =>
    match s.actTargets a ga.toNat with
    | none => s.kcpDone x c.num St.malformed []
    | some (mask, _) =>
      if ¬ a.secondOk gb.toNat then s.kcpDone x c.num St.malformed []
      else if s.act.running.any (fun r => decide (r.cmd = some (x.val, c.num))) then s
      else
        let i := slotTender ((lowestBit mask 16).getD 0)
        let s := s.tell x c
        let (w, s) := s.draw
        let (pc, s) := s.draw
        let (st, s) := s.actIssue i a ⟨w % 2 ^ 32, pc % 2 ^ 48, ga, gb, some (x.val, c.num)⟩
        if st.toNat % 256 = St.accepted then s
        else s.kcpDone x c.num (st.toNat % 256)
          (if st.toNat % 256 = St.withheld then leBytes (place (bits st.toNat 16 48) 0 48 + place major 56 7) 8 else [])

/-- LOAD: a fragment is kept; the last one has the image checked and taken. -/
def doLoad (s : State) (x : Sess) (num : Nat) (kind : LoadKind) (off total : Nat) (data : List Byte) : State :=
  if total = 0 ∨ 0x4000000 < total ∨ total < off + data.length then s.kcpDone x num St.malformed []
  else
    let mine (l : LoadBuf) : Bool := decide (l.sess = x.val ∧ l.kind = kind)
    let old : List (Nat × List Byte) := match s.kcp.loads.find? mine with
      | some l => if l.total = total then l.parts else []
      | none => []
    let parts := old ++ [(off, data)]
    let rest := s.kcp.loads.filter (fun l => !mine l)
    if partsWhole total parts (parts.length + 1) 0 then
      let b := placeParts total parts
      let s : State := { s with kcp := { s.kcp with loads := rest } }
      let (st, s) := match kind with
        | .program => s.programLoad b
        | .trussMap => s.trsStore 0 b
        | .formatPlan => s.trsStore 1 b
        | .arrangement => s.trsStore 2 b
        | .flash off => s.flashLoad off b
      s.kcpDone x num st []
    else ({ s with kcp := { s.kcp with loads := rest ++ [(⟨x.val, kind, total, parts⟩ : LoadBuf)] } } : State).kcpDone x num St.ok []

/-- BUDDY (01 R8): a buddy whose tray is this keeper's own is refused. -/
def doBuddy (s : State) (x : Sess) (num tray addrA addrB : Nat) (identA identB : List Byte) : State :=
  if 0xFFF ≤ tray ∨ identA.length ≠ 48 ∨ identB.length ≠ 48 then s.kcpDone x num St.malformed []
  else if tray = s.f F.GLB_TRAY_tray ∨ identA = s.identity ∨ identB = s.identity then s.kcpDone x num St.refused []
  else
    let s : State := { s with kcp := { s.kcp with buddyNext := some (addrA, addrB, identA, identB) } }
    let s := (s.setF F.SCF_BUDDY_tray tray).setFb F.SCF_BUDDY_valid true
    (s.mirrorItem 8 (.buddyIds tray addrA addrB identA identB) .nothing).kcpDone x num St.ok []

/-- NOTICE_SUB (R335): SUBSCRIBE goes out and its answer is awaited; a zero address ends the subscription to the keeper named. -/
def doNoticeSub (s : State) (x : Sess) (num addr : Nat) (identity : List Byte) : State :=
  if identity.length ≠ 48 then s.kcpDone x num St.malformed []
  else if addr = 0 then
    match s.kcp.subscribed.find? (fun q => decide (q.identity = identity)) with
    | none => s.kcpDone x num St.noTarget []
    | some q =>
      let s : State := { s with kcp := { s.kcp with subscribed := s.kcp.subscribed.filter (fun r => decide (r.identity ≠ identity)) } }
      ((s.noticeTo q.addr 2).mirrorItem 5 (.subscribed false q.addr q.identity q.key) .nothing).kcpDone x num St.ok []
  else
    ({ s with kcp := { s.kcp with subPending := s.kcp.subPending ++ [(addr, identity, x.val, num)] } } : State).noticeTo addr 0

/-- DEBUG: the session is attached to a slot's tenders. DESIGN CHOICE: the command completes once the session is attached, and the RESPONSE frames that follow
for each BRK name it (R332 gives DEBUG no other end). -/
def doDebug (s : State) (x : Sess) (c : SessCmd) (slot : Nat) : State :=
  if 16 ≤ slot then s.kcpDone x c.num St.malformed []
  else if (s.ses x).priv = 3 ∧ ¬ bitOf (s.ses x).slots slot then s.kcpDone x c.num St.denied []
  else ((s.tell x c).updSes x (fun u => { u with attached := some (slot, c.num) })).kcpDone x c.num St.ok []

/-- MACSEC_SA (R322): an association is installed in place of the one with its channel, direction and number. -/
def doMacsecSa (s : State) (x : Sess) (num channel : Nat) (tx : Bool) (an : Nat) (key salt : List Byte) (ssci : Nat) : State :=
  if 4 ≤ channel ∨ 4 ≤ an ∨ key.length ≠ 32 ∨ salt.length ≠ 12 then s.kcpDone x num St.malformed []
  else
    let ch : Option Nat := if tx then none else some channel
    let sa : MacsecSa := ⟨ch, an, key, salt, ssci, 1⟩
    ({ s with kcp := { s.kcp with sas := s.kcp.sas.filter (fun a => decide (¬ (a.channel = ch ∧ a.an = an))) ++ [sa] } } : State).kcpDone
      x num St.ok []

/-- An owner command goes to the owner program of the slot in its first byte, or for 0xFF to tender 18, where the binding permits the session; else it is
UNKNOWN. -/
def doOwner (s : State) (x : Sess) (c : SessCmd) (body : List Byte) : State :=
  if body = [] then s.kcpDone x c.num St.malformed []
  else if (s.cmdTender x c).isSome then s.tell x c
  else s.kcpDone x c.num St.unknown []

/-- FLASH_WRITE of the responder (R337): up to 8 KiB at a 4 KiB-aligned offset of an image. -/
def doFlashWrite (s : State) (x : Sess) (num image off : Nat) (data : List Byte) : State :=
  if 2 ≤ image ∨ off % 4096 ≠ 0 ∨ 8192 < data.length ∨ 0x100000 < off + data.length then s.kcpDone x num St.malformed []
  else
    let s := s.flashQueue (.bytes (0x10000 + image * 0x100000 + off) data)
    (s.updPar (fun p => { p with flashed := p.flashed ||| 2 ^ image })).kcpDone x num St.ok []

/-- A status returned with a state completes a command. -/
def doneWith (x : Sess) (num : Nat) (r : Nat × State) : State := r.2.kcpDone x num r.1 []

/-- A command that a tender's program answers: it is announced first, and its effect is that of the program's answer. -/
def kcpTold (s : State) (x : Sess) (c : SessCmd) : State :=
  let n := c.num
  match c.cmd with
  | .attest nonce =>
    if nonce.length ≠ 32 then s.kcpDone x n St.malformed []
    else ((s.tell x c).kcpDone x n St.ok (s.attestReport nonce ++ Config.deviceCert)).raise Ev.attestDone 0 0
  | .subscribe e sl o t tm st => (s.tell x c).doSubscribe x n e sl o t tm st
  | .arm _ _ _ | .renew _ _ | .disarm _ _ => s.doArming x c
  | .act m fn ga gb => s.doAct x c m fn ga gb
  | .load k off total d => (s.tell x c).doLoad x n k off total d
  | .unbind pid => doneWith x n ((s.tell x c).programUnbind pid)
  | .bindJob d =>
    if d.length ≠ 48 then s.kcpDone x n St.malformed []
    else ({ s.tell x c with trs := { s.trs with dataOrder := some d } } : State).kcpDone x n St.ok []
  | .buddy t a b ia ib => (s.tell x c).doBuddy x n t a b ia ib
  | .noticeSub a id => (s.tell x c).doNoticeSub x n a id
  | .custody t => doneWith x n ((s.tell x c).custodyTake x t)
  | .floor f => doneWith x n ((s.tell x c).floorRaise x f)
  | .seal d => doneWith x n ((s.tell x c).sealStart x d)
  | .release => doneWith x n ((s.tell x c).sealRelease x)
  | .debug sl => s.doDebug x c sl
  | .tenderReset m =>
    if 2 ^ 24 ≤ m then s.kcpDone x n St.malformed [] else ((s.tell x c).kcpDone x n St.ok []).tenderResets m
  | .macsecSa ch tx an k sa si => (s.tell x c).doMacsecSa x n ch tx an k sa si
  | .owner _ b => s.doOwner x c b
  | _ => s

/-- The responder's commands (R337); every other command is unknown to it. -/
def responderRun (s : State) (x : Sess) (c : SessCmd) : State :=
  match c.cmd with
  | .attest nonce =>
    if nonce.length ≠ 32 then s.kcpDone x c.num St.malformed []
    else s.kcpDone x c.num St.ok (s.attestReport nonce ++ Config.deviceCert)
  | .regRead a => s.doRegRead x c.num a
  | .flashWrite i off d => s.doFlashWrite x c.num i off d
  | .restart => (s.kcpDone x c.num St.ok []).restart
  | _ => s.kcpDone x c.num St.unknown []

/-- A command handed to its handler: the privilege it needs, then who serves it. -/
def cmdRun (s : State) (x : Sess) (c : SessCmd) : State :=
  if ¬ bitOf (cmdPriv c.cmd) (s.ses x).priv then s.kcpDone x c.num St.denied []
  else if s.emergency then s.responderRun x c
  else match c.cmd with
    | .regRead a => s.doRegRead x c.num a
    | .regWrite p => s.doRegWrite x c.num p
    | .peg op => s.doPeg x c.num op
    | .readMem a n => s.doReadMem x c.num a n
    | .flashWrite _ _ _ | .restart => s.kcpDone x c.num St.unknown []
    | .owner code _ => if code < 0x8000 then s.kcpDone x c.num St.unknown [] else s.kcpTold x c
    | _ => s.kcpTold x c

end State
end Sys2Proof.Machine
end

