-- ==== Sys2Proof/Machine/Settle.lean ====
section
/-! DEFINITION. What a command has released is taken at its end: the steps that follow a mirrored item once its acknowledgement is in, or
at once where no follower mirrors (14 R287). A row of the table ends here, so that what it starts inside the keeper is done before
the next row. -/

namespace Sys2Proof.Machine
namespace State

/-- The end of an action reaches the issuer; where a session's ACT asked for it, its COMPLETE carries the report first (16 R332). -/
def actDelivered (s : State) (ticket : Nat) : State :=
  match s.actionOf ticket with
  | none => s
  | some a =>
    let s := match a.cmd with
      | some (x, num) => s.kcpDone (Fin.ofNat 8 x) num St.ok (leBytes (a.payload a.result).toNat 8)
      | none => s
    s.actDeliver ticket

/-- An accepted command is run; behind one that a takeover has still to carry on it waits (02 R20). -/
def cmdGo (s : State) (x : Sess) (n : Nat) : State :=
  if (s.ses x).redo.any (fun r => decide (r.num < n)) then
    s.updSes x (fun u => { u with redo := u.redo ++ [⟨n, none, none, false, false⟩] })
  else
    let (c, s) := s.cmdAccepted x n
    match c with
    | none => s
    | some c => s.cmdRun x c

/-- A step that its item's acknowledgement has released. -/
def heldRun (s : State) (h : HeldStep) : State :=
  match h with
  | .record _ => s.kcpPumpAll
  | .cmdExec x n => s.cmdGo (Fin.ofNat 8 x) n
  | .cmdReport x n => s.kcpReport (Fin.ofNat 8 x) n
  | .actDrive t => s.actDrive t
  | .actDeliver t => s.actDelivered t
  | .scfCommit => s.scfCommitGo
  | .programLoaded _ => s.raise Ev.programLoaded 0 0
  | .trsDistribute => s.trsDistribute
  | .sessionAccept x body => s.sessionAccepted (Fin.ofNat 8 x) body
  | .slotWire n => s.pwrGoodTake (Fin.ofNat 16 n)
  | .memUe a q k => s.memUe a q k
  | .readMem x n a l => s.doReadMem (Fin.ofNat 8 x) n a l
  | .podNotice kind slot time mask => if s.control then s.notice kind slot time mask else s
  | .nothing => s

/-- The released steps are taken in the order released, up to a number of them. -/
def settleGo : Nat → State → State
  | 0, s => s
  | k + 1, s =>
    match s.ready with
    | [] => s
    | h :: r => settleGo k (({ s with ready := r } : State).heldRun h)

/-- What a command released has been taken. -/
def settle (s : State) : State := settleGo 4096 s

end State

/-- The answer of a row: its effect, settled. -/
def done (s : State) : Host.Outcome State Fault Refusal := .next s.settle

/-- A row of the parts that stop under internal reset, in emergency-light mode and after a thermal shutdown (14 R297, 19 R384, R388). -/
def live (s : State) (effect : State → State) : Host.Outcome State Fault Refusal :=
  if s.clk.held ∨ s.emergency ∨ s.clk.shutDown then .next s else done (effect s)

/-- A row of the parts that run on in emergency-light mode. -/
def row (s : State) (effect : State → State) : Host.Outcome State Fault Refusal :=
  if s.clk.held ∨ s.clk.shutDown then .next s else done (effect s)

end Sys2Proof.Machine
end

