-- ==== Sys2Proof/Machine/TenderMem.lean ====
section
/-! DEFINITION. The meanings of loads, stores and atomic operations, and of what the memory reports about them later
(03 R36, R38, R39, R45, R46, R47; 13 R281; 17 R344, R346, R347). -/

namespace Sys2Proof.Machine
open State

namespace State

/-! ### Checks -/

/-- The check of privilege, width and kind that follows region and alignment (R45 step 3): register space takes 4 and 8 bytes, and at HOST
the blocks of R36; redirection keeps the pool from every access (17 R347). -/
def accessCheck (s : State) (i : Tender) (k : AccKind) (ea : Word) (n : Nat) : TrapReq :=
  let a := ea.toNat
  let prv := (s.t i).prv
  trapIf (!s.admits i prv k a n ||
    (isRegSpace a && (decide (n ≠ 4 ∧ n ≠ 8) || (!prv && !hostBlock ((a - 0x40000000) / 0x10000) (decide (k = .store))))) ||
    decide (s.loadState (home i a) n = .pool)) Cause.access ea

/-- The checks of a load, store or atomic operation of `n` bytes, in the order of R45. -/
def memChecks (s : State) (i : Tender) (k : AccKind) (ea : Word) (n : Nat) : List TrapReq :=
  [regionCheck ea, alignCheck ea n, s.accessCheck i k ea n]

/-- The register that an access of register space reaches. -/
def eaReg (ea : Word) : Option RegLoc := regLoc ((ea.toNat - 0x40000000) / 8 * 8)

/-! ### Errors (R46, 17 R344) -/

/-- A correctable error met by a tender's access: corrected and counted. -/
def tenderCe (s : State) (i : Tender) (h : Nat) : State :=
  if 0x08000000 ≤ h ∧ h < 0x08600000 then s.bump F.GLB_LMEM_CNT_ce else s.memCe h i.val 0

/-- An uncorrectable error met by a tender's access: counted and recorded. -/
def tenderUe (s : State) (i : Tender) (h : Nat) : State :=
  if 0x08000000 ≤ h ∧ h < 0x08600000 then
    let s := s.bump F.GLB_LMEM_CNT_ue
    if s.poison.contains (h / 64) then s else { s with poison := (h / 64) :: s.poison }
  else s.memUe h i.val 0

/-- A failed posted store as the MEM block records it: the memory error record and MEM_POSTERR (17 R344). -/
def postFailed (s : State) (i : Tender) (a : Nat) : State := (s.errRecord a 3 i.val 0).raise Ev.memPosterr 0 0

/-- A posted store has failed: posterr, and the MEM block's record (R46). -/
def storeFailed (s : State) (i : Tender) (a : Nat) : State := (s.updT i (fun x => { x with posterr := true })).postFailed i a

/-! ### The accesses -/

/-- A read of memory that the checks admit: held while its channel relocks, MEMECC where the channel is lost or the data is uncorrectable,
else what follows with the bytes read. -/
def readMem (s : State) (i : Tender) (ea : Word) (n : Nat) (ecc : Ecc) (k : List Byte → State → State) : State :=
  let h := home i ea.toNat
  match s.loadState h n with
  | .held => s
  | .lost => (s.errRecord h 4 i.val 0).trap i Cause.memEcc ea
  | .pool => s.trap i Cause.access ea
  | .stale => (s.memStale h i.val 0).trap i Cause.memEcc ea
  | .ok =>
    if ecc = .uncorrectable ∨ s.poisoned h n then (s.tenderUe i h).trap i Cause.memEcc ea
    else k (s.rdBytes h n) (if ecc = .corrected then s.tenderCe i h else s)

/-- A loaded value sign-extended from a width in bytes. -/
def sextBytes (n v : Nat) : Word := BitVec.ofInt 64 (signedOf v (8 * n))

/-- A loaded value zero-extended. -/
def zextBytes (v : Nat) : Word := BitVec.ofNat 64 v

/-- A loaded value of `n` bytes, sign-extended or zero-extended (R45). -/
def loadedAs (n : Nat) (signed : Bool) (v : Nat) : Word := if signed then sextBytes n v else zextBytes v

/-- A load of the window register of a Buoy link, or of one half of it (13 R281, 18 R360): the tender waits for the reply; on a down link it reads all
ones. -/
def windowLoad (s : State) (i : Tender) (rd : Fin 32) (p : Slot) (who : WinWho) : State :=
  if s.blkState p = 3 ∨ s.blkState p = 4 then
    (s.winSend p (s.f F.BLK_WIN_ADDR_offset p.val) who).updT i (fun x => { x with run := .waitWin })
  else (s.setFb F.BLK_STATUS_win_err true p.val).result i rd (BitVec.allOnes 64)

/-- A load of register space: an unassigned address loads zero and traps (R39). -/
def loadReg (s : State) (i : Tender) (rd : Fin 32) (ea : Word) (n : Nat) (signed : Bool) : State :=
  match eaReg ea with
  | none => (s.setG i rd 0).trap i Cause.regUnassigned ea
  | some l =>
    if ¬ l.view ∧ 0x200000 ≤ l.off ∧ l.off % 0x10000 = 0x38 then
      s.windowLoad i rd (Fin.ofNat 16 (l.off / 0x10000 - 0x20)) (if n = 8 then .tender i rd else .half i rd (decide (ea.toNat % 8 = 4)) signed)
    else
      let (v, s) := s.regLoad (.tender i (s.t i).prv) l (8 * (ea.toNat % 8)) (8 * n)
      s.result i rd (loadedAs n signed v.toNat)

/-- A load instruction of `n` bytes into one register (R45). -/
def loadInstr (s : State) (i : Tender) (rd ra : Fin 32) (imm : BitVec 15) (n : Nat) (ecc : Ecc) (signed : Bool) : State :=
  s.instr i (fun s =>
    let ea := s.effAddr i ra imm
    s.guarded i (s.memChecks i .load ea n) (fun s =>
      if isRegSpace ea.toNat then s.loadReg i rd ea n signed
      else s.readMem i ea n ecc (fun b s => s.result i rd (loadedAs n signed (leNat b)))))

/-- A store to register space: unassigned addresses, ORDER fields and refused stagings trap (R39, 04 R62, R71). -/
def storeReg (s : State) (i : Tender) (ea : Word) (n : Nat) (v : Word) : State :=
  match eaReg ea with
  | none => s.trap i Cause.regUnassigned ea
  | some l =>
    let lo := 8 * (ea.toNat % 8)
    let by_ : RegBy := .tender i (s.t i).prv
    let w := v <<< lo
    match s.storeStop by_ l lo (8 * n) w with
    | some .access => s.trap i Cause.access ea
    | some .unassigned => s.trap i Cause.regUnassigned ea
    | some _ => s.trap i Cause.stage ea
    | none => (s.retire i).regStore by_ l lo (8 * n) w

/-- Bytes stored by a tender: posted in LPDDR5X, complete at once elsewhere (R46). -/
def postAt (s : State) (i : Tender) (a : Nat) (b : List Byte) : State :=
  if isLpddr (home i a) then s.post i (home i a) b else s.stAt i a b

/-- A store of bytes to memory: posted in LPDDR5X, where a lost channel makes it fail (R46, 17 R347). -/
def storeMem (s : State) (i : Tender) (ea : Word) (b : List Byte) : State :=
  match s.loadState (home i ea.toNat) b.length with
  | .held => s
  | .lost => (s.storeFailed i ea.toNat).retire i
  | .pool => s.trap i Cause.access ea
  | .stale => (s.postAt i ea.toNat b).retire i
  | .ok => (s.postAt i ea.toNat b).retire i

/-- A store instruction of the low `n` bytes of a register (R45). -/
def storeInstr (s : State) (i : Tender) (rt ra : Fin 32) (imm : BitVec 15) (n : Nat) : State :=
  s.instr i (fun s =>
    let ea := s.effAddr i ra imm
    s.guarded i (s.memChecks i .store ea n) (fun s =>
      if isRegSpace ea.toNat then s.storeReg i ea n (BitVec.ofNat 64 (bits (s.g i rt).toNat 0 (8 * n)))
      else s.storeMem i ea (leBytes (s.g i rt).toNat n)))

end State

namespace State

/-- The address of a register at an offset of register space. -/
def regEa (off : Nat) : Word := BitVec.ofNat 64 (0x40000000 + off)

/-- A tender's store instruction to the register at an offset, as the blocks' own rows name it: 8 bytes, or 4. -/
def storeRow (s : State) (i : Tender) (off n : Nat) (v : Word) : State :=
  s.instr i (fun s => s.guarded i (s.memChecks i .store (regEa off) n) (fun s => s.storeReg i (regEa off) n v))

/-- A tender's 8-byte load instruction from the register at an offset, as the blocks' own rows name it. -/
def loadRow (s : State) (i : Tender) (rd : Fin 32) (off : Nat) : State :=
  s.instr i (fun s => s.guarded i (s.memChecks i .load (regEa off) 8) (fun s => s.loadReg i rd (regEa off) 8 false))

end State

/-- The register that follows an even one. -/
def oddOf (r : Fin 32) : Fin 32 := Fin.ofNat 32 (r.val + 1)

/-- LDB (R45): Loads one byte, sign-extended, after the address checks. -/
def execLdb (i : Tender) (rd ra : Fin 32) (imm : BitVec 15) (ecc : Ecc) (s : State) : Host.Outcome State Fault Refusal :=
  done (s.loadInstr i rd ra imm 1 ecc true)

/-- LDH (R45): Loads two bytes, sign-extended. -/
def execLdh (i : Tender) (rd ra : Fin 32) (imm : BitVec 15) (ecc : Ecc) (s : State) : Host.Outcome State Fault Refusal :=
  done (s.loadInstr i rd ra imm 2 ecc true)

/-- LDW (R45): Loads four bytes, sign-extended. -/
def execLdw (i : Tender) (rd ra : Fin 32) (imm : BitVec 15) (ecc : Ecc) (s : State) : Host.Outcome State Fault Refusal :=
  done (s.loadInstr i rd ra imm 4 ecc true)

/-- LDD (R45): Loads eight bytes. -/
def execLdd (i : Tender) (rd ra : Fin 32) (imm : BitVec 15) (ecc : Ecc) (s : State) : Host.Outcome State Fault Refusal :=
  done (s.loadInstr i rd ra imm 8 ecc false)

/-- LDBU (R45): Loads one byte, zero-extended. -/
def execLdbu (i : Tender) (rd ra : Fin 32) (imm : BitVec 15) (ecc : Ecc) (s : State) : Host.Outcome State Fault Refusal :=
  done (s.loadInstr i rd ra imm 1 ecc false)

/-- LDHU (R45): Loads two bytes, zero-extended. -/
def execLdhu (i : Tender) (rd ra : Fin 32) (imm : BitVec 15) (ecc : Ecc) (s : State) : Host.Outcome State Fault Refusal :=
  done (s.loadInstr i rd ra imm 2 ecc false)

/-- LDWU (R45): Loads four bytes, zero-extended. -/
def execLdwu (i : Tender) (rd ra : Fin 32) (imm : BitVec 15) (ecc : Ecc) (s : State) : Host.Outcome State Fault Refusal :=
  done (s.loadInstr i rd ra imm 4 ecc false)

/-- LDP (R45): Loads 16 bytes into an even-odd register pair. -/
def execLdp (i : Tender) (rd ra : Fin 32) (imm : BitVec 15) (ecc : Ecc) (s : State) : Host.Outcome State Fault Refusal :=
  done (s.instr i (fun s =>
    let ea := s.effAddr i ra imm
    s.guarded i (trapIf (decide (rd.val % 2 = 1)) Cause.illegal (encI 0x17 rd ra imm) :: s.memChecks i .load ea 16) (fun s =>
      s.readMem i ea 16 ecc (fun b s =>
        ((s.setG i rd (zextBytes (leNat (b.take 8)))).setG i (oddOf rd) (zextBytes (leNat (b.drop 8)))).retire i))))

/-- STB (R45): Stores one byte, posted if to LPDDR5X. -/
def execStb (i : Tender) (rt ra : Fin 32) (imm : BitVec 15) (s : State) : Host.Outcome State Fault Refusal :=
  done (s.storeInstr i rt ra imm 1)

/-- STH (R45): Stores two bytes. -/
def execSth (i : Tender) (rt ra : Fin 32) (imm : BitVec 15) (s : State) : Host.Outcome State Fault Refusal :=
  done (s.storeInstr i rt ra imm 2)

/-- STW (R45): Stores four bytes. -/
def execStw (i : Tender) (rt ra : Fin 32) (imm : BitVec 15) (s : State) : Host.Outcome State Fault Refusal :=
  done (s.storeInstr i rt ra imm 4)

/-- STD (R45): Stores eight bytes. -/
def execStd (i : Tender) (rt ra : Fin 32) (imm : BitVec 15) (s : State) : Host.Outcome State Fault Refusal :=
  done (s.storeInstr i rt ra imm 8)

/-- STP (R45): Stores 16 bytes from an even-odd register pair. -/
def execStp (i : Tender) (rt ra : Fin 32) (imm : BitVec 15) (s : State) : Host.Outcome State Fault Refusal :=
  done (s.instr i (fun s =>
    let ea := s.effAddr i ra imm
    s.guarded i (trapIf (decide (rt.val % 2 = 1)) Cause.illegal (encI 0x1C rt ra imm) :: s.memChecks i .store ea 16) (fun s =>
      s.storeMem i ea (leBytes (s.g i rt).toNat 8 ++ leBytes (s.g i (oddOf rt)).toNat 8))))

/-- The new value of an atomic operation over `n` bytes (R47): old value, operand, expected value. -/
def amoNew (op n : Nat) (old b exp : Nat) : Nat :=
  let w := 8 * n
  let x := b % 2 ^ w
  match op with
  | 0 => x
  | 1 => (old + x) % 2 ^ w
  | 2 => old &&& x
  | 3 => old ||| x
  | 4 => old ^^^ x
  | 5 => if signedOf x w < signedOf old w then x else old
  | 6 => if signedOf old w < signedOf x w then x else old
  | 7 => min old x
  | 8 => max old x
  | _ => if old = exp % 2 ^ w then x else old

/-- AMO (R47): Atomic read-modify-write of a naturally aligned word, returning the old value. -/
def execAmo (i : Tender) (rd ra rb : Fin 32) (fn : BitVec 10) (ecc : Ecc) (s : State) : Host.Outcome State Fault Refusal :=
  done (s.instr i (fun s =>
    let ea := s.g i ra
    let op := bits fn.toNat 4 4
    let size := bits fn.toNat 0 2
    let n := 2 ^ size
    s.guarded i
      (trapIf (decide (10 ≤ op ∨ size < 2 ∨ bits fn.toNat 2 2 ≠ 0)) Cause.illegal (encA 0x1E rd ra rb fn) :: s.memChecks i .amo ea n)
      (fun s => s.readMem i ea n ecc (fun b s =>
        let old := leNat b
        let new := amoNew op n old (s.g i rb).toNat (s.g i rd).toNat
        (s.stAt i ea.toNat (leBytes new n)).result i rd (sextBytes n old)))))

/-- The width of a load or store of register space by its major; none for a major that is no such access. -/
def busWidth (major : Nat) : Option (Nat × AccKind) :=
  match major with
  | 0x12 => some (4, .load)
  | 0x13 => some (8, .load)
  | 0x16 => some (4, .load)
  | 0x1A => some (4, .store)
  | 0x1B => some (8, .store)
  | _ => none

/-- BUSTIMEOUT (R39): A register-space access unanswered within 4 us raises BUSTIMEOUT. -/
def execBustimeout (i : Tender) (major : BitVec 7) (rd ra : Fin 32) (imm : BitVec 15) (s : State) : Host.Outcome State Fault Refusal :=
  done (match busWidth major.toNat with
    | none => s
    | some (n, k) => s.instr i (fun s =>
      let ea := s.effAddr i ra imm
      if ¬ isRegSpace ea.toNat then s
      else s.guarded i (s.memChecks i k ea n) (fun s =>
        match eaReg ea with
        | none => (if k = .load then s.setG i rd 0 else s).trap i Cause.regUnassigned ea
        | some l =>
          let lo := 8 * (ea.toNat % 8)
          let v := BitVec.ofNat 64 (bits (s.g i rd).toNat 0 (8 * n)) <<< lo
          if k = .store ∧ s.storeStop (.tender i (s.t i).prv) l lo (8 * n) v = some .access then s.trap i Cause.access ea
          else s.trap i Cause.busTimeout ea)))

/-- POSTED_STORE_FAIL (R46): A posted LPDDR5X store fails later: it is not written, and TS_STATUS.posterr is set, unless the tender was reset
after the store (R57). -/
def execPostedStoreFail (i : Tender) (addr : Nat) (s : State) : Host.Outcome State Fault Refusal :=
  done (if s.clk.held then s
    else match s.postedFail i addr with
      | none => s
      | some (p, s) => if p.stale then s.postFailed i addr else s.storeFailed i addr)

end Sys2Proof.Machine
end

