-- ==== Sys2Proof/Machine/ActInstr.lean ====
section
/-! DEFINITION. The meanings of the acting instructions, of the grant path, of an arming entry's expiry and of bindings
(04 R84 to R88, 05 R92, R97, R100 to R104, 18 R370). -/

namespace Sys2Proof.Machine
open State

/-- RSET_CORE (R86): Acting: resets one core through the Buoy. -/
def execRsetCore (i : Tender) (rd ra rb : Fin 32) (fn : BitVec 10) (s : State) : Host.Outcome State Fault Refusal :=
  done (s.actInstr i .rsetCore rd ra rb fn)

/-- RSET_LINKS (R86): Acting: resets and retrains an accelerator's links. -/
def execRsetLinks (i : Tender) (rd ra rb : Fin 32) (fn : BitVec 10) (s : State) : Host.Outcome State Fault Refusal :=
  done (s.actInstr i .rsetLinks rd ra rb fn)

/-- RSET_MEMORY (R86): Acting: resets and retrains an accelerator's memory. -/
def execRsetMemory (i : Tender) (rd ra rb : Fin 32) (fn : BitVec 10) (s : State) : Host.Outcome State Fault Refusal :=
  done (s.actInstr i .rsetMemory rd ra rb fn)

/-- RSET_WARM (R86): Acting: resets the accelerator through the Buoy, link kept up. -/
def execRsetWarm (i : Tender) (rd ra rb : Fin 32) (fn : BitVec 10) (s : State) : Host.Outcome State Fault Refusal :=
  done (s.actInstr i .rsetWarm rd ra rb fn)

/-- RSET_COLD (R86): Acting: moves the slot to stagger and holds RESET_L for a hold time. -/
def execRsetCold (i : Tender) (rd ra rb : Fin 32) (fn : BitVec 10) (s : State) : Host.Outcome State Fault Refusal :=
  done (s.actInstr i .rsetCold rd ra rb fn)

/-- RSET_HOLD (R86): Acting: as COLD but holds reset until RELEASE. -/
def execRsetHold (i : Tender) (rd ra rb : Fin 32) (fn : BitVec 10) (s : State) : Host.Outcome State Fault Refusal :=
  done (s.actInstr i .rsetHold rd ra rb fn)

/-- RSET_RELEASE (R86): Acting: releases a held reset and returns the slot to run. -/
def execRsetRelease (i : Tender) (rd ra rb : Fin 32) (fn : BitVec 10) (s : State) : Host.Outcome State Fault Refusal :=
  done (s.actInstr i .rsetRelease rd ra rb fn)

/-- PWR_ON (R86): Acting: powers slots in the owner's stagger order. -/
def execPwrOn (i : Tender) (rd ra rb : Fin 32) (fn : BitVec 10) (s : State) : Host.Outcome State Fault Refusal :=
  done (s.actInstr i .pwrOn rd ra rb fn)

/-- PWR_OFF (R86): Acting: holds W0 low on both keepers. -/
def execPwrOff (i : Tender) (rd ra rb : Fin 32) (fn : BitVec 10) (s : State) : Host.Outcome State Fault Refusal :=
  done (s.actInstr i .pwrOff rd ra rb fn)

/-- PWR_CYCLE (R86): Acting: powers slots off, then on after the off time. -/
def execPwrCycle (i : Tender) (rd ra rb : Fin 32) (fn : BitVec 10) (s : State) : Host.Outcome State Fault Refusal :=
  done (s.actInstr i .pwrCycle rd ra rb fn)

/-- PWR_CAP (R86): Acting: sets the accelerator power cap through the Buoy. -/
def execPwrCap (i : Tender) (rd ra rb : Fin 32) (fn : BitVec 10) (s : State) : Host.Outcome State Fault Refusal :=
  done (s.actInstr i .pwrCap rd ra rb fn)

/-- FENC_FENCE (R86): Acting: fences one core. -/
def execFencFence (i : Tender) (rd ra rb : Fin 32) (fn : BitVec 10) (s : State) : Host.Outcome State Fault Refusal :=
  done (s.actInstr i .fencFence rd ra rb fn)

/-- FENC_UNFENCE (R86): Acting: returns a fenced core to service. -/
def execFencUnfence (i : Tender) (rd ra rb : Fin 32) (fn : BitVec 10) (s : State) : Host.Outcome State Fault Refusal :=
  done (s.actInstr i .fencUnfence rd ra rb fn)

/-- OCLT_STOP (R190): Acting: drives OCCULT low on W1 of each slot in the issue cycle. -/
def execOcltStop (i : Tender) (rd ra rb : Fin 32) (fn : BitVec 10) (s : State) : Host.Outcome State Fault Refusal :=
  done (s.actInstr i .ocltStop rd ra rb fn)

/-- OCLT_AT (R193): Acting: schedules a stop of slots at a beacon tick. -/
def execOcltAt (i : Tender) (rd ra rb : Fin 32) (fn : BitVec 10) (s : State) : Host.Outcome State Fault Refusal :=
  done (s.actInstr i .ocltAt rd ra rb fn)

/-- OCLT_CANCEL (R86): Acting: cancels the pending scheduled stop. -/
def execOcltCancel (i : Tender) (rd ra rb : Fin 32) (fn : BitVec 10) (s : State) : Host.Outcome State Fault Refusal :=
  done (s.actInstr i .ocltCancel rd ra rb fn)

/-- OCLT_RELEASE (R192): Acting: sends a resume tick and releases OCCULT. -/
def execOcltRelease (i : Tender) (rd ra rb : Fin 32) (fn : BitVec 10) (s : State) : Host.Outcome State Fault Refusal :=
  done (s.actInstr i .ocltRelease rd ra rb fn)

/-- ROLL_ROLLBACK (R234): Acting: reloads slots from the last committed own image. -/
def execRollRollback (i : Tender) (rd ra rb : Fin 32) (fn : BitVec 10) (s : State) : Host.Outcome State Fault Refusal :=
  done (s.actInstr i .rollRollback rd ra rb fn)

/-- ROLL_RESTORE (R238): Acting: loads slots from named copies under a new arrangement. -/
def execRollRestore (i : Tender) (rd ra rb : Fin 32) (fn : BitVec 10) (s : State) : Host.Outcome State Fault Refusal :=
  done (s.actInstr i .rollRestore rd ra rb fn)

/-- QUAR_LINK (R86): Acting: quarantines this keeper's Buoy link of a slot. -/
def execQuarLink (i : Tender) (rd ra rb : Fin 32) (fn : BitVec 10) (s : State) : Host.Outcome State Fault Refusal :=
  done (s.actInstr i .quarLink rd ra rb fn)

/-- QUAR_SLOT (R86): Acting: takes an accelerator out of the job. -/
def execQuarSlot (i : Tender) (rd ra rb : Fin 32) (fn : BitVec 10) (s : State) : Host.Outcome State Fault Refusal :=
  done (s.actInstr i .quarSlot rd ra rb fn)

/-- QUAR_RELEASE (R280): Acting: ends a quarantine without retraining, refused after a disagreeing identity. -/
def execQuarRelease (i : Tender) (rd ra rb : Fin 32) (fn : BitVec 10) (s : State) : Host.Outcome State Fault Refusal :=
  done (s.actInstr i .quarRelease rd ra rb fn)

/-- GRANT (R370): EVT_GRANT store with op GRANT writes an arming entry with a new generation. -/
def execGrant (i : Tender) (value : Word) (s : State) : Host.Outcome State Fault Refusal :=
  done (s.storeRow i F.EVT_GRANT_handle.base 8 value)

/-- GRANT_RENEW (R370): EVT_GRANT store with op RENEW changes only an entry's expiry. -/
def execGrantRenew (i : Tender) (value : Word) (s : State) : Host.Outcome State Fault Refusal :=
  done (s.storeRow i F.EVT_GRANT_handle.base 8 value)

/-- GRANT_REMOVE (R370): EVT_GRANT store with op REMOVE invalidates an entry. -/
def execGrantRemove (i : Tender) (value : Word) (s : State) : Host.Outcome State Fault Refusal :=
  done (s.storeRow i F.EVT_GRANT_handle.base 8 value)

/-- An arming entry expires at the end of the PCLK cycle in which the beacon reaches its expiry (05 R103); the keeper in control reports
it. -/
def State.armExpire (s : State) (e : Fin 16) : State :=
  let a := s.evt.arms[e]
  if ¬ a.valid ∨ s.pclkTime ≤ a.expiry / 8 * 8 then s
  else
    let s := s.setArms (s.evt.arms.set e { a with valid := false })
    let s := s.mirrorItem 4 (s.armMsg e) .nothing
    if s.control then
      s.raise Ev.armExpired (e.val + place a.cls 4 3 + place a.sess 7 3) (BitVec.ofNat 64 (a.token e.val + place a.slots 32 16))
    else s

/-- ARM_EXPIRED (R103): An arming entry reaches its expiry at the end of a PCLK cycle. -/
def execArmExpired (e : Fin 16) (s : State) : Host.Outcome State Fault Refusal := row s (fun s => s.armExpire e)

/-- BINDING_TAKES_EFFECT (R92): A pending binding or unbinding applies on a tender once its running handler ends. -/
def execBindingTakesEffect (i : Tender) (s : State) : Host.Outcome State Fault Refusal := live s (fun s => s.bindingDone i)

/-- The budget of a tender's owner handler has run out: the dispatcher ends it with a record (05 R97), and goes on at ORDER. DESIGN CHOICE: as
by a trap the tender then runs at TS_TVEC, where the Standing Orders' code stands, without trap state; an instruction that it waits in has no further
effect on it. -/
def State.budgetOver (s : State) (i : Tender) : State :=
  match (s.t i).handler with
  | none => s
  | some h =>
    if s.beacon < h.due then s
    else
      let s := s.handlerEnded i []
      if s.alive i ∧ ¬ (s.t i).prv then
        (s.dropWaits i).updT i (fun x => { x with run := .running, wait := none, logWait := none, prv := true, pc := x.tvec.truncate 48 })
      else s

/-- HANDLER_BUDGET_EXPIRED (R97): An owner handler overruns its budget and is ended with a record. -/
def execHandlerBudgetExpired (i : Tender) (s : State) : Host.Outcome State Fault Refusal := live s (fun s => s.budgetOver i)

end Sys2Proof.Machine
end

