-- ==== Sys2Proof/Machine/BcnRows.lean ====
section
/-! DEFINITION. The meanings of the commands of beacon time and PTP (12 R241 to R259). -/

namespace Sys2Proof.Machine
open State

/-- W0_MARK (R245): At each mark a W0 frame is launched to each slot and compensation slews a tick. -/
def execW0Mark (s : State) : Host.Outcome State Fault Refusal :=
  row s (fun s => s.mark)

/-- CAL_ECHO (R248): The W3 echo edge arrives and the new delay compensation is computed. -/
def execCalEcho (n : Slot) (a : Nat) (s : State) : Host.Outcome State Fault Refusal :=
  row s (fun s => s.calEcho n a)

/-- CAL_PERIOD (R248): The calibration period elapses and an echo is requested. -/
def execCalPeriod (s : State) : Host.Outcome State Fault Refusal :=
  row s (fun s => s.calPeriod)

/-- BCN_CAL_NOW (R248): A store to BCN_CAL.now calibrates slots at the next mark. -/
def execBcnCalNow (t : Tender) (value : Word) (s : State) : Host.Outcome State Fault Refusal :=
  done (s.storeRow t F.BCN_CAL_period_s.base 8 value)

/-- BEACON_TIE_WAIT_EXPIRED (R244): No domain locks within wait_s and the beacon runs untied. -/
def execBeaconTieWaitExpired (s : State) : Host.Outcome State Fault Refusal :=
  row s (fun s => s.tieWaitOver)

/-- PTP_SYNC (R252): A PTP Sync message is received and stamped. -/
def execPtpSync (d : Fin 2) (source seq : Nat) (corr : Int) (t1 : Option Int) (logInt : Nat)
    (s : State) : Host.Outcome State Fault Refusal :=
  row s (fun s => s.ptpSync d source seq corr t1 logInt)

/-- PTP_FOLLOW_UP (R252): A Follow_Up gives the master's precise transmit time. -/
def execPtpFollowUp (d : Fin 2) (source seq : Nat) (corr t1 : Int) (s : State) : Host.Outcome State Fault Refusal :=
  row s (fun s => s.ptpFollowUp d source seq corr t1)

/-- PTP_ANNOUNCE (R252): An Announce feeds master selection by the best master clock algorithm. -/
def execPtpAnnounce (d : Fin 2) (source gm : Nat) (rank : List Nat) (s : State) : Host.Outcome State Fault Refusal :=
  row s (fun s => s.ptpAnnounce d source gm rank)

/-- PTP_DELAY_REQ (R252): The keeper sends a Delay_Req and stamps it. -/
def execPtpDelayReq (d : Fin 2) (s : State) : Host.Outcome State Fault Refusal :=
  row s (fun s => s.ptpDelayReq d)

/-- PTP_DELAY_RESP (R254): A Delay_Resp completes an exchange and updates offset, delay and lock state. -/
def execPtpDelayResp (d : Fin 2) (source seq : Nat) (corr t4 : Int) (s : State) : Host.Outcome State Fault Refusal :=
  row s (fun s => s.ptpDelayResp d source seq corr t4)

/-- PTP_SYNC_LOSS (R254): No valid Sync for loss_ms and the domain is LOST. -/
def execPtpSyncLoss (d : Fin 2) (s : State) : Host.Outcome State Fault Refusal :=
  row s (fun s => s.ptpSyncLoss d)

/-- PTP_REVERT (R255): The preferred domain has been LOCKED 60 s and the tie returns to it. -/
def execPtpRevert (s : State) : Host.Outcome State Fault Refusal :=
  row s (fun s => s.tieRevert)

/-- PPS_OUT_EDGE (R256): The beacon reaches a whole second and 1PPS out rises. -/
def execPpsOutEdge (s : State) : Host.Outcome State Fault Refusal :=
  row s (fun s => s.ppsOut)

/-- PPS_IN_EDGE (R256): A 1PPS input rising edge is stamped. -/
def execPpsInEdge (s : State) : Host.Outcome State Fault Refusal :=
  row s (fun s => s.ppsIn)

/-- PPS_IN_LOST (R256): No 1PPS input edge for 1.1 s. -/
def execPpsInLost (s : State) : Host.Outcome State Fault Refusal :=
  row s (fun s => s.ppsLost)

/-- PTP_TSQ_TAG_READ (R257): Reading PTP_TSQ_TAG returns and removes the head timestamp entry. -/
def execPtpTsqTagRead (t : Tender) (rd : Fin 32) (s : State) : Host.Outcome State Fault Refusal :=
  done (s.loadRow t rd F.PTP_TSQ_TAG_tag.base)

end Sys2Proof.Machine
end

