-- ==== Sys2Proof/Machine/TenderCtl.lean ====
section
/-! DEFINITION. The meanings of the instructions over tender state registers, fences and traps, and of the watchdog
(03 R48, R50, R54, R58, R59). -/

namespace Sys2Proof.Machine
open State

/-- TS_ID (03): tender, service flag, ISA version 1.0. -/
def tsId (i : Tender) : Word := packFields [(0, 5, i.val), (5, 1, b2n (decide (16 ≤ i.val))), (8, 8, 1)]

/-- TS_STATUS as it reads (03). -/
def tsStatus (x : TenderSt) : Word :=
  packFields [(0, 1, b2n x.prv), (1, 1, b2n x.pprv), (2, 1, b2n x.intrap), (3, 1, b2n x.posterr), (4, 1, b2n x.wdogEn)]

/-- The value of a tender state register, none for an index not listed (R48). -/
def tsRead (s : State) (i : Tender) (idx : Nat) : Option Word :=
  let x := s.t i
  match idx with
  | 0x000 => some (tsId i)
  | 0x001 => some (tsStatus x)
  | 0x010 => some x.tvec
  | 0x011 => some x.tpc
  | 0x012 => some (BitVec.ofNat 64 x.tcause)
  | 0x013 => some x.tval
  | 0x014 => some x.tscratch
  | 0x020 => some x.cycle
  | 0x021 => some x.instret
  | 0x022 => some (BitVec.ofNat 64 s.beacon)
  | 0x030 => some (BitVec.ofNat 64 x.wdogPeriod)
  | _ => none

/-- The tender state registers that a HOST program may read (R48). -/
def tsHostReads (idx : Nat) : Bool := [0x000, 0x001, 0x020, 0x021, 0x022].contains idx

/-- The tender state registers that an ORDER program may write (R48). -/
def tsWritable (idx : Nat) : Bool := [0x001, 0x010, 0x011, 0x014, 0x030].contains idx

/-- The watchdog enable written: the count runs on from where it stood (R58). -/
def TenderSt.setWdogEn (x : TenderSt) (now : Nat) (en : Bool) : TenderSt :=
  if en = x.wdogEn then x
  else if en then { x with wdogEn := true, wdogDue := now + x.wdogLeft }
  else { x with wdogEn := false, wdogLeft := x.wdogDue - now }

/-- A tender state register written (R48, R54, R58): TS_STATUS takes pprv, wdog_en and a clear of posterr, bits [1:0] of TS_TVEC and
bits [1:0] and [63:48] of TS_TPC are ignored, a write to TS_WDOG reloads the count. -/
def tsWrite (s : State) (i : Tender) (idx : Nat) (v : Word) : State :=
  s.updT i (fun x =>
    match idx with
    | 0x001 => { x with pprv := bitOf v.toNat 1, posterr := x.posterr && !bitOf v.toNat 3 }.setWdogEn s.beacon (bitOf v.toNat 4)
    | 0x010 => { x with tvec := v &&& ~~~3#64 }
    | 0x011 => { x with tpc := BitVec.ofNat 64 (bits v.toNat 0 48) &&& ~~~3#64 }
    | 0x014 => { x with tscratch := v }
    | 0x030 =>
      let p := bits v.toNat 0 24
      { x with wdogPeriod := p, wdogDue := s.beacon + p * tickUs, wdogLeft := p * tickUs }
    | _ => x)

/-- TSR (R48): Reads a tender state register. -/
def execTsr (i : Tender) (rd ra : Fin 32) (imm : BitVec 15) (s : State) : Host.Outcome State Fault Refusal :=
  done (s.instr i (fun s =>
    let w := encI 0x2C rd ra imm
    let idx := bits imm.toNat 0 12
    s.guarded i
      [trapIf (decide (bits imm.toNat 12 3 ≠ 0) || (tsRead s i idx).isNone) Cause.illegal w,
       trapIf (!(s.t i).prv && !tsHostReads idx) Cause.priv w]
      (fun s => s.result i rd ((tsRead s i idx).getD 0))))

/-- TSW (R48): Writes a tender state register at ORDER. -/
def execTsw (i : Tender) (rd ra : Fin 32) (imm : BitVec 15) (s : State) : Host.Outcome State Fault Refusal :=
  done (s.instr i (fun s =>
    let w := encI 0x2D rd ra imm
    let idx := bits imm.toNat 0 12
    s.guarded i
      [trapIf (decide (bits imm.toNat 12 3 ≠ 0 ∨ rd ≠ 0) || (tsRead s i idx).isNone) Cause.illegal w,
       trapIf (!(s.t i).prv) Cause.priv w,
       trapIf (!tsWritable idx) Cause.access w]
      (fun s => (tsWrite s i idx (s.g i ra)).retire i)))

/-- TRET (R54): Returns from a trap to TS_TPC and restores privilege. -/
def execTret (i : Tender) (rd ra rb : Fin 32) (fn : BitVec 10) (s : State) : Host.Outcome State Fault Refusal :=
  done (s.instr i (fun s =>
    let w := encA 0x2E rd ra rb fn
    if rd ≠ 0 ∨ ra ≠ 0 ∨ rb ≠ 0 ∨ fn ≠ 0 then s.trap i Cause.illegal w
    else if ¬ (s.t i).prv then s.trap i Cause.priv w
    else if ¬ (s.t i).intrap then s.trap i Cause.illegal w
    else (s.updT i (fun x => { x with prv := x.pprv, intrap := false })).retireTo i ((s.t i).tpc.truncate 48)))

/-- TRAPI (R59): Takes a software trap with a code. -/
def execTrapi (i : Tender) (_rd _ra : Fin 32) (imm : BitVec 15) (s : State) : Host.Outcome State Fault Refusal :=
  done (s.instr i (fun s => s.trap i Cause.trapi (zext15 imm)))

/-- FENCE (R50): Orders memory accesses; with sync set waits for posted stores and may raise POSTERR. -/
def execFence (i : Tender) (rd ra : Fin 32) (imm : BitVec 15) (s : State) : Host.Outcome State Fault Refusal :=
  done (s.instr i (fun s =>
    s.guarded i
      [trapIf (decide (bits imm.toNat 7 8 ≠ 0)) Cause.illegal (encI 0x1F rd ra imm),
       trapIf (bitOf imm.toNat 5 && (s.t i).posterr) Cause.postErr 0]
      (fun s => (if bitOf imm.toNat 5 then s.postedDone i else s).retire i)))

/-- WATCHDOG (R58): The tender watchdog expires and traps or halts the tender; one that waits inside an instruction takes the trap after it. -/
def execWatchdog (i : Tender) (s : State) : Host.Outcome State Fault Refusal :=
  done (
    let x := s.t i
    let due := x.wdogDue + x.wdogPeriod * tickUs
    if x.wdogEn = false ∨ s.beacon < x.wdogDue ∨ s.alive i = false then s
    else if x.run = .running ∨ x.run = .asleep then
      (s.setT i { x with wdogDue := due, run := .running, wait := none }).trap i Cause.watchdog x.cycle
    else s.setT i { x with wdogDue := due, wdogHit := x.wdogHit.orElse (fun _ => some x.cycle) })

end Sys2Proof.Machine
end

