-- ==== Sys2Proof/Machine/EvtInstr.lean ====
section
/-! DEFINITION. The meanings of the instructions over events and staging sets, WAIT, PEEK, RAISE, STG, PEG and BRK, with the Standing
Orders' dispatcher, which WAIT stands for (04 R65 to R74, 03 R59, 05 R96, R97, 15 R302, R312). -/

namespace Sys2Proof.Machine
open State

namespace State

/-! ### The Standing Orders' dispatcher -/

/-- Contexts of a slot's timed-out ledger entries, oldest begin first, without repeats. -/
def suspects (s : State) (n : Slot) : List Nat :=
  (((s.led n).entries.filter (fun e => e.timedOut)).foldl (fun l e => insertBegin e l) []).map (·.ctx) |>.eraseDups
where
  /-- insertion by begin time -/
  insertBegin (x : LdgEntry) : List LdgEntry → List LdgEntry
    | [] => [x]
    | y :: r => if x.begin_ < y.begin_ then x :: y :: r else y :: insertBegin x r

/-- The Standing Orders' list of suspects of a slot, at most four, committed as a PEG does (10 R188, R207); it stands while nothing is timed out. -/
def fillReplay (s : State) (n : Slot) : State :=
  match (s.suspects n).take 4 with
  | [] => s
  | l =>
    let s := (s.setF F.OCC_REPLAY_ctx0 (l.getD 0 0) n.val).setF F.OCC_REPLAY_ctx1 (l.getD 1 0) n.val
    let s := (s.setF F.OCC_REPLAY_ctx2 (l.getD 2 0) n.val).setF F.OCC_REPLAY_ctx3 (l.getD 3 0) n.val
    let s := s.setF F.OCC_REPLAY_count l.length n.val
    let off := F.OCC_REPLAY_count.base + F.OCC_REPLAY_count.stride * n.val
    s.mirrorItem 8 (.stField off (BitVec.allOnes 64) (s.reg off)) .nothing

/-- A CONTROL_MSG brings the failed outcome of a suspect (10 R207, 13 R394). -/
def replayFailed (s : State) (e : EvEntry) : Bool :=
  decide (bits e.arg 4 8 = 4) && decide (numAt (s.rdBytes (e.payload.toNat + 32) 32) 10 1 = 1)

/-- The class of a hang from the signals present when its record is written (R188). DESIGN CHOICE: the class stands in State beside the record, whose
words R302 fixes; a timed-out command with neither heartbeat nor link is in no class of the table. -/
def hangClass (s : State) (n : Slot) (k : Nat) : Option HangClass :=
  if k ≠ Ev.ledgerTimeout ∧ k ≠ Ev.heartbeatLost ∧ k ≠ Ev.linkDown ∧ k ≠ Ev.chipDown then none
  else if (s.mo n).chipDown then some .chip
  else match decide ((s.mo n).hbLost = false), s.linkUp n with
    | true, true => if k = Ev.ledgerTimeout then some .engine else none
    | false, true => some .firmware
    | true, false => some .link
    | false, false => none

/-- What the Standing Orders of a slot tender do at a hang besides the record: the contexts of an engine hang are suspects; a Buoy whose firmware hangs
is asked for its alarm code; after a failed replay the hang actions are asked for again (10 R188, R207). -/
def hangAct (s : State) (n : Slot) (e : EvEntry) : State :=
  let k := e.event % 16
  if k = Ev.controlMsg ∧ s.replayFailed e then s.fillReplay n
  else match s.hangClass n k with
    | none => s
    | some c =>
      let s := s.updMo n (fun m => { m with hang := some c })
      match c with
      | .engine => s.fillReplay n
      | .firmware => s.winSend (s.portOf n) 0x58 .alarmCode
      | .link | .chip => s

/-- What the Standing Orders do at an event besides its record: AUDIT_MISMATCH (07 R143), a hang's signals (10 R188), STAGGER_DONE (17 R356),
LOG_RING_HIGH (15 R307), a request to arm (05 R101). -/
def ordersAct (s : State) (e : EvEntry) : State :=
  if e.event < 0x100 ∧ e.event % 16 = Ev.auditMismatch then s.plbMarkSuspect (Fin.ofNat 16 (e.event / 16)) e.payload
  else if e.event < 0x100 then s.hangAct (Fin.ofNat 16 (e.event / 16)) e
  else if e.event = Ev.staggerDone then
    let old := s.f F.DMA_CTL_mode
    (s.setF F.DMA_CTL_mode 0).dmaMode old false
  else if e.event = Ev.logRingHigh then s.setFb F.LOG_CTL_mirror_en true
  else if e.event = Ev.kcpCommand then s.armPolicy (bits e.payload.toNat 0 24)
  else s

/-- The owner handler that a program names for an event: by number, or by per-slot index for its bound slots (05 "Handlers"). -/
def ownerHandler (p : Program) (e : EvEntry) : Option HandlerEnt :=
  p.handlers.find? (fun h => !h.trap &&
    (if h.slotrel then decide (e.event < 0x100 ∧ e.event % 16 = h.event) && bitOf p.slots (e.event / 16)
     else decide (h.event = e.event)))

/-- The dispatcher enters an owner handler at HOST with the event word in g2 and the payload in g3 (05 R97). DESIGN CHOICE: bits [1:0] of the
table's offset are ignored, as those of TS_TPC are (03 R54). -/
def ownerStart (s : State) (i : Tender) (e : EvEntry) : State :=
  match s.progOf i with
  | none => s
  | some p =>
    match ownerHandler p e with
    | none => s
    | some h =>
      ((s.setG i 2 e.word).setG i 3 e.payload).updT i (fun x => { x with
        pc := BitVec.ofNat 48 (ownerBase + h.offset / 4 * 4), prv := false, handler := some ⟨s.beacon + p.budget * tickUs, none⟩ })

/-- The record of an event raised by a block, before any owner handler starts (05 R96); the reader's cursor is set to it (15 R312). Where
the ring has no room the tender waits, and with it the owner handler (15 R307). -/
def ordersRecord (s : State) (i : Tender) (e : EvEntry) : State :=
  let d := s.soDraft i e
  let q := s.logNext
  let s := match s.logTender d with
    | some (_, s') => s'.updReader (8 + i.val) (fun r => { r with cursor := q })
    | none =>
      let s := s.updT i (fun x => { x with run := .waitLog, logWait := some ⟨none, d.trigger, d.source, d.lit, d.time, d.snap⟩ })
      { s with log := { s.log with waiters := s.log.waiters ++ [LogWaiter.logw i.val] } }
  s.dropNote e

/-- What the Standing Orders in force do with an event that WAIT has delivered (05 R96, R97): its record, whatever program's WAIT took it; then,
where the dispatcher took it (at ORDER, outside a trap), the owner handler. An event raised by RAISE and an acting report event have no record of
the dispatcher's. -/
def dispatcher (s : State) (i : Tender) (e : EvEntry) : State :=
  if s.prog.orders.isNone then s
  else
    let s' := if e.sw ∨ (0x3C0 ≤ e.event ∧ e.event < 0x3C4) then s else (s.ordersRecord i e).ordersAct e
    if ¬ (s.t i).prv ∨ (s.t i).intrap then s' else s'.ownerStart i e

/-! ### WAIT and PEEK (R67) -/

/-- An event written into rd and the register that follows it, and the instruction completes. -/
def giveEvent (s : State) (i : Tender) (rd : Fin 32) (e : EvEntry) : State :=
  ((s.setG i rd e.word).setG i (oddOf rd) e.payload).retire i

/-- No event: both registers are zero, and the instruction completes. -/
def giveNone (s : State) (i : Tender) (rd : Fin 32) : State := ((s.setG i rd 0).setG i (oddOf rd) 0).retire i

/-- WAIT delivers an event: it leaves the queue, which the merge counters refill (R68). -/
def deliverEvent (s : State) (i : Tender) (rd : Fin 32) (e : EvEntry) : State :=
  ((s.giveEvent i rd e).updT i (fun x => x.dropEntry e)).dispatcher i e

/-- The priorities that g[ra][3:0] selects. -/
def prioMask (v : Nat) : Nat := if v = 0 then 15 else v

/-- The end of a WAIT's timeout, none for 2^48 µs or more. -/
def waitEnd (now us : Nat) : Option Nat := if 2 ^ 48 ≤ us then none else some (now + us * tickUs)

/-- The traps of WAIT and PEEK. -/
def waitChecks (s : State) (i : Tender) (code : Nat) (rd ra rb : Fin 32) (fn : BitVec 10) : List TrapReq :=
  let w := encA 0x40 rd ra rb fn
  [trapIf (decide (fn.toNat ≠ code ∨ rd.val % 2 = 1)) Cause.illegal w, trapIf (decide (16 ≤ (s.g i ra).toNat)) Cause.sysArg w]

end State

/-- WAIT (R67): Delivers and removes the oldest highest-priority event, or sleeps. -/
def execWaitEv (i : Tender) (rd ra rb : Fin 32) (fn : BitVec 10) (s : State) : Host.Outcome State Fault Refusal :=
  done (s.instr i (fun s => s.guarded i (s.waitChecks i 0 rd ra rb fn) (fun s =>
    let m := prioMask (s.g i ra).toNat
    let us := (s.g i rb).toNat
    match pickEntry (s.t i).queue m with
    | some e => s.deliverEvent i rd e
    | none =>
      if (s.t i).intrap ∨ us = 0 then s.giveNone i rd
      else s.updT i (fun x => { x with run := .asleep, wait := some ⟨rd, m, waitEnd s.beacon us⟩ }))))

/-- PEEK (R67): Delivers the next event without removing it. -/
def execPeek (i : Tender) (rd ra rb : Fin 32) (fn : BitVec 10) (s : State) : Host.Outcome State Fault Refusal :=
  done (s.instr i (fun s => s.guarded i (s.waitChecks i 1 rd ra rb fn) (fun s =>
    match pickEntry (s.t i).queue (prioMask (s.g i ra).toNat) with
    | some e => s.giveEvent i rd e
    | none => s.giveNone i rd)))

/-- WAIT_TIMEOUT (R67): A sleeping WAIT reaches its timeout and returns no event. -/
def execWaitTimeout (i : Tender) (s : State) : Host.Outcome State Fault Refusal :=
  done (match (s.t i).run, (s.t i).wait with
    | .asleep, some w =>
      (match w.tEnd with
       | some e => if e ≤ s.beacon then (s.updT i (fun x => { x with run := .running, wait := none })).giveNone i w.rd else s
       | none => s)
    | _, _ => s)

/-- EVENT_ENQUEUE (R65): A raised event enters its routed tender's queue and wakes a waiting tender. -/
def execEventEnqueue (i : Tender) (s : State) : Host.Outcome State Fault Refusal :=
  row s (fun s =>
    match nextArrival s.evt.inflight i with
    | none => s
    | some x =>
      let s : State := { s with evt := { s.evt with inflight := s.evt.inflight.erase x } }
      let (t, merged) := (s.t i).arrive x.ev
      let s := s.setT i t
      let s := if merged then s.bump F.EVT_TND_merged 1 i.val else s
      match t.run, t.wait with
      | .asleep, some w =>
        (match pickEntry t.queue w.mask with
         | some e => (s.updT i (fun x => { x with run := .running, wait := none })).deliverEvent i w.rd e
         | none => s)
      | _, _ => s)

/-! ### RAISE (R69) -/

namespace State

/-- The event that g[ra] names may not be raised by RAISE. -/
def raiseBarred (e : Nat) : Bool := decide (0x380 ≤ e ∧ e < 0x3C4)

/-- An event is in the raise set of the program bound to a tender (05 R91: PROGRAM events). -/
def inRaiseSet (s : State) (i : Tender) (e : Nat) : Bool :=
  decide (0x3F0 ≤ e) && bitOf (((s.progOf i).map (·.raise)).getD 0) (e - 0x3F0)

/-- RAISE in both forms: fn[9] tells a direct raise from a routed one. -/
def raiseInstr (s : State) (i : Tender) (rd ra rb : Fin 32) (fn : BitVec 10) : State :=
  s.instr i (fun s =>
    let w := encA 0x41 rd ra rb fn
    let v := (s.g i ra).toNat
    let e := bits v 0 10
    let direct := bitOf fn.toNat 9
    let prv := (s.t i).prv
    s.guarded i
      [trapIf (direct && !prv) Cause.priv w,
       trapIf (decide (bits v 32 32 ≠ 0 ∨ bits v 12 4 ≠ 0 ∨ bits fn.toNat 5 4 ≠ 0) || raiseBarred e ||
         (if direct then decide (24 ≤ bits fn.toNat 0 5) else decide (bits v 10 2 ≠ 0))) Cause.sysArg w,
       trapIf (!direct && !prv && !s.inRaiseSet i e) Cause.scope (s.g i ra)]
      (fun s =>
        let dest := if direct then some (tenderOf (bits fn.toNat 0 5), bits v 10 2) else none
        (s.raiseSw i e (bits v 16 16) (s.g i rb) dest).result i rd (statusWord St.ok 0 0)))

end State

/-- RAISE (R69): Raises an event along its route. -/
def execRaise (i : Tender) (rd ra rb : Fin 32) (fn : BitVec 10) (s : State) : Host.Outcome State Fault Refusal :=
  done (s.raiseInstr i rd ra rb fn)

/-- RAISE_DIRECT (R69): Raises an event directly to a named tender at a given priority. -/
def execRaiseDirect (i : Tender) (rd ra rb : Fin 32) (fn : BitVec 10) (s : State) : Host.Outcome State Fault Refusal :=
  done (s.raiseInstr i rd ra rb fn)

/-! ### STG and PEG (R70 to R74) -/

namespace State

/-- A HOST program may use a staging set: its tender's default set, or a named set granted by its binding (R63). -/
def setOpen (s : State) (i : Tender) (k : Nat) : Bool :=
  (s.t i).prv || decide (k = i.val) || (decide (32 ≤ k) && bitOf (((s.progOf i).map (·.sets)).getD 0) (k - 32))

/-- The traps of STG's address: those of a store of its width, an unassigned register, a staging view or a remap register, and an ORDER field
that the program may not change (R72, 07 R147, 13 R280, 18 R361). -/
def stgAddrChecks (s : State) (i : Tender) (ea : Word) (n : Nat) (v : Word) : List TrapReq :=
  s.memChecks i .store ea n ++
    (if ¬ isRegSpace ea.toNat then []
     else match eaReg ea with
       | none => [trapIf true Cause.regUnassigned ea]
       | some l =>
         let by_ : RegBy := .tender i (s.t i).prv
         [trapIf (l.view || decide (0x200000 ≤ l.off ∧ l.off % 0x10000 = 0x20) ||
            (l.stFields (8 * (ea.toNat % 8)) (8 * n)).any (s.fieldBarred by_ l v)) Cause.access ea])

/-- The status of a staging that stops. -/
def stageStatus : RegStop → Nat
  | .conflict => St.conflict
  | .full => St.full
  | _ => St.refused

end State

/-- STG (R72): Stages a value into a register's ST fields in a named set. -/
def execStg (i : Tender) (rd ra rb : Fin 32) (fn : BitVec 10) (s : State) : Host.Outcome State Fault Refusal :=
  done (s.instr i (fun s =>
    let w := encA 0x42 rd ra rb fn
    let k := bits fn.toNat 0 6
    let n := if bitOf fn.toNat 6 then 8 else 4
    let ea := s.g i ra
    let lo := 8 * (ea.toNat % 8)
    let v := BitVec.ofNat 64 (bits (s.g i rb).toNat 0 (8 * n)) <<< lo
    s.guarded i
      (s.stgAddrChecks i ea n v ++
       [trapIf (decide (bits fn.toNat 7 3 ≠ 0 ∨ (k < 24 ∧ k ≠ i.val) ∨ (24 ≤ k ∧ k < 32))) Cause.sysArg w,
        trapIf (!s.setOpen i k) Cause.scope (BitVec.ofNat 64 k)])
      (fun s =>
        let by_ : RegBy := .tender i (s.t i).prv
        let no := fun (st : Nat) => s.result i rd (statusWord st 0 0)
        if ¬ isRegSpace ea.toNat then no St.refused
        else match eaReg ea with
          | none => no St.refused
          | some l =>
            let fs := (l.stFields lo (8 * n)).filter (fun f => s.fieldOpen by_ l f)
            if fs = [] then no St.refused
            else match s.stageStop (Fin.ofNat 64 k) l fs v with
              | some st => no (stageStatus st)
              | none => (s.stage (Fin.ofNat 64 k) l fs v).result i rd (statusWord St.ok 0 0))))

namespace State

/-- The traps of PEG, and the operation with its count of entries. -/
def pegInstr (s : State) (i : Tender) (op : Nat) (rd ra rb : Fin 32) (fn : BitVec 10) (body : State → Fin 64 → Nat × State) : State :=
  s.instr i (fun s =>
    let w := encA 0x43 rd ra rb fn
    let k := bits fn.toNat 0 6
    s.guarded i
      [trapIf (decide (ra ≠ 0 ∨ rb ≠ 0)) Cause.illegal w,
       trapIf (decide (bits fn.toNat 8 2 ≠ 0 ∨ bits fn.toNat 6 2 ≠ op)) Cause.sysArg w,
       trapIf (!s.setOpen i k) Cause.scope (BitVec.ofNat 64 k)]
      (fun s =>
        let (n, s) := body s (Fin.ofNat 64 k)
        s.result i rd (statusWord St.ok 0 n)))

end State

/-- PEG_COMMIT (R73): Applies every entry of a staging set on one PCLK edge. -/
def execPegCommit (i : Tender) (rd ra rb : Fin 32) (fn : BitVec 10) (s : State) : Host.Outcome State Fault Refusal :=
  done (s.pegInstr i 0 rd ra rb fn (fun s k => s.pegCommit k))

/-- PEG_DISCARD (R73): Empties a staging set with no effect. -/
def execPegDiscard (i : Tender) (rd ra rb : Fin 32) (fn : BitVec 10) (s : State) : Host.Outcome State Fault Refusal :=
  done (s.pegInstr i 1 rd ra rb fn (fun s k => s.pegDiscard k))

/-- PEG_COUNT (R73): Returns the number of pending entries of a set. -/
def execPegCount (i : Tender) (rd ra rb : Fin 32) (fn : BitVec 10) (s : State) : Host.Outcome State Fault Refusal :=
  done (s.pegInstr i 2 rd ra rb fn (fun s k => ((s.sets[k]).length, s)))

/-! ### BRK (03 R59, 16 R332) -/

namespace State

/-- The trap state as a RESPONSE to DEBUG carries it. DESIGN CHOICE: TS_STATUS, TS_TPC, TS_TCAUSE and TS_TVAL, 8 bytes each. -/
def trapState (s : State) (i : Tender) : List Byte :=
  let x := s.t i
  leBytes (tsStatus x).toNat 8 ++ leBytes x.tpc.toNat 8 ++ leBytes x.tcause 8 ++ leBytes x.tval.toNat 8

/-- The Standing Orders' handler gives a BRK to the sessions attached to the tender. -/
def toDebuggers (s : State) (i : Tender) : State :=
  if (s.t i).run = .halted ∨ s.prog.orders.isNone then s
  else (List.finRange 8).foldl (fun s x =>
    match (s.ses x).attached with
    | some (slot, num) => if slot = i.val then s.respond x num (s.trapState i) else s
    | none => s) s

end State

/-- BRK (R59): Takes the BRK trap. -/
def execBrk (i : Tender) (_rd _ra : Fin 32) (imm : BitVec 15) (s : State) : Host.Outcome State Fault Refusal :=
  done (s.instr i (fun s => (s.trap i Cause.brk (zext15 imm)).toDebuggers i))

end Sys2Proof.Machine
end

