-- ==== Sys2Proof/Machine/KcpRows.lean ====
section
/-! DEFINITION. The meanings of what arrives at the host port and of its timers: sessions and their commands, associations, notices, the
Ethernet port and its module (16 R317 to R338; the arming and program commands of 05 R89 to R102). -/

namespace Sys2Proof.Machine
open State

/-- ARM (R101): KCP command asking tender 23 to arm a class for slots. -/
def execKcpArm (x : Sess) (h : KcpHead) (cls slots ms : Nat) (s : State) : Host.Outcome State Fault Refusal :=
  row s (fun s => s.kcpFrame x h (.arm cls slots ms))

/-- RENEW (R101): KCP command asking to renew an arming entry by token. -/
def execKcpRenew (x : Sess) (h : KcpHead) (token ms : Nat) (s : State) : Host.Outcome State Fault Refusal :=
  row s (fun s => s.kcpFrame x h (.renew token ms))

/-- DISARM (R101): KCP command removing an arming entry or class. -/
def execKcpDisarm (x : Sess) (h : KcpHead) (byToken : Bool) (key : Nat) (s : State) : Host.Outcome State Fault Refusal :=
  row s (fun s => s.kcpFrame x h (.disarm byToken key))

/-- LOAD (R91): KCP LOAD of image fragments, checked when whole and bound or refused. -/
def execKcpLoad (x : Sess) (h : KcpHead) (kind : LoadKind) (off total : Nat) (data : List Byte)
    (s : State) : Host.Outcome State Fault Refusal :=
  row s (fun s => s.kcpFrame x h (.load kind off total data))

/-- UNBIND (R92): KCP command unbinding an owner program. -/
def execKcpUnbind (x : Sess) (h : KcpHead) (pid : Nat) (s : State) : Host.Outcome State Fault Refusal :=
  row s (fun s => s.kcpFrame x h (.unbind pid))

/-- OPEN (R326): A session request is verified and answered with ACCEPT or REFUSE; OPEN of an association of another keeper (11 R236). -/
def execKcpOpen (k : OpenKind) (h : KcpHead) (body : List Byte) (s : State) : Host.Outcome State Fault Refusal :=
  row s (fun s =>
    match k with
    | .host => s.hostOpen h body
    | .assoc n report => s.assocOpen n h body report)

/-- ACCEPT (R236): An ACCEPT answers this keeper's OPEN of an association. -/
def execKcpAccept (assoc : Nat) (a : AcceptFrames) (s : State) : Host.Outcome State Fault Refusal :=
  live s (fun s => s.assocAccepted assoc a.body a.report)

/-- REFUSE (R236): A REFUSE answers this keeper's OPEN of an association. -/
def execKcpRefuse (assoc : Nat) (_reason : Nat) (s : State) : Host.Outcome State Fault Refusal :=
  live s (fun s => s.assocRefused assoc)

/-- KCP_ACK (R329): An acknowledgement frame advances the window; a frame that fails a check of the port is dropped and counted (R319, R321, R322,
R325). -/
def execKcpAck (x : Sess) (h : KcpHead) (f : PortFault) (s : State) : Host.Outcome State Fault Refusal :=
  row s (fun s =>
    match f with
    | .none => s.hostAck x h
    | f => s.portFault f)

/-- CLOSE (R328): A CLOSE ends a session; or an association between keepers, at its other end (11 R236). -/
def execKcpClose (x : CloseWhat) (h : KcpHead) (s : State) : Host.Outcome State Fault Refusal :=
  row s (fun s =>
    match x with
    | .sess x => s.kcpFrame x h .close
    | .assoc n => s.assocClosed n)

/-- INFO (R337): An INFO request is answered with identification. -/
def execKcpInfo (h : KcpHead) (s : State) : Host.Outcome State Fault Refusal :=
  row s (fun s => s.infoReply h)

/-- SESSION_IDLE (R328): No valid host frame for idle_s ends the session. -/
def execSessionIdle (x : Sess) (s : State) : Host.Outcome State Fault Refusal :=
  row s (fun s => s.sessIdle x)

/-- ACK_DELAY (R329): ack_us passes after a sequenced frame and a standalone ACK is sent. -/
def execAckDelay (x : Sess) (s : State) : Host.Outcome State Fault Refusal :=
  row s (fun s => s.ackDelay x)

/-- KCP_RETRANSMIT (R330): A frame unacknowledged for the retransmission time is resent. -/
def execKcpRetransmit (x : Sess) (seq : Nat) (s : State) : Host.Outcome State Fault Refusal :=
  row s (fun s => s.retransmit x seq)

/-- EVENT_BATCH_EXPIRED (R333): batch_us passes and a partly filled EVENT frame is sent. -/
def execEventBatchExpired (x : Sess) (s : State) : Host.Outcome State Fault Refusal :=
  row s (fun s => s.batchOver x)

/-- KCP_IDLE_ACK (R328): After 1 s without sending on a session, the keeper sends a standalone ACK. -/
def execKcpIdleAck (x : Sess) (s : State) : Host.Outcome State Fault Refusal :=
  row s (fun s => s.idleAck x)

/-- ATTEST (R369): KCP command returning a signed attestation report. -/
def execKcpAttest (x : Sess) (h : KcpHead) (nonce : List Byte) (s : State) : Host.Outcome State Fault Refusal :=
  row s (fun s => s.kcpFrame x h (.attest nonce))

/-- REG_READ (R362): KCP command reading registers. -/
def execRegRead (x : Sess) (h : KcpHead) (addrs : List Nat) (s : State) : Host.Outcome State Fault Refusal :=
  row s (fun s => s.kcpFrame x h (.regRead addrs))

/-- REG_WRITE (R362): KCP command writing registers, staging ST fields. -/
def execRegWrite (x : Sess) (h : KcpHead) (pairs : List (Nat × Word)) (s : State) : Host.Outcome State Fault Refusal :=
  row s (fun s => s.kcpFrame x h (.regWrite pairs))

/-- KCP_PEG (R332): KCP command applying a PEG operation to the session's set. -/
def execKcpPeg (x : Sess) (h : KcpHead) (op : Nat) (s : State) : Host.Outcome State Fault Refusal :=
  row s (fun s => s.kcpFrame x h (.peg op))

/-- READ_MEM (R332): KCP command streaming LPDDR5X data in RESPONSE frames. -/
def execReadMem (x : Sess) (h : KcpHead) (addr len : Nat) (s : State) : Host.Outcome State Fault Refusal :=
  row s (fun s => s.kcpFrame x h (.readMem addr len))

/-- SUBSCRIBE (R332): KCP command replacing a session's event subscription. -/
def execKcpSubscribe (x : Sess) (h : KcpHead) (events slots : Nat) (owner time telemetry : Bool) (start : Nat)
    (s : State) : Host.Outcome State Fault Refusal :=
  row s (fun s => s.kcpFrame x h (.subscribe events slots owner time telemetry start))

/-- ACT (R332): KCP command having a slot tender issue an acting instruction. -/
def execKcpAct (x : Sess) (h : KcpHead) (major fn : Nat) (ga gb : Word) (s : State) : Host.Outcome State Fault Refusal :=
  row s (fun s => s.kcpFrame x h (.act major fn ga gb))

/-- BIND_JOB (R332): KCP command supplying the data-order digest. -/
def execBindJob (x : Sess) (h : KcpHead) (digest : List Byte) (s : State) : Host.Outcome State Fault Refusal :=
  row s (fun s => s.kcpFrame x h (.bindJob digest))

/-- BUDDY (R8): KCP command setting the buddy tray. -/
def execKcpBuddy (x : Sess) (h : KcpHead) (tray addrA addrB : Nat) (identA identB : List Byte)
    (s : State) : Host.Outcome State Fault Refusal :=
  row s (fun s => s.kcpFrame x h (.buddy tray addrA addrB identA identB))

/-- NOTICE_SUB (R335): KCP command subscribing this keeper to another keeper's notices. -/
def execNoticeSub (x : Sess) (h : KcpHead) (addr : Nat) (identity : List Byte) (s : State) : Host.Outcome State Fault Refusal :=
  row s (fun s => s.kcpFrame x h (.noticeSub addr identity))

/-- DEBUG (R332): KCP command attaching a session to a slot's tenders. -/
def execKcpDebug (x : Sess) (h : KcpHead) (slot : Nat) (s : State) : Host.Outcome State Fault Refusal :=
  row s (fun s => s.kcpFrame x h (.debug slot))

/-- TENDER_RESET (R57): KCP command resetting a tender. -/
def execTenderReset (x : Sess) (h : KcpHead) (mask : Nat) (s : State) : Host.Outcome State Fault Refusal :=
  row s (fun s => s.kcpFrame x h (.tenderReset mask))

/-- MACSEC_SA (R322): KCP command installing a MACsec secure association key. -/
def execMacsecSa (x : Sess) (h : KcpHead) (channel : Nat) (tx : Bool) (an : Nat) (key salt : List Byte) (ssci : Nat)
    (s : State) : Host.Outcome State Fault Refusal :=
  row s (fun s => s.kcpFrame x h (.macsecSa channel tx an key salt ssci))

/-- OWNER_COMMAND (R332): KCP owner command delivered to a bound owner program. -/
def execOwnerCommand (x : Sess) (h : KcpHead) (code : Nat) (body : List Byte) (s : State) : Host.Outcome State Fault Refusal :=
  row s (fun s => s.kcpFrame x h (.owner code body))

/-- NOTICE_SUBSCRIBE (R335): A SUBSCRIBE notice adds the sender to the subscriber table. -/
def execNoticeSubscribe (n : NoticeFrom) (body : List Byte) (s : State) : Host.Outcome State Fault Refusal :=
  row s (fun s => s.noticeSubscribe n body)

/-- NOTICE_SUBSCRIBED (R335): A SUBSCRIBED notice confirms a subscription. -/
def execNoticeSubscribed (n : NoticeFrom) (body : List Byte) (s : State) : Host.Outcome State Fault Refusal :=
  row s (fun s => s.noticeSubscribed n body)

/-- NOTICE_UNSUBSCRIBE (R335): An UNSUBSCRIBE notice removes a subscriber. -/
def execNoticeUnsubscribe (f : NoticeFrame) (s : State) : Host.Outcome State Fault Refusal :=
  row s (fun s => s.noticeUnsubscribe f)

/-- POD_NOTICE_IN (R335): A loss or occult notice is verified, deduplicated and raised. -/
def execPodNoticeIn (f : NoticeFrame) (s : State) : Host.Outcome State Fault Refusal :=
  row s (fun s => s.noticeIn f)

/-- NOTICE_REPEAT (R335): 10 us passes and another copy of a notice is sent. -/
def execNoticeRepeat (s : State) : Host.Outcome State Fault Refusal :=
  row s (fun s => s.noticeRepeat)

/-- ETH_DOWN (R318): A lane in use loses lock and the port goes down and retrains. -/
def execEthDown (lost : Nat) (s : State) : Host.Outcome State Fault Refusal :=
  row s (fun s => s.ethDown lost)

/-- ETH_UP (R318): Port retraining completes in a mode. -/
def execEthUp (good : Nat) (s : State) : Host.Outcome State Fault Refusal :=
  row s (fun s => s.ethUp good)

/-- MAC_UPGRADE (R318): A store to MAC_CTL.upgrade retrains at max_mode. -/
def execMacUpgrade (t : Tender) (value : Word) (s : State) : Host.Outcome State Fault Refusal :=
  done (s.storeRow t F.MAC_CTL_upgrade.base 8 value)

/-- MODULE_INT (R318): Module IntL asserts and its flags are read. -/
def execModuleInt (asserted : Bool) (s : State) : Host.Outcome State Fault Refusal :=
  row s (fun s => s.moduleInt asserted)

/-- MODULE_MONITOR (R318): Every 1 s the module monitors are read. -/
def execModuleMonitor (s : State) : Host.Outcome State Fault Refusal :=
  row s (fun s => s.moduleMonitor)

/-- MODULE_PRESENCE_CHANGE (R318): MOD_PRES_L changes as the Ethernet module is inserted or removed, and the port is trained or left DOWN. -/
def execModulePresenceChange (present : Bool) (s : State) : Host.Outcome State Fault Refusal :=
  row s (fun s => s.modulePresent present)

/-- GRATUITOUS_ARP_REPEAT (R321): The service address claim is repeated at 1 ms intervals. -/
def execGratuitousArpRepeat (s : State) : Host.Outcome State Fault Refusal :=
  row s (fun s => s.claimRepeat)

/-- ARP_REQUEST (R320): An ARP or neighbour solicitation for a keeper address is answered. -/
def execArpRequest (v6 : Bool) (addr asker mac : Nat) (s : State) : Host.Outcome State Fault Refusal :=
  row s (fun s => s.arpRequest v6 addr asker mac)

end Sys2Proof.Machine
end

