-- ==== Sys2Proof/Machine/LdgRows.lean ====
section
/-! DEFINITION. The meanings of the commands of the ledger, the trace, sightings and counters (09 R163 to R184). -/

namespace Sys2Proof.Machine
open State

/-- The samples of a COUNTERS message: the COUNTER record of each engine, and its compact telemetry (R183, R184), sent while there is room
(16 R334). -/
def State.counterIn (s : State) (n : Slot) (samples : List CounterSample) : State :=
  (samples.foldl (fun (s : State) (c : CounterSample) =>
    let (d, s) := s.counterRecord n c.engine c.coincident c.cmdCycles c.done c.busy c.time
    s.telemAdd ⟨n.val, c.engine, d.1, d.2, c.cmdCycles, c.coincident, c.time⟩) s).telemOut

/-- The entry at a position is open and marked timed out. -/
def State.lateAt (s : State) (n : Slot) (pos : Nat) : Bool := (s.led n).entries.any (fun e => decide (e.pos = pos) && e.timedOut)

/-- An entry's timeout passes; the hardware stop path watches it (10 R189). -/
def State.ledgerLate (s : State) (n : Slot) (engine idx : Nat) : State :=
  let r := s.ldgTimeout n engine idx
  if ¬ s.lateAt n (engine * 16 + idx) ∧ r.lateAt n (engine * 16 + idx) then r.occWatch n 4 else r

/-- LEDGER_BEGIN (R165): A begin message takes a ledger entry or counts untracked, and is staged to trace. -/
def execLedgerBegin (n : Slot) (engine : BitVec 10) (ctx : BitVec 12) (cseq : BitVec 32) (time : BitVec 64)
    (core kind : BitVec 16) (tclass : BitVec 2) (s : State) : Host.Outcome State Fault Refusal :=
  live s (fun s => if s.heardOf n then
    ((s.slotTold n 1 0).forward n [1, engine.toNat, ctx.toNat, time.toNat, cseq.toNat, core.toNat, kind.toNat, tclass.toNat]).ldgBegin n engine.toNat ctx.toNat cseq.toNat time.toNat core.toNat kind.toNat tclass.toNat else s)

/-- LEDGER_END (R165): An end message frees its entry or counts orphan, and is staged to trace. -/
def execLedgerEnd (n : Slot) (engine : BitVec 10) (ctx : BitVec 12) (cseq : BitVec 32) (time : BitVec 64) (core : BitVec 16)
    (status : BitVec 8) (s : State) : Host.Outcome State Fault Refusal :=
  live s (fun s => if s.heardOf n then
    ((s.slotTold n 1 0).forward n [2, engine.toNat, ctx.toNat, time.toNat, cseq.toNat, core.toNat, status.toNat]).ldgEnd n engine.toNat ctx.toNat cseq.toNat time.toNat core.toNat status.toNat else s)

/-- LEDGER_TIMEOUT (R166): An open entry passes its timeout, is marked and raises LEDGER_TIMEOUT. -/
def execLedgerTimeout (n : Slot) (engine : BitVec 10) (idx : Fin 16) (s : State) : Host.Outcome State Fault Refusal :=
  live s (fun s => s.ledgerLate n engine.toNat idx.val)

/-- TRC_TRIG (R175): A store to TRC_SLOT_nn_CTL.trig fires a trace trigger. -/
def execTrcTrig (t : Tender) (n : Slot) (value : Word) (s : State) : Host.Outcome State Fault Refusal :=
  done (s.storeRow t (F.TRC_SLOT_CTL_trig.base + F.TRC_SLOT_CTL_trig.stride * n.val) 8 value)

/-- TRACE_ANCHOR_TICK (R171): The beacon passes a whole second and an ANCHOR is written to each stream. -/
def execTraceAnchorTick (s : State) : Host.Outcome State Fault Refusal :=
  live s (fun s => s.trcAnchors)

/-- TRACE_ROOM_RETURN (R174): Room returns to a dropping stream, which writes GAP, ANCHOR and the record. -/
def execTraceRoomReturn (n : Slot) (s : State) : Host.Outcome State Fault Refusal :=
  live s (fun s => s.trcRoom n)

/-- TRC_RESERVE_DRAINED (R176): A trigger window's last record lands and the reserve is freed. -/
def execTrcReserveDrained (n : Slot) (s : State) : Host.Outcome State Fault Refusal :=
  live s (fun s => s.trcReserveDrained n)

/-- TRC_REARM (R177): A store to rearm unfreezes a flight-recorder segment and ends its drop. -/
def execTrcRearm (t : Tender) (n : Slot) (value : Word) (s : State) : Host.Outcome State Fault Refusal :=
  done (s.storeRow t (F.TRC_SLOT_CTL_rearm.base + F.TRC_SLOT_CTL_rearm.stride * n.val) 8 value)

/-- TRC_STREAM_ENABLE (R171): Enabling a trace stream writes an ANCHOR. -/
def execTrcStreamEnable (t : Tender) (n : Slot) (value : Word) (s : State) : Host.Outcome State Fault Refusal :=
  done (s.storeRow t (F.TRC_SLOT_CTL_en.base + F.TRC_SLOT_CTL_en.stride * n.val) 8 value)

/-- TRC_MARK (R169): A write to TRC_SLOT_nn_MARK stages a MARK record. DESIGN CHOICE: the table has no row for the mark that accelerator firmware
makes, so this row brings it too. -/
def execTrcMark (m : MarkBy) (n : Slot) (value : Word) (s : State) : Host.Outcome State Fault Refusal :=
  match m with
  | .store t => done (s.storeRow t (F.TRC_SLOT_MARK_id.base + F.TRC_SLOT_MARK_id.stride * n.val) 8 value)
  | .firmware engine ctx time => live s (fun s =>
    let id := bits value.toNat 32 32
    let x := bits value.toNat 0 32
    if s.heardOf n then
      ((s.slotTold n 1 0).forward n [3, engine.toNat, ctx.toNat, time.toNat, id, x]).trcEngine n ⟨3, engine.toNat, ctx.toNat, time.toNat, id, x, none⟩
    else s)

/-- TRC_HEAD_WRITE (R174): Advancing a trace segment head frees space and lets the drain resume. -/
def execTrcHeadWrite (t : Tender) (n : Slot) (value : Word) (s : State) : Host.Outcome State Fault Refusal :=
  done (s.storeRow t (F.TRC_SLOT_HEAD_head.base + F.TRC_SLOT_HEAD_head.stride * n.val) 8 value)

/-- LENS_CREDIT (R178): A capture unit credit returns and the next frame opens with a GAP. -/
def execLensCredit (k : Fin 4) (s : State) : Host.Outcome State Fault Refusal :=
  live s (fun s => s.lensCredit k)

/-- LENS_DOWN (R178): The Lens link is lost. -/
def execLensDown (s : State) : Host.Outcome State Fault Refusal :=
  live s (fun s => s.lensLost)

/-- SIGHT_ANNOUNCE (R180): A Buoy announces a sighting's size and space is reserved or the holder refused. -/
def execSightAnnounce (k : Fin 8) (n : Slot) (bytes : Nat) (s : State) : Host.Outcome State Fault Refusal :=
  live s (fun s => if s.linkUp n then (s.slotHeard n 4 0).sightAnnounce k n bytes else s)

/-- SIGHT (R181): A sighting section arrives from a Buoy. -/
def execSight (k : Fin 8) (n : Slot) (data : List Byte) (s : State) : Host.Outcome State Fault Refusal :=
  live s (fun s => if s.linkUp n then (s.slotHeard n 4 data.length).sightSection k n data else s)

/-- COUNTER_SAMPLE_TICK (R183): The counter sampling period elapses and selected engines are sampled. -/
def execCounterSampleTick (s : State) : Host.Outcome State Fault Refusal :=
  live s (fun s => s.sampleTick)

/-- COUNTERS (R183): Counter samples arrive, are written as COUNTER records and coded for telemetry. -/
def execCounters (n : Slot) (samples : List CounterSample) (s : State) : Host.Outcome State Fault Refusal :=
  live s (fun s => if s.linkUp n then (s.slotHeard n 1 0).counterIn n samples else s)

/-- LENS_LINK_UP (R178): The Lens port link finishes training and the first frame after a loss opens with a GAP of cause 3. -/
def execLensLinkUp (s : State) : Host.Outcome State Fault Refusal :=
  live s (fun s => if s.fb F.TRC_LENS_CTL_en ∧ s.clk.refclk then s.setFb F.TRC_LENS_CTL_up true else s)

end Sys2Proof.Machine
end

