-- ==== Sys2Proof/Machine/LogRows.lean ====
section
/-! DEFINITION. The meanings of the logbook's own commands (15 R303 to R315). -/

namespace Sys2Proof.Machine
open State

/-- LOG_MIRROR_WRITE (R306): A record's mirror write completes and its ring entry may free. -/
def execLogMirrorWrite (ok : Bool) (s : State) : Host.Outcome State Fault Refusal :=
  row s (fun s => (s.mirrorWrite ok).wakeLogw)

/-- LOG_WIN_READ (R311): Reading LOG_WIN_00 latches the next record at or above the cursor and floor. -/
def execLogWinRead (t : Tender) (rd : Fin 32) (s : State) : Host.Outcome State Fault Refusal :=
  done (s.loadRow t rd F.LOG_WIN_word.base)

/-- LOG_FWIN_READ (R313): Reading LOG_FWIN_00 latches a record in the forerunner view. -/
def execLogFwinRead (t : Tender) (rd : Fin 32) (s : State) : Host.Outcome State Fault Refusal :=
  done (s.loadRow t rd F.LOG_FWIN_word.base)

/-- LOG_SNAP_WRITE (R303): A store to a LOG_SNAP entry, counted when newly ignored. -/
def execLogSnapWrite (t : Tender) (e : Fin 32) (value : Word) (s : State) : Host.Outcome State Fault Refusal :=
  done (s.storeRow t (F.LOG_SNAP_en.base + F.LOG_SNAP_en.stride * e.val) 8 value)

/-- HOUR_TICK (R313): A full hour of powered time adds one operating hour. -/
def execHourTick (s : State) : Host.Outcome State Fault Refusal :=
  row s (fun s => s.hourTick)

/-- CUSTODY (R309): KCP command taking logbook custody. -/
def execKcpCustody (x : Sess) (h : KcpHead) (take : Bool) (s : State) : Host.Outcome State Fault Refusal :=
  row s (fun s => s.kcpFrame x h (.custody take))

/-- FLOOR (R309): KCP command raising the logbook floor. -/
def execKcpFloor (x : Sess) (h : KcpHead) (f : Nat) (s : State) : Host.Outcome State Fault Refusal :=
  row s (fun s => s.kcpFrame x h (.floor f))

/-- SEAL (R314): KCP command freezing logbook and dumps for a custody seal. -/
def execKcpSeal (x : Sess) (h : KcpHead) (dumps : Bool) (s : State) : Host.Outcome State Fault Refusal :=
  row s (fun s => s.kcpFrame x h (.seal dumps))

/-- CUSTODY_SEALED (R314): The seal block is signed and written. -/
def execCustodySealed (s : State) : Host.Outcome State Fault Refusal :=
  row s (fun s => s.sealDone)

/-- KCP_RELEASE (R315): KCP RELEASE ends the seal and custody. -/
def execKcpRelease (x : Sess) (h : KcpHead) (s : State) : Host.Outcome State Fault Refusal :=
  row s (fun s => s.kcpFrame x h .release)

end Sys2Proof.Machine
end

