-- ==== Sys2Proof/Machine/MemRows.lean ====
section
/-! DEFINITION. The meanings of the commands of the memory controller and of DMA (17 R341 to R356; 13 R273). -/

namespace Sys2Proof.Machine
open State

/-- PHY_LOCK_LOSS (R341): A channel PHY loses lock and enters self-refresh for relock. -/
def execPhyLockLoss (c : Fin 64) (s : State) : Host.Outcome State Fault Refusal :=
  row s (fun s => s.phyLoss c.val)

/-- PHY_RELOCK (R341): A channel relocks and its held requests proceed. -/
def execPhyRelock (c : Fin 64) (s : State) : Host.Outcome State Fault Refusal :=
  row s (fun s => s.phyRelock c.val)

/-- RELOCK_TIMEOUT (R346): A channel fails to relock within 10 ms and leaves service. -/
def execRelockTimeout (c : Fin 64) (s : State) : Host.Outcome State Fault Refusal :=
  row s (fun s => s.relockTimeout c.val)

/-- REDIRECTION_READY (R347): Redirection of a lost channel is in force. -/
def execRedirectionReady (s : State) : Host.Outcome State Fault Refusal :=
  row s (fun s => s.redirected)

/-- PATROL_SCRUB (R343): Patrol scrub reads and corrects lines over its pass. -/
def execPatrolScrub (a : Nat) (ecc : Ecc) (s : State) : Host.Outcome State Fault Refusal :=
  row s (fun s => s.scrub a ecc)

/-- DMA_DONE (R355): A DMA transfer ends and DMA_DONE_cc is raised; the next queued one starts. -/
def execDmaDone (c : Fin 32) (b : DmaBeats) (port : Option (List Byte)) (s : State) : Host.Outcome State Fault Refusal :=
  live s (fun s => s.dmaRun c b port)

/-- DMA_PACED_START (R356): A paced descriptor's timer or channel trigger starts it. -/
def execDmaPacedStart (c : Fin 32) (s : State) : Host.Outcome State Fault Refusal :=
  live s (fun s => s.dmaTimer c)

/-- DMA_MODE_WRITE (R356): A write of DMA_CTL.mode; SERVICE aborts unstarted paced descriptors. -/
def execDmaModeWrite (t : Tender) (value : Word) (s : State) : Host.Outcome State Fault Refusal :=
  done (s.storeRow t F.DMA_CTL_mode.base 8 value)

/-- LPDDR_TRAINING_DONE (R341): A group of eight LPDDR5X channels completes or fails training, putting channels in service or out of service. -/
def execLpddrTrainingDone (g : Fin 8) (failed : Nat) (s : State) : Host.Outcome State Fault Refusal :=
  row s (fun s => s.trained g failed)

end Sys2Proof.Machine
end

