-- ==== Sys2Proof/Machine/MorLedInstr.lean ====
section
/-! DEFINITION. The meanings of MOOR and LEDG (04 R75, R76; 13 R265, R266; 09 R163 to R168). -/

namespace Sys2Proof.Machine
open State

namespace State

/-! ### MOOR (R75) -/

/-- MOOR in one sub-operation: ORDER only, the slot in g[ra][3:0]; `body` follows the checks and completes the instruction. -/
def moorInstr (s : State) (i : Tender) (code : Nat) (rd ra rb : Fin 32) (fn : BitVec 10) (body : State → Slot → State) : State :=
  s.instr i (fun s =>
    let w := encA 0x44 rd ra rb fn
    let ga := (s.g i ra).toNat
    s.guarded i
      [trapIf (!(s.t i).prv) Cause.priv w,
       trapIf (decide (16 ≤ ga ∨ bits fn.toNat 0 4 ≠ code ∨ (code < 2 ∧ bits fn.toNat 4 6 ≠ 0))) Cause.sysArg w]
      (fun s => body s (Fin.ofNat 16 ga)))

/-- PHASE and SHIFT on a follower and on a position that holds no accelerator (R64, R75). -/
def moorAct (s : State) (i : Tender) (rd : Fin 32) (n : Slot) (body : State → State) : State :=
  if ¬ s.control then s.result i rd (statusWord St.notControl 0 0)
  else if ¬ s.slotPresent n then s.result i rd (statusWord St.noTarget 0 0)
  else body s

/-- What READ returns: levels of W3 to W0, phase, OCCULT asserted, straps report the slot present. DESIGN CHOICE: the last is 1 for an accelerator
position that is neither blank nor strapped in error, not for MOR_STRAP.present alone. -/
def moorValue (s : State) (n : Slot) (levels : Nat) : Nat :=
  place levels 0 4 + place (s.mo n).phase 4 2 + place (b2n (s.mo n).w1low) 6 1 + place (b2n (s.slotPresent n)) 7 1

/-- MOOR PHASE: dump from run for a stopped slot, which returns once the frontend has had 1 µs after the command pulse; run from dump; nothing else (13
R266). DESIGN CHOICE: while a phase command of the slot is under way it returns BUSY, as after a second cut. -/
def moorPhase (s : State) (i : Tender) (rd : Fin 32) (n : Slot) (dest : Nat) : State :=
  let ok := statusWord St.ok 0 0
  if (s.mo n).pulse.isSome then s.result i rd (statusWord St.busy 0 0)
  else if dest = 3 ∧ s.dumpAllowed n then (s.toDump n (some (i, rd))).updT i (fun x => { x with run := .waitMoor })
  else if dest = 2 ∧ (s.mo n).phase = 3 then (s.dumpToRun n).result i rd ok
  else s.result i rd (statusWord St.refused 0 0)

/-- MOOR SHIFT: `n` bits out on W2, as many in from W3 (R75). -/
def moorShift (s : State) (i : Tender) (rd rb : Fin 32) (n : Slot) (count : Nat) (sampled : Word) : State :=
  if (s.mo n).phase ≠ 3 then s.result i rd (statusWord St.refused 0 0)
  else
    let got := bits sampled.toNat 0 count
    let s := s.send (.buoy n.val "SHIFT" [] [count, bits (s.g i rb).toNat 0 count])
    s.result i rd (if count ≤ 48 then statusWord St.ok 0 got else BitVec.ofNat 64 got)

/-! ### LEDG (R76) -/

/-- Local and gallery memory, where a ledger query may write. -/
def ledgDst (a : Nat) : Bool := decide (a < 0x40000 ∨ (0x10000000 ≤ a ∧ a < 0x12000000))

/-- LEDG in one query: the key in g[ra], the destination in g[rb]; `body` answers the status word and the bytes to write. -/
def ledgInstr (s : State) (i : Tender) (code : Nat) (rd ra rb : Fin 32) (fn : BitVec 10)
    (body : State → Slot → Nat → Word × List Byte) : State :=
  s.instr i (fun s =>
    let w := encA 0x45 rd ra rb fn
    let key := s.g i ra
    let dst := s.g i rb
    let n := bits key.toNat 0 4
    let prv := (s.t i).prv
    s.guarded i
      ([trapIf (decide (code = 4) && !prv) Cause.priv w] ++
       s.blockChecks i .store dst (if code = 4 then 0x40000 else 16) 16 ++
       [trapIf (!ledgDst dst.toNat) Cause.access dst,
        trapIf (decide (fn.toNat ≠ code ∨ bits key.toNat 18 46 ≠ 0)) Cause.sysArg w,
        trapIf (!prv && !bitOf (s.boundSlots i) n) Cause.scope key])
      (fun s =>
        let (st, b) := body s (Fin.ofNat 16 n) (16 * bits key.toNat 4 10 + bits key.toNat 14 4)
        (if b = [] then s else s.stAt i dst.toNat b).result i rd st))

/-- An entry found: its 16 bytes, with its key in the status word where the query returns it. -/
def ledgFound (n : Slot) (withKey : Bool) (e : Option LdgEntry) : Word × List Byte :=
  match e with
  | none => (statusWord St.empty 0 0, [])
  | some e => (statusWord St.ok 0 (if withKey then ldgKey n.val e.pos else 0), e.bytes n.val)

end State

/-- MOOR_READ (R75): Reads a slot's mooring wire levels and phase. -/
def execMoorRead (i : Tender) (rd ra rb : Fin 32) (fn : BitVec 10) (levels : Nat) (s : State) : Host.Outcome State Fault Refusal :=
  done (s.moorInstr i 0 rd ra rb fn (fun s n => s.result i rd (statusWord St.ok 0 (s.moorValue n levels))))

/-- MOOR_PHASE (R75): Moves a slot between mooring phases by phase command. -/
def execMoorPhase (i : Tender) (rd ra rb : Fin 32) (fn : BitVec 10) (s : State) : Host.Outcome State Fault Refusal :=
  done (s.moorInstr i 1 rd ra rb fn (fun s n =>
    s.moorAct i rd n (fun s => s.moorPhase i rd n (bits (s.g i rb).toNat 0 2))))

/-- MOOR_SHIFT (R75): Shifts bits out on W2 and samples W3 in dump phase. -/
def execMoorShift (i : Tender) (rd ra rb : Fin 32) (fn : BitVec 10) (sampled : Word) (s : State) :
    Host.Outcome State Fault Refusal :=
  done (s.moorInstr i 2 rd ra rb fn (fun s n =>
    s.moorAct i rd n (fun s => s.moorShift i rd rb n (bits fn.toNat 4 6 + 1) sampled)))

/-- LEDG_LOOKUP (R76): Writes the ledger entry at a key. -/
def execLedgLookup (i : Tender) (rd ra rb : Fin 32) (fn : BitVec 10) (s : State) : Host.Outcome State Fault Refusal :=
  done (s.ledgInstr i 0 rd ra rb fn (fun s n pos => ledgFound n false (s.ldgLookup n pos)))

/-- LEDG_OLDEST (R76): Writes the earliest-begun open entry of an engine. -/
def execLedgOldest (i : Tender) (rd ra rb : Fin 32) (fn : BitVec 10) (s : State) : Host.Outcome State Fault Refusal :=
  done (s.ledgInstr i 1 rd ra rb fn (fun s n pos => ledgFound n true (earliest ((s.led n).ofEngine (pos / 16)))))

/-- LEDG_COUNT (R76): Writes an engine's count record. -/
def execLedgCount (i : Tender) (rd ra rb : Fin 32) (fn : BitVec 10) (s : State) : Host.Outcome State Fault Refusal :=
  done (s.ledgInstr i 2 rd ra rb fn (fun s n pos => (statusWord St.ok 0 0, s.ldgCountRec n (pos / 16))))

/-- LEDG_NEXTOUT (R76): Writes the next timed-out entry of a slot at or after the key. -/
def execLedgNextout (i : Tender) (rd ra rb : Fin 32) (fn : BitVec 10) (s : State) : Host.Outcome State Fault Refusal :=
  done (s.ledgInstr i 3 rd ra rb fn (fun s n pos => ledgFound n true (s.ldgNextOut n pos)))

/-- LEDG_SNAPSHOT (R76): Writes all entries of a slot as of one PCLK cycle. -/
def execLedgSnapshot (i : Tender) (rd ra rb : Fin 32) (fn : BitVec 10) (s : State) : Host.Outcome State Fault Refusal :=
  done (s.ledgInstr i 4 rd ra rb fn (fun s n _ => (statusWord St.ok 0 0, ldgSnapBytes n.val 0 16384 (s.led n).entries)))

end Sys2Proof.Machine
end

