-- ==== Sys2Proof/Machine/MorRows.lean ====
section
/-! DEFINITION. The meanings of the commands of the mooring, of the power sequences and of the Buoy links (13 R264 to R283, R394). -/

namespace Sys2Proof.Machine
open State

/-- A window reply, or what stands for one that did not come, reaches whoever awaits it (R281; 10 R187, R196). -/
def State.winGiven (s : State) (p : Slot) (who : WinWho) (v : Word) (came : Bool) : State :=
  match who with
  | .tender i rd =>
    let s := if came then s else s.setFb F.BLK_STATUS_win_err true p.val
    if (s.t i).run = .waitWin then ((s.updT i (fun x => { x with run := .running })).result i rd v).resumed i else s
  | .half i rd high signed =>
    let s := if came then s else s.setFb F.BLK_STATUS_win_err true p.val
    if (s.t i).run = .waitWin then
      ((s.updT i (fun x => { x with run := .running })).result i rd (loadedAs 4 signed (bits v.toNat (if high then 32 else 0) 32))).resumed i
    else s
  | .sess x num pos =>
    let s := if came then s else s.setFb F.BLK_STATUS_win_err true p.val
    let s := s.updCmd x num (fun (c : SessCmd) => { c with body := c.body.take pos ++ leBytes v.toNat 8 ++ c.body.drop (pos + 8) })
    (match s.cmdOf x num with
     | some c => if s.winAwaited x num then s else s.kcpDone x num St.ok c.body
     | none => s)
  | .nobody => s
  | .alarmCode => if came then s.updMo (s.slotOf p) (fun m => { m with alarmCode := some (bits v.toNat 0 32) }) else s
  | .readback x num mask want => s.cmdReadDone x num (if came then some (decide (v &&& mask = want)) else none)
  | .probe => if came then s.updMo (s.slotOf p) (fun m => { m with probeAt := none }) else s
  | .stopState =>
    let n := s.slotOf p
    if came ∧ bitOf v.toNat 2 ∧ ¬ (s.mo n).stopped then ((s.updMo n (fun m => { m with stopped := true })).pullW1 n).wired n else s

/-- The oldest window read of a port is answered. DEDUCED: BW_W0ERR is how the Buoy reports its W0 frame errors, which BCN_SLOT counts
(12 "BCN registers"). -/
def State.winReply (s : State) (p : Slot) (v : Word) : State :=
  match (s.port p).windows with
  | [] => s
  | w :: r =>
    let s := (s.updPort p (fun l => { l with windows := r })).linkHeard p 0 8
    (if w.1 = 0x80 then s.bump F.BCN_SLOT_errors (bits v.toNat 0 32) (s.slotOf p).val else s).winGiven p w.2.2 v true

/-- How long a window read waits for its reply: 2 µs, the identity probe OCC_HB.probe_us (10 R187). -/
def State.winBound (s : State) (who : WinWho) : Nat :=
  match who with
  | .probe => s.f F.OCC_HB_probe_us * tickUs
  | _ => 2 * tickUs

/-- The oldest window read of a port whose time is over has had no reply. -/
def State.winTimeout (s : State) (p : Slot) : State :=
  match (s.port p).windows.find? (fun w => decide (w.2.1 + s.winBound w.2.2 ≤ s.beacon)) with
  | none => s
  | some w => (s.updPort p (fun l => { l with windows := l.windows.erase w })).winGiven p w.2.2 (BitVec.allOnes 64) false

/-- STRAP_SAMPLE (R264): Straps are sampled with pull-up and pull-down in their windows. -/
def execStrapSample (pullUp : Bool) (levels : Vector (BitVec 4) 16) (s : State) : Host.Outcome State Fault Refusal :=
  row s (fun s => s.strapSample pullUp levels)

/-- STRAP_PHASE_END (R266): strap phase ends, and the keepers' roles are taken (14 R294). -/
def execStrapPhaseEnd (s : State) : Host.Outcome State Fault Refusal :=
  row s (fun s => if s.mor.strapsRead then s else (fun (r : State) => if r.mor.strapsRead then r.roleStart else r) s.strapEnd)

/-- STAGGER_STEP (R273): The next unit or slot of the staggered start begins. -/
def execStaggerStep (s : State) : Host.Outcome State Fault Refusal :=
  live s (fun s => s.staggerStep)

/-- PWR_GOOD_RISE (R268): PWR_GOOD rises on W1 during power-on. -/
def execPwrGoodRise (n : Slot) (s : State) : Host.Outcome State Fault Refusal :=
  live s (fun s => s.pwrGoodRise n)

/-- PWR_GOOD_TIMEOUT (R268): PWR_GOOD has not risen by pg_ms; W0 falls and the action fails. -/
def execPwrGoodTimeout (n : Slot) (s : State) : Host.Outcome State Fault Refusal :=
  live s (fun s => s.pwrGoodTimeout n)

/-- REFCLK_ENABLE_STEP (R268): 1 ms after PWR_GOOD REFCLK_EN rises. -/
def execRefclkEnableStep (n : Slot) (s : State) : Host.Outcome State Fault Refusal :=
  live s (fun s => s.refclkStep n)

/-- RESET_RELEASE_STEP (R268): 2 ms after PWR_GOOD RESET_L rises unless held. -/
def execResetReleaseStep (n : Slot) (s : State) : Host.Outcome State Fault Refusal :=
  live s (fun s => s.resetRise n)

/-- RUN_ENTRY (R268): 100 us after RESET_L the turnaround and mark put the slot in run phase. -/
def execRunEntry (n : Slot) (s : State) : Host.Outcome State Fault Refusal :=
  live s (fun s => s.runEntry n)

/-- POWER_FAULT (R282): PWR_GOOD falls, or a PMBus fault, raises POWER_FAULT. -/
def execPowerFault (n : Slot) (pgFell : Bool) (s : State) : Host.Outcome State Fault Refusal :=
  row s (fun s => s.powerFault n pgFell)

/-- PMBUS_POLL (R283): Every 10 ms each PMBus stage is polled. -/
def execPmbusPoll (n : Slot) (reading : Option (Nat × Nat × Nat)) (s : State) : Host.Outcome State Fault Refusal :=
  live s (fun s => s.pmbusPoll n reading)

/-- PMBUS_ALERT (R283): SMBALERT# asserts and PMBUS_FAULT is raised. -/
def execPmbusAlert (n : Slot) (s : State) : Host.Outcome State Fault Refusal :=
  live s (fun s => s.pmbusAlert n)

/-- MOR_WIRE_FAULT (R270): A driven wire reads against its drive for 100 ns and its function passes to the peer. -/
def execMorWireFault (n : Slot) (w : Fin 4) (s : State) : Host.Outcome State Fault Refusal :=
  row s (fun s => s.wireFault n w)

/-- W1_STUCK_LOW (R271): A released W1 reads low; W1_MASK is sent and its stop released. -/
def execW1StuckLow (n : Slot) (peer : Bool) (s : State) : Host.Outcome State Fault Refusal :=
  live s (fun s => s.w1Stuck n peer)

/-- W1_UNMASK (R271): A masked W1 follows its drive for 100 ms and is unmasked. -/
def execW1Unmask (n : Slot) (s : State) : Host.Outcome State Fault Refusal :=
  live s (fun s => s.w1Unmask n)

/-- W1_PROXY_REQUEST (R270): A peer's PROXY request makes this keeper drive W1 for it. -/
def execW1ProxyRequest (n : Slot) (low : Bool) (s : State) : Host.Outcome State Fault Refusal :=
  live s (fun s => (s.pairHeard 2 0).w1Proxy n low)

/-- PHASE_PULSE_RETRY (R282): A cut phase command pulse is repeated 10 us later. -/
def execPhasePulseRetry (n : Slot) (s : State) : Host.Outcome State Fault Refusal :=
  live s (fun s => s.pulseRetry n)

/-- LINK_LOCK (R274): A Buoy link lane locks after 64 good frames and IDENT is sent. -/
def execLinkLock (p : Slot) (lane : Fin 2) (s : State) : Host.Outcome State Fault Refusal :=
  row s (fun s => s.linkLock p lane)

/-- LINK_FRAME_ERROR (R275): A bad or out-of-sequence frame is discarded and nak is sent. -/
def execLinkFrameError (l : LinkEnd) (f : FrameFault) (s : State) : Host.Outcome State Fault Refusal :=
  row s (fun s => match l with | .buoy p => s.linkFrame p f | .pair => s.pairFrame f)

/-- LINK_NAK (R275): A nak from the peer starts a replay from ack + 1. -/
def execLinkNak (l : LinkEnd) (ack : Nat) (s : State) : Host.Outcome State Fault Refusal :=
  row s (fun s => match l with | .buoy p => s.linkNak p ack | .pair => s.pairNak ack)

/-- LINK_REPLAY_TIMEOUT (R275): A frame unacknowledged for 4 us is replayed. -/
def execLinkReplayTimeout (l : LinkEnd) (s : State) : Host.Outcome State Fault Refusal :=
  row s (fun s => match l with | .buoy p => s.linkReplayTimeout p | .pair => s.pairReplayDue)

/-- LINK_CREDIT (R277): An IDLE frame grants class credits. -/
def execLinkCredit (l : LinkEnd) (ack : Nat) (counts : Vector (BitVec 8) 16) (s : State) : Host.Outcome State Fault Refusal :=
  row s (fun s => match l with | .buoy p => s.linkCredit p ack counts | .pair => s.pairCredit ack counts)

/-- LANE_FAIL (R276): A lane loses lock; traffic moves to the other lane and LANE_DEGRADE is raised. -/
def execLaneFail (p : Slot) (lane : Fin 2) (s : State) : Host.Outcome State Fault Refusal :=
  row s (fun s => s.laneFail p lane)

/-- LANE_RESTORED (R276): A failed lane holds lock for 100 ms and returns. -/
def execLaneRestored (p : Slot) (s : State) : Host.Outcome State Fault Refusal :=
  row s (fun s => s.laneRestored p)

/-- LINK_DOWN (R276): No valid frame on either lane for 20 us. -/
def execLinkDown (p : Slot) (s : State) : Host.Outcome State Fault Refusal :=
  row s (fun s => s.linkGone p)

/-- IDENT (R279): A Buoy's identity arrives and the link is accepted or quarantined. -/
def execBuoyIdent (p : Slot) (id : Ident) (s : State) : Host.Outcome State Fault Refusal :=
  row s (fun s =>
    let r := s.identify p id
    if ¬ s.linkUp (s.slotOf p) ∧ r.linkUp (r.slotOf p) then r.segLinked (r.slotOf p) else r)

/-- NOTE (R394): A NOTE message is placed in gallery memory and raises CONTROL_MSG. -/
def execBuoyNote (n : Slot) (ref step time kind : Nat) (data : List Byte) (s : State) : Host.Outcome State Fault Refusal :=
  row s (fun s => s.noteIn n ref step time kind data)

/-- BLK_WIN_READ (R281): Reading BLK_WIN_DATA sends WIN_READ to the Buoy. -/
def execBlkWinRead (t : Tender) (rd : Fin 32) (p : Slot) (s : State) : Host.Outcome State Fault Refusal :=
  done (s.loadRow t rd (F.BLK_WIN_DATA_data.base + F.BLK_WIN_DATA_data.stride * p.val))

/-- BLK_WIN_WRITE (R281): Writing BLK_WIN_DATA sends WIN_WRITE to the Buoy. -/
def execBlkWinWrite (t : Tender) (p : Slot) (value : Word) (s : State) : Host.Outcome State Fault Refusal :=
  done (s.storeRow t (F.BLK_WIN_DATA_data.base + F.BLK_WIN_DATA_data.stride * p.val) 8 value)

/-- WIN_REPLY (R281): A window reply returns the Buoy register value. -/
def execWinReply (p : Slot) (data : Word) (s : State) : Host.Outcome State Fault Refusal :=
  row s (fun s => s.winReply p data)

/-- WIN_REPLY_TIMEOUT (R281): No window reply in 2 us; the read returns all ones and sets win_err. -/
def execWinReplyTimeout (p : Slot) (s : State) : Host.Outcome State Fault Refusal :=
  row s (fun s => s.winTimeout p)

/-- BLK_RETRAIN (R283): A store to BLK_CTL.retrain retrains both lanes. -/
def execBlkRetrain (t : Tender) (p : Slot) (value : Word) (s : State) : Host.Outcome State Fault Refusal :=
  done (s.storeRow t (F.BLK_CTL_retrain.base + F.BLK_CTL_retrain.stride * p.val) 8 value)

end Sys2Proof.Machine
end

