-- ==== Sys2Proof/Machine/OccRows.lean ====
section
/-! DEFINITION. The meanings of the commands of the occult block, of action ends and of dumps (04 R85, R86; 10 R186 to R204). -/

namespace Sys2Proof.Machine
open State

/-- ACTION_DONE (R85): The Buoy reports the outcome of an action and ACT_DONE or ACT_FAILED is delivered. -/
def execActionDone (n : Slot) (ticket : Nat) (ok : Bool) (s : State) : Host.Outcome State Fault Refusal :=
  row s (fun s => if s.linkUp n then (s.slotHeard n 0 0).actionAnswer n ticket ok else s)

/-- ACTION_READY_TIMEOUT (R204): A Buoy fails to report ready in time and the action ends ACT_FAILED TIMEOUT. -/
def execActionReadyTimeout (n : Slot) (s : State) : Host.Outcome State Fault Refusal :=
  row s (fun s => s.readyTimeout n)

/-- COLD_HOLD_EXPIRED (R86): The hold time of RSET COLD ends and RESET_L is released. -/
def execColdHoldExpired (n : Slot) (s : State) : Host.Outcome State Fault Refusal :=
  row s (fun s => if s.rowDue n .hold then s.holdEnd n else s)

/-- PWR_CYCLE_OFF_EXPIRED (R86): The off time of PWR CYCLE ends and the slot is powered on. -/
def execPwrCycleOffExpired (n : Slot) (s : State) : Host.Outcome State Fault Refusal :=
  row s (fun s => s.cycleOn n)

/-- PWR_OFF_DONE (R86): Both W0 lines have been low for 1 ms and PWR OFF completes. -/
def execPwrOffDone (n : Slot) (s : State) : Host.Outcome State Fault Refusal :=
  row s (fun s => s.powerOffDone n)

/-- HEARTBEAT_EDGE (R186): A HEARTBEAT edge on W3 restarts the slot's heartbeat timeout. -/
def execHeartbeatEdge (n : Slot) (s : State) : Host.Outcome State Fault Refusal :=
  row s (fun s => if (s.mo n).phase = 2 then s.hbEdge n else s)

/-- HEARTBEAT_LOST (R187): W3 shows no edge for hb_us and an identity probe is sent. -/
def execHeartbeatLost (n : Slot) (s : State) : Host.Outcome State Fault Refusal :=
  row s (fun s => s.hbLost n)

/-- A slot's CHIP_DOWN with what follows in Scarf (11 R226) and its pod notice (02 R10, 16 R335). -/
def State.chipDownAll (s : State) (n : Slot) : State :=
  let was := (s.mo n).chipDown
  let r := s.chipDown n
  if ¬ was ∧ (r.mo n).chipDown then (if r.control then (r.scfChipDown n).notice 3 n.val r.beacon 0 else r.scfChipDown n) else r

/-- Partials that the Buoy discarded, told with its ALARM (08 R156): counted, saturating. -/
def State.fwdDiscard (s : State) (k : Nat) : State :=
  s.setF F.TRS_FWD_ERR_discards (min (s.f F.TRS_FWD_ERR_discards + k) (2 ^ 32 - 1))

/-- CHIP_DOWN (R187): The identity probe is unanswered and CHIP_DOWN is raised. -/
def execChipDown (n : Slot) (s : State) : Host.Outcome State Fault Refusal :=
  row s (fun s => s.chipDownAll n)

/-- ALARM_WIRE (R189): The ALARM wire is asserted and ALARM is raised. -/
def execAlarmWire (n : Slot) (fwdDiscards : Nat) (s : State) : Host.Outcome State Fault Refusal :=
  row s (fun s => (s.alarmWire n).fwdDiscard fwdDiscards)

/-- STOP_ACK (R190): A Buoy acknowledges a stop with its stop tick. -/
def execStopAck (n : Slot) (tick : Nat) (s : State) : Host.Outcome State Fault Refusal :=
  row s (fun s => if s.linkUp n then (s.slotHeard n 0 0).stopAck n tick else s)

/-- STOP_ACK_TIMEOUT (R190): A slot has not acknowledged within ack_us and the stop ends NOREPLY. -/
def execStopAckTimeout (ticket : Nat) (s : State) : Host.Outcome State Fault Refusal :=
  row s (fun s => s.stopTimeout ticket)

/-- OCLT_AT_FIRE (R193): The beacon reaches a scheduled stop time and W1 is pulled low. -/
def execOcltAtFire (s : State) : Host.Outcome State Fault Refusal :=
  row s (fun s => s.atFire)

/-- STOP_AT (R193): A Buoy acknowledges a scheduled stop time. -/
def execStopAt (n : Slot) (s : State) : Host.Outcome State Fault Refusal :=
  row s (fun s => if s.linkUp n then (s.slotHeard n 0 0).atAck n else s)

/-- OCC_DUMP_START (R197): A store to OCC_DUMP_GO.start begins a dump of slots. -/
def execOccDumpStart (t : Tender) (value : Word) (s : State) : Host.Outcome State Fault Refusal :=
  done (s.storeRow t 0x80038 8 value)

/-- OCC_DUMP_ABORT (R202): A store to OCC_DUMP_GO.abort ends a slot's dump after its current read. -/
def execOccDumpAbort (t : Tender) (value : Word) (s : State) : Host.Outcome State Fault Refusal :=
  done (s.storeRow t 0x80038 8 value)

/-- UNIT_DATA (R197): A dump reply arrives and the next read is issued. -/
def execUnitData (n : Slot) (ok : Bool) (data : List Byte) (s : State) : Host.Outcome State Fault Refusal :=
  row s (fun s =>
    let moor := (s.occ.dumps.get n).any (fun d => d.moor)
    (if moor then s else s.slotHeard n 3 data.length).unitReply n ok data)

/-- DUMP_READ_TIMEOUT (R197): A unit read has no reply after read_tmo_us and is marked unreadable. -/
def execDumpReadTimeout (s : State) : Host.Outcome State Fault Refusal :=
  row s (fun s => s.unitTimeout)

end Sys2Proof.Machine
end

