-- ==== Sys2Proof/Machine/ParRows.lean ====
section
/-! DEFINITION. The meanings of the commands of the pair: roles, health words, mirroring, emergency-light mode (14 R284 to R298). -/

namespace Sys2Proof.Machine
open State

/-- HEALTH_WORD_SEND (R286): Every 10 us a health word with beacon sync is sent to the peer; the failing word is the last that this keeper sends in
control, and one that has lost control goes on with failing set. -/
def execHealthWordSend (failing : Bool) (s : State) : Host.Outcome State Fault Refusal :=
  done (if s.clk.held ∨ (s.par.failing ∧ s.control) then s
    else if s.par.failing then s.healthOut true
    else if failing ∨ s.failingNow then s.failWord
    else s.healthOut false)

/-- HEALTH_WORD (R286): A peer health word arrives and skew, state and failing are taken. -/
def execHealthWord (t1 e2 e3 seq state thermal : Nat) (s : State) : Host.Outcome State Fault Refusal :=
  row s (fun s => (s.pairHeard 0 32).healthIn t1 e2 e3 seq state thermal)

/-- PAIR_LIVE_LOST (R284): PAIR_LIVE_IN shows no edge for 5 us. -/
def execPairLiveLost (s : State) : Host.Outcome State Fault Refusal :=
  row s (fun s => s.liveLoss)

/-- HEALTH_SILENCE (R289): No health word for silence_us; with the live wire lost, failure is established. -/
def execHealthSilence (s : State) : Host.Outcome State Fault Refusal :=
  row s (fun s => s.healthSilence)

/-- TAKEOVER (R290): The follower takes control, drives mirrored stops and raises TAKEOVER. -/
def execTakeover (s : State) : Host.Outcome State Fault Refusal :=
  row s (fun s => s.takeover)

/-- MIRROR_ITEM (R287): A mirrored item arrives at the follower and is stored and acknowledged. -/
def execMirrorItem (m : MirrorMsg) (s : State) : Host.Outcome State Fault Refusal :=
  row s (fun s => (s.pairHeard (MirrorMsg.cls m) (MirrorMsg.len m)).mirrorClass m)

/-- MIRROR_ACK (R287): The follower acknowledges a mirrored item and the held step proceeds. -/
def execMirrorAck (s : State) : Host.Outcome State Fault Refusal :=
  row s (fun s => (s.pairHeard 1 0).mirrorAck)

/-- MIRROR_LAG (R288): An acknowledgement is overdue by lag_us. -/
def execMirrorLag (s : State) : Host.Outcome State Fault Refusal :=
  row s (fun s => s.mirrorLag)

/-- FOLLOWER_DETACH (R288): The pair link is silent for silence_us with the live wire up; the follower is detached. -/
def execFollowerDetach (s : State) : Host.Outcome State Fault Refusal :=
  row s (fun s => s.detach)

/-- PEER_HEALTHY (R293): The rejoined principal has been healthy for 30 s. -/
def execPeerHealthy (s : State) : Host.Outcome State Fault Refusal :=
  row s (fun s => s.peerHealthy)

/-- ROLE_REQUEST (R293): The relief receives a takeback request and hands over or refuses. -/
def execRoleRequest (s : State) : Host.Outcome State Fault Refusal :=
  row s (fun s => (s.pairHeard 0 0).roleRequest)

/-- TAKEBACK (R293): The principal receives the handover and takes control. -/
def execTakeback (s : State) : Host.Outcome State Fault Refusal :=
  row s (fun s => (s.pairHeard 0 0).takeback)

/-- PAR_YIELD (R293): A store to PAR_CTL.yield hands control over at the next quiet point. -/
def execParYield (t : Tender) (value : Word) (s : State) : Host.Outcome State Fault Refusal :=
  done (s.storeRow t F.PAR_CTL_yield.base 8 value)

/-- PAR_RESYNC (R295): The controller copies its mirrored state to a joining follower. -/
def execParResync (t : Tender) (value : Word) (s : State) : Host.Outcome State Fault Refusal :=
  done (s.storeRow t F.PAR_CTL_yield.base 8 value)

/-- ALONE_WAIT_EXPIRED (R294): A relief sees no peer for alone_ms and takes control. -/
def execAloneWaitExpired (s : State) : Host.Outcome State Fault Refusal :=
  row s (fun s => s.aloneOver)

/-- SPLIT_RESOLVE (R292): A path returns after a split and the later controller yields. -/
def execSplitResolve (peerLast peerNext : Nat) (s : State) : Host.Outcome State Fault Refusal :=
  row s (fun s => s.splitResolve peerLast peerNext)

/-- PAIR_LINK_UP (R285): The pair link trains. -/
def execPairLinkUp (lanes : Nat) (s : State) : Host.Outcome State Fault Refusal :=
  row s (fun s => s.pairUp lanes)

/-- PAIR_LINK_DOWN (R289): The pair link is lost. -/
def execPairLinkDown (s : State) : Host.Outcome State Fault Refusal :=
  row s (fun s => s.pairDown)

/-- EMERGENCY_ENTRY (R297): The keeper enters emergency-light mode and keeps only hardware paths. -/
def execEmergencyEntry (s : State) : Host.Outcome State Fault Refusal :=
  row s (fun s => s.emergencyEntry)

/-- LEDGER_SNAPSHOT_PERIOD (R287): Every 100 us the keeper in control sends a ledger snapshot of every slot to the follower. -/
def execLedgerSnapshotPeriod (s : State) : Host.Outcome State Fault Refusal :=
  live s (fun s => s.ledgerSnapshot)

/-- PAIR_LIVE_EDGE (R284): An edge on PAIR_LIVE_IN restarts the 5 us live-wire timeout and marks the peer's live wire as toggling. -/
def execPairLiveEdge (s : State) : Host.Outcome State Fault Refusal :=
  row s (fun s => s.liveEdge)

/-- RESTART (R298): Responder command reloading the Standing Orders without warm reset. -/
def execKcpRestart (x : Sess) (h : KcpHead) (s : State) : Host.Outcome State Fault Refusal :=
  row s (fun s => s.kcpFrame x h .restart)

/-- FLASH_WRITE (R337): Responder command writing a Standing Orders image to boot flash. -/
def execFlashWrite (x : Sess) (h : KcpHead) (image off : Nat) (data : List Byte) (s : State) : Host.Outcome State Fault Refusal :=
  row s (fun s => s.kcpFrame x h (.flashWrite image off data))

end Sys2Proof.Machine
end

