-- ==== Sys2Proof/Machine/PlbRows.lean ====
section
/-! DEFINITION. The meanings of the commands of the Plumb audit array and of trusses (07 R126 to R146, 08 R152 to R158). -/

namespace Sys2Proof.Machine
open State

/-- A Buoy acknowledges its schedule of a generation: TRS_DIST shows it where the generation is the one being distributed or in force
(R157). -/
def State.scheduleAck (s : State) (n : Slot) (gen : Nat) : State :=
  let a := s.trs.pending.orElse (fun _ => s.trs.active)
  if a.map (·.gen) = some gen ∧ s.linkUp n then s.setF F.TRS_DIST_acked ((s.f F.TRS_DIST_acked) ||| (1 <<< n.val)) else s

/-- PLB_ENV_SAMPLE (R126): Every 10 us the tile sensors are sampled against the envelope. -/
def execPlbEnvSample (temps volts : Vector (BitVec 8) 8) (s : State) : Host.Outcome State Fault Refusal :=
  live s (fun s => s.plbEnvSample temps volts)

/-- TILE_SETTLED (R127): A tile has stayed within margins for settle_ms and its return canary is run. -/
def execTileSettled (k : Fin 8) (s : State) : Host.Outcome State Fault Refusal :=
  live s (fun s => s.plbSettled k)

/-- PLB_TILE_DISABLE (R127): Clearing a tile_en bit takes the tile out of rotation with reason 1. -/
def execPlbTileDisable (t : Tender) (value : Word) (s : State) : Host.Outcome State Fault Refusal :=
  done (s.storeRow t F.PLB_CTL_tile_en.base 8 value)

/-- PLB_OP_DEQUEUE (R130): A tile dequeues an op, validates it and starts it. -/
def execPlbOpDequeue (k : Fin 8) (s : State) : Host.Outcome State Fault Refusal :=
  live s (fun s => s.plbDequeue k)

/-- PLB_OP_COMPLETE (R141): A Plumb op or confirming run ends, its outcome is decided and recorded. -/
def execPlbOpComplete (k : Fin 8) (wrong : Option (List Byte)) (ecc : Ecc) (s : State) : Host.Outcome State Fault Refusal :=
  live s (fun s => s.plbComplete k wrong (decide (ecc = .uncorrectable)))

/-- PLB_RES_HEAD_WRITE (R142): Advancing the result ring head frees space for a waiting record. -/
def execPlbResHeadWrite (t : Tender) (value : Word) (s : State) : Host.Outcome State Fault Refusal :=
  done (s.storeRow t F.PLB_RES_HEAD_head.base 8 value)

/-- SAMPLE (R135): An audit sample arrives from a Buoy and is turned into an op or skipped. The keeper in control takes samples of the slots whose
links are up. -/
def execPlbSample (n : Slot) (msg : AuditMsg) (s : State) : Host.Outcome State Fault Refusal :=
  live s (fun s =>
    let s := s.slotHeard n 5 (match msg with | .skipped _ => 0 | .sample _ a b c d _ _ => 64 + a.length + b.length + c.length + d.length)
    if ¬ s.control ∨ ¬ s.linkUp n then s
    else match msg with
      | .skipped count => s.plbSkip n count
      | .sample hdr a b c d whole ecc => s.plbSample n hdr a b c d whole (decide (ecc = .uncorrectable)))

/-- CREDIT (R132): The keeper grants a capture credit once operand SRAM is reserved. -/
def execPlbCredit (n : Slot) (pages : Nat) (s : State) : Host.Outcome State Fault Refusal :=
  live s (fun s => s.plbCredit n pages)

/-- KEY_DRAIN_DONE (R139): Earlier-step samples drain and key_pending returns to 0. -/
def execKeyDrainDone (s : State) : Host.Outcome State Fault Refusal :=
  live s (fun s => s.plbKeyDrained)

/-- CANARY_GATE_TIMEOUT (R145): A gated canary's bins are not met in time and it completes CANARY_TIMEOUT. -/
def execCanaryGateTimeout (k : Fin 8) (s : State) : Host.Outcome State Fault Refusal :=
  live s (fun s => s.plbGateTimeout k)

/-- CANARY (R145): A Buoy returns a core canary digest, compared with the expected one. -/
def execPlbCanary (n : Slot) (ticket : Nat) (digest : BitVec 128) (s : State) : Host.Outcome State Fault Refusal :=
  live s (fun s => (s.slotHeard n 0 0).plbCanaryReturn n ticket digest.toNat)

/-- TRS_LOAD (R152): TRS_CTL.load takes the truss map and format plan or refuses them. -/
def execTrsLoad (t : Tender) (value : Word) (s : State) : Host.Outcome State Fault Refusal :=
  done (s.storeRow t F.TRS_CTL_load.base 8 value)

/-- TRS_BIND (R148): TRS_CTL.bind binds the loaded job, refused without an arrangement. -/
def execTrsBind (t : Tender) (value : Word) (s : State) : Host.Outcome State Fault Refusal :=
  done (s.storeRow t F.TRS_CTL_load.base 8 value)

/-- TRS_UNBIND (R148): TRS_CTL.unbind ends the job and Buoys drop their schedules. -/
def execTrsUnbind (t : Tender) (value : Word) (s : State) : Host.Outcome State Fault Refusal :=
  done (s.storeRow t F.TRS_CTL_load.base 8 value)

/-- SCHEDULE_ACK (R157): A Buoy acknowledges a distributed arrangement. -/
def execScheduleAck (n : Slot) (gen : Nat) (s : State) : Host.Outcome State Fault Refusal :=
  live s (fun s => (s.slotHeard n 0 0).scheduleAck n gen)

end Sys2Proof.Machine
end

