-- ==== Sys2Proof/Machine/PwrRows.lean ====
section
/-! DEFINITION. The meanings of stores to the registers of resets and floors and to registers with no row of their own, of the thermal path, and
of pins, clocks and resets (18 R357 to R371; 19 R379 to R388). -/

namespace Sys2Proof.Machine
open State

/-- REFCLK is lost: the pair link goes down with the other SerDes (19 R383). -/
def State.refGone (s : State) : State :=
  let r := s.refLoss
  if s.clk.refclk ∧ ¬ r.clk.refclk then r.pairDown else r

/-- GLB_RESET (R363): Writing the warm key orders a keeper warm reset. -/
def execGlbReset (t : Tender) (value : Word) (s : State) : Host.Outcome State Fault Refusal :=
  done (s.storeRow t F.GLB_RESET_warm.base 8 value)

/-- GLB_BLKRST (R363): Writing the block key resets one block. -/
def execGlbBlkrst (t : Tender) (value : Word) (s : State) : Host.Outcome State Fault Refusal :=
  done (s.storeRow t F.GLB_BLKRST_key.base 8 value)

/-- TND_RESET (R57): Writing TND_RESET resets the named tenders. -/
def execTndReset (t : Tender) (value : Word) (s : State) : Host.Outcome State Fault Refusal :=
  done (s.storeRow t F.TND_RESET_reset.base 8 value)

/-- SEC_FLOOR_RAISE (R367): Raises the selected floor entry to the epoch in force. -/
def execSecFloorRaise (t : Tender) (value : Word) (s : State) : Host.Outcome State Fault Refusal :=
  done (s.storeRow t F.SEC_FLOOR_RAISE_raise.base 8 value)

/-- SEC_FLOOR_CLEAR (R367): Frees a floor entry whose program is unbound. -/
def execSecFloorClear (t : Tender) (value : Word) (s : State) : Host.Outcome State Fault Refusal :=
  done (s.storeRow t F.SEC_FLOOR_RAISE_raise.base 8 value)

/-- REGISTER_WRITE (R3): A write to a register with no row of its own, by access type. -/
def execRegisterWrite (t : Tender) (off : Nat) (value : Word) (wide : Bool) (s : State) : Host.Outcome State Fault Refusal :=
  done (s.storeRow t off (if wide then 8 else 4) (if wide then value else BitVec.ofNat 64 (bits value.toNat 0 32)))

/-- THM_SAMPLE (R371): Every 10 us thermal sensors are sampled against warn and trip. -/
def execThmSample (temps : Vector (BitVec 8) 24) (s : State) : Host.Outcome State Fault Refusal :=
  done (s.thmSample temps)

/-- THERMAL_SHUTDOWN (R388): 20 us after a trip, blocks stop and THERM_TRIP_L is driven low. -/
def execThermalShutdown (s : State) : Host.Outcome State Fault Refusal :=
  done s.thermalShutdown

/-- AVS_STEP (R380): At most once per ms the core voltage set point is adjusted over PMBus. -/
def execAvsStep (mv : Nat) (answers : Bool) (s : State) : Host.Outcome State Fault Refusal :=
  row s (fun s => s.avsStep mv answers)

/-- PWROK_RISE (R384): PWROK rises and power-on reset begins. -/
def execPwrokRise (pins : PowerPins) (s : State) : Host.Outcome State Fault Refusal :=
  done (s.powerOn pins.relief pins.testMode)

/-- INTERNAL_RESET_RELEASE (R384): The internal reset is released, strap phase and secure boot start. -/
def execInternalResetRelease (s : State) : Host.Outcome State Fault Refusal :=
  done (s.resetRelease)

/-- TENDERS_RELEASED (R90): Secure boot verifies images and releases tenders at their entry. -/
def execTendersReleased (pufOk : Bool) (s : State) : Host.Outcome State Fault Refusal :=
  row s (fun s => s.bootDone pufOk)

/-- PWROK_FALL (R379): PWROK falls and the keeper releases every pin. -/
def execPwrokFall (s : State) : Host.Outcome State Fault Refusal :=
  done (s.powerLoss)

/-- WARM_RESET_PIN (R384): WARM_RESET_L falls and the keeper enters warm reset. -/
def execWarmResetPin (s : State) : Host.Outcome State Fault Refusal :=
  done (s.warmPin)

/-- WARM_RESET_RELEASE (R384): WARM_RESET_L rises and the internal reset is released after 50 us. -/
def execWarmResetRelease (s : State) : Host.Outcome State Fault Refusal :=
  done (s.warmPinRise)

/-- REFCLK_LOSS (R383): REFCLK stops or drifts for 1 us; SerDes and PHY PLLs lose lock. -/
def execRefclkLoss (s : State) : Host.Outcome State Fault Refusal :=
  row s (fun s => s.refGone)

/-- REFCLK_RETURN (R383): REFCLK returns, PLLs lock and links retrain. -/
def execRefclkReturn (s : State) : Host.Outcome State Fault Refusal :=
  row s (fun s => s.refReturn)

/-- BOOT_FLASH_WRITE_DONE (R363): A boot flash write of an owner, floor or hour record or an image completes, releasing a waiting warm reset and clearing floor_conflict. -/
def execBootFlashWriteDone (s : State) : Host.Outcome State Fault Refusal :=
  done (s.flashDone)

end Sys2Proof.Machine
end

