-- ==== Sys2Proof/Machine/ReqInstr.lean ====
section
/-! DEFINITION. The meanings of DMOV, PLMB, DGST, SIGN, VRFY, LOGW and SEND, which take a request block, and of the end of a security
request (04 R60, R77 to R83; 17 R351, R352, R356). -/

namespace Sys2Proof.Machine
open State

namespace State

/-- An instruction that takes a request block of `n` bytes at g[ra]: the checks before the block is read, then those on its contents, then its
effect. -/
def blockInstr (s : State) (i : Tender) (ea : Word) (n align : Nat) (first : List TrapReq)
    (second : State → List Byte → List TrapReq) (body : State → List Byte → State) : State :=
  match lowestTrap (first ++ s.blockChecks i .load ea n align) with
  | some (c, v) => s.trap i c v
  | none => s.readMem i ea n .clean (fun b s => s.guarded i (second s b) (fun s => body (s.postedDone i) b))

/-! ### DMOV (R77) -/

/-- Bytes from the first to the last of one side of a transfer. -/
def dmaExtent (count stride width : Nat) : Nat := (count - 1) * stride + width

/-- The descriptor of R351 as it was read. -/
def dmaParse (i : Tender) (paced : Bool) (b : List Byte) : DmaDesc :=
  let fl := numAt b 0x23 1
  let pace := numAt b 0x28 8
  { src := numAt b 0 8, dst := numAt b 8 8, count := numAt b 0x10 8, sstride := numAt b 0x18 4, dstride := numAt b 0x1C 4
    ws := numAt b 0x20 1, wd := numAt b 0x21 1, conv := numAt b 0x22 1, srcPort := bitOf fl 0, dstPort := bitOf fl 1
    fill := bitOf fl 2, paced := paced, paceKind := bits pace 0 2, paceChan := bits pace 2 5, pacePeriod := bits pace 8 24
    seq := 0, by_ := some i.val }

/-- A port of R352: kind and index, as a source or as a destination. -/
def dmaPortOk (v : Nat) (dst : Bool) : Bool :=
  let k := bits v 8 8
  let x := bits v 0 8
  decide (v < 0x10000) &&
    (match k with
     | 1 => !dst && decide (x < 16)
     | 2 => dst && decide (x < 16)
     | 3 => !dst && decide (x < 16)
     | 4 => !dst && decide (x < 16)
     | 5 => !dst && decide (x < 16)
     | 6 => dst && decide (x ≤ 8)
     | 7 => !dst && decide (x = 0)
     | 8 => !dst && decide (x = 0)
     | _ => false)

/-- A stride is 0 or a multiple of the width. -/
def dmaStrideOk (stride w : Nat) : Bool := decide (stride % 2 ^ w = 0)

/-- The pace word: zero for START; for PACED a timer with a period, or a channel. -/
def dmaPaceOk (d : DmaDesc) (word : Nat) : Bool :=
  if ¬ d.paced then decide (word = 0)
  else decide (word < 2 ^ 32 ∧ d.paceKind < 2) && !bitOf word 7 && (decide (d.paceKind = 1) || decide (d.pacePeriod ≠ 0))

/-- The encodings of R351 and R352 hold. -/
def dmaForm (d : DmaDesc) (b : List Byte) : Bool :=
  decide (1 ≤ d.count ∧ d.count ≤ 2 ^ 34 ∧ d.ws ≤ 6 ∧ d.wd ≤ 6 ∧ bits d.conv 0 2 ≠ 3 ∧ bits d.conv 3 5 = 0 ∧ bits (numAt b 0x23 1) 3 5 = 0) &&
  decide (d.count * 2 ^ d.ws ≤ 2 ^ 34 ∧ d.count * 2 ^ d.wd ≤ 2 ^ 34) && dmaStrideOk d.sstride d.ws && dmaStrideOk d.dstride d.wd &&
  (!d.fill || (decide (d.ws ≤ 3) && !d.srcPort)) &&
  (!d.srcPort || (dmaPortOk d.src false && decide (d.ws = 6 ∧ d.sstride = 0))) &&
  (!d.dstPort || (dmaPortOk d.dst true && decide (d.wd = 6 ∧ d.dstride = 0))) &&
  dmaPaceOk d (numAt b 0x28 8) && zeros (cut b 0x24 4) && zeros (cut b 0x30 16)

/-- The source is memory, and its extent. -/
def dmaSrcMem (d : DmaDesc) : Bool := !d.srcPort && !d.fill
def dmaSrcLen (d : DmaDesc) : Nat := dmaExtent d.count d.ss (2 ^ d.ws)
def dmaDstLen (d : DmaDesc) : Nat := dmaExtent d.count d.sd (2 ^ d.wd)

/-- Source and destination extents overlap, at their homes. -/
def dmaOverlap (i : Tender) (d : DmaDesc) : Bool :=
  let a := home i d.src
  let b := home i d.dst
  dmaSrcMem d && !d.dstPort && decide (a < b + dmaDstLen d ∧ b < a + dmaSrcLen d)

/-- The traps on a descriptor's contents (R60, R351). DEDUCED: an extent's alignment is that of its elements. -/
def dmaChecks (s : State) (i : Tender) (w : Word) (d : DmaDesc) (b : List Byte) : List TrapReq :=
  (if dmaSrcMem d then s.blockChecks i .load (BitVec.ofNat 64 d.src) (dmaSrcLen d) (2 ^ d.ws) else []) ++
    (if d.dstPort then [] else s.blockChecks i .store (BitVec.ofNat 64 d.dst) (dmaDstLen d) (2 ^ d.wd)) ++
    [trapIf (!dmaForm d b || dmaOverlap i d) Cause.sysArg w,
     trapIf (!(s.t i).prv && (d.srcPort || d.dstPort)) Cause.scope (BitVec.ofNat 64 (if d.srcPort then d.src else d.dst))]

/-- The traps of DMOV before any descriptor is read: ABORT and PACED at HOST, the channel operand, a channel outside the binding. -/
def dmovChecks (s : State) (i : Tender) (code : Nat) (rd ra rb : Fin 32) (fn : BitVec 10) : List TrapReq :=
  let w := encA 0x46 rd ra rb fn
  let c := s.g i rb
  let prv := (s.t i).prv
  [trapIf (decide (code = 1 ∧ ra ≠ 0)) Cause.illegal w,
   trapIf (decide (2 ≤ code) && !prv) Cause.priv w,
   trapIf (decide (fn.toNat ≠ code ∨ 32 ≤ c.toNat)) Cause.sysArg w,
   trapIf (!prv && !(decide (c.toNat < 32) && bitOf (((s.progOf i).map (·.dma)).getD 0) c.toNat)) Cause.scope c]

/-- The channel of g[rb]. -/
def dmovChan (s : State) (i : Tender) (rb : Fin 32) : Fin 32 := Fin.ofNat 32 (s.g i rb).toNat

/-- START and PACED: the descriptor is queued, or the queue is full. The checks on operands that name no address are taken with those on the
descriptor, the lowest code first (04 R62). -/
def dmovQueue (s : State) (i : Tender) (code : Nat) (rd ra rb : Fin 32) (fn : BitVec 10) : State :=
  s.instr i (fun s =>
    let w := encA 0x46 rd ra rb fn
    let ops := s.dmovChecks i code rd ra rb fn
    let early := ops.filter (fun t => match t with | some (c, _) => decide (c < Cause.sysArg) | none => false)
    let desc := dmaParse i (decide (code = 3))
    s.blockInstr i (s.g i ra) 64 64 early (fun s b => ops ++ s.dmaChecks i w (desc b) b) (fun s b =>
      if code = 3 ∧ s.f F.DMA_CTL_mode = 0 then s.result i rd (statusWord St.refused 0 0)
      else if 16 ≤ (s.dch (s.dmovChan i rb)).queue.length then s.result i rd (statusWord St.full 0 0)
      else
        let (q, s') := s.dmaQueue (s.dmovChan i rb) (desc b)
        s'.result i rd (statusWord St.accepted 0 q)))

/-! ### DGST, SIGN, VRFY (R79, R80) -/

/-- The tender waits until its own request completes. -/
def secQueue (s : State) (i : Tender) (rd : Fin 32) (k : SecKind) : State :=
  let s := s.updT i (fun x => { x with run := .waitSec })
  { s with sec := { s.sec with queue := s.sec.queue ++ [⟨i, rd, k⟩] } }

/-- The traps of the three before the request block is read. -/
def secFirst (major : Nat) (rd ra rb : Fin 32) (fn : BitVec 10) : List TrapReq :=
  [trapIf (decide (rb ≠ 0)) Cause.illegal (encA major rd ra rb fn)]

/-- A keeper address held in a request block. -/
def addrAt (b : List Byte) (off : Nat) : Word := BitVec.ofNat 64 (numAt b off 8)

/-- A context is used unless the hash begins and ends in this request. -/
def dgstCtx (fl : Nat) : Bool := !(bitOf fl 0 && bitOf fl 1)

/-- The traps on the contents of a DGST request. -/
def dgstChecks (s : State) (i : Tender) (w : Word) (fn : BitVec 10) (b : List Byte) : List TrapReq :=
  let len := numAt b 8 8
  let fl := numAt b 0x20 8
  let bad := decide (fn ≠ 0 ∨ 0x1000000 < len ∨ 4 ≤ fl) || !zeros (cut b 0x28 24) || (dgstCtx fl && decide (numAt b 0x10 8 = 0))
  trapIf bad Cause.sysArg w ::
    (s.blockChecks i .load (addrAt b 0) len 1 ++
      (if dgstCtx fl ∧ ¬ bitOf fl 0 then s.blockChecks i .load (addrAt b 0x10) 256 64 else []) ++
      (if dgstCtx fl ∧ ¬ bitOf fl 1 then s.blockChecks i .store (addrAt b 0x10) 256 64 else []) ++
      (if bitOf fl 1 then s.blockChecks i .store (addrAt b 0x18) 48 1 else []))

/-- The traps on the contents of a SIGN request. -/
def signChecks (s : State) (i : Tender) (w : Word) (fn : BitVec 10) (b : List Byte) : List TrapReq :=
  [trapIf (decide (fn ≠ 0 ∨ 16 ≤ numAt b 8 8) || !zeros (cut b 0x18 40)) Cause.sysArg w] ++
    s.blockChecks i .load (addrAt b 0) 48 1 ++ s.blockChecks i .store (addrAt b 0x10) 96 1

/-- The traps on the contents of a VRFY request. -/
def vrfyChecks (s : State) (i : Tender) (w : Word) (fn : BitVec 10) (b : List Byte) : List TrapReq :=
  let key := numAt b 8 8
  [trapIf (decide (fn ≠ 0 ∨ (2 ^ 63 ≤ key ∧ 16 ≤ key - 2 ^ 63)) || !zeros (cut b 0x18 40)) Cause.sysArg w] ++
    s.blockChecks i .load (addrAt b 0) 48 1 ++
    (if 2 ^ 63 ≤ key then [] else s.blockChecks i .load (addrAt b 8) 97 1) ++ s.blockChecks i .load (addrAt b 0x10) 96 1

/-- A hash in progress as a context holds it. DESIGN CHOICE: the eight words of the hash value, 8 bytes each; the length taken so far, 8 bytes; the
bytes not yet taken as a whole block, 128 bytes; zero. -/
def ctxBytes (h : List Nat) (len : Nat) (rest : List Byte) : List Byte :=
  let r := rest ++ List.replicate (128 - rest.length) 0
  h.flatMap (fun w => leBytes w 8) ++ leBytes len 8 ++ r ++ List.replicate 56 0

/-- The data of a request taken into a hash: hash value, length, and bytes left over. -/
def ctxTake (h : List Nat) (len : Nat) (rest data : List Byte) : List Nat × Nat × List Byte :=
  let m := rest ++ data
  let k := m.length / 128
  (Sha.blocks k h m, len + data.length, m.drop (128 * k))

/-- A hash ended: the padded rest taken, the 48-byte digest. -/
def ctxDigest (h : List Nat) (len : Nat) (rest : List Byte) : List Byte :=
  let m := rest ++ Sha.padding len
  ((Sha.blocks (m.length / 128) h m).take 6).flatMap (fun w => beBytes w 8)

/-- The context bytes read back. -/
def ctxParse (b : List Byte) : List Nat × Nat × List Byte :=
  let len := numAt b 64 8
  ((List.range 8).map (fun k => numAt b (8 * k) 8), len, cut b 72 (len % 128))

/-- The extents that a request reads. -/
def secReads (k : SecKind) : List (Nat × Nat) :=
  match k with
  | .dgst src len ctx _ init _ => (src, len) :: (if init then [] else [(ctx, 256)])
  | .sign digest _ _ => [(digest, 48)]
  | .vrfy digest slotKey key sig => (digest, 48) :: (sig, 96) :: (if slotKey then [] else [(key, 97)])

/-- A request served: the status and what it stores (R79, R80). -/
def secServe (s : State) (i : Tender) (k : SecKind) : Nat × State :=
  match k with
  | .dgst src len ctx dst init final =>
    let (h0, l0, r0) := if init then (Sha.init, 0, []) else ctxParse (s.rdAt i ctx 256)
    let (h, l, r) := ctxTake h0 l0 r0 (s.rdAt i src len)
    (St.ok, if final then s.stAt i dst (ctxDigest h l r) else s.stAt i ctx (ctxBytes h l r))
  | .sign digest key dst =>
    if s.keyHeld key then (St.ok, s.stAt i dst (P384.sign (s.privKey key) (s.rdAt i digest 48))) else (St.badKey, s)
  | .vrfy digest slotKey key sig =>
    let q := if slotKey then (if s.keyHeld key then P384.decode (s.pubKey key) else none) else P384.decode (s.rdAt i key 97)
    match q with
    | none => (St.badKey, s)
    | some q => (if P384.verify q (s.rdAt i digest 48) (s.rdAt i sig 96) then St.ok else St.invalid, s)

/-- An extent that a served request reads lies on a channel held for a relock. -/
def extentHeld (s : State) (i : Tender) (x : Nat × Nat) : Bool := decide (s.loadState (home i x.1) x.2 = .held)

/-- The security block completes the request at the head of its queue. Data that cannot be read ends the instruction with MEMECC (03 R46) and
is recorded (17 R344). -/
def secDone (s : State) : State :=
  match s.sec.queue with
  | [] => s
  | q :: r =>
    let i := q.tender
    let reads := secReads q.kind
    if s.clk.held ∨ reads.any (s.extentHeld i) then s
    else
      let s : State := { s with sec := { s.sec with queue := r } }
      let s := s.updT i (fun x => { x with run := .running })
      match reads.find? (fun x => decide (x.2 ≠ 0) && !s.readable i x.1 x.2) with
      | some x => (s.blockMeets 1 (home i x.1) x.2).trap i Cause.memEcc (BitVec.ofNat 64 x.1)
      | none =>
        let (st, s) := s.secServe i q.kind
        (s.result i q.rd (statusWord st 0 0)).resumed i

/-! ### LOGW (R81) -/

/-- One snapshot specifier: a literal, or a register to sample. -/
structure Spec where
  lit : Bool
  addr : Nat
  val : Word
  mbz : Bool
  deriving DecidableEq, Repr

/-- The specifiers of a request. -/
def logwSpecs (b : List Byte) (n : Nat) : List Spec :=
  (List.range n).map (fun k =>
    let w := numAt b (8 + 16 * k) 8
    ⟨bitOf w 63, bits w 0 48, BitVec.ofNat 64 (numAt b (16 + 16 * k) 8), decide (bits w 48 15 = 0)⟩)

/-- The traps on a specifier: a register address is checked as a load, of 8 bytes where it is aligned so and else of 4; DESIGN CHOICE: an address outside
register space is SYSARG. -/
def specChecks (s : State) (i : Tender) (w : Word) (p : Spec) : List TrapReq :=
  trapIf (!p.mbz) Cause.sysArg w ::
    (if p.lit then []
     else
       let ea := BitVec.ofNat 64 p.addr
       if ¬ isRegSpace p.addr then [regionCheck ea, trapIf true Cause.sysArg w]
       else s.memChecks i .load ea (if p.addr % 8 = 0 then 8 else 4) ++ [trapIf (eaReg ea).isNone Cause.regUnassigned ea])

/-- The word of a specifier; a register is sampled without clearing anything. -/
def specWord (s : State) (i : Tender) (p : Spec) : Word :=
  if p.lit then p.val
  else match eaReg (BitVec.ofNat 64 p.addr) with
    | none => 0
    | some l =>
      let v := (s.regValue (8 + i.val) l).toNat
      if p.addr % 8 = 0 then BitVec.ofNat 64 v else BitVec.ofNat 64 (bits v 32 32)

/-- The record of a LOGW: the keeper sets trigger[15] and the owner flag for one written at HOST (15 R300, R301). -/
def logwDraft (s : State) (i : Tender) (b : List Byte) (ps : List Spec) : LogDraft :=
  let prv := (s.t i).prv
  let trig := numAt b 0 2
  ⟨if prv then trig else trig ||| 0x8000, bits (numAt b 2 2) 0 12 + (if prv then 0 else 0x1000), i.val,
    litMask (ps.map (fun p => (p.val, p.lit))), s.pclkTime, ps.map (s.specWord i)⟩

/-- The record enters the ring, or the tender waits for room (15 R307). -/
def logwWrite (s : State) (i : Tender) (rd : Fin 32) (d : LogDraft) : State :=
  match s.logTender d with
  | some (q, s') => s'.result i rd (BitVec.ofNat 64 q)
  | none =>
    let s := s.updT i (fun x => { x with run := .waitLog, logWait := some ⟨some rd, d.trigger, d.source, d.lit, d.time, d.snap⟩ })
    { s with log := { s.log with waiters := s.log.waiters ++ [LogWaiter.logw i.val] } }

/-! ### SEND (R82, R83) -/

/-- The traps on a SEND request. -/
def sendChecks (s : State) (i : Tender) (w : Word) (fn : BitVec 10) (b : List Byte) : List TrapReq :=
  let x := numAt b 0 1
  let kind := numAt b 1 1
  let len := numAt b 2 2
  let prv := (s.t i).prv
  let bad := decide (fn ≠ 0 ∨ 2 < kind ∨ 8192 < len ∨ (kind ≠ 2 ∧ 7 < x)) || !zeros (cut b 4 4) || !zeros (cut b 0x18 8)
  [trapIf (decide (kind = 0 ∨ kind = 2) && !prv) Cause.priv w, trapIf bad Cause.sysArg w,
   trapIf (!bad && decide (kind = 1) && !prv && !bitOf (((s.progOf i).map (·.sessions)).getD 0) x) Cause.scope (BitVec.ofNat 64 x)] ++
    s.blockChecks i .load (addrAt b 0x10) len 1

/-- A command of a session that is not yet completed. -/
def cmdOpen (s : State) (x : Sess) (num : Nat) : Bool :=
  match s.cmdOf x num with
  | some c => decide (c.phase ≠ .completed ∧ c.phase ≠ .reported)
  | none => false

/-- SEND once its checks have passed: the status and the frame. DEDUCED: a COMPLETE of a program carries status OK. -/
def sendGo (s : State) (kind : Nat) (x : Sess) (num : Nat) (body : List Byte) : Nat × State :=
  if ¬ s.control then (St.notControl, s)
  else if kind = 2 then (St.ok, s.noticeSent body)
  else if ¬ (s.ses x).isOpen ∨ ¬ s.cmdOpen x num then (St.noTarget, s)
  else if 64 ≤ (s.ses x).unacked.length then (St.full, s)
  else (St.ok, if kind = 0 then s.kcpDone x num St.ok body else s.respond x num body)

/-- SEND: its kind stands in the request. -/
def sendInstr (s : State) (i : Tender) (rd ra rb : Fin 32) (fn : BitVec 10) : State :=
  s.instr i (fun s =>
    let w := encA 0x4C rd ra rb fn
    s.blockInstr i (s.g i ra) 32 8 [trapIf (decide (rb ≠ 0)) Cause.illegal w] (fun s b => s.sendChecks i w fn b) (fun s b =>
      let go := fun (body : List Byte) (s : State) =>
        let (st, s) := s.sendGo (numAt b 1 1) (Fin.ofNat 8 (numAt b 0 1)) (numAt b 8 8) body
        s.result i rd (statusWord st 0 0)
      if numAt b 2 2 = 0 then go [] s else s.readMem i (addrAt b 0x10) (numAt b 2 2) .clean go))

end State

/-- DMOV_START (R77): Queues a DMA descriptor on a channel. -/
def execDmovStart (i : Tender) (rd ra rb : Fin 32) (fn : BitVec 10) (s : State) : Host.Outcome State Fault Refusal :=
  done (s.dmovQueue i 0 rd ra rb fn)

/-- DMOV_QUERY (R77): Returns a channel's queue depth and last completed sequence. -/
def execDmovQuery (i : Tender) (rd ra rb : Fin 32) (fn : BitVec 10) (s : State) : Host.Outcome State Fault Refusal :=
  done (s.instr i (fun s => s.guarded i (s.dmovChecks i 1 rd ra rb fn) (fun s =>
    let c := s.dmovChan i rb
    s.result i rd (statusWord St.ok 0 ((s.dch c).queue.length + place (s.f F.DMA_CH_STAT_done_seq c.val) 16 32)))))

/-- DMOV_ABORT (R77): Ends a channel's running and queued transfers as aborted. -/
def execDmovAbort (i : Tender) (rd ra rb : Fin 32) (fn : BitVec 10) (s : State) : Host.Outcome State Fault Refusal :=
  done (s.instr i (fun s => s.guarded i (s.dmovChecks i 2 rd ra rb fn) (fun s =>
    let (k, s') := s.dmaAbort (s.dmovChan i rb)
    s'.result i rd (statusWord St.ok 0 k))))

/-- DMOV_PACED (R77): Queues a descriptor for an event-paced start. -/
def execDmovPaced (i : Tender) (rd ra rb : Fin 32) (fn : BitVec 10) (s : State) : Host.Outcome State Fault Refusal :=
  done (s.dmovQueue i 3 rd ra rb fn)

/-- PLMB_ISSUE (R78): Queues a Plumb op and returns a ticket. -/
def execPlmbIssue (i : Tender) (rd ra rb : Fin 32) (fn : BitVec 10) (s : State) : Host.Outcome State Fault Refusal :=
  done (s.instr i (fun s =>
    let w := encA 0x47 rd ra rb fn
    let gb := (s.g i rb).toNat
    let dir : Option (Fin 8) := if bitOf gb 3 then some (Fin.ofNat 8 (bits gb 0 3)) else none
    let prv := (s.t i).prv
    s.blockInstr i (s.g i ra) 64 64 [trapIf (dir.isSome && !prv) Cause.priv w] (fun _ _ => [trapIf (decide (fn ≠ 0)) Cause.sysArg w])
      (fun s b =>
        let (st, s) := s.plbIssue i prv b dir
        s.result i rd st)))

/-- PLMB_QUERY (R78): Returns the state of a Plumb op by ticket. -/
def execPlmbQuery (i : Tender) (rd ra rb : Fin 32) (fn : BitVec 10) (s : State) : Host.Outcome State Fault Refusal :=
  done (s.instr i (fun s =>
    let w := encA 0x47 rd ra rb fn
    s.guarded i [trapIf (decide (ra ≠ 0)) Cause.illegal w, trapIf (decide (fn.toNat ≠ 1)) Cause.sysArg w] (fun s =>
      s.result i rd (match s.plbQuery (s.g i rb).toNat with
        | some d => statusWord St.ok d 0
        | none => statusWord St.empty 0 0))))

/-- DGST (R79): Submits a SHA-384 digest request to the security block. -/
def execDgst (i : Tender) (rd ra rb : Fin 32) (fn : BitVec 10) (s : State) : Host.Outcome State Fault Refusal :=
  done (s.instr i (fun s =>
    let w := encA 0x48 rd ra rb fn
    s.blockInstr i (s.g i ra) 64 64 (secFirst 0x48 rd ra rb fn) (fun s b => s.dgstChecks i w fn b) (fun s b =>
      let fl := numAt b 0x20 8
      s.secQueue i rd (.dgst (numAt b 0 8) (numAt b 8 8) (numAt b 0x10 8) (numAt b 0x18 8) (bitOf fl 0) (bitOf fl 1)))))

/-- SIGN (R79): Submits an ECDSA P-384 signing request under a keeper key. -/
def execSign (i : Tender) (rd ra rb : Fin 32) (fn : BitVec 10) (s : State) : Host.Outcome State Fault Refusal :=
  done (s.instr i (fun s =>
    let w := encA 0x49 rd ra rb fn
    s.blockInstr i (s.g i ra) 64 64 (trapIf (!(s.t i).prv) Cause.priv w :: secFirst 0x49 rd ra rb fn) (fun s b => s.signChecks i w fn b)
      (fun s b => s.secQueue i rd (.sign (numAt b 0 8) (numAt b 8 8) (numAt b 0x10 8)))))

/-- VRFY (R79): Submits an ECDSA P-384 verification request. -/
def execVrfy (i : Tender) (rd ra rb : Fin 32) (fn : BitVec 10) (s : State) : Host.Outcome State Fault Refusal :=
  done (s.instr i (fun s =>
    let w := encA 0x4A rd ra rb fn
    s.blockInstr i (s.g i ra) 64 64 (secFirst 0x4A rd ra rb fn) (fun s b => s.vrfyChecks i w fn b) (fun s b =>
      let key := numAt b 8 8
      s.secQueue i rd (.vrfy (numAt b 0 8) (decide (2 ^ 63 ≤ key)) (key % 2 ^ 63) (numAt b 0x10 8)))))

/-- SEC_REQUEST_DONE (R79): A queued digest, signature or verification completes and the issuing tender resumes. -/
def execSecRequestDone (s : State) : Host.Outcome State Fault Refusal := done s.secDone

/-- LOGW (R81): Writes a logbook record with its snapshot into the retained ring. DESIGN CHOICE: with n above 12 the request block is still checked,
as one of 12 specifiers, so that a lower-coded trap of the block comes before SYSARG. -/
def execLogw (i : Tender) (rd ra rb : Fin 32) (fn : BitVec 10) (s : State) : Host.Outcome State Fault Refusal :=
  done (s.instr i (fun s =>
    let w := encA 0x4B rd ra rb fn
    let n := min (bits fn.toNat 0 4) 12
    let bad := decide (bits fn.toNat 4 6 ≠ 0 ∨ 12 < bits fn.toNat 0 4)
    s.blockInstr i (s.g i ra) (8 + 16 * n) 8 [trapIf (decide (rb ≠ 0)) Cause.illegal w]
      (fun s b => trapIf (bad || !zeros (cut b 4 4)) Cause.sysArg w :: (logwSpecs b n).flatMap (s.specChecks i w))
      (fun s b => s.logwWrite i rd (s.logwDraft i b (logwSpecs b n)))))

/-- SEND_COMPLETE (R82): Queues a COMPLETE frame ending a session command. -/
def execSendComplete (i : Tender) (rd ra rb : Fin 32) (fn : BitVec 10) (s : State) : Host.Outcome State Fault Refusal :=
  done (s.sendInstr i rd ra rb fn)

/-- SEND_RESPONSE (R82): Queues a RESPONSE frame for a session command. -/
def execSendResponse (i : Tender) (rd ra rb : Fin 32) (fn : BitVec 10) (s : State) : Host.Outcome State Fault Refusal :=
  done (s.sendInstr i rd ra rb fn)

/-- SEND_NOTICE (R82): Sends a signed pod notice to subscribed keepers. -/
def execSendNotice (i : Tender) (rd ra rb : Fin 32) (fn : BitVec 10) (s : State) : Host.Outcome State Fault Refusal :=
  done (s.sendInstr i rd ra rb fn)

end Sys2Proof.Machine
end

