-- ==== Sys2Proof/Machine/ScfRows.lean ====
section
/-! DEFINITION. The meanings of the commands of Scarf (11 R211 to R238). -/

namespace Sys2Proof.Machine
open State

/-- A Buoy's boundary tag of a step: STEP_BOUNDARY of its slot (05), the digest key's drain (07 R139), the arrangement (08 R158), sightings
(09 R180) and Scarf (R213). -/
def State.boundaryTag (s : State) (n : Slot) (step : Nat) : State :=
  let s := s.raiseSlot n Ev.stepBoundary 0 (BitVec.ofNat 64 step)
  let s : State := { s with plb := { s.plb with boundary := s.plb.boundary.set n (some step) } }
  ((s.trsBoundary step).sightBoundary n step).scfBoundary n step

/-- Whether a frame answers a FETCH of this keeper. -/
def isAnswer (h : ReplHdr) : Bool := bitOf h.flags 0

/-- A segment comes from the Buoy itself, not over the pair link. -/
def isRawSeg (m : SegMsg) : Bool := match m with | .raw _ _ _ _ _ => true | .forwarded _ _ => false

/-- The counterpart is declared lost; a restore or rollback that loads from it ends without a reply (R232, R236). -/
def State.buddyGone (s : State) : State :=
  let was := s.buddyUp
  let r := s.buddyLost
  let fromPeer := (r.scf.load.map (fun l => l.items.any (fun it => it.cands.any (fun c => decide (r.candAssoc c = some 0))))).getD false
  if was ∧ ¬ r.buddyUp ∧ fromPeer then r.loadEnd Res.noReply else r

/-- A replication frame is taken where its header holds; else it is dropped and counted: one of a reserved kind too, which comes in the row of any kind
(R228, R229). -/
def State.replRow (s : State) (h : ReplHdr) (kind len : Nat) (f : State → State) : State :=
  let s := if h.assoc = 5 then s.pairHeard 3 (64 + len) else s
  if s.replGood h kind len then f s else s.foreign

/-- STEP_BOUNDARY (R213): A Buoy's boundary tag arrives and Scarf takes or skips the boundary. -/
def execStepBoundary (n : Slot) (step : Nat) (s : State) : Host.Outcome State Fault Refusal :=
  live s (fun s => if s.heardOf n then ((s.slotTold n 0 0).forward n [4, step]).boundaryTag n step else s)

/-- SHARD_ANNOUNCE (R212): A Buoy announces its shard size, checked against the budget. -/
def execShardAnnounce (n : Slot) (refused : Bool) (raw count : Nat) (s : State) : Host.Outcome State Fault Refusal :=
  live s (fun s => if s.heardOf n then ((s.slotTold n 0 0).forward n [5, b2n refused, raw, count]).shardAnnounce n refused raw count else s)

/-- SEGMENT (R215): A shard segment arrives and is digested, coded and written. -/
def execScfSegment (n : Slot) (msg : SegMsg) (s : State) : Host.Outcome State Fault Refusal :=
  live s (fun s => if isRawSeg msg && !s.linkUp n then s
    else (match msg with | .raw _ _ _ data _ => s.slotHeard n 2 data.length | .forwarded _ b => s.pairHeard 3 b.length).segmentIn n msg)

/-- SEGMENT_DURABLE (R215): A segment's write completes and its digests agree, making it durable. -/
def execSegmentDurable (n : Slot) (index : Nat) (agree : Bool) (s : State) : Host.Outcome State Fault Refusal :=
  live s (fun s => s.segmentDurable n index agree)

/-- HELLO (R232): A counterpart's HELLO opens or resumes replication. -/
def execHello (h : ReplHdr) (s : State) : Host.Outcome State Fault Refusal :=
  live s (fun s => s.replRow h Rk.hello 32 (fun s => s.helloIn h))

/-- SEG_HEAD (R230): A segment record precedes replicated segment data. -/
def execSegHead (h : ReplHdr) (data : List Byte) (s : State) : Host.Outcome State Fault Refusal :=
  live s (fun s => s.replRow h Rk.segHead data.length (fun s => if isAnswer h then s.fetchedHead h else s.segHead h data))

/-- SEG_DATA (R230): A fragment of a replicated segment is stored and checked when whole. -/
def execSegData (h : ReplHdr) (data : List Byte) (s : State) : Host.Outcome State Fault Refusal :=
  live s (fun s => s.replRow h Rk.segData data.length (fun s => if isAnswer h then s.fetchedData h data else s.segData h data))

/-- SEG_REF (R231): A segment is copied from the committed buddy image instead of sent. -/
def execSegRef (h : ReplHdr) (data : List Byte) (s : State) : Host.Outcome State Fault Refusal :=
  live s (fun s => s.replRow h Rk.segRef data.length (fun s => s.segRef h data))

/-- SEG_ACK (R230): The counterpart acknowledges a durable replicated segment. -/
def execSegAck (h : ReplHdr) (s : State) : Host.Outcome State Fault Refusal :=
  live s (fun s => s.replRow h Rk.segAck 0 (fun s => s.segAck h))

/-- SEG_NAK (R230): The counterpart asks for a segment to be sent again. -/
def execSegNak (h : ReplHdr) (s : State) : Host.Outcome State Fault Refusal :=
  live s (fun s => s.replRow h Rk.segNak 0 (fun s => s.segNak h))

/-- PREPARE (R230): A manifest fragment arrives and is verified when whole. -/
def execPrepare (h : ReplHdr) (data : List Byte) (s : State) : Host.Outcome State Fault Refusal :=
  live s (fun s => s.replRow h Rk.prepare data.length (fun s => if isAnswer h then s.fetchedManifest h data else s.prepareIn h data))

/-- PREPARED (R223): The counterpart acknowledges the whole manifest; commit follows if the peer is ready. -/
def execPrepared (h : ReplHdr) (s : State) : Host.Outcome State Fault Refusal :=
  live s (fun s => s.replRow h Rk.prepared 0 (fun s => s.preparedIn h))

/-- COMMIT (R230): The receiver swaps its buddy commit word and answers COMMITTED. -/
def execScfCommitFrame (h : ReplHdr) (s : State) : Host.Outcome State Fault Refusal :=
  live s (fun s => s.replRow h Rk.commit 0 (fun s => s.commitIn h))

/-- COMMITTED (R223): The counterpart confirms the commit and the image returns to IDLE. -/
def execCommitted (h : ReplHdr) (s : State) : Host.Outcome State Fault Refusal :=
  live s (fun s => s.replRow h Rk.committed 0 (fun s => s.committedIn h))

/-- ABORT (R229): The receiver discards the receiving or prepared image. -/
def execScfAbort (h : ReplHdr) (s : State) : Host.Outcome State Fault Refusal :=
  live s (fun s => s.replRow h Rk.abort 0 (fun s => s.abortIn h))

/-- FETCH (R229): A request for manifests or segments, answered from held images. -/
def execScfFetch (h : ReplHdr) (data : List Byte) (s : State) : Host.Outcome State Fault Refusal :=
  live s (fun s => s.replRow h Rk.fetch data.length (fun s => s.fetchIn h data))

/-- KEEPALIVE (R229): A keepalive frame is received, keeping the counterpart alive. -/
def execKeepalive (h : ReplHdr) (s : State) : Host.Outcome State Fault Refusal :=
  live s (fun s => s.replRow h Rk.keepalive 0 (fun s => s.keepaliveIn h))

/-- KEEPALIVE_TIMER (R229): 1 ms passes with no frame sent and a KEEPALIVE is sent. -/
def execKeepaliveTimer (s : State) : Host.Outcome State Fault Refusal :=
  live s (fun s => s.keepaliveTimer)

/-- SEG_INCOMPLETE_TIMER (R230): A segment stays incomplete for nak_ms and SEG_NAK reason 1 is sent. -/
def execSegIncompleteTimer (s : State) : Host.Outcome State Fault Refusal :=
  live s (fun s => s.segIncomplete)

/-- SEG_RESEND_TIMER (R230): No answer within rto_ms and the segment is resent. -/
def execSegResendTimer (s : State) : Host.Outcome State Fault Refusal :=
  live s (fun s => s.segResend)

/-- SCF_BUDDY_LOST (R232): No frame for lost_ms and the counterpart is declared lost. -/
def execScfBuddyLost (s : State) : Host.Outcome State Fault Refusal :=
  live s (fun s => s.buddyGone)

/-- HELLO_RETRY (R232): Every 10 ms a HELLO is resent to a lost counterpart. -/
def execHelloRetry (s : State) : Host.Outcome State Fault Refusal :=
  live s (fun s => s.helloRetry)

/-- PEER_PREPARED (R223): The other keeper of the pair reports PREPARED and the controller may commit. -/
def execPeerPrepared (step : Nat) (s : State) : Host.Outcome State Fault Refusal :=
  live s (fun s => (s.pairHeard 1 8).peerPrepared step)

/-- RELIEF_WAIT_EXPIRED (R223): relief_wait_ms passes in PREPARED and the controller commits alone. -/
def execReliefWaitExpired (s : State) : Host.Outcome State Fault Refusal :=
  live s (fun s => s.reliefWaitOver)

/-- MIRRORED_COMMIT (R223): The follower receives the mirrored commit and commits or discards its image. -/
def execMirroredCommit (step : Nat) (s : State) : Host.Outcome State Fault Refusal :=
  live s (fun s => (s.pairHeard 1 8).mirroredCommit step)

/-- SCF_DISCARD (R226): A store to SCF_CTL.discard discards the image in progress. -/
def execScfDiscard (t : Tender) (value : Word) (s : State) : Host.Outcome State Fault Refusal :=
  done (s.storeRow t F.SCF_CTL_hold.base 8 value)

/-- SCF_FULL (R231): A store to SCF_CTL.full makes the next image replicate in full. -/
def execScfFull (t : Tender) (value : Word) (s : State) : Host.Outcome State Fault Refusal :=
  done (s.storeRow t F.SCF_CTL_hold.base 8 value)

/-- SCF_HOLD_CLEAR (R225): Clearing SCF_CTL.hold lets a HELD image continue from READY. -/
def execScfHoldClear (t : Tender) (value : Word) (s : State) : Host.Outcome State Fault Refusal :=
  done (s.storeRow t F.SCF_CTL_hold.base 8 value)

/-- RST_PLAN (R237): A store to SCF_RST_CTL.plan opens associations and plans a restore. -/
def execRstPlan (t : Tender) (value : Word) (s : State) : Host.Outcome State Fault Refusal :=
  done (s.storeRow t F.SCF_RST_CTL_plan.base 8 value)

/-- RST_CANCEL (R237): A store to SCF_RST_CTL.cancel drops the plan. -/
def execRstCancel (t : Tender) (value : Word) (s : State) : Host.Outcome State Fault Refusal :=
  done (s.storeRow t F.SCF_RST_CTL_plan.base 8 value)

/-- SHARD_LOAD_ACK (R234): A Buoy acknowledges loaded segments; when all ack the load action ends. -/
def execShardLoadAck (n : Slot) (s : State) : Host.Outcome State Fault Refusal :=
  live s (fun s => if s.linkUp n then (s.slotHeard n 0 0).loadAck n else s)

/-- RESTORE_ASSOC_IDLE (R236): A restore association sees no frame for 10 s and ends. -/
def execRestoreAssocIdle (s : State) : Host.Outcome State Fault Refusal :=
  live s (fun s => s.assocIdle)

end Sys2Proof.Machine
end

