-- ==== Sys2Proof/Machine/TenderAlu.lean ====
section
/-! DEFINITION. The meanings of the core instructions that compute, branch and jump (03 R37, R40 to R44). -/

namespace Sys2Proof.Machine
open State

/-- An instruction whose result goes to rd, or that is ILLEGAL where there is none (R40). -/
def resultOrIllegal (i : Tender) (rd : Fin 32) (word : Word) (v : Option Word) (s : State) : State :=
  match v with
  | none => s.trap i Cause.illegal word
  | some v => s.result i rd v

/-- A conditional branch: the target is checked under R37 when the branch is taken. -/
def branchIf (i : Tender) (c : Bool) (off : BitVec 15) (s : State) : State :=
  if c then
    let t := s.branchTarget i off
    s.guarded i [s.fetchCheck i t] (fun s => s.retireTo i (t.truncate 48))
  else s.retire i

/-- A jump that links: the target is checked under R37, rd takes pc + 4. -/
def jumpTo (i : Tender) (rd : Fin 32) (t : Word) (s : State) : State :=
  s.guarded i [s.fetchCheck i t] (fun s => (s.setG i rd (s.pcWord i + 4)).retireTo i (t.truncate 48))

/-- ALU (R42): Register-register operation selected by fn on g[ra] and g[rb], result written to rd. -/
def execAlu (i : Tender) (rd ra rb : Fin 32) (fn : BitVec 10) (s : State) : Host.Outcome State Fault Refusal :=
  done (s.instr i (fun s => resultOrIllegal i rd (encA 0x01 rd ra rb fn) (aluOp fn.toNat rb (s.g i ra) (s.g i rb)) s))

/-- ADDI (R41): Adds the sign-extended 15-bit immediate to g[ra]. -/
def execAddi (i : Tender) (rd ra : Fin 32) (imm : BitVec 15) (s : State) : Host.Outcome State Fault Refusal :=
  done (s.instr i (fun s => s.result i rd (s.g i ra + sext15 imm)))

/-- ANDI (R41): ANDs g[ra] with the zero-extended immediate. -/
def execAndi (i : Tender) (rd ra : Fin 32) (imm : BitVec 15) (s : State) : Host.Outcome State Fault Refusal :=
  done (s.instr i (fun s => s.result i rd (s.g i ra &&& zext15 imm)))

/-- ORI (R41): ORs g[ra] with the zero-extended immediate. -/
def execOri (i : Tender) (rd ra : Fin 32) (imm : BitVec 15) (s : State) : Host.Outcome State Fault Refusal :=
  done (s.instr i (fun s => s.result i rd (s.g i ra ||| zext15 imm)))

/-- XORI (R41): XORs g[ra] with the zero-extended immediate. -/
def execXori (i : Tender) (rd ra : Fin 32) (imm : BitVec 15) (s : State) : Host.Outcome State Fault Refusal :=
  done (s.instr i (fun s => s.result i rd (s.g i ra ^^^ zext15 imm)))

/-- SLTI (R41): Sets rd to 1 if g[ra] is less than the sign-extended immediate, signed. -/
def execSlti (i : Tender) (rd ra : Fin 32) (imm : BitVec 15) (s : State) : Host.Outcome State Fault Refusal :=
  done (s.instr i (fun s => s.result i rd (boolWord ((s.g i ra).slt (sext15 imm)))))

/-- SLTIU (R41): Sets rd to 1 if g[ra] is less than the sign-extended immediate, unsigned. -/
def execSltiu (i : Tender) (rd ra : Fin 32) (imm : BitVec 15) (s : State) : Host.Outcome State Fault Refusal :=
  done (s.instr i (fun s => s.result i rd (boolWord ((s.g i ra).ult (sext15 imm)))))

/-- SHI (R43): Shifts or rotates g[ra] by an immediate amount. -/
def execShi (i : Tender) (rd ra : Fin 32) (imm : BitVec 15) (s : State) : Host.Outcome State Fault Refusal :=
  done (s.instr i (fun s => resultOrIllegal i rd (encI 0x08 rd ra imm) ((shiForm imm).map (fun x => shiOp x.1 x.2 (s.g i ra))) s))

/-- EXTU (R43): Extracts a bit field of g[ra], zero-extended. -/
def execExtu (i : Tender) (rd ra : Fin 32) (imm : BitVec 15) (s : State) : Host.Outcome State Fault Refusal :=
  done (s.instr i (fun s => resultOrIllegal i rd (encI 0x09 rd ra imm) ((fieldForm imm).map (fun x => extuOp x.1 x.2 (s.g i ra))) s))

/-- EXTS (R43): Extracts a bit field of g[ra], sign-extended. -/
def execExts (i : Tender) (rd ra : Fin 32) (imm : BitVec 15) (s : State) : Host.Outcome State Fault Refusal :=
  done (s.instr i (fun s => resultOrIllegal i rd (encI 0x0A rd ra imm) ((fieldForm imm).map (fun x => extsOp x.1 x.2 (s.g i ra))) s))

/-- INS (R43): Inserts the low bits of g[ra] into a bit field of rd. -/
def execIns (i : Tender) (rd ra : Fin 32) (imm : BitVec 15) (s : State) : Host.Outcome State Fault Refusal :=
  done (s.instr i (fun s => resultOrIllegal i rd (encI 0x0B rd ra imm)
    ((fieldForm imm).map (fun x => insOp x.1 x.2 (s.g i rd) (s.g i ra))) s))

/-- LUI (R44): Loads a sign-extended upper immediate into bits [31:12]. -/
def execLui (i : Tender) (rd : Fin 32) (imm : BitVec 20) (s : State) : Host.Outcome State Fault Refusal :=
  done (s.instr i (fun s => s.result i rd (upper20 imm)))

/-- LUH (R44): Replaces bits [63:32] of rd with the sign-extended immediate. -/
def execLuh (i : Tender) (rd : Fin 32) (imm : BitVec 20) (s : State) : Host.Outcome State Fault Refusal :=
  done (s.instr i (fun s => s.result i rd ((sext20 imm <<< 32) ||| ((s.g i rd).truncate 32).zeroExtend 64)))

/-- AUIPC (R44): Adds an upper immediate to pc. -/
def execAuipc (i : Tender) (rd : Fin 32) (imm : BitVec 20) (s : State) : Host.Outcome State Fault Refusal :=
  done (s.instr i (fun s => s.result i rd (s.pcWord i + upper20 imm)))

/-- BEQ (R41): Branches if equal. -/
def execBeq (i : Tender) (ra rb : Fin 32) (off : BitVec 15) (s : State) : Host.Outcome State Fault Refusal :=
  done (s.instr i (fun s => branchIf i (decide (s.g i ra = s.g i rb)) off s))

/-- BNE (R41): Branches if not equal. -/
def execBne (i : Tender) (ra rb : Fin 32) (off : BitVec 15) (s : State) : Host.Outcome State Fault Refusal :=
  done (s.instr i (fun s => branchIf i (decide (s.g i ra ≠ s.g i rb)) off s))

/-- BLT (R41): Branches if less, signed. -/
def execBlt (i : Tender) (ra rb : Fin 32) (off : BitVec 15) (s : State) : Host.Outcome State Fault Refusal :=
  done (s.instr i (fun s => branchIf i ((s.g i ra).slt (s.g i rb)) off s))

/-- BGE (R41): Branches if greater or equal, signed. -/
def execBge (i : Tender) (ra rb : Fin 32) (off : BitVec 15) (s : State) : Host.Outcome State Fault Refusal :=
  done (s.instr i (fun s => branchIf i (!(s.g i ra).slt (s.g i rb)) off s))

/-- BLTU (R41): Branches if less, unsigned. -/
def execBltu (i : Tender) (ra rb : Fin 32) (off : BitVec 15) (s : State) : Host.Outcome State Fault Refusal :=
  done (s.instr i (fun s => branchIf i ((s.g i ra).ult (s.g i rb)) off s))

/-- BGEU (R41): Branches if greater or equal, unsigned. -/
def execBgeu (i : Tender) (ra rb : Fin 32) (off : BitVec 15) (s : State) : Host.Outcome State Fault Refusal :=
  done (s.instr i (fun s => branchIf i (!(s.g i ra).ult (s.g i rb)) off s))

/-- JAL (R41): Jumps pc-relative and links. -/
def execJal (i : Tender) (rd : Fin 32) (off : BitVec 20) (s : State) : Host.Outcome State Fault Refusal :=
  done (s.instr i (fun s => jumpTo i rd (s.jumpTarget i off) s))

/-- JALR (R41): Jumps to register plus offset and links. -/
def execJalr (i : Tender) (rd ra : Fin 32) (imm : BitVec 15) (s : State) : Host.Outcome State Fault Refusal :=
  done (s.instr i (fun s => jumpTo i rd (s.jalrTarget i ra imm) s))

end Sys2Proof.Machine
end

