-- ==== Sys2Proof/Machine/Dispatch.lean ====
section
/-! DEFINITION. The dispatch of the commands: one arm for each constructor of `Instr`, each a direct call of that command's
meaning. -/

namespace Sys2Proof.Machine

/-- The effect of one command on everything but the queue. -/
def exec (i : Instr) (s : State) : Host.Outcome State Fault Refusal :=
  match i with
  | .alu t rd ra rb fn => Sys2Proof.Machine.execAlu t rd ra rb fn s
  | .addi t rd ra imm => Sys2Proof.Machine.execAddi t rd ra imm s
  | .andi t rd ra imm => Sys2Proof.Machine.execAndi t rd ra imm s
  | .ori t rd ra imm => Sys2Proof.Machine.execOri t rd ra imm s
  | .xori t rd ra imm => Sys2Proof.Machine.execXori t rd ra imm s
  | .slti t rd ra imm => Sys2Proof.Machine.execSlti t rd ra imm s
  | .sltiu t rd ra imm => Sys2Proof.Machine.execSltiu t rd ra imm s
  | .shi t rd ra imm => Sys2Proof.Machine.execShi t rd ra imm s
  | .extu t rd ra imm => Sys2Proof.Machine.execExtu t rd ra imm s
  | .exts t rd ra imm => Sys2Proof.Machine.execExts t rd ra imm s
  | .ins t rd ra imm => Sys2Proof.Machine.execIns t rd ra imm s
  | .lui t rd imm => Sys2Proof.Machine.execLui t rd imm s
  | .luh t rd imm => Sys2Proof.Machine.execLuh t rd imm s
  | .auipc t rd imm => Sys2Proof.Machine.execAuipc t rd imm s
  | .ldb t rd ra imm ecc => Sys2Proof.Machine.execLdb t rd ra imm ecc s
  | .ldh t rd ra imm ecc => Sys2Proof.Machine.execLdh t rd ra imm ecc s
  | .ldw t rd ra imm ecc => Sys2Proof.Machine.execLdw t rd ra imm ecc s
  | .ldd t rd ra imm ecc => Sys2Proof.Machine.execLdd t rd ra imm ecc s
  | .ldbu t rd ra imm ecc => Sys2Proof.Machine.execLdbu t rd ra imm ecc s
  | .ldhu t rd ra imm ecc => Sys2Proof.Machine.execLdhu t rd ra imm ecc s
  | .ldwu t rd ra imm ecc => Sys2Proof.Machine.execLdwu t rd ra imm ecc s
  | .ldp t rd ra imm ecc => Sys2Proof.Machine.execLdp t rd ra imm ecc s
  | .stb t rt ra imm => Sys2Proof.Machine.execStb t rt ra imm s
  | .sth t rt ra imm => Sys2Proof.Machine.execSth t rt ra imm s
  | .stw t rt ra imm => Sys2Proof.Machine.execStw t rt ra imm s
  | .std t rt ra imm => Sys2Proof.Machine.execStd t rt ra imm s
  | .stp t rt ra imm => Sys2Proof.Machine.execStp t rt ra imm s
  | .amo t rd ra rb fn ecc => Sys2Proof.Machine.execAmo t rd ra rb fn ecc s
  | .fence t rd ra imm => Sys2Proof.Machine.execFence t rd ra imm s
  | .beq t ra rb off => Sys2Proof.Machine.execBeq t ra rb off s
  | .bne t ra rb off => Sys2Proof.Machine.execBne t ra rb off s
  | .blt t ra rb off => Sys2Proof.Machine.execBlt t ra rb off s
  | .bge t ra rb off => Sys2Proof.Machine.execBge t ra rb off s
  | .bltu t ra rb off => Sys2Proof.Machine.execBltu t ra rb off s
  | .bgeu t ra rb off => Sys2Proof.Machine.execBgeu t ra rb off s
  | .jal t rd off => Sys2Proof.Machine.execJal t rd off s
  | .jalr t rd ra imm => Sys2Proof.Machine.execJalr t rd ra imm s
  | .tsr t rd ra imm => Sys2Proof.Machine.execTsr t rd ra imm s
  | .tsw t rd ra imm => Sys2Proof.Machine.execTsw t rd ra imm s
  | .tret t rd ra rb fn => Sys2Proof.Machine.execTret t rd ra rb fn s
  | .brk t rd ra imm => Sys2Proof.Machine.execBrk t rd ra imm s
  | .trapi t rd ra imm => Sys2Proof.Machine.execTrapi t rd ra imm s
  | .bustimeout t major rd ra imm => Sys2Proof.Machine.execBustimeout t major rd ra imm s
  | .watchdog t => Sys2Proof.Machine.execWatchdog t s
  | .postedStoreFail t addr => Sys2Proof.Machine.execPostedStoreFail t addr s
  | .waitEv t rd ra rb fn => Sys2Proof.Machine.execWaitEv t rd ra rb fn s
  | .peek t rd ra rb fn => Sys2Proof.Machine.execPeek t rd ra rb fn s
  | .waitTimeout t => Sys2Proof.Machine.execWaitTimeout t s
  | .eventEnqueue t => Sys2Proof.Machine.execEventEnqueue t s
  | .raise t rd ra rb fn => Sys2Proof.Machine.execRaise t rd ra rb fn s
  | .raiseDirect t rd ra rb fn => Sys2Proof.Machine.execRaiseDirect t rd ra rb fn s
  | .stg t rd ra rb fn => Sys2Proof.Machine.execStg t rd ra rb fn s
  | .pegCommit t rd ra rb fn => Sys2Proof.Machine.execPegCommit t rd ra rb fn s
  | .pegDiscard t rd ra rb fn => Sys2Proof.Machine.execPegDiscard t rd ra rb fn s
  | .pegCount t rd ra rb fn => Sys2Proof.Machine.execPegCount t rd ra rb fn s
  | .moorRead t rd ra rb fn levels => Sys2Proof.Machine.execMoorRead t rd ra rb fn levels s
  | .moorPhase t rd ra rb fn => Sys2Proof.Machine.execMoorPhase t rd ra rb fn s
  | .moorShift t rd ra rb fn sampled => Sys2Proof.Machine.execMoorShift t rd ra rb fn sampled s
  | .ledgLookup t rd ra rb fn => Sys2Proof.Machine.execLedgLookup t rd ra rb fn s
  | .ledgOldest t rd ra rb fn => Sys2Proof.Machine.execLedgOldest t rd ra rb fn s
  | .ledgCount t rd ra rb fn => Sys2Proof.Machine.execLedgCount t rd ra rb fn s
  | .ledgNextout t rd ra rb fn => Sys2Proof.Machine.execLedgNextout t rd ra rb fn s
  | .ledgSnapshot t rd ra rb fn => Sys2Proof.Machine.execLedgSnapshot t rd ra rb fn s
  | .dmovStart t rd ra rb fn => Sys2Proof.Machine.execDmovStart t rd ra rb fn s
  | .dmovQuery t rd ra rb fn => Sys2Proof.Machine.execDmovQuery t rd ra rb fn s
  | .dmovAbort t rd ra rb fn => Sys2Proof.Machine.execDmovAbort t rd ra rb fn s
  | .dmovPaced t rd ra rb fn => Sys2Proof.Machine.execDmovPaced t rd ra rb fn s
  | .plmbIssue t rd ra rb fn => Sys2Proof.Machine.execPlmbIssue t rd ra rb fn s
  | .plmbQuery t rd ra rb fn => Sys2Proof.Machine.execPlmbQuery t rd ra rb fn s
  | .dgst t rd ra rb fn => Sys2Proof.Machine.execDgst t rd ra rb fn s
  | .sign t rd ra rb fn => Sys2Proof.Machine.execSign t rd ra rb fn s
  | .vrfy t rd ra rb fn => Sys2Proof.Machine.execVrfy t rd ra rb fn s
  | .secRequestDone => Sys2Proof.Machine.execSecRequestDone s
  | .logw t rd ra rb fn => Sys2Proof.Machine.execLogw t rd ra rb fn s
  | .sendComplete t rd ra rb fn => Sys2Proof.Machine.execSendComplete t rd ra rb fn s
  | .sendResponse t rd ra rb fn => Sys2Proof.Machine.execSendResponse t rd ra rb fn s
  | .sendNotice t rd ra rb fn => Sys2Proof.Machine.execSendNotice t rd ra rb fn s
  | .rsetCore t rd ra rb fn => Sys2Proof.Machine.execRsetCore t rd ra rb fn s
  | .rsetLinks t rd ra rb fn => Sys2Proof.Machine.execRsetLinks t rd ra rb fn s
  | .rsetMemory t rd ra rb fn => Sys2Proof.Machine.execRsetMemory t rd ra rb fn s
  | .rsetWarm t rd ra rb fn => Sys2Proof.Machine.execRsetWarm t rd ra rb fn s
  | .rsetCold t rd ra rb fn => Sys2Proof.Machine.execRsetCold t rd ra rb fn s
  | .rsetHold t rd ra rb fn => Sys2Proof.Machine.execRsetHold t rd ra rb fn s
  | .rsetRelease t rd ra rb fn => Sys2Proof.Machine.execRsetRelease t rd ra rb fn s
  | .pwrOn t rd ra rb fn => Sys2Proof.Machine.execPwrOn t rd ra rb fn s
  | .pwrOff t rd ra rb fn => Sys2Proof.Machine.execPwrOff t rd ra rb fn s
  | .pwrCycle t rd ra rb fn => Sys2Proof.Machine.execPwrCycle t rd ra rb fn s
  | .pwrCap t rd ra rb fn => Sys2Proof.Machine.execPwrCap t rd ra rb fn s
  | .fencFence t rd ra rb fn => Sys2Proof.Machine.execFencFence t rd ra rb fn s
  | .fencUnfence t rd ra rb fn => Sys2Proof.Machine.execFencUnfence t rd ra rb fn s
  | .ocltStop t rd ra rb fn => Sys2Proof.Machine.execOcltStop t rd ra rb fn s
  | .ocltAt t rd ra rb fn => Sys2Proof.Machine.execOcltAt t rd ra rb fn s
  | .ocltCancel t rd ra rb fn => Sys2Proof.Machine.execOcltCancel t rd ra rb fn s
  | .ocltRelease t rd ra rb fn => Sys2Proof.Machine.execOcltRelease t rd ra rb fn s
  | .rollRollback t rd ra rb fn => Sys2Proof.Machine.execRollRollback t rd ra rb fn s
  | .rollRestore t rd ra rb fn => Sys2Proof.Machine.execRollRestore t rd ra rb fn s
  | .quarLink t rd ra rb fn => Sys2Proof.Machine.execQuarLink t rd ra rb fn s
  | .quarSlot t rd ra rb fn => Sys2Proof.Machine.execQuarSlot t rd ra rb fn s
  | .quarRelease t rd ra rb fn => Sys2Proof.Machine.execQuarRelease t rd ra rb fn s
  | .actionDone n ticket ok => Sys2Proof.Machine.execActionDone n ticket ok s
  | .actionReadyTimeout n => Sys2Proof.Machine.execActionReadyTimeout n s
  | .coldHoldExpired n => Sys2Proof.Machine.execColdHoldExpired n s
  | .pwrCycleOffExpired n => Sys2Proof.Machine.execPwrCycleOffExpired n s
  | .pwrOffDone n => Sys2Proof.Machine.execPwrOffDone n s
  | .kcpArm x seq cls slots ms => Sys2Proof.Machine.execKcpArm x seq cls slots ms s
  | .kcpRenew x seq token ms => Sys2Proof.Machine.execKcpRenew x seq token ms s
  | .kcpDisarm x seq byToken key => Sys2Proof.Machine.execKcpDisarm x seq byToken key s
  | .grant t value => Sys2Proof.Machine.execGrant t value s
  | .grantRenew t value => Sys2Proof.Machine.execGrantRenew t value s
  | .grantRemove t value => Sys2Proof.Machine.execGrantRemove t value s
  | .armExpired e => Sys2Proof.Machine.execArmExpired e s
  | .kcpLoad x seq kind off total data => Sys2Proof.Machine.execKcpLoad x seq kind off total data s
  | .kcpUnbind x seq pid => Sys2Proof.Machine.execKcpUnbind x seq pid s
  | .bindingTakesEffect t => Sys2Proof.Machine.execBindingTakesEffect t s
  | .handlerBudgetExpired t => Sys2Proof.Machine.execHandlerBudgetExpired t s
  | .plbEnvSample temps volts => Sys2Proof.Machine.execPlbEnvSample temps volts s
  | .tileSettled k => Sys2Proof.Machine.execTileSettled k s
  | .plbTileDisable t value => Sys2Proof.Machine.execPlbTileDisable t value s
  | .plbOpDequeue k => Sys2Proof.Machine.execPlbOpDequeue k s
  | .plbOpComplete k wrong ecc => Sys2Proof.Machine.execPlbOpComplete k wrong ecc s
  | .plbResHeadWrite t value => Sys2Proof.Machine.execPlbResHeadWrite t value s
  | .plbSample n msg => Sys2Proof.Machine.execPlbSample n msg s
  | .plbCredit n pages => Sys2Proof.Machine.execPlbCredit n pages s
  | .keyDrainDone => Sys2Proof.Machine.execKeyDrainDone s
  | .canaryGateTimeout k => Sys2Proof.Machine.execCanaryGateTimeout k s
  | .plbCanary n ticket digest => Sys2Proof.Machine.execPlbCanary n ticket digest s
  | .trsLoad t value => Sys2Proof.Machine.execTrsLoad t value s
  | .trsBind t value => Sys2Proof.Machine.execTrsBind t value s
  | .trsUnbind t value => Sys2Proof.Machine.execTrsUnbind t value s
  | .scheduleAck n gen => Sys2Proof.Machine.execScheduleAck n gen s
  | .ledgerBegin n engine ctx cseq time core kind tclass => Sys2Proof.Machine.execLedgerBegin n engine ctx cseq time core kind tclass s
  | .ledgerEnd n engine ctx cseq time core status => Sys2Proof.Machine.execLedgerEnd n engine ctx cseq time core status s
  | .ledgerTimeout n engine idx => Sys2Proof.Machine.execLedgerTimeout n engine idx s
  | .trcTrig t n value => Sys2Proof.Machine.execTrcTrig t n value s
  | .traceAnchorTick => Sys2Proof.Machine.execTraceAnchorTick s
  | .traceRoomReturn n => Sys2Proof.Machine.execTraceRoomReturn n s
  | .trcReserveDrained n => Sys2Proof.Machine.execTrcReserveDrained n s
  | .trcRearm t n value => Sys2Proof.Machine.execTrcRearm t n value s
  | .trcStreamEnable t n value => Sys2Proof.Machine.execTrcStreamEnable t n value s
  | .trcMark m n value => Sys2Proof.Machine.execTrcMark m n value s
  | .trcHeadWrite t n value => Sys2Proof.Machine.execTrcHeadWrite t n value s
  | .lensCredit k => Sys2Proof.Machine.execLensCredit k s
  | .lensDown => Sys2Proof.Machine.execLensDown s
  | .sightAnnounce k n bytes => Sys2Proof.Machine.execSightAnnounce k n bytes s
  | .sight k n data => Sys2Proof.Machine.execSight k n data s
  | .counterSampleTick => Sys2Proof.Machine.execCounterSampleTick s
  | .counters n samples => Sys2Proof.Machine.execCounters n samples s
  | .heartbeatEdge n => Sys2Proof.Machine.execHeartbeatEdge n s
  | .heartbeatLost n => Sys2Proof.Machine.execHeartbeatLost n s
  | .chipDown n => Sys2Proof.Machine.execChipDown n s
  | .alarmWire n fwdDiscards => Sys2Proof.Machine.execAlarmWire n fwdDiscards s
  | .stopAck n tick => Sys2Proof.Machine.execStopAck n tick s
  | .stopAckTimeout ticket => Sys2Proof.Machine.execStopAckTimeout ticket s
  | .ocltAtFire => Sys2Proof.Machine.execOcltAtFire s
  | .stopAt n => Sys2Proof.Machine.execStopAt n s
  | .occDumpStart t value => Sys2Proof.Machine.execOccDumpStart t value s
  | .occDumpAbort t value => Sys2Proof.Machine.execOccDumpAbort t value s
  | .unitData n ok data => Sys2Proof.Machine.execUnitData n ok data s
  | .dumpReadTimeout => Sys2Proof.Machine.execDumpReadTimeout s
  | .stepBoundary n step => Sys2Proof.Machine.execStepBoundary n step s
  | .shardAnnounce n refused raw count => Sys2Proof.Machine.execShardAnnounce n refused raw count s
  | .scfSegment n msg => Sys2Proof.Machine.execScfSegment n msg s
  | .segmentDurable n index agree => Sys2Proof.Machine.execSegmentDurable n index agree s
  | .hello h => Sys2Proof.Machine.execHello h s
  | .segHead h data => Sys2Proof.Machine.execSegHead h data s
  | .segData h data => Sys2Proof.Machine.execSegData h data s
  | .segRef h data => Sys2Proof.Machine.execSegRef h data s
  | .segAck h => Sys2Proof.Machine.execSegAck h s
  | .segNak h => Sys2Proof.Machine.execSegNak h s
  | .prepare h data => Sys2Proof.Machine.execPrepare h data s
  | .prepared h => Sys2Proof.Machine.execPrepared h s
  | .scfCommitFrame h => Sys2Proof.Machine.execScfCommitFrame h s
  | .committed h => Sys2Proof.Machine.execCommitted h s
  | .scfAbort h => Sys2Proof.Machine.execScfAbort h s
  | .scfFetch h data => Sys2Proof.Machine.execScfFetch h data s
  | .keepalive h => Sys2Proof.Machine.execKeepalive h s
  | .keepaliveTimer => Sys2Proof.Machine.execKeepaliveTimer s
  | .segIncompleteTimer => Sys2Proof.Machine.execSegIncompleteTimer s
  | .segResendTimer => Sys2Proof.Machine.execSegResendTimer s
  | .scfBuddyLost => Sys2Proof.Machine.execScfBuddyLost s
  | .helloRetry => Sys2Proof.Machine.execHelloRetry s
  | .peerPrepared step => Sys2Proof.Machine.execPeerPrepared step s
  | .reliefWaitExpired => Sys2Proof.Machine.execReliefWaitExpired s
  | .mirroredCommit step => Sys2Proof.Machine.execMirroredCommit step s
  | .scfDiscard t value => Sys2Proof.Machine.execScfDiscard t value s
  | .scfFull t value => Sys2Proof.Machine.execScfFull t value s
  | .scfHoldClear t value => Sys2Proof.Machine.execScfHoldClear t value s
  | .rstPlan t value => Sys2Proof.Machine.execRstPlan t value s
  | .rstCancel t value => Sys2Proof.Machine.execRstCancel t value s
  | .shardLoadAck n => Sys2Proof.Machine.execShardLoadAck n s
  | .restoreAssocIdle => Sys2Proof.Machine.execRestoreAssocIdle s
  | .w0Mark => Sys2Proof.Machine.execW0Mark s
  | .calEcho n a => Sys2Proof.Machine.execCalEcho n a s
  | .calPeriod => Sys2Proof.Machine.execCalPeriod s
  | .bcnCalNow t value => Sys2Proof.Machine.execBcnCalNow t value s
  | .beaconTieWaitExpired => Sys2Proof.Machine.execBeaconTieWaitExpired s
  | .healthWordSend failing => Sys2Proof.Machine.execHealthWordSend failing s
  | .healthWord t1 e2 e3 seq state thermal => Sys2Proof.Machine.execHealthWord t1 e2 e3 seq state thermal s
  | .ptpSync d source seq corr t1 logInt => Sys2Proof.Machine.execPtpSync d source seq corr t1 logInt s
  | .ptpFollowUp d source seq corr t1 => Sys2Proof.Machine.execPtpFollowUp d source seq corr t1 s
  | .ptpAnnounce d source gm rank => Sys2Proof.Machine.execPtpAnnounce d source gm rank s
  | .ptpDelayReq d => Sys2Proof.Machine.execPtpDelayReq d s
  | .ptpDelayResp d source seq corr t4 => Sys2Proof.Machine.execPtpDelayResp d source seq corr t4 s
  | .ptpSyncLoss d => Sys2Proof.Machine.execPtpSyncLoss d s
  | .ptpRevert => Sys2Proof.Machine.execPtpRevert s
  | .ppsOutEdge => Sys2Proof.Machine.execPpsOutEdge s
  | .ppsInEdge => Sys2Proof.Machine.execPpsInEdge s
  | .ppsInLost => Sys2Proof.Machine.execPpsInLost s
  | .ptpTsqTagRead t rd => Sys2Proof.Machine.execPtpTsqTagRead t rd s
  | .strapSample pullUp levels => Sys2Proof.Machine.execStrapSample pullUp levels s
  | .strapPhaseEnd => Sys2Proof.Machine.execStrapPhaseEnd s
  | .staggerStep => Sys2Proof.Machine.execStaggerStep s
  | .pwrGoodRise n => Sys2Proof.Machine.execPwrGoodRise n s
  | .pwrGoodTimeout n => Sys2Proof.Machine.execPwrGoodTimeout n s
  | .refclkEnableStep n => Sys2Proof.Machine.execRefclkEnableStep n s
  | .resetReleaseStep n => Sys2Proof.Machine.execResetReleaseStep n s
  | .runEntry n => Sys2Proof.Machine.execRunEntry n s
  | .powerFault n pgFell => Sys2Proof.Machine.execPowerFault n pgFell s
  | .pmbusPoll n reading => Sys2Proof.Machine.execPmbusPoll n reading s
  | .pmbusAlert n => Sys2Proof.Machine.execPmbusAlert n s
  | .avsStep mv answers => Sys2Proof.Machine.execAvsStep mv answers s
  | .morWireFault n w => Sys2Proof.Machine.execMorWireFault n w s
  | .w1StuckLow n peer => Sys2Proof.Machine.execW1StuckLow n peer s
  | .w1Unmask n => Sys2Proof.Machine.execW1Unmask n s
  | .w1ProxyRequest n low => Sys2Proof.Machine.execW1ProxyRequest n low s
  | .phasePulseRetry n => Sys2Proof.Machine.execPhasePulseRetry n s
  | .linkLock p lane => Sys2Proof.Machine.execLinkLock p lane s
  | .linkFrameError p f => Sys2Proof.Machine.execLinkFrameError p f s
  | .linkNak p ack => Sys2Proof.Machine.execLinkNak p ack s
  | .linkReplayTimeout p => Sys2Proof.Machine.execLinkReplayTimeout p s
  | .linkCredit p ack counts => Sys2Proof.Machine.execLinkCredit p ack counts s
  | .laneFail p lane => Sys2Proof.Machine.execLaneFail p lane s
  | .laneRestored p => Sys2Proof.Machine.execLaneRestored p s
  | .linkDown p => Sys2Proof.Machine.execLinkDown p s
  | .buoyIdent p id => Sys2Proof.Machine.execBuoyIdent p id s
  | .buoyNote n ref step time kind data => Sys2Proof.Machine.execBuoyNote n ref step time kind data s
  | .blkWinRead t rd p => Sys2Proof.Machine.execBlkWinRead t rd p s
  | .blkWinWrite t p value => Sys2Proof.Machine.execBlkWinWrite t p value s
  | .winReply p data => Sys2Proof.Machine.execWinReply p data s
  | .winReplyTimeout p => Sys2Proof.Machine.execWinReplyTimeout p s
  | .blkRetrain t p value => Sys2Proof.Machine.execBlkRetrain t p value s
  | .pairLiveLost => Sys2Proof.Machine.execPairLiveLost s
  | .healthSilence => Sys2Proof.Machine.execHealthSilence s
  | .takeover => Sys2Proof.Machine.execTakeover s
  | .mirrorItem m => Sys2Proof.Machine.execMirrorItem m s
  | .mirrorAck => Sys2Proof.Machine.execMirrorAck s
  | .mirrorLag => Sys2Proof.Machine.execMirrorLag s
  | .followerDetach => Sys2Proof.Machine.execFollowerDetach s
  | .peerHealthy => Sys2Proof.Machine.execPeerHealthy s
  | .roleRequest => Sys2Proof.Machine.execRoleRequest s
  | .takeback => Sys2Proof.Machine.execTakeback s
  | .parYield t value => Sys2Proof.Machine.execParYield t value s
  | .parResync t value => Sys2Proof.Machine.execParResync t value s
  | .aloneWaitExpired => Sys2Proof.Machine.execAloneWaitExpired s
  | .splitResolve peerLast peerNext => Sys2Proof.Machine.execSplitResolve peerLast peerNext s
  | .pairLinkUp lanes => Sys2Proof.Machine.execPairLinkUp lanes s
  | .pairLinkDown => Sys2Proof.Machine.execPairLinkDown s
  | .emergencyEntry => Sys2Proof.Machine.execEmergencyEntry s
  | .kcpRestart x seq => Sys2Proof.Machine.execKcpRestart x seq s
  | .flashWrite x seq image off data => Sys2Proof.Machine.execFlashWrite x seq image off data s
  | .logMirrorWrite ok => Sys2Proof.Machine.execLogMirrorWrite ok s
  | .logWinRead t rd => Sys2Proof.Machine.execLogWinRead t rd s
  | .logFwinRead t rd => Sys2Proof.Machine.execLogFwinRead t rd s
  | .logSnapWrite t e value => Sys2Proof.Machine.execLogSnapWrite t e value s
  | .hourTick => Sys2Proof.Machine.execHourTick s
  | .kcpCustody x seq take => Sys2Proof.Machine.execKcpCustody x seq take s
  | .kcpFloor x seq f => Sys2Proof.Machine.execKcpFloor x seq f s
  | .kcpSeal x seq dumps => Sys2Proof.Machine.execKcpSeal x seq dumps s
  | .custodySealed => Sys2Proof.Machine.execCustodySealed s
  | .kcpRelease x seq => Sys2Proof.Machine.execKcpRelease x seq s
  | .kcpOpen k version body => Sys2Proof.Machine.execKcpOpen k version body s
  | .kcpAccept assoc a => Sys2Proof.Machine.execKcpAccept assoc a s
  | .kcpRefuse assoc reason => Sys2Proof.Machine.execKcpRefuse assoc reason s
  | .kcpAck x ack f => Sys2Proof.Machine.execKcpAck x ack f s
  | .kcpClose x seq => Sys2Proof.Machine.execKcpClose x seq s
  | .kcpInfo station => Sys2Proof.Machine.execKcpInfo station s
  | .sessionIdle x => Sys2Proof.Machine.execSessionIdle x s
  | .ackDelay x => Sys2Proof.Machine.execAckDelay x s
  | .kcpRetransmit x seq => Sys2Proof.Machine.execKcpRetransmit x seq s
  | .eventBatchExpired x => Sys2Proof.Machine.execEventBatchExpired x s
  | .kcpAttest x seq nonce => Sys2Proof.Machine.execKcpAttest x seq nonce s
  | .regRead x seq addrs => Sys2Proof.Machine.execRegRead x seq addrs s
  | .regWrite x seq pairs => Sys2Proof.Machine.execRegWrite x seq pairs s
  | .kcpPeg x seq op => Sys2Proof.Machine.execKcpPeg x seq op s
  | .readMem x seq addr len => Sys2Proof.Machine.execReadMem x seq addr len s
  | .kcpSubscribe x seq events slots owner time telemetry start => Sys2Proof.Machine.execKcpSubscribe x seq events slots owner time telemetry start s
  | .kcpAct x seq major fn ga gb => Sys2Proof.Machine.execKcpAct x seq major fn ga gb s
  | .bindJob x seq digest => Sys2Proof.Machine.execBindJob x seq digest s
  | .kcpBuddy x seq tray addrA addrB identA identB => Sys2Proof.Machine.execKcpBuddy x seq tray addrA addrB identA identB s
  | .noticeSub x seq addr identity => Sys2Proof.Machine.execNoticeSub x seq addr identity s
  | .kcpDebug x seq slot => Sys2Proof.Machine.execKcpDebug x seq slot s
  | .tenderReset x seq mask => Sys2Proof.Machine.execTenderReset x seq mask s
  | .macsecSa x seq channel tx an key salt ssci => Sys2Proof.Machine.execMacsecSa x seq channel tx an key salt ssci s
  | .ownerCommand x seq code body => Sys2Proof.Machine.execOwnerCommand x seq code body s
  | .noticeSubscribe n body => Sys2Proof.Machine.execNoticeSubscribe n body s
  | .noticeSubscribed n body => Sys2Proof.Machine.execNoticeSubscribed n body s
  | .noticeUnsubscribe f => Sys2Proof.Machine.execNoticeUnsubscribe f s
  | .podNoticeIn f => Sys2Proof.Machine.execPodNoticeIn f s
  | .noticeRepeat => Sys2Proof.Machine.execNoticeRepeat s
  | .ethDown lost => Sys2Proof.Machine.execEthDown lost s
  | .ethUp good => Sys2Proof.Machine.execEthUp good s
  | .macUpgrade t value => Sys2Proof.Machine.execMacUpgrade t value s
  | .moduleInt asserted => Sys2Proof.Machine.execModuleInt asserted s
  | .moduleMonitor => Sys2Proof.Machine.execModuleMonitor s
  | .gratuitousArpRepeat => Sys2Proof.Machine.execGratuitousArpRepeat s
  | .arpRequest v6 addr asker mac => Sys2Proof.Machine.execArpRequest v6 addr asker mac s
  | .phyLockLoss c => Sys2Proof.Machine.execPhyLockLoss c s
  | .phyRelock c => Sys2Proof.Machine.execPhyRelock c s
  | .relockTimeout c => Sys2Proof.Machine.execRelockTimeout c s
  | .redirectionReady => Sys2Proof.Machine.execRedirectionReady s
  | .patrolScrub a ecc => Sys2Proof.Machine.execPatrolScrub a ecc s
  | .dmaDone c b port => Sys2Proof.Machine.execDmaDone c b port s
  | .dmaPacedStart c => Sys2Proof.Machine.execDmaPacedStart c s
  | .dmaModeWrite t value => Sys2Proof.Machine.execDmaModeWrite t value s
  | .glbReset t value => Sys2Proof.Machine.execGlbReset t value s
  | .glbBlkrst t value => Sys2Proof.Machine.execGlbBlkrst t value s
  | .tndReset t value => Sys2Proof.Machine.execTndReset t value s
  | .secFloorRaise t value => Sys2Proof.Machine.execSecFloorRaise t value s
  | .secFloorClear t value => Sys2Proof.Machine.execSecFloorClear t value s
  | .thmSample temps => Sys2Proof.Machine.execThmSample temps s
  | .thermalShutdown => Sys2Proof.Machine.execThermalShutdown s
  | .registerWrite t off value wide => Sys2Proof.Machine.execRegisterWrite t off value wide s
  | .pwrokRise pins => Sys2Proof.Machine.execPwrokRise pins s
  | .internalResetRelease => Sys2Proof.Machine.execInternalResetRelease s
  | .tendersReleased pufOk => Sys2Proof.Machine.execTendersReleased pufOk s
  | .pwrokFall => Sys2Proof.Machine.execPwrokFall s
  | .warmResetPin => Sys2Proof.Machine.execWarmResetPin s
  | .warmResetRelease => Sys2Proof.Machine.execWarmResetRelease s
  | .refclkLoss => Sys2Proof.Machine.execRefclkLoss s
  | .refclkReturn => Sys2Proof.Machine.execRefclkReturn s
  | .pairLiveEdge => Sys2Proof.Machine.execPairLiveEdge s
  | .lensLinkUp => Sys2Proof.Machine.execLensLinkUp s
  | .modulePresenceChange present => Sys2Proof.Machine.execModulePresenceChange present s
  | .lpddrTrainingDone g failed => Sys2Proof.Machine.execLpddrTrainingDone g failed s
  | .bootFlashWriteDone => Sys2Proof.Machine.execBootFlashWriteDone s
  | .ledgerSnapshotPeriod => Sys2Proof.Machine.execLedgerSnapshotPeriod s
  | .kcpIdleAck x => Sys2Proof.Machine.execKcpIdleAck x s

end Sys2Proof.Machine
end

