-- ==== Sys2Proof/Machine/Tick.lean ====
section
/-! DEFINITION. One CCLK cycle in which no command is taken: what happens at a tick whatever is commanded (03 R48; 09 R176; 12 R241, R242; 14 R293;
18 R363). -/

namespace Sys2Proof.Machine
namespace State

/-- TS_CYCLE counts in every tender that is out of reset (03 R48). -/
def cycles (s : State) : State :=
  { s with tnd := s.tnd.map (fun x => if x.run = .inReset then x else { x with cycle := x.cycle + 1 }) }

/-- The beacon rises by one, in 64 bits (12 R241). -/
def count (s : State) : State := { s with beacon := (s.beacon + 1) % 2 ^ 64 }

/-- A follower's slots enter run phase once its start set, what the load cleared and its error are slewed away (12 R251). -/
def slewedIn (s : State) : State :=
  if s.bcn.starting then s
  else allSlots.foldl (fun s n => if (s.mo n).enterRun then s.runPhase n (s.beacon + 2 * tickUs) else s) s

/-- What the blocks do at a tick: the slew remainder, the trace staging buffers, a pending hand-over, a warm reset that waits for boot flash. -/
def blocksTick (s : State) : State :=
  let s := s.slewTick.ppsFalls.liveTick
  let s := if s.emergency ∨ s.clk.shutDown then s else s.pulsesTick.slewedIn.trcDrain
  s.yieldDue.warmDue

/-- One CCLK cycle. Without power nothing counts. Under internal reset the beacon alone counts, and at a power-on reset stands at zero
(19 R384); a release of the reset that waits for a PCLK edge comes with it (12 R390). -/
def tick (s : State) : State :=
  if ¬ s.clk.pwrok then s
  else if s.clk.held then
    if s.f F.GLB_CAUSE_cause = 0 then s
    else
      let s := s.count
      if s.clk.releasing ∧ s.beacon % 8 = 0 then s.released.settle else s
  else (s.count.cycleEnd.hardLoad.cycles.blocksTick).settle

end State
end Sys2Proof.Machine
end

