-- ==== Sys2Proof/WellFormed.lean ====
section
/-! DEFINITION. Well-formed commands: an instruction's selector is its row's, a store of a row carries the bits that make it that row, and a number
that a message carries fits its field. A command that is not well formed spells nothing that can arrive. -/

namespace Sys2Proof

/-- The numbers that stand before the body of a KCP frame fit their fields (16 R322, R323). -/
def KcpHead.fits (h : KcpHead) : Bool :=
  h.vid.all (fun v => decide (v < 4096)) && h.sec.all (fun t => decide (t.channel < 4 ∧ t.an < 4 ∧ t.pn < 2 ^ 64)) &&
    (match h.via with | .udp _ port => decide (port < 2 ^ 16) | .ether => true) && decide (h.version < 256 ∧ h.seq < 2 ^ 64 ∧ h.ack < 2 ^ 64)

/-- A command is well formed. -/
def Instr.wf (i : Instr) : Bool :=
  match i with
  | .bustimeout _ major _ _ _ => [0x12, 0x13, 0x16, 0x1A, 0x1B].contains major.toNat
  | .postedStoreFail _ addr => decide (0x100000000000 ≤ addr ∧ addr < 0x10F800000000)
  | .waitEv _ _ _ _ fn => decide (bits fn.toNat 0 10 = 0)
  | .peek _ _ _ _ fn => decide (bits fn.toNat 0 10 = 1)
  | .raise _ _ _ _ fn => decide (bits fn.toNat 9 1 = 0)
  | .raiseDirect _ _ _ _ fn => decide (bits fn.toNat 9 1 = 1)
  | .pegCommit _ _ _ _ fn => decide (bits fn.toNat 6 2 = 0)
  | .pegDiscard _ _ _ _ fn => decide (bits fn.toNat 6 2 = 1)
  | .pegCount _ _ _ _ fn => decide (bits fn.toNat 6 2 = 2)
  | .moorRead _ _ _ _ fn levels => decide (bits fn.toNat 0 4 = 0 ∧ levels < 16)
  | .moorPhase _ _ _ _ fn => decide (bits fn.toNat 0 4 = 1)
  | .moorShift _ _ _ _ fn _ => decide (bits fn.toNat 0 4 = 2)
  | .ledgLookup _ _ _ _ fn => decide (bits fn.toNat 0 3 = 0)
  | .ledgOldest _ _ _ _ fn => decide (bits fn.toNat 0 3 = 1)
  | .ledgCount _ _ _ _ fn => decide (bits fn.toNat 0 3 = 2)
  | .ledgNextout _ _ _ _ fn => decide (bits fn.toNat 0 3 = 3)
  | .ledgSnapshot _ _ _ _ fn => decide (bits fn.toNat 0 3 = 4)
  | .dmovStart _ _ _ _ fn => decide (bits fn.toNat 0 2 = 0)
  | .dmovQuery _ _ _ _ fn => decide (bits fn.toNat 0 2 = 1)
  | .dmovAbort _ _ _ _ fn => decide (bits fn.toNat 0 2 = 2)
  | .dmovPaced _ _ _ _ fn => decide (bits fn.toNat 0 2 = 3)
  | .plmbIssue _ _ _ _ fn => decide (bits fn.toNat 0 2 = 0)
  | .plmbQuery _ _ _ _ fn => decide (bits fn.toNat 0 2 = 1)
  | .rsetCore _ _ _ _ fn => decide (bits fn.toNat 0 4 = 0)
  | .rsetLinks _ _ _ _ fn => decide (bits fn.toNat 0 4 = 1)
  | .rsetMemory _ _ _ _ fn => decide (bits fn.toNat 0 4 = 2)
  | .rsetWarm _ _ _ _ fn => decide (bits fn.toNat 0 4 = 3)
  | .rsetCold _ _ _ _ fn => decide (bits fn.toNat 0 4 = 4)
  | .rsetHold _ _ _ _ fn => decide (bits fn.toNat 0 4 = 5)
  | .rsetRelease _ _ _ _ fn => decide (bits fn.toNat 0 4 = 6)
  | .pwrOn _ _ _ _ fn => decide (bits fn.toNat 0 4 = 0)
  | .pwrOff _ _ _ _ fn => decide (bits fn.toNat 0 4 = 1)
  | .pwrCycle _ _ _ _ fn => decide (bits fn.toNat 0 4 = 2)
  | .pwrCap _ _ _ _ fn => decide (bits fn.toNat 0 4 = 3)
  | .fencFence _ _ _ _ fn => decide (bits fn.toNat 0 4 = 0)
  | .fencUnfence _ _ _ _ fn => decide (bits fn.toNat 0 4 = 1)
  | .ocltStop _ _ _ _ fn => decide (bits fn.toNat 0 4 = 0)
  | .ocltAt _ _ _ _ fn => decide (bits fn.toNat 0 4 = 1)
  | .ocltCancel _ _ _ _ fn => decide (bits fn.toNat 0 4 = 2)
  | .ocltRelease _ _ _ _ fn => decide (bits fn.toNat 0 4 = 3)
  | .rollRollback _ _ _ _ fn => decide (bits fn.toNat 0 4 = 0)
  | .rollRestore _ _ _ _ fn => decide (bits fn.toNat 0 4 = 1)
  | .quarLink _ _ _ _ fn => decide (bits fn.toNat 0 4 = 0)
  | .quarSlot _ _ _ _ fn => decide (bits fn.toNat 0 4 = 1)
  | .quarRelease _ _ _ _ fn => decide (bits fn.toNat 0 4 = 2)
  | .actionDone _ ticket _ => decide (ticket < 2 ^ 48)
  | .kcpArm _ h cls slots ms => h.fits && decide (cls < 256 ∧ slots < 2 ^ 16 ∧ ms < 2 ^ 32)
  | .kcpRenew _ h token ms => h.fits && decide (token < 2 ^ 32 ∧ ms < 2 ^ 32)
  | .kcpDisarm _ h _ key => h.fits && decide (key < 2 ^ 32)
  | .grant _ value => decide (bits value.toNat 51 2 = 0)
  | .grantRenew _ value => decide (bits value.toNat 51 2 = 1)
  | .grantRemove _ value => decide (bits value.toNat 51 2 = 2)
  | .kcpLoad _ h _ off total data => h.fits && decide (off + data.length ≤ total ∧ total < 2 ^ 32)
  | .kcpUnbind _ h pid => h.fits && decide (pid < 2 ^ 64)
  | .plbCredit _ pages => decide (pages < 256)
  | .trsLoad _ value => bitOf value.toNat 0
  | .trsBind _ value => bitOf value.toNat 1
  | .trsUnbind _ value => bitOf value.toNat 2
  | .scheduleAck _ gen => decide (gen < 2 ^ 32)
  | .trcTrig _ _ value => bitOf value.toNat 3
  | .trcRearm _ _ value => bitOf value.toNat 7
  | .trcStreamEnable _ _ value => bitOf value.toNat 0
  | .counters _ samples => samples.all (fun c => decide (c.engine < 1024))
  | .alarmWire _ fwdDiscards => decide (fwdDiscards < 2 ^ 32)
  | .stopAck _ tick => decide (tick < 2 ^ 64)
  | .occDumpStart _ value => decide (bits value.toNat 0 16 ≠ 0)
  | .occDumpAbort _ value => decide (bits value.toNat 16 16 ≠ 0)
  | .stepBoundary _ step => decide (step < 2 ^ 64)
  | .shardAnnounce _ _ raw count => decide (raw < 2 ^ 48 ∧ count < 2 ^ 32)
  | .scfDiscard _ value => bitOf value.toNat 18
  | .scfFull _ value => bitOf value.toNat 19
  | .scfHoldClear _ value => !bitOf value.toNat 17
  | .rstPlan _ value => bitOf value.toNat 0
  | .rstCancel _ value => bitOf value.toNat 1
  | .calEcho _ a => decide (a < 2 ^ 64)
  | .bcnCalNow _ value => decide (bits value.toNat 16 16 ≠ 0)
  | .healthWord t1 e2 e3 seq state thermal => decide (t1 < 2 ^ 64 ∧ e2 < 2 ^ 32 ∧ e3 < 2 ^ 32 ∧ seq < 2 ^ 16 ∧ state < 256 ∧ thermal < 256)
  | .avsStep mv _ => decide (mv < 2 ^ 16)
  | .linkNak _ ack => decide (ack < 2 ^ 24)
  | .linkCredit _ ack _ => decide (ack < 2 ^ 24)
  | .buoyNote _ ref step time kind _ => decide (kind < 16 ∧ ref < 2 ^ 64 ∧ step < 2 ^ 64 ∧ time < 2 ^ 64)
  | .blkRetrain _ _ value => bitOf value.toNat 1
  | .parYield _ value => bitOf value.toNat 2
  | .parResync _ value => bitOf value.toNat 1
  | .pairLinkUp lanes => decide (lanes < 256)
  | .flashWrite _ h image off data => h.fits && decide (image < 2 ∧ off + data.length ≤ 0x100000 ∧ data.length ≤ 8192)
  | .kcpFloor _ h f => h.fits && decide (f < 2 ^ 64)
  | .kcpAck _ h _ | .kcpOpen _ h _ | .kcpClose _ h | .kcpInfo h | .kcpRestart _ h | .kcpCustody _ h _ | .kcpSeal _ h _ | .kcpRelease _ h => h.fits
  | .regRead _ h _ | .regWrite _ h _ => h.fits
  | .noticeSubscribe n _ | .noticeSubscribed n _ => n.head.fits && decide (n.addr < 2 ^ 128)
  | .noticeUnsubscribe f | .podNoticeIn f => f.head.fits
  | .kcpAttest _ h nonce => h.fits && decide (nonce.length = 32)
  | .kcpPeg _ h op => h.fits && decide (op < 256)
  | .readMem _ h addr len => h.fits && decide (addr < 2 ^ 64 ∧ len < 2 ^ 64)
  | .kcpSubscribe _ h events slots _ _ _ start => h.fits && decide (events < 2 ^ 1024 ∧ slots < 2 ^ 16 ∧ start < 2 ^ 64)
  | .kcpAct _ h major fn _ _ => h.fits && decide (major < 128 ∧ fn < 1024)
  | .bindJob _ h digest => h.fits && decide (digest.length = 48)
  | .kcpBuddy _ h tray addrA addrB _ _ => h.fits && decide (tray < 2 ^ 16 ∧ addrA < 2 ^ 128 ∧ addrB < 2 ^ 128)
  | .noticeSub _ h addr _ => h.fits && decide (addr < 2 ^ 128)
  | .kcpDebug _ h slot => h.fits && decide (slot < 256)
  | .tenderReset _ h mask => h.fits && decide (mask < 2 ^ 32)
  | .macsecSa _ h channel _ an _ _ ssci => h.fits && decide (channel < 256 ∧ an < 4 ∧ ssci < 2 ^ 32)
  | .ownerCommand _ h code _ => h.fits && decide (code < 2 ^ 16)
  | .ethDown lost => decide (lost < 256)
  | .ethUp good => decide (good < 256)
  | .macUpgrade _ value => bitOf value.toNat 3
  | .arpRequest _ addr _ mac => decide (addr < 2 ^ 128 ∧ mac < 2 ^ 48)
  | .patrolScrub a _ => decide (a < 2 ^ 48)
  | .glbReset _ value => decide (bits value.toNat 0 16 = 0x5753)
  | .glbBlkrst _ value => decide (bits value.toNat 16 16 = 0x4252)
  | .tndReset _ value => decide (bits value.toNat 0 24 ≠ 0)
  | .secFloorRaise _ value => bitOf value.toNat 0
  | .secFloorClear _ value => bitOf value.toNat 1
  | .registerWrite _ off _ wide => decide (off < 0x300000 ∧ off % (if wide then 8 else 4) = 0)
  | .lpddrTrainingDone _ failed => decide (failed < 256)
  | .alu .. | .addi .. | .andi .. | .ori .. | .xori .. | .slti .. | .sltiu .. | .shi .. | .extu .. | .exts .. | .ins .. | .lui ..
  | .luh .. | .auipc .. | .ldb .. | .ldh .. | .ldw .. | .ldd .. | .ldbu .. | .ldhu .. | .ldwu .. | .ldp .. | .stb .. | .sth ..
  | .stw .. | .std .. | .stp .. | .amo .. | .fence .. | .beq .. | .bne .. | .blt .. | .bge .. | .bltu .. | .bgeu .. | .jal ..
  | .jalr .. | .tsr .. | .tsw .. | .tret .. | .brk .. | .trapi .. | .watchdog .. | .waitTimeout .. | .eventEnqueue .. | .stg ..
  | .dgst .. | .sign .. | .vrfy .. | .secRequestDone | .logw .. | .sendComplete .. | .sendResponse .. | .sendNotice ..
  | .actionReadyTimeout .. | .coldHoldExpired .. | .pwrCycleOffExpired .. | .pwrOffDone .. | .armExpired .. | .bindingTakesEffect ..
  | .handlerBudgetExpired .. | .plbEnvSample .. | .tileSettled .. | .plbTileDisable .. | .plbOpDequeue .. | .plbOpComplete ..
  | .plbResHeadWrite .. | .plbSample .. | .keyDrainDone | .canaryGateTimeout .. | .plbCanary .. | .ledgerBegin .. | .ledgerEnd ..
  | .ledgerTimeout .. | .traceAnchorTick | .traceRoomReturn .. | .trcReserveDrained .. | .trcMark .. | .trcHeadWrite ..
  | .lensCredit .. | .lensDown | .sightAnnounce .. | .sight .. | .counterSampleTick | .heartbeatEdge .. | .heartbeatLost ..
  | .chipDown .. | .stopAckTimeout .. | .ocltAtFire | .stopAt .. | .unitData .. | .dumpReadTimeout | .scfSegment ..
  | .segmentDurable .. | .hello .. | .segHead .. | .segData .. | .segRef .. | .segAck .. | .segNak .. | .prepare .. | .prepared ..
  | .scfCommitFrame .. | .committed .. | .scfAbort .. | .scfFetch .. | .keepalive .. | .keepaliveTimer | .segIncompleteTimer
  | .segResendTimer | .scfBuddyLost | .helloRetry | .peerPrepared .. | .reliefWaitExpired | .mirroredCommit .. | .shardLoadAck ..
  | .restoreAssocIdle | .w0Mark | .calPeriod | .beaconTieWaitExpired | .healthWordSend .. | .ptpSync .. | .ptpFollowUp ..
  | .ptpAnnounce .. | .ptpDelayReq .. | .ptpDelayResp .. | .ptpSyncLoss .. | .ptpRevert | .ppsOutEdge | .ppsInEdge | .ppsInLost
  | .ptpTsqTagRead .. | .strapSample .. | .strapPhaseEnd | .staggerStep | .pwrGoodRise .. | .pwrGoodTimeout .. | .refclkEnableStep ..
  | .resetReleaseStep .. | .runEntry .. | .powerFault .. | .pmbusPoll .. | .pmbusAlert .. | .morWireFault .. | .w1StuckLow ..
  | .w1Unmask .. | .w1ProxyRequest .. | .phasePulseRetry .. | .linkLock .. | .linkFrameError .. | .linkReplayTimeout .. | .laneFail ..
  | .laneRestored .. | .linkDown .. | .buoyIdent .. | .blkWinRead .. | .blkWinWrite .. | .winReply .. | .winReplyTimeout ..
  | .pairLiveLost | .healthSilence | .takeover | .mirrorItem .. | .mirrorAck | .mirrorLag | .followerDetach | .peerHealthy
  | .roleRequest | .takeback | .aloneWaitExpired | .splitResolve .. | .pairLinkDown | .emergencyEntry
  | .logMirrorWrite .. | .logWinRead .. | .logFwinRead .. | .logSnapWrite .. | .hourTick
  | .custodySealed | .kcpAccept .. | .kcpRefuse .. | .sessionIdle ..
  | .ackDelay .. | .kcpRetransmit .. | .eventBatchExpired ..
  | .noticeRepeat | .moduleInt .. | .moduleMonitor | .gratuitousArpRepeat | .phyLockLoss ..
  | .phyRelock .. | .relockTimeout .. | .redirectionReady | .dmaDone .. | .dmaPacedStart .. | .dmaModeWrite .. | .thmSample ..
  | .thermalShutdown | .pwrokRise .. | .internalResetRelease | .tendersReleased .. | .pwrokFall | .warmResetPin | .warmResetRelease
  | .refclkLoss | .refclkReturn | .pairLiveEdge | .lensLinkUp | .modulePresenceChange .. | .bootFlashWriteDone | .ledgerSnapshotPeriod
  | .kcpIdleAck .. => true
end Sys2Proof
end

