-- ==== Sys2Proof/Safety.lean ====
section
/-! DEFINITION. What the claims call a good state: the stored lists in their canonical forms, and a keeper held in reset that does nothing. -/

namespace Sys2Proof

/-- An item of the MIRROR class that a follower stores and acknowledges as it comes (14 R287): not a record, which may wait for its place (15 R307), a
report on the other keeper's counterpart, commit, links or wires, an edge forwarded for a failed wire, a health record, a copy of a resynchronisation or for a
lost channel, or a committed value of the pair's own status. -/
def MirrorMsg.kept (m : MirrorMsg) : Bool :=
  match m with
  | .buddy _ | .wireFault .. | .link .. | .health _ | .copied .. | .copyAsk .. | .proxyAlarm _ | .proxyHeartbeat _ | .proxyEcho .. |
    .image .. | .accepted .. | .copy _ | .record _ => false
  | .stField off _ _ => decide (off ≠ Machine.F.PAR_STATUS_link_up.base)
  | .stFields l => l.all (fun x => decide (x.1 ≠ Machine.F.PAR_STATUS_link_up.base))
  | _ => true

end Sys2Proof

namespace Sys2Proof.Machine

/-- The stored lists are in canonical form: memory, and the registers of register space. -/
def State.canonical (s : State) : Prop := Memory.wf s.mem = true ∧ Regs.wf s.regs = true

/-- The keeper is held in internal reset and rests: no tender runs, every slot is in strap phase with nothing driven on its wires, no session is
open, nothing is armed, no action runs, and nothing released waits to be taken. -/
structure State.resting (s : State) : Prop where
  held : s.clk.held = true
  stays : s.clk.releasing = false
  tenders : ∀ i, (s.t i).run = .inReset
  slots : ∀ n, (s.mo n).phase = 0 ∧ (s.mo n).w0 = false ∧ (s.mo n).w1low = false
  sessions : ∀ x, (s.ses x).isOpen = false
  arms : ∀ e : Fin 16, (s.evt.arms[e]).valid = false
  actions : s.act.running = []
  ready : s.ready = []

/-- A tender executes the instruction at its pc: it runs, its fetch is admitted (03 R37), and nothing waits to be taken. -/
structure State.executes (s : State) (i : Tender) : Prop where
  run : (s.t i).run = .running
  fetch : s.fetchOk i (s.t i).prv (s.t i).pc.toNat = true
  settled : s.ready = []

/-- The keeper's blocks run: internal reset is released, no thermal shutdown has come, the keeper is not in emergency-light mode, and nothing
waits to be taken. -/
structure State.working (s : State) : Prop where
  released : s.clk.held = false
  cool : s.clk.shutDown = false
  normal : s.emergency = false
  settled : s.ready = []

/-- What an instruction of tender `i` with a result in `rd` may change and no more: the tender's `rd`, pc and count of retired instructions. -/
def State.onlyResult (s t : State) (i : Tender) (rd : Fin 32) : Prop :=
  t = { s with tnd := t.tnd } ∧ (∀ j, j ≠ i → t.t j = s.t j) ∧ (∀ q, q ≠ rd → t.g i q = s.g i q) ∧
    t.t i = { s.t i with g := (t.t i).g, pc := (t.t i).pc, instret := (t.t i).instret }

/-- A request block of `n` bytes at an address can be read by a tender: its checks pass (04 R60), it is served and without uncorrectable error;
its bytes are `b`. -/
structure State.blockAt (s : State) (i : Tender) (ea : Word) (n align : Nat) (b : List Byte) : Prop where
  checks : lowestTrap (s.blockChecks i .load ea n align) = none
  served : s.loadState (State.home i ea.toNat) n = .ok
  clean : s.poisoned (State.home i ea.toNat) n = false
  bytes : b = s.rdBytes (State.home i ea.toNat) n

/-- A bounded queue with merge counters in their right form (04 R68): at most 512 entries; merge counters only beside a full queue, one for each
event. -/
structure TenderSt.queueWf (x : TenderSt) : Prop where
  bound : x.queue.length ≤ 512
  full : x.merges ≠ [] → x.queue.length = 512
  single : (x.merges.map (·.event)).Nodup

/-- An event stands in a tender's queue or in its merge counters. -/
def TenderSt.holds (x : TenderSt) (e : Nat) : Prop := (∃ q ∈ x.queue, q.event = e) ∨ ∃ q ∈ x.merges, q.event = e

/-- An event is newly raised between two states: it is under way after what was under way before, with its arg and payload. -/
def State.raises (s u : State) (e arg : Nat) (payload : Word) : Prop :=
  ∃ l r f, u.evt.inflight = s.evt.inflight ++ l ++ f :: r ∧ f.ev.event = e ∧ f.ev.arg = arg % 65536 ∧ f.ev.payload = payload

/-- A step is held for an item of the mirror: released at once where no follower mirrors, else in the mirror's queue. -/
def State.holds (u : State) (h : HeldStep) : Prop :=
  (u.par.mirroring = false ∧ h ∈ u.ready) ∨ (u.par.mirroring = true ∧ ∃ m ∈ u.par.queue, m.held = h)

/-- A message stands on the pair link: sent, or waiting for the credit of its class (14 R285). -/
def State.paired (u : State) (o : Out) : Prop := o ∈ u.out ∨ ∃ m ∈ u.par.wire.waiting, m.what = o

/-- The acting instruction of a sub-action (04 R86). -/
def SubAct.instr (x : SubAct) (i : Tender) (rd ra rb : Fin 32) : Instr :=
  let fn : BitVec 10 := BitVec.ofNat 10 x.code.2
  match x with
  | .rsetCore => .rsetCore i rd ra rb fn
  | .rsetLinks => .rsetLinks i rd ra rb fn
  | .rsetMemory => .rsetMemory i rd ra rb fn
  | .rsetWarm => .rsetWarm i rd ra rb fn
  | .rsetCold => .rsetCold i rd ra rb fn
  | .rsetHold => .rsetHold i rd ra rb fn
  | .rsetRelease => .rsetRelease i rd ra rb fn
  | .pwrOn => .pwrOn i rd ra rb fn
  | .pwrOff => .pwrOff i rd ra rb fn
  | .pwrCycle => .pwrCycle i rd ra rb fn
  | .pwrCap => .pwrCap i rd ra rb fn
  | .fencFence => .fencFence i rd ra rb fn
  | .fencUnfence => .fencUnfence i rd ra rb fn
  | .ocltStop => .ocltStop i rd ra rb fn
  | .ocltAt => .ocltAt i rd ra rb fn
  | .ocltCancel => .ocltCancel i rd ra rb fn
  | .ocltRelease => .ocltRelease i rd ra rb fn
  | .rollRollback => .rollRollback i rd ra rb fn
  | .rollRestore => .rollRestore i rd ra rb fn
  | .quarLink => .quarLink i rd ra rb fn
  | .quarSlot => .quarSlot i rd ra rb fn
  | .quarRelease => .quarRelease i rd ra rb fn

/-- An acting instruction of an ORDER tender whose operands pass the checks of its first step (04 R84, R86): its targets, its range of g[rb], and
for ROLL RESTORE a readable descriptor. -/
structure State.actsOn (s : State) (i : Tender) (x : SubAct) (ra rb : Fin 32) (mask : Nat) (core : Option Nat) : Prop where
  order : (s.t i).prv = true
  targets : s.actTargets x (s.g i ra).toNat = some (mask, core)
  range : x.secondOk (s.g i rb).toNat = true
  block : x = .rollRestore → lowestTrap (s.blockChecks i .load (s.g i rb) 0x260 64) = none

/-- The session frame that a command brings (16 R324, R332): the session, the sequence number, and what the frame asks for. -/
def frameOf (i : Instr) : Option (Sess × KcpHead × KcpCmd) :=
  match i with
  | .kcpAttest x h nonce => some (x, h, .attest nonce)
  | .regRead x h addrs => some (x, h, .regRead addrs)
  | .regWrite x h pairs => some (x, h, .regWrite pairs)
  | .kcpPeg x h op => some (x, h, .peg op)
  | .readMem x h addr len => some (x, h, .readMem addr len)
  | .kcpSubscribe x h events slots owner time telemetry start => some (x, h, .subscribe events slots owner time telemetry start)
  | .kcpArm x h cls slots ms => some (x, h, .arm cls slots ms)
  | .kcpRenew x h token ms => some (x, h, .renew token ms)
  | .kcpDisarm x h byToken key => some (x, h, .disarm byToken key)
  | .kcpAct x h major fn ga gb => some (x, h, .act major fn ga gb)
  | .kcpLoad x h kind off total data => some (x, h, .load kind off total data)
  | .kcpUnbind x h pid => some (x, h, .unbind pid)
  | .bindJob x h digest => some (x, h, .bindJob digest)
  | .kcpBuddy x h tray addrA addrB identA identB => some (x, h, .buddy tray addrA addrB identA identB)
  | .noticeSub x h addr identity => some (x, h, .noticeSub addr identity)
  | .kcpCustody x h take => some (x, h, .custody take)
  | .kcpFloor x h f => some (x, h, .floor f)
  | .kcpSeal x h dumps => some (x, h, .seal dumps)
  | .kcpRelease x h => some (x, h, .release)
  | .kcpDebug x h slot => some (x, h, .debug slot)
  | .tenderReset x h mask => some (x, h, .tenderReset mask)
  | .macsecSa x h channel tx an key salt ssci => some (x, h, .macsecSa channel tx an key salt ssci)
  | .ownerCommand x h code body => some (x, h, .owner code body)
  | .flashWrite x h image off data => some (x, h, .flashWrite image off data)
  | .kcpRestart x h => some (x, h, .restart)
  | .kcpClose (.sess x) h => some (x, h, .close)
  | _ => none

end Sys2Proof.Machine
end

