-- ==== Sys2Proof/Certificates/Slice0/Obligations.lean ====
section
/-! DEFINITION. The statements for the provers. -/

open Sys2Proof Sys2Proof.Machine

/-- A step runs the command at the front of the queue. For every command c and state s, the step of s with c at the front of its queue is
exec of c at s with the rest of the queue. (The queue of commands is the model's own.) (00_scope.md, 95_what_each_step_holds.md) -/
def Obligations.StepRunsFront : Prop :=
  ∀ (c : Instr) (q : List Instr) (s : State), step { s with pending := c :: q } = exec c { s with pending := q }

/-- With no command waiting the keeper lives through one CCLK cycle. That an empty queue lets one CCLK cycle pass is the model's choice.
Without power nothing changes; under internal reset after a power-on nothing changes, after a warm reset the beacon alone rises by one.
Under a release that waits for a PCLK edge, it waits on while the beacon has not come to one. Out of reset, with no slew remainder, no
hard-set to load, no hardware record queued, no staged trace bytes, no slot in a timed row, a phase command, a stop-mask change or awaiting
run phase, no 1PPS pulse out, no pending hand-over or warm reset and nothing released, the beacon rises by one in 64 bits, TS_CYCLE rises by
one in every tender out of reset, PAIR_LIVE_OUT rises where a service tender runs outside emergency-light mode, changes its level each 1 µs
while that holds and falls when it ends, and nothing else changes. (12_beacon_time.md R241, 03_tender_isa_core.md R48,
19_pins_power_clocks.md R384, 14_pair_failover.md R284) -/
def Obligations.IdleStepCounts : Prop :=
  ∀ s : State, s.pending = [] →
    (s.clk.pwrok = false → step s = .next s) ∧
    (s.clk.pwrok = true → s.clk.held = true → s.clk.releasing = false ∨ (s.beacon + 1) % 2 ^ 64 % 8 ≠ 0 → step s =
      .next (if s.f F.GLB_CAUSE_cause = 0 then s else { s with beacon := (s.beacon + 1) % 2 ^ 64 })) ∧
    (s.clk.pwrok = true → s.clk.held = false → s.f F.BCN_SLEW_slew = 0 → s.bcn.hardPend = none → s.bcn.ppsFall = none → s.log.intake = [] →
      (∀ n, (s.trc n).staged = [] ∧ (s.mo n).pulse = none ∧ (s.mo n).seq = none ∧ (s.mo n).enterRun = false ∧
        (s.mo n).maskFrom ≠ (s.beacon + 1) % 2 ^ 64) →
      s.par.yieldPending = false → s.sec.warmWait = none → s.ready = [] → ∃ t : State, step s = .next t ∧
        t = { s with beacon := (s.beacon + 1) % 2 ^ 64, tnd := t.tnd, par := t.par, out := t.out } ∧
        (let now := (s.beacon + 1) % 2 ^ 64
         let shown := fun (level : Bool) (next : Option Nat) =>
           t.par = { s.par with liveLevel := level, liveNext := next } ∧ t.out = .pin "PAIR_LIVE_OUT" level :: s.out
         let same := t.par = s.par ∧ t.out = s.out
         let live := s.emergency = false ∧ ∃ i : Tender, 16 ≤ i.val ∧ s.alive i = true
         (live → s.par.liveNext = none → shown true (some (now + 1600))) ∧
         (live → ∀ d, s.par.liveNext = some d → if d ≤ now then shown (!s.par.liveLevel) (some (d + 1600)) else same) ∧
         (¬ live → if s.par.liveNext = none then same else shown false none)) ∧
        ∀ i, t.t i = if (s.t i).run = .inReset then s.t i else { s.t i with cycle := (s.t i).cycle + 1 })

/-- What reset leaves. Right after reset the internal reset is held and the beacon at zero; every tender is in reset with its registers
zero; every slot is in strap phase; no event waits, no set holds a write, nothing is armed and no session is open; the registers whose reset
value the spec names read it: voltage and temperature limits of Plumb 25 mV, 30 °C and 105 °C, heartbeat timeout 25 µs, probe and
acknowledgement bounds 10 µs and 20 µs, dump read timeout 10 µs, MTU 9,216, KCP port 7461, DMA mode STARTUP. (That tender registers are zero
is the spec's; memory without contents reads zero by the model's choice.) (03_tender_isa_core.md R57, 13_mooring_and_bringup.md R263,
07_plumb_array.md R121, 10_occult_dump_recovery.md R187, 16_host_port.md R319, 17_memory_and_dma.md R356, 19_pins_power_clocks.md R384) -/
def Obligations.ResetState : Prop :=
  let s := State.reset
  s.clk.held = true ∧ s.beacon = 0 ∧ s.pending = [] ∧ s.ready = [] ∧ s.canonical ∧
  (∀ i, (s.t i).run = .inReset ∧ (s.t i).queue = [] ∧ ∀ q, s.g i q = 0) ∧
  (∀ n, (s.mo n).phase = 0) ∧ (∀ k : Fin 64, s.sets[k] = []) ∧ (∀ e : Fin 16, (s.evt.arms[e]).valid = false) ∧
  (∀ x, (s.ses x).isOpen = false) ∧ s.evt.inflight = [] ∧
  s.f F.PLB_ENV_dv_mv = 25 ∧ s.f F.PLB_ENV_dt_c = 30 ∧ s.f F.PLB_ENV_tmax = 105 ∧
  s.f F.OCC_HB_hb_us = 25 ∧ s.f F.OCC_HB_probe_us = 10 ∧ s.f F.OCC_HB_ack_us = 20 ∧ s.f F.OCC_DUMP_CTL_read_tmo_us = 10 ∧
  s.f F.MAC_CTL_mtu = 9216 ∧ s.f F.KCP_PORT_udp = 7461 ∧ s.f F.DMA_CTL_mode = 1

/-- The keeper rests at reset. The state after reset is a resting one: internal reset held, every tender in reset, every slot in strap phase
with W0 and W1 undriven, no session open, no entry armed, no action running. (19_pins_power_clocks.md R384, 13_mooring_and_bringup.md R263)
-/
def Obligations.RestingAtReset : Prop := State.reset.resting

/-- A keeper in internal reset starts nothing, whatever is commanded. For every state in which the keeper rests and the command at the front
of the queue is not the release of the internal reset, the step gives a state in which it rests: whatever command comes, no tender starts,
no slot leaves strap phase or has a wire pulled, no session opens, nothing is armed and no action runs. (19_pins_power_clocks.md R379,
19_pins_power_clocks.md R384, 10_occult_dump_recovery.md R205, 14_pair_failover.md R297) -/
def Obligations.RestingKept : Prop :=
  ∀ s t : State, s.resting → s.pending.head? ≠ some .internalResetRelease → step s = .next t → t.resting

/-- The immediate instructions write their result to rd and retire. On a tender that executes, ADDI, ANDI, ORI, XORI, SLTI and SLTIU answer
the state in which rd holds the value of the opcode table (R41), the pc has moved past the instruction and one more instruction counts as
retired. (Completes: addi, andi, ori, slti, sltiu, xori.) (03_tender_isa_core.md R41) -/
def Obligations.ComputeResults : Prop :=
  ∀ (s : State) (i : Tender) (rd ra : Fin 32) (imm : BitVec 15), s.executes i →
    exec (.addi i rd ra imm) s = .next ((s.setG i rd (s.g i ra + imm.signExtend 64)).retire i) ∧
    exec (.andi i rd ra imm) s = .next ((s.setG i rd (s.g i ra &&& imm.zeroExtend 64)).retire i) ∧
    exec (.ori i rd ra imm) s = .next ((s.setG i rd (s.g i ra ||| imm.zeroExtend 64)).retire i) ∧
    exec (.xori i rd ra imm) s = .next ((s.setG i rd (s.g i ra ^^^ imm.zeroExtend 64)).retire i) ∧
    exec (.slti i rd ra imm) s = .next ((s.setG i rd (if (s.g i ra).toInt < imm.toInt then 1 else 0)).retire i) ∧
    exec (.sltiu i rd ra imm) s =
      .next ((s.setG i rd (if (s.g i ra).toNat < (imm.signExtend 64).toNat then 1 else 0)).retire i)

/-- ALU writes the selected function's value; what the functions compute, code by code; a code of no function is ILLEGAL. On a tender that
executes, ALU with a function code that has a value retires with it in rd; with a reserved code, or a CLZ, CTZ, POPC or BSWAP whose rb is
not g0, and no owner handler running, it takes ILLEGAL with the instruction word. ADD, SUB, the logic functions, shifts and rotates by b mod
64, compares, minima, maxima and MUL give the value of R42 under their code. The high products are the upper halves of the exact product; a
division by zero gives all ones and the remainder of it the dividend, every other signed quotient and remainder give back the dividend
exactly with the remainder's sign the dividend's, but for the most negative number by minus one; ADDS and SUBS clamp the exact result; CLZ
and CTZ count the zero bits above the highest and below the lowest one bit; the codes R42 does not list have no value. (Completes: alu.)
(03_tender_isa_core.md R42) -/
def Obligations.AluInstruction : Prop :=
  (∀ (s : State) (i : Tender) (rd ra rb : Fin 32) (fn : BitVec 10), s.executes i →
    (∀ v, aluOp fn.toNat rb (s.g i ra) (s.g i rb) = some v → exec (.alu i rd ra rb fn) s = .next ((s.setG i rd v).retire i)) ∧
    (aluOp fn.toNat rb (s.g i ra) (s.g i rb) = none → (s.t i).handler = none →
      exec (.alu i rd ra rb fn) s = .next (s.enterTrap i Cause.illegal (encA 0x01 rd ra rb fn)))) ∧
  ∀ (rb : Fin 32) (a b : Word),
    (aluOp 0x000 rb a b = some (a + b) ∧ aluOp 0x001 rb a b = some (a - b) ∧ aluOp 0x002 rb a b = some (a &&& b) ∧
    aluOp 0x003 rb a b = some (a ||| b) ∧ aluOp 0x004 rb a b = some (a ^^^ b) ∧ aluOp 0x005 rb a b = some (a &&& ~~~b) ∧
    aluOp 0x008 rb a b = some (a <<< (b.toNat % 64)) ∧ aluOp 0x009 rb a b = some (a >>> (b.toNat % 64)) ∧
    aluOp 0x00A rb a b = some (a.sshiftRight (b.toNat % 64)) ∧ aluOp 0x00B rb a b = some (a.rotateLeft (b.toNat % 64)) ∧
    aluOp 0x00C rb a b = some (a.rotateRight (b.toNat % 64)) ∧
    aluOp 0x010 rb a b = some (if a.toInt < b.toInt then 1 else 0) ∧ aluOp 0x011 rb a b = some (if a.toNat < b.toNat then 1 else 0) ∧
    aluOp 0x012 rb a b = some (if a.toInt < b.toInt then a else b) ∧ aluOp 0x013 rb a b = some (if a.toInt < b.toInt then b else a) ∧
    aluOp 0x014 rb a b = some (if a.toNat < b.toNat then a else b) ∧ aluOp 0x015 rb a b = some (if a.toNat < b.toNat then b else a) ∧
    aluOp 0x020 rb a b = some (a * b)) ∧
    (∃ h, aluOp 0x021 rb a b = some h ∧ h.toInt * 2 ^ 64 + ((a * b).toNat : Int) = a.toInt * b.toInt) ∧
    (∃ h, aluOp 0x022 rb a b = some h ∧ h.toNat * 2 ^ 64 + (a * b).toNat = a.toNat * b.toNat) ∧
    aluOp 0x024 rb a 0 = some (-1) ∧ aluOp 0x025 rb a 0 = some (-1) ∧ aluOp 0x026 rb a 0 = some a ∧ aluOp 0x027 rb a 0 = some a ∧
    aluOp 0x024 rb (BitVec.intMin 64) (-1) = some (BitVec.intMin 64) ∧ aluOp 0x026 rb (BitVec.intMin 64) (-1) = some 0 ∧
    (b ≠ 0 → ¬ (a = BitVec.intMin 64 ∧ b = -1) → ∃ q r, aluOp 0x024 rb a b = some q ∧ aluOp 0x026 rb a b = some r ∧
      a.toInt = q.toInt * b.toInt + r.toInt ∧ r.toInt.natAbs < b.toInt.natAbs ∧ 0 ≤ a.toInt * r.toInt) ∧
    (b ≠ 0 → ∃ q r, aluOp 0x025 rb a b = some q ∧ aluOp 0x027 rb a b = some r ∧
      a.toNat = q.toNat * b.toNat + r.toNat ∧ r.toNat < b.toNat) ∧
    (∃ v, aluOp 0x030 rb a b = some v ∧ v.toInt = max (-2 ^ 63) (min (2 ^ 63 - 1) (a.toInt + b.toInt))) ∧
    (∃ v, aluOp 0x031 rb a b = some v ∧ v.toInt = max (-2 ^ 63) (min (2 ^ 63 - 1) (a.toInt - b.toInt))) ∧
    (∃ n ≤ 64, aluOp 0x040 0 a b = some (BitVec.ofNat 64 n) ∧ a.toNat < 2 ^ (64 - n) ∧ (n < 64 → a.toNat.testBit (63 - n))) ∧
    (∃ n ≤ 64, aluOp 0x041 0 a b = some (BitVec.ofNat 64 n) ∧ 2 ^ n ∣ a.toNat ∧ (n < 64 → a.toNat.testBit n)) ∧
    (∀ fn, fn ∉ [0x00, 0x01, 0x02, 0x03, 0x04, 0x05, 0x08, 0x09, 0x0A, 0x0B, 0x0C, 0x10, 0x11, 0x12, 0x13, 0x14, 0x15, 0x20, 0x21, 0x22,
        0x24, 0x25, 0x26, 0x27, 0x30, 0x31, 0x40, 0x41, 0x42, 0x43] ∨ (rb ≠ 0 ∧ 0x40 ≤ fn) → aluOp fn rb a b = none)

/-- SHI, EXTU, EXTS and INS read their immediate as R43 lays it out, and are ILLEGAL on any other value. SHI takes its selector from
imm[14:12] (0 to 3) and its amount from imm[5:0] with imm[11:6] zero; EXTU, EXTS and INS take the position from imm[11:6] and the length
minus one from imm[5:0], with imm[14:12] zero and the field within 64 bits. With such an immediate the instruction retires with its result
in rd; with any other, and no owner handler running, it takes ILLEGAL with the instruction word. (Completes: shi, extu, exts, ins.) (R43) -/
def Obligations.FieldInstructions : Prop :=
  (∀ (s : State) (i : Tender) (rd ra : Fin 32) (imm : BitVec 15), s.executes i →
    let hi := imm.toNat / 4096
    let mid := imm.toNat / 64 % 64
    let low := imm.toNat % 64
    let a := s.g i ra
    ((hi = 0 ∧ mid = 0 → exec (.shi i rd ra imm) s = .next ((s.setG i rd (a <<< low)).retire i)) ∧
     (hi = 1 ∧ mid = 0 → exec (.shi i rd ra imm) s = .next ((s.setG i rd (a >>> low)).retire i)) ∧
     (hi = 2 ∧ mid = 0 → exec (.shi i rd ra imm) s = .next ((s.setG i rd (a.sshiftRight low)).retire i)) ∧
     (hi = 3 ∧ mid = 0 → exec (.shi i rd ra imm) s = .next ((s.setG i rd (a.rotateRight low)).retire i)) ∧
     (¬ (hi ≤ 3 ∧ mid = 0) → (s.t i).handler = none →
       exec (.shi i rd ra imm) s = .next (s.enterTrap i Cause.illegal (encI 0x08 rd ra imm)))) ∧
    (if hi = 0 ∧ mid + low + 1 ≤ 64 then
      exec (.extu i rd ra imm) s = .next ((s.setG i rd (extuOp mid (low + 1) a)).retire i) ∧
      exec (.exts i rd ra imm) s = .next ((s.setG i rd (extsOp mid (low + 1) a)).retire i) ∧
      exec (.ins i rd ra imm) s = .next ((s.setG i rd (insOp mid (low + 1) (s.g i rd) a)).retire i)
    else (s.t i).handler = none →
      exec (.extu i rd ra imm) s = .next (s.enterTrap i Cause.illegal (encI 0x09 rd ra imm)) ∧
      exec (.exts i rd ra imm) s = .next (s.enterTrap i Cause.illegal (encI 0x0A rd ra imm)) ∧
      exec (.ins i rd ra imm) s = .next (s.enterTrap i Cause.illegal (encI 0x0B rd ra imm)))) ∧
  (∀ (pos len : Nat) (d a : Word) (k : Nat), 0 < len → pos + len ≤ 64 → k < 64 →
    (extuOp pos len a).getLsbD k = (decide (k < len) && a.getLsbD (pos + k)) ∧
    (extsOp pos len a).getLsbD k = a.getLsbD (pos + min k (len - 1)) ∧
    (insOp pos len d a).getLsbD k = if pos ≤ k ∧ k < pos + len then a.getLsbD (k - pos) else d.getLsbD k)

/-- LUI, LUH and AUIPC, and the values and addresses that they build. On a tender that executes, LUI writes the immediate at [31:12],
sign-extended from bit 31; LUH sets [63:32] of rd to the sign-extended immediate without disturbing [31:0]; AUIPC adds LUI's value to the
pc. LUI and ORI build any 32-bit value, and with LUH any 48-bit keeper address; the example of R44 holds. (Completes: lui, luh, auipc.)
(R44) -/
def Obligations.UpperImmediates : Prop :=
  let low := fun (up : BitVec 20) (imm : BitVec 15) => (up ++ 0#12 : BitVec 32).signExtend 64 ||| imm.zeroExtend 64
  let high := fun (up : BitVec 20) (w : Word) => (up.signExtend 32 ++ w.truncate 32 : BitVec 64)
  (∀ (s : State) (i : Tender) (rd : Fin 32) (up : BitVec 20), s.executes i →
    exec (.lui i rd up) s = .next ((s.setG i rd ((up ++ 0#12 : BitVec 32).signExtend 64)).retire i) ∧
    exec (.luh i rd up) s = .next ((s.setG i rd (high up (s.g i rd))).retire i) ∧
    exec (.auipc i rd up) s =
      .next ((s.setG i rd ((s.t i).pc.zeroExtend 64 + (up ++ 0#12 : BitVec 32).signExtend 64)).retire i)) ∧
  (∀ (up : BitVec 20) (w : Word), (high up w).truncate 32 = w.truncate 32) ∧
  (∀ v : BitVec 32, ∃ up imm, (low up imm).truncate 32 = v) ∧
  (∀ a : BitVec 48, ∃ up imm top, high top (low up imm) = a.zeroExtend 64) ∧
  low 0x80000 0 = 0xFFFFFFFF80000000 ∧ low 0x80000 0x40 = 0xFFFFFFFF80000040 ∧ high 0x010F1 (low 0x80000 0x40) = 0x000010F180000040

/-- Branches and jumps go to their target, link, or fall through. A conditional branch whose condition holds and whose target may be fetched
retires with the pc at pc + sext(off) * 4; one whose condition does not hold retires with the pc past it. JAL and JALR write pc + 4 to rd
and go to their target, JALR's with its two low bits cleared. A target that may not be fetched is trapped with the cause of R37 and the
target, and nothing is linked (no owner handler running). (Completes: beq, bne, blt, bge, bltu, bgeu, jal, jalr.) (03_tender_isa_core.md
R37, 03_tender_isa_core.md R41) -/
def Obligations.BranchesAndJumps : Prop :=
  ∀ (s : State) (i : Tender) (rd ra rb : Fin 32) (off : BitVec 15) (far : BitVec 20), s.executes i →
    let pc : Word := (s.t i).pc.zeroExtend 64
    let a := s.g i ra
    let b := s.g i rb
    let branch := fun (c : Prop) (x : Instr) =>
      let dest := pc + off.signExtend 64 * 4
      (¬ c → exec x s = .next (s.retire i)) ∧
      (c → s.fetchCheck i dest = none → exec x s = .next (s.retireTo i (dest.truncate 48))) ∧
      (c → (s.t i).handler = none → ∀ e v, s.fetchCheck i dest = some (e, v) → exec x s = .next (s.enterTrap i e v))
    let jump := fun (dest : Word) (x : Instr) =>
      (s.fetchCheck i dest = none → exec x s = .next ((s.setG i rd (pc + 4)).retireTo i (dest.truncate 48))) ∧
      ((s.t i).handler = none → ∀ e v, s.fetchCheck i dest = some (e, v) → exec x s = .next (s.enterTrap i e v))
    branch (a = b) (.beq i ra rb off) ∧ branch (a ≠ b) (.bne i ra rb off) ∧
    branch (a.toInt < b.toInt) (.blt i ra rb off) ∧ branch (b.toInt ≤ a.toInt) (.bge i ra rb off) ∧
    branch (a.toNat < b.toNat) (.bltu i ra rb off) ∧ branch (b.toNat ≤ a.toNat) (.bgeu i ra rb off) ∧
    jump (pc + far.signExtend 64 * 4) (.jal i rd far) ∧ jump ((a + off.signExtend 64) &&& ~~~3#64) (.jalr i rd ra off)

/-- Where a branch or jump may go. At ORDER a target below 0x4_0000 passes and at HOST one whose four bytes lie within the bound program's
code region; a target above 48 bits or in no region is ADDRESS, any other is ACCESS, each with the target as its value; a target that passes
can be fetched. (03_tender_isa_core.md R37, 03_tender_isa_core.md R36) -/
def Obligations.FetchRule : Prop :=
  ∀ (s : State) (i : Tender) (dest : Word),
    let passes := if (s.t i).prv then dest.toNat < 0x40000
      else 0x20000 ≤ dest.toNat ∧ dest.toNat + 4 ≤ 0x20000 + s.codeSize i ∧ State.inRegion dest.toNat = true ∧ dest.toNat < 2 ^ 48
    let outside := 2 ^ 48 ≤ dest.toNat ∨ State.inRegion dest.toNat = false
    (passes → s.fetchCheck i dest = none ∧ s.fetchOk i (s.t i).prv (dest.truncate 48).toNat = true) ∧
    (outside → s.fetchCheck i dest = some (Cause.address, dest)) ∧
    (¬ passes → ¬ outside → s.fetchCheck i dest = some (Cause.access, dest))

/-- A load that passes its checks gives rd the bytes at its address, extended. On a tender that executes, a load whose address passes the
checks of R45, lies outside register space, is served and has no uncorrectable error retires with its n little-endian bytes in rd:
sign-extended for LDB, LDH and LDW, whole for LDD, zero-extended for LDBU, LDHU and LDWU; LDP, at an even rd, fills rd and the register
after it from 16 bytes. A corrected error is counted besides (tenderCe). (Completes: ldb, ldh, ldw, ldd, ldbu, ldhu, ldwu, ldp.)
(03_tender_isa_core.md R45, 03_tender_isa_core.md R36) -/
def Obligations.LoadsFromMemory : Prop :=
  ∀ (s : State) (i : Tender) (rd ra : Fin 32) (imm : BitVec 15) (ecc : Ecc), s.executes i → ecc ≠ .uncorrectable →
    let ea := s.g i ra + imm.signExtend 64
    let h := State.home i ea.toNat
    let u := if ecc = .corrected then s.tenderCe i h else s
    let served := fun (n : Nat) => lowestTrap (s.memChecks i .load ea n) = none ∧ isRegSpace ea.toNat = false ∧
      s.loadState h n = .ok ∧ s.poisoned h n = false
    let signed := fun (n : Nat) => BitVec.ofInt 64 (signedOf (s.rdNat h n) (8 * n))
    let plain := fun (n : Nat) => BitVec.ofNat 64 (s.rdNat h n)
    (served 1 → exec (.ldb i rd ra imm ecc) s = .next ((u.setG i rd (signed 1)).retire i)) ∧
    (served 2 → exec (.ldh i rd ra imm ecc) s = .next ((u.setG i rd (signed 2)).retire i)) ∧
    (served 4 → exec (.ldw i rd ra imm ecc) s = .next ((u.setG i rd (signed 4)).retire i)) ∧
    (served 8 → exec (.ldd i rd ra imm ecc) s = .next ((u.setG i rd (plain 8)).retire i)) ∧
    (served 1 → exec (.ldbu i rd ra imm ecc) s = .next ((u.setG i rd (plain 1)).retire i)) ∧
    (served 2 → exec (.ldhu i rd ra imm ecc) s = .next ((u.setG i rd (plain 2)).retire i)) ∧
    (served 4 → exec (.ldwu i rd ra imm ecc) s = .next ((u.setG i rd (plain 4)).retire i)) ∧
    (served 16 → rd.val % 2 = 0 → exec (.ldp i rd ra imm ecc) s = .next
      (((u.setG i rd (BitVec.ofNat 64 (leNat ((s.rdBytes h 16).take 8)))).setG i (Fin.ofNat 32 (rd.val + 1))
        (BitVec.ofNat 64 (leNat ((s.rdBytes h 16).drop 8)))).retire i))

/-- A store that passes its checks writes its low bytes at its address. On a tender that executes, a store whose address passes the checks
of R45, lies outside register space and is served retires with the low n bytes of its register stored little-endian at the address (posted
in LPDDR5X): STB 1, STH 2, STW 4, STD 8; STP, at an even register, 16 bytes from the pair. (Completes: stb, sth, stw, std, stp.)
(03_tender_isa_core.md R45, 03_tender_isa_core.md R46) -/
def Obligations.StoresToMemory : Prop :=
  ∀ (s : State) (i : Tender) (rt ra : Fin 32) (imm : BitVec 15), s.executes i →
    let ea := s.g i ra + imm.signExtend 64
    let h := State.home i ea.toNat
    let served := fun (n : Nat) => lowestTrap (s.memChecks i .store ea n) = none ∧ isRegSpace ea.toNat = false ∧
      (s.loadState h n = .ok ∨ s.loadState h n = .stale)
    let low := fun (n : Nat) => leBytes (s.g i rt).toNat n
    (served 1 → exec (.stb i rt ra imm) s = .next ((s.postAt i ea.toNat (low 1)).retire i)) ∧
    (served 2 → exec (.sth i rt ra imm) s = .next ((s.postAt i ea.toNat (low 2)).retire i)) ∧
    (served 4 → exec (.stw i rt ra imm) s = .next ((s.postAt i ea.toNat (low 4)).retire i)) ∧
    (served 8 → exec (.std i rt ra imm) s = .next ((s.postAt i ea.toNat (low 8)).retire i)) ∧
    (served 16 → rt.val % 2 = 0 → exec (.stp i rt ra imm) s = .next
      ((s.postAt i ea.toNat (low 8 ++ leBytes (s.g i (Fin.ofNat 32 (rt.val + 1))).toNat 8)).retire i))

/-- A store is read back, leaves every other byte and every register; a register write leaves memory. In a state whose memory is canonical,
storing bytes at a home address makes every stored byte read back (zero in the reserved areas of retained SRAM), leaves every byte outside
them, every register of register space and every tender as they were, keeps the canonical form, and leaves an uncorrectable error standing
only in lines it does not touch; a tender's store writes the same memory whether it is posted or not. A register field written reads back in
its width, keeps the canonical form and leaves memory. (The canonical form is the model's own.) (03_tender_isa_core.md R45,
17_memory_and_dma.md R344) -/
def Obligations.StoreWritesOnlyItsBytes : Prop :=
  ∀ (s : State) (h : Nat) (b : List Byte), s.canonical →
    (∀ k (hk : k < b.length), (s.store h b).rdByte (h + k) = if 0x203C0218 ≤ h + k ∧ h + k < 0x203C1000 ∨ 0x203FF1A0 ≤ h + k ∧ h + k < 0x20400000 then 0
      else b[k]) ∧
    (∀ i a, (s.postAt i a b).mem = (s.store (State.home i a) b).mem ∧ (s.postAt i a b).regs = s.regs ∧ (s.postAt i a b).tnd = s.tnd) ∧
    (∀ a, (a < h ∨ h + b.length ≤ a) → (s.store h b).rdByte a = s.rdByte a) ∧
    (s.store h b).regs = s.regs ∧ (s.store h b).tnd = s.tnd ∧ (s.store h b).ready = s.ready ∧ (s.store h b).canonical ∧
    (∀ k, k ∈ (s.store h b).poison ↔ k ∈ s.poison ∧ k ∉ State.linesOf h b.length) ∧
    (∀ (f : Fld) (v i : Nat), (s.setF f v i).canonical ∧ (s.setF f v i).mem = s.mem ∧
      (f.lo + f.len ≤ 64 → (s.setF f v i).f f i = v % 2 ^ f.len))

/-- The traps of an access: address before alignment before access. An access outside every region or above 48 bits is trapped as ADDRESS;
one within a region but not aligned to its width as ALIGN; an aligned one that its region does not admit at the running privilege as ACCESS;
each with the effective address. At ORDER an aligned load passes everywhere outside register space and the redirection pool, and an aligned
store passes in own local memory, gallery memory, retained SRAM and LPDDR outside the pool. (03_tender_isa_core.md R36,
03_tender_isa_core.md R45, 03_tender_isa_core.md R53) -/
def Obligations.AccessChecks : Prop :=
  ∀ (s : State) (i : Tender) (k : AccKind) (ea : Word) (n : Nat), n ∈ [1, 2, 4, 8, 16] →
    let a := ea.toNat
    let outside := 2 ^ 48 ≤ a ∨ State.inRegion a = false
    (outside → lowestTrap (s.memChecks i k ea n) = some (Cause.address, ea)) ∧
    (¬ outside → a % n ≠ 0 → lowestTrap (s.memChecks i k ea n) = some (Cause.align, ea)) ∧
    (¬ outside → a % n = 0 → isRegSpace a = false → s.admits i (s.t i).prv k a n = false →
      lowestTrap (s.memChecks i k ea n) = some (Cause.access, ea)) ∧
    ((s.t i).prv = true → ¬ outside → a % n = 0 → isRegSpace a = false → s.loadState (State.home i a) n ≠ .pool →
      lowestTrap (s.memChecks i .load ea n) = none ∧
      (¬ (0x08000000 ≤ a ∧ a < 0x08600000) → lowestTrap (s.memChecks i .store ea n) = none))

/-- AMO returns the old value and stores the new one. On a tender that executes, AMO of a listed operation on 4 or 8 bytes whose address
passes its checks, without error, retires with the old value, sign-extended from its width, in rd and the new value in memory: swapped,
added, and-ed, or-ed, xor-ed, signed or unsigned minimum or maximum, or compared with rd and swapped. (Completes: amo.)
(03_tender_isa_core.md R47) -/
def Obligations.AtomicCompletes : Prop :=
  ∀ (s : State) (i : Tender) (rd ra rb : Fin 32) (fn : BitVec 10), s.executes i →
    let ea := s.g i ra
    let h := State.home i ea.toNat
    let op := fn.toNat / 16 % 16
    let n := 2 ^ (fn.toNat % 4)
    let old := s.rdNat h n
    let w := 8 * n
    let b := (s.g i rb).toNat % 2 ^ w
    let ends := fun (new : Nat) => exec (.amo i rd ra rb fn .clean) s =
      .next (((s.store h (leBytes new n)).setG i rd (BitVec.ofInt 64 (signedOf old w))).retire i)
    fn.toNat % 4 ∈ [2, 3] → fn.toNat / 4 % 4 = 0 → lowestTrap (s.memChecks i .amo ea n) = none → s.loadState h n = .ok →
    s.poisoned h n = false →
    (op = 0 → ends b) ∧ (op = 1 → ends ((old + b) % 2 ^ w)) ∧ (op = 2 → ends (old &&& b)) ∧ (op = 3 → ends (old ||| b)) ∧
    (op = 4 → ends (old ^^^ b)) ∧ (op = 5 → ends (if signedOf b w < signedOf old w then b else old)) ∧
    (op = 6 → ends (if signedOf old w < signedOf b w then b else old)) ∧ (op = 7 → ends (min old b)) ∧
    (op = 8 → ends (max old b)) ∧ (op = 9 → ends (if old = (s.g i rd).toNat % 2 ^ w then b else old))

/-- FENCE; a posted store that fails later; an access that is not answered; access to an unassigned register address. FENCE of a legal
immediate retires on a tender that executes: without bit 5, with no other effect; with bit 5 and posterr clear, with the tender's posted
stores done. With bit 5 and posterr set it takes POSTERR with value 0; with a bit of [14:7] set it is ILLEGAL. A posted store that later
cannot be written (POSTED_STORE_FAIL) sets TS_STATUS.posterr of its tender, or nothing of a tender that was reset since, and leaves every
other tender; where it is the only one outstanding every byte of it in LPDDR5X reads as before it and no other byte changes. A load or store
of an assigned register that is not answered within 4 µs (BUSTIMEOUT) takes that trap with the address and changes nothing else, a store
that is not permitted takes ACCESS. An aligned 4- or 8-byte load from an unassigned address of register space that its checks pass writes
zero to rd and takes REGUNASSIGNED with the address; a store to one is ignored and takes it too. A load or store of another width there is
refused with ACCESS. (Traps are stated with no owner handler running. Completes: fence, postedStoreFail, bustimeout.) (03_tender_isa_core.md
R39, 03_tender_isa_core.md R46, 03_tender_isa_core.md R50, 03_tender_isa_core.md R57) -/
def Obligations.AccessFailures : Prop :=
  (∀ (s : State) (i : Tender) (rd ra : Fin 32) (imm : BitVec 15), s.executes i →
    (imm.toNat < 128 → imm.toNat.testBit 5 = false → exec (.fence i rd ra imm) s = .next (s.retire i)) ∧
    (imm.toNat < 128 → imm.toNat.testBit 5 = true → (s.t i).posterr = false → exec (.fence i rd ra imm) s = .next ((s.postedDone i).retire i) ∧
      (∀ p ∈ (s.postedDone i).mc.posted, p.tender ≠ i) ∧ (s.postedDone i).mem = s.mem) ∧
    (imm.toNat < 128 → imm.toNat.testBit 5 = true → (s.t i).posterr = true → (s.t i).handler = none →
      exec (.fence i rd ra imm) s = .next (s.enterTrap i Cause.postErr 0)) ∧
    (128 ≤ imm.toNat → (s.t i).handler = none →
      exec (.fence i rd ra imm) s = .next (s.enterTrap i Cause.illegal (encI 0x1F rd ra imm)))) ∧
  (∀ (s : State) (i : Tender) (addr : Nat), s.ready = [] → s.clk.held = false →
    (s.postedFail i addr = none → exec (.postedStoreFail i addr) s = .next s) ∧
    (∀ p u, s.postedFail i addr = some (p, u) → ∃ t, exec (.postedStoreFail i addr) s = .next t ∧
      (t.t i).posterr = (!p.stale || (s.t i).posterr) ∧ (∀ j, j ≠ i → t.t j = s.t j) ∧ (∀ q, t.g i q = s.g i q) ∧ t.mem = u.mem ∧
      (s.canonical → s.mc.posted = [p] → (p.under.map (·.1)).Nodup → (∀ x ∈ p.under, isLpddr x.1 = true) → (∀ x ∈ p.under, t.rdByte x.1 = x.2) ∧
        ∀ a, (∀ x ∈ p.under, x.1 ≠ a) → t.rdByte a = s.rdByte a))) ∧
  (∀ (s : State) (i : Tender) (rd ra : Fin 32) (imm : BitVec 15), s.executes i → (s.t i).handler = none →
    let ea := s.g i ra + imm.signExtend 64
    let passes := fun (k : AccKind) (n : Nat) => lowestTrap (s.memChecks i k ea n) = none
    isRegSpace ea.toNat = true →
    (∀ k n, n ∈ [1, 2, 16] → ∃ c, c ≤ Cause.access ∧ lowestTrap (s.memChecks i k ea n) = some (c, ea)) ∧
    (State.eaReg ea = none →
      (passes .load 4 → exec (.ldw i rd ra imm .clean) s = .next ((s.setG i rd 0).enterTrap i Cause.regUnassigned ea)) ∧
      (passes .load 4 → exec (.ldwu i rd ra imm .clean) s = .next ((s.setG i rd 0).enterTrap i Cause.regUnassigned ea)) ∧
      (passes .load 8 → exec (.ldd i rd ra imm .clean) s = .next ((s.setG i rd 0).enterTrap i Cause.regUnassigned ea)) ∧
      (passes .store 4 → exec (.stw i rd ra imm) s = .next (s.enterTrap i Cause.regUnassigned ea)) ∧
      (passes .store 8 → exec (.std i rd ra imm) s = .next (s.enterTrap i Cause.regUnassigned ea))) ∧
    (∀ l, State.eaReg ea = some l →
      let lo := 8 * (ea.toNat % 8)
      let cause := fun (n : Nat) => if s.storeStop (.tender i (s.t i).prv) l lo (8 * n) (BitVec.ofNat 64 ((s.g i rd).toNat % 2 ^ (8 * n)) <<< lo) =
        some .access then Cause.access else Cause.busTimeout
      (passes .load 8 → exec (.bustimeout i 0x13 rd ra imm) s = .next (s.enterTrap i Cause.busTimeout ea)) ∧
      (passes .load 4 → exec (.bustimeout i 0x12 rd ra imm) s = .next (s.enterTrap i Cause.busTimeout ea) ∧
        exec (.bustimeout i 0x16 rd ra imm) s = .next (s.enterTrap i Cause.busTimeout ea)) ∧
      (passes .store 8 → exec (.bustimeout i 0x1B rd ra imm) s = .next (s.enterTrap i (cause 8) ea)) ∧
      (passes .store 4 → exec (.bustimeout i 0x1A rd ra imm) s = .next (s.enterTrap i (cause 4) ea))))

/-- A trap enters the handler, or halts the tender. Outside a trap with a handler address set, taking a trap saves the pc in TS_TPC, the
cause and the value, saves the privilege and makes it ORDER, sets intrap and goes to TS_TVEC, and changes nothing else. Within a trap, or
with TS_TVEC zero (and a watchdog expiry within a trap is such a trap), the tender halts: its run state is halted, its registers, pc and
trap registers stay as they were, TND keeps cause, value and pc, and TENDER_HALT of the tender goes on its way outside emergency-light mode.
A watchdog expiry traps a running or sleeping tender with TS_CYCLE, and one that waits inside an instruction keeps that TS_CYCLE for when it
goes on (the model's reading). The statement takes a tender with no owner handler running. (Completes: watchdog.) (03_tender_isa_core.md
R55, 03_tender_isa_core.md R52, 03_tender_isa_core.md R58) -/
def Obligations.TrapEntryAndHalt : Prop :=
  ∀ (s : State) (i : Tender) (c : Nat) (v : Word),
    let x := s.t i
    let u := s.enterTrap i c v
    (x.intrap = false → x.tvec ≠ 0 → u = s.setT i { x with
      tpc := x.pc.zeroExtend 64, tcause := c, tval := v, pprv := x.prv, prv := true, intrap := true, pc := x.tvec.truncate 48 }) ∧
    (x.intrap = true ∨ x.tvec = 0 →
      u.t i = { x with run := .halted, wait := none, hcause := c, hpc := x.pc, hval := v } ∧
      (∀ j, j ≠ i → u.t j = s.t j) ∧ u.mem = s.mem ∧ u.regs = s.regs ∧
      (s.emergency = false → ∃ f, u.evt.inflight = s.evt.inflight ++ [f] ∧ f.ev.event = 0x380 + i.val)) ∧
    (s.ready = [] → x.handler = none → x.wdogEn = true → x.wdogDue ≤ s.beacon →
      let due := x.wdogDue + x.wdogPeriod * 1600
      (x.run = .running ∨ x.run = .asleep → exec (.watchdog i) s =
        .next ((s.setT i { x with wdogDue := due, run := .running, wait := none }).enterTrap i Cause.watchdog x.cycle)) ∧
      (x.run ∈ [.waitLog, .waitMoor, .waitSec, .waitWin] → x.wdogHit = none → exec (.watchdog i) s =
        .next (s.setT i { x with wdogDue := due, wdogHit := some x.cycle })))

/-- TRAPI and BRK take their traps with the zero-extended immediate. On a tender that executes with no owner handler running, TRAPI takes
cause TRAPI with the immediate; BRK takes cause BRK with it, and hands the trap state to the sessions attached to the tender, which no
session is in the case stated. (Completes: trapi, brk.) (03_tender_isa_core.md R53, 03_tender_isa_core.md R59) -/
def Obligations.SoftwareTraps : Prop :=
  ∀ (s : State) (i : Tender) (rd ra : Fin 32) (imm : BitVec 15), s.executes i → (s.t i).handler = none →
    exec (.trapi i rd ra imm) s = .next (s.enterTrap i Cause.trapi (imm.zeroExtend 64)) ∧
    ((∀ x, (s.ses x).attached = none) → exec (.brk i rd ra imm) s = .next (s.enterTrap i Cause.brk (imm.zeroExtend 64)))

/-- TRET returns to TS_TPC at the saved privilege. Within a trap at ORDER, TRET with its register and function fields zero clears intrap,
takes the privilege back from pprv and goes to TS_TPC; outside a trap it is ILLEGAL, at HOST PRIV, with the instruction word (no owner
handler running). (Completes: tret.) (03_tender_isa_core.md R54, 03_tender_isa_core.md R52) -/
def Obligations.TrapReturn : Prop :=
  ∀ (s : State) (i : Tender), s.executes i →
    ((s.t i).prv = true → (s.t i).intrap = true → exec (.tret i 0 0 0 0) s =
      .next ((s.updT i (fun x => { x with prv := x.pprv, intrap := false })).retireTo i ((s.t i).tpc.truncate 48))) ∧
    ((s.t i).handler = none → (s.t i).prv = true → (s.t i).intrap = false →
      exec (.tret i 0 0 0 0) s = .next (s.enterTrap i Cause.illegal (encA 0x2E 0 0 0 0))) ∧
    ((s.t i).handler = none → (s.t i).prv = false →
      exec (.tret i 0 0 0 0) s = .next (s.enterTrap i Cause.priv (encA 0x2E 0 0 0 0)))

/-- TSR reads and TSW writes every tender state register of R48 by its index. On a tender that executes, TSR of each of the eleven listed
indices at ORDER, and at HOST of the five that a HOST program may read, retires with the register in rd. TSW at ORDER to TS_TVEC, TS_TPC,
TS_TSCRATCH, TS_STATUS and TS_WDOG retires with the register written: the ignored bits of TS_TVEC and TS_TPC zero; TS_STATUS taking pprv and
wdog_en and clearing posterr on a 1, the watchdog count running on from where it stood when it is enabled and standing still when it is not
(the model's reading of the enable); TS_WDOG reloading the count. With no owner handler running, an index not listed, or a nonzero rd of
TSW, is ILLEGAL at both privileges; a read of the other six at HOST and every TSW at HOST is PRIV; a TSW to a read-only register at ORDER is
ACCESS; each with the instruction word. (Completes: tsr, tsw.) (03_tender_isa_core.md R48, 03_tender_isa_core.md R53, 03_tender_isa_core.md
R54, 03_tender_isa_core.md R58) -/
def Obligations.TenderStateRegisters : Prop :=
  ∀ (s : State) (i : Tender) (rd ra : Fin 32), s.executes i →
    let x := s.t i
    let v := s.g i ra
    let reads := fun (idx : BitVec 15) (w : Word) => exec (.tsr i rd ra idx) s = .next ((s.setG i rd w).retire i)
    let writes := fun (idx : BitVec 15) (y : TenderSt) => exec (.tsw i 0 ra idx) s = .next ((s.setT i y).retire i)
    let listed : List (BitVec 15) := [0x000, 0x001, 0x020, 0x021, 0x022, 0x010, 0x011, 0x012, 0x013, 0x014, 0x030]
    (reads 0x000 (BitVec.ofNat 64 (i.val + (if 16 ≤ i.val then 32 else 0) + 256)) ∧ reads 0x001 (BitVec.ofNat 64 (b2n x.prv + 2 * b2n x.pprv + 4 * b2n x.intrap + 8 * b2n x.posterr + 16 * b2n x.wdogEn)) ∧ reads 0x020 x.cycle ∧
      reads 0x021 x.instret ∧ reads 0x022 (BitVec.ofNat 64 s.beacon)) ∧
    (x.prv = true →
      reads 0x010 x.tvec ∧ reads 0x011 x.tpc ∧ reads 0x012 (BitVec.ofNat 64 x.tcause) ∧ reads 0x013 x.tval ∧ reads 0x014 x.tscratch ∧
      reads 0x030 (BitVec.ofNat 64 x.wdogPeriod) ∧
      writes 0x010 { x with tvec := v &&& ~~~3#64 } ∧
      writes 0x011 { x with tpc := BitVec.ofNat 64 (v.toNat % 2 ^ 48) &&& ~~~3#64 } ∧
      writes 0x014 { x with tscratch := v } ∧
      writes 0x030 { x with
        wdogPeriod := v.toNat % 2 ^ 24, wdogDue := s.beacon + v.toNat % 2 ^ 24 * 1600, wdogLeft := v.toNat % 2 ^ 24 * 1600 } ∧
      writes 0x001 { x with
        pprv := v.toNat.testBit 1, posterr := x.posterr && !v.toNat.testBit 3, wdogEn := v.toNat.testBit 4
        wdogDue := if x.wdogEn = false ∧ v.toNat.testBit 4 = true then s.beacon + x.wdogLeft else x.wdogDue
        wdogLeft := if x.wdogEn = true ∧ v.toNat.testBit 4 = false then x.wdogDue - s.beacon else x.wdogLeft }) ∧
    (x.handler = none → ∀ idx : BitVec 15,
      (idx ∉ listed → exec (.tsr i rd ra idx) s = .next (s.enterTrap i Cause.illegal (encI 0x2C rd ra idx))) ∧
      (idx ∉ listed ∨ rd ≠ 0 → exec (.tsw i rd ra idx) s = .next (s.enterTrap i Cause.illegal (encI 0x2D rd ra idx))) ∧
      (x.prv = false → idx ∈ listed.drop 5 → exec (.tsr i rd ra idx) s = .next (s.enterTrap i Cause.priv (encI 0x2C rd ra idx))) ∧
      (x.prv = false → idx ∈ listed → exec (.tsw i 0 ra idx) s = .next (s.enterTrap i Cause.priv (encI 0x2D 0 ra idx))) ∧
      (x.prv = true → idx ∈ [0x000, 0x012, 0x013, 0x020, 0x021, 0x022] →
        exec (.tsw i 0 ra idx) s = .next (s.enterTrap i Cause.access (encI 0x2D 0 ra idx))))

/-- What an instruction with a result in rd leaves unchanged. Writing a result to rd and retiring changes nothing but the tender's rd, pc
and count of retired instructions: every other general register, every other tender, all of memory, every register of register space and
everything else stay; with rd = g0 no general register changes; and the pc moves by 4. (03_tender_isa_core.md R35, 03_tender_isa_core.md
R41) -/
def Obligations.ResultFrame : Prop :=
  ∀ (s : State) (i : Tender) (rd : Fin 32) (v : Word),
    let u := (s.setG i rd v).retire i
    s.onlyResult u i rd ∧ u.g i rd = (if rd = 0 then 0 else v) ∧ (∀ a, u.rdByte a = s.rdByte a) ∧
    (u.t i).pc = (s.t i).pc + 4 ∧ (u.t i).instret = (s.t i).instret + 1

/-- WAIT and PEEK deliver an event, sleep, or answer none. On a tender that executes with an even rd and a legal priority mask, PEEK retires
with the event word and payload of the entry it picks (the oldest of the highest selected priority) in rd and rd + 1, or zeros. WAIT at HOST
does the same and removes the entry; where the Standing Orders in force have a record to write of it (no event of RAISE, no acting report),
that record and their own reaction follow; with no entry and a timeout it sleeps, and without a timeout, or within a trap, it retires with
zeros. A sleeping WAIT whose timeout has come retires with zeros. (Completes: peek, waitEv, waitTimeout.) (04_tender_isa_system.md R66,
04_tender_isa_system.md R67) -/
def Obligations.EventDelivery : Prop :=
  ∀ (s : State) (i : Tender) (rd ra rb : Fin 32), rd.val % 2 = 0 → (s.g i ra).toNat < 16 →
    let m := if (s.g i ra).toNat = 0 then 15 else (s.g i ra).toNat
    let us := (s.g i rb).toNat
    let two := fun (a b : Word) => ((s.setG i rd a).setG i (Fin.ofNat 32 (rd.val + 1)) b).retire i
    (s.executes i →
      (∀ e, pickEntry (s.t i).queue m = some e →
        exec (.peek i rd ra rb 1) s = .next (two e.word e.payload) ∧
        ((s.t i).prv = false →
          let u := (two e.word e.payload).updT i (fun x => x.dropEntry e)
          (s.prog.orders = none ∨ e.sw = true ∨ (0x3C0 ≤ e.event ∧ e.event < 0x3C4) → exec (.waitEv i rd ra rb 0) s = .next u) ∧
          (s.prog.orders ≠ none → e.sw = false → ¬ (0x3C0 ≤ e.event ∧ e.event < 0x3C4) →
            exec (.waitEv i rd ra rb 0) s = .next ((u.ordersRecord i e).ordersAct e).settle))) ∧
      (pickEntry (s.t i).queue m = none →
        exec (.peek i rd ra rb 1) s = .next (two 0 0) ∧
        (us = 0 ∨ (s.t i).intrap = true → exec (.waitEv i rd ra rb 0) s = .next (two 0 0)) ∧
        (us ≠ 0 → (s.t i).intrap = false → exec (.waitEv i rd ra rb 0) s = .next (s.updT i (fun x => { x with
          run := .asleep, wait := some ⟨rd, m, if 2 ^ 48 ≤ us then none else some (s.beacon + us * 1600)⟩ }))))) ∧
    (∀ q due, s.ready = [] → (s.t i).run = .asleep → (s.t i).wait = some ⟨rd, q, some due⟩ → due ≤ s.beacon →
      exec (.waitTimeout i) s = .next ((((s.updT i (fun x => { x with run := .running, wait := none })).setG i rd 0).setG i
        (Fin.ofNat 32 (rd.val + 1)) 0).retire i))

/-- The Standing Orders' dispatcher starts the owner handler of an event. A WAIT at ORDER outside a trap, with Standing Orders in force,
that delivers an event raised by RAISE (which has no record) for which the bound program names a handler leaves the tender at HOST at the
handler's address with the event word in g2 and the payload in g3, the handler's budget running from now, and the event out of the queue;
the pc the WAIT would have gone on at is left to the dispatcher. (05_programs_and_arming.md R97, 05_programs_and_arming.md R96) -/
def Obligations.DispatcherStartsOwnerHandler : Prop :=
  ∀ (s : State) (i : Tender) (rd ra rb : Fin 32) (e : EvEntry) (p : Program) (h : HandlerEnt), s.executes i → rd.val % 2 = 0 →
    (s.g i ra).toNat = 0 → pickEntry (s.t i).queue 15 = some e → (s.t i).prv = true → (s.t i).intrap = false → s.prog.orders ≠ none →
    e.sw = true → s.progOf i = some p → State.ownerHandler p e = some h →
    ∃ t, exec (.waitEv i rd ra rb 0) s = .next t ∧ (t.t i).prv = false ∧ (t.t i).pc = BitVec.ofNat 48 (0x20000 + h.offset / 4 * 4) ∧
      t.g i 2 = e.word ∧ t.g i 3 = e.payload ∧ (t.t i).handler = some ⟨s.beacon + p.budget * 1600, none⟩ ∧
      (t.t i).queue = ((s.t i).dropEntry e).queue ∧ t.mem = s.mem ∧ t.regs = s.regs

/-- The entry delivered is the oldest of the highest selected priority. The picked entry stands in the queue at a selected priority; no
entry of a higher selected priority stands there, and none of its own priority before it; nothing is picked exactly where no entry of a
selected priority stands. (04_tender_isa_system.md R65, 04_tender_isa_system.md R67) -/
def Obligations.PickIsOldestOfHighest : Prop :=
  ∀ (q : List EvEntry) (m : Nat), (∀ e ∈ q, e.prio < 4) →
    (∀ e, pickEntry q m = some e ↔ ∃ l r, q = l ++ e :: r ∧ m.testBit e.prio = true ∧
      (∀ x ∈ l, m.testBit x.prio = true → x.prio < e.prio) ∧ (∀ x ∈ r, m.testBit x.prio = true → x.prio ≤ e.prio)) ∧
    (pickEntry q m = none ↔ ∀ e ∈ q, m.testBit e.prio = false)

/-- An arriving event is queued or merged, and a delivered entry makes room for the merged ones. From a queue in its right form (at most 512
entries, merge counters only beside a full queue and one per event), an arrival leaves a queue in that form which holds the arriving event
and every event held before; it enters the queue exactly where the queue has space and no merge counter stands, and else is counted in its
event's merge counter. Dropping a delivered entry leaves such a form, holding every event number but, at most, the delivered one, and merged
events re-enter in the order of their first arrival, marked merged. (04_tender_isa_system.md R68) -/
def Obligations.QueueLosesNoEvent : Prop :=
  ∀ (x : TenderSt) (e : EvEntry), x.queueWf →
    (x.arrive e).1.queueWf ∧ (x.arrive e).1.holds e.event ∧ (∀ n, x.holds n → (x.arrive e).1.holds n) ∧
    (if x.queue.length < 512 then (x.arrive e).1.queue = x.queue ++ [e] ∧ (x.arrive e).2 = false
     else (x.arrive e).1.queue = x.queue ∧ (x.arrive e).2 = true) ∧
    (e ∈ x.queue → (x.dropEntry e).queueWf ∧ (∀ n, n ≠ e.event → x.holds n → (x.dropEntry e).holds n) ∧
      ∀ y ys, x.merges = y :: ys →
        (x.dropEntry e).queue = x.queue.erase e ++ [{ y with merged := true }] ∧ (x.dropEntry e).merges = ys)

/-- A raised event reaches its tender's queue. While the keeper runs, EVENT_ENQUEUE for a tender that does not sleep takes the earliest
event on its way to it (lowest event number, then lowest raiser, then for KCP_COMMAND the lowest session, among equals) into the tender's
queue or merge counters, and leaves every other event on its way and every other tender as they were. (Completes: eventEnqueue.)
(04_tender_isa_system.md R65, 04_tender_isa_system.md R68, 05_programs_and_arming.md R103) -/
def Obligations.EnqueueTakesTheNextArrival : Prop :=
  ∀ (s : State) (i : Tender) (x : InFlight), s.clk.held = false → s.clk.shutDown = false → s.ready = [] →
    (s.t i).run ≠ .asleep → nextArrival s.evt.inflight i = some x →
    x ∈ s.evt.inflight ∧ x.target = i ∧
    (∀ y ∈ s.evt.inflight, y.target = i → x.tick < y.tick ∨ (x.tick = y.tick ∧ (x.ev.event < y.ev.event ∨
      (x.ev.event = y.ev.event ∧ (x.ev.raiser < y.ev.raiser ∨ (x.ev.raiser = y.ev.raiser ∧
        (x.ev.event = Ev.kcpCommand → x.ev.arg % 8 ≤ y.ev.arg % 8))))))) ∧
    ∃ t, exec (.eventEnqueue i) s = .next t ∧ t.t i = ((s.t i).arrive x.ev).1 ∧ (∀ j, j ≠ i → t.t j = s.t j) ∧
      t.evt.inflight = s.evt.inflight.erase x

/-- RAISE sends the named event along its route or straight to a tender. At ORDER, or at HOST for a routed event of the program's raise set,
RAISE of an event outside 0x380 to 0x3C3 with a legal operand retires with status OK in rd and the event on its way: routed to the tender
and at the priority of its route register, or direct to tender fn[4:0] at the priority of g[ra][11:10], with the argument g[ra][31:16], the
payload g[rb], the sw bit and the raiser. (Completes: raise, raiseDirect.) (04_tender_isa_system.md R69, 04_tender_isa_system.md R73) -/
def Obligations.RaiseInstructions : Prop :=
  ∀ (s : State) (i : Tender) (rd ra rb : Fin 32) (fn : BitVec 10), s.executes i →
    let v := (s.g i ra).toNat
    let e := v % 1024
    let ok : Word := 0
    let ev := fun (prio : Nat) => (⟨e, prio, true, false, v / 65536, 1, i.val, s.g i rb⟩ : EvEntry)
    v < 2 ^ 32 → v / 4096 % 16 = 0 → ¬ (0x380 ≤ e ∧ e < 0x3C4) →
    ((s.t i).prv = true ∨ s.inRaiseSet i e = true → v / 1024 % 4 = 0 → fn.toNat / 32 = 0 → exec (.raise i rd ra rb fn) s =
      .next (((s.launch (tenderOf (s.f F.EVT_ROUTE_tender e)) (ev (s.f F.EVT_ROUTE_prio e))).setG i rd ok).retire i)) ∧
    ((s.t i).prv = true → fn.toNat / 32 = 16 → fn.toNat % 32 < 24 → exec (.raiseDirect i rd ra rb fn) s =
      .next (((s.launch (tenderOf (fn.toNat % 32)) (ev (v / 1024 % 4))).setG i rd ok).retire i))

/-- STG stages a route in its default set, PEG discards, counts and commits it. At ORDER, STG of a tender and priority into the route
register of an event through the tender's own set, in which nothing of that register is pending anywhere and there is room, answers OK and
appends the entry to the set and stages nothing else; pending in another set it answers CONFLICT and stages nothing; a reserved tender is
REFUSED. PEG DISCARD empties a set, COUNT leaves it; each answers the number of its entries. PEG COMMIT of a set of route entries empties it
and writes each entry's masked value to its register, and no other register. (Completes: stg, pegCommit, pegCount, pegDiscard.)
(04_tender_isa_system.md R70, 04_tender_isa_system.md R71, 04_tender_isa_system.md R72, 04_tender_isa_system.md R73) -/
def Obligations.StagingInstructions : Prop :=
  ∀ (s : State) (i : Tender) (rd ra rb : Fin 32), s.executes i → (s.t i).prv = true → s.canonical →
    (∀ (e : Fin 1024), s.g i ra = BitVec.ofNat 64 (0x40031000 + 8 * e.val) → (s.g i rb).toNat < 128 →
      let k : Fin 64 := ⟨i.val, by omega⟩
      let pending := fun (j : Fin 64) => ∃ q ∈ s.sets[j], q.off = 0x31000 + 8 * e.val
      let fn : BitVec 10 := BitVec.ofNat 10 (64 + i.val)
      let v := s.g i rb
      let answers := fun (st : Nat) => exec (.stg i rd ra rb fn) s = .next ((s.setG i rd (statusWord st 0 0)).retire i)
      (v.toNat % 32 < 24 → (∀ j, ¬ pending j) → (s.sets[k]).length < 64 → exec (.stg i rd ra rb fn) s =
        .next ((({ s with sets := s.sets.set k (s.sets[k] ++ [⟨0x31000 + 8 * e.val, 0x7F, v⟩]) } : State).setG i rd 0).retire i)) ∧
      (v.toNat % 32 < 24 → (∃ j, j ≠ k ∧ ∃ q ∈ s.sets[j], q.off = 0x31000 + 8 * e.val ∧ q.mask &&& 0x7F ≠ 0) → answers St.conflict) ∧
      (v.toNat % 32 < 24 → (∀ j, ¬ pending j) → 64 ≤ (s.sets[k]).length → answers St.full) ∧
      (24 ≤ v.toNat % 32 → answers St.refused)) ∧
    (∀ (k : Fin 64) (fn : BitVec 10), fn.toNat = k.val → (∀ q ∈ s.sets[k], 0x31000 ≤ q.off ∧ q.off < 0x33000) →
      ((s.sets[k]).map (·.off)).Nodup → ∃ t, exec (.pegCommit i rd 0 0 fn) s = .next t ∧ t.sets = s.sets.set k [] ∧
        (∀ q ∈ s.sets[k], t.reg q.off = (s.reg q.off &&& ~~~q.mask) ||| (q.val &&& q.mask)) ∧
        (∀ off, (∀ q ∈ s.sets[k], q.off ≠ off) → t.reg off = s.reg off) ∧ t.mem = s.mem ∧
        (rd ≠ 0 → t.g i rd = statusWord St.ok 0 (s.sets[k]).length)) ∧
    (∀ (k : Fin 64) (fn : BitVec 10), fn.toNat = 64 + k.val →
      exec (.pegDiscard i rd 0 0 fn) s = .next ((({ s with sets := s.sets.set k [] } : State).setG i rd
        (statusWord St.ok 0 (s.sets[k]).length)).retire i)) ∧
    (∀ (k : Fin 64) (fn : BitVec 10), fn.toNat = 128 + k.val →
      exec (.pegCount i rd 0 0 fn) s = .next ((s.setG i rd (statusWord St.ok 0 (s.sets[k]).length)).retire i))

/-- MOOR reads levels, commands phases and shifts bits. At ORDER with a slot in g[ra]: READ retires with OK and levels, phase, OCCULT and
presence in rd. On a keeper in control, for a slot present, PHASE to dump from run of an occulted slot with no release in flight pulls W1
low for the pulse of ENTER_DUMP, 1 µs low and 2 µs high, and the tender waits; at the end of the pulse the slot is in dump phase with W1
low, and 1 µs later the instruction retires with OK. PHASE to run from dump puts the slot back in run with OK; any other PHASE is REFUSED
and changes nothing; during a phase command of the slot it answers BUSY (the model's choice); SHIFT in dump phase sends the low bits of
g[rb] to the slot and returns as many sampled bits; outside dump phase it is REFUSED. On a follower PHASE and SHIFT answer NOTCONTROL, for a
position without an accelerator NOTARGET. (Completes: moorRead, moorPhase, moorShift.) (04_tender_isa_system.md R75,
13_mooring_and_bringup.md R265, 13_mooring_and_bringup.md R266) -/
def Obligations.MooringInstructions : Prop :=
  ∀ (s : State) (i : Tender) (rd ra rb : Fin 32) (n : Slot), s.executes i → (s.t i).prv = true → (s.g i ra).toNat = n.val → rd ≠ 0 →
    let w := fun (st v : Nat) => statusWord st 0 v
    let res := fun (v : Word) => (s.setG i rd v).retire i
    let dest := (s.g i rb).toNat % 4
    let sh := fun (k : Fin 64) => (BitVec.ofNat 10 (2 + 16 * k.val))
    (∀ levels < 16, exec (.moorRead i rd ra rb 0 levels) s = .next (res (w St.ok (levels + 16 * ((s.mo n).phase % 4) +
      64 * (if (s.mo n).w1low then 1 else 0) + 128 * (if s.slotPresent n then 1 else 0))))) ∧
    (s.control = false → exec (.moorPhase i rd ra rb 1) s = .next (res (w St.notControl 0)) ∧
      ∀ k x, exec (.moorShift i rd ra rb (sh k) x) s = .next (res (w St.notControl 0))) ∧
    (s.control = true → s.slotPresent n = false → exec (.moorPhase i rd ra rb 1) s = .next (res (w St.noTarget 0)) ∧
      ∀ k x, exec (.moorShift i rd ra rb (sh k) x) s = .next (res (w St.noTarget 0))) ∧
    ((s.mo n).pulse = some ⟨true, s.beacon - 3200, s.beacon, false, none, 0, 0, some (i, rd)⟩ →
      ((s.pulseTick n).mo n).phase = 3 ∧ ((s.pulseTick n).mo n).w1pull = true ∧
        ((s.pulseTick n).mo n).pulse = some ⟨true, s.beacon - 3200, s.beacon, true, none, 0, 0, some (i, rd)⟩) ∧
    (∀ v : State, v = s.updT i (fun x => { x with run := .waitMoor }) → 4800 ≤ s.beacon →
      (s.mo n).pulse = some ⟨true, s.beacon - 4800, s.beacon - 1600, true, none, 0, 0, some (i, rd)⟩ → (s.mo n).nextStagger = none →
      (s.t i).wdogHit = none → ((v.pulseTick n).t i).run = .running ∧ ((v.pulseTick n).t i).pc = (s.t i).pc + 4 ∧ (v.pulseTick n).g i rd = w St.ok 0 ∧
        ((v.pulseTick n).mo n).pulse = none) ∧
    (s.control = true → s.slotPresent n = true → (s.mo n).pulse.isSome = true → exec (.moorPhase i rd ra rb 1) s = .next (res (w St.busy 0))) ∧
    (s.control = true → s.slotPresent n = true →
      (dest = 3 → s.dumpAllowed n = true → (s.mo n).pulse = none → ∃ u : State, exec (.moorPhase i rd ra rb 1) s = .next u ∧ (u.t i).run = .waitMoor ∧
        (u.t i).pc = (s.t i).pc ∧ (u.mo n).phase = 2 ∧ (u.mo n).w1pull = true ∧
        (u.mo n).pulse = some ⟨true, s.beacon + 1600, s.beacon + 4800, false, none, 0, 0, some (i, rd)⟩ ∧ u.mem = s.mem) ∧
      (dest = 2 → (s.mo n).phase = 3 → (s.mo n).pulse = none → ∃ u : State, exec (.moorPhase i rd ra rb 1) s = .next u.settle ∧ (u.mo n).phase = 2 ∧
        (u.mo n).pulse = none ∧ u.g i rd = w St.ok 0 ∧ u.mem = s.mem) ∧
      (¬ (dest = 3 ∧ s.dumpAllowed n = true) → ¬ (dest = 2 ∧ (s.mo n).phase = 3) → (s.mo n).pulse = none →
        exec (.moorPhase i rd ra rb 1) s = .next (res (w St.refused 0))) ∧
      (∀ (k : Fin 64) (x : Word), (s.mo n).phase ≠ 3 → exec (.moorShift i rd ra rb (sh k) x) s = .next (res (w St.refused 0))) ∧
      (∀ (k : Fin 64) (x : Word), (s.mo n).phase = 3 → exec (.moorShift i rd ra rb (sh k) x) s =
        .next (((s.send (.buoy n.val "SHIFT" [] [k.val + 1, (s.g i rb).toNat % 2 ^ (k.val + 1)])).setG i rd
          (if k.val < 48 then w St.ok (x.toNat % 2 ^ (k.val + 1)) else BitVec.ofNat 64 (x.toNat % 2 ^ (k.val + 1)))).retire i)))

/-- LEDG writes the entry, count record or snapshot its query names. At ORDER, with a legal key and a writable 16-byte aligned destination
in local or gallery memory, LOOKUP writes the 16 bytes of the entry at the key's position with OK, OLDEST the earliest begun entry of the
key's engine and NEXTOUT the next timed-out entry, each with the entry's key, COUNT the engine's count record, SNAPSHOT all entries of the
slot; where no entry answers the status is EMPTY and nothing is written. (Completes: ledgLookup, ledgOldest, ledgCount, ledgNextout,
ledgSnapshot.) (04_tender_isa_system.md R76, 09_ledger_trace_sightings.md R164) -/
def Obligations.LedgerQueries : Prop :=
  ∀ (s : State) (i : Tender) (rd ra rb : Fin 32), s.executes i → (s.t i).prv = true → (s.g i ra).toNat < 2 ^ 18 →
    let key := (s.g i ra).toNat
    let n : Slot := Fin.ofNat 16 key
    let engine := key / 16 % 1024
    let pos := 16 * engine + key / 2 ^ 14
    let dst := s.g i rb
    let put := fun (st : Word) (b : List Byte) => ((s.store (State.home i dst.toNat) b).setG i rd st).retire i
    let empty := (s.setG i rd (statusWord St.empty 0 0)).retire i
    State.ledgDst dst.toNat = true → lowestTrap (s.blockChecks i .store dst 16 16) = none →
    (exec (.ledgLookup i rd ra rb 0) s = .next (match s.ldgLookup n pos with
      | some e => put (statusWord St.ok 0 0) (e.bytes n.val) | none => empty)) ∧
    (exec (.ledgOldest i rd ra rb 1) s = .next (match earliest ((s.led n).ofEngine engine) with
      | some e => put (statusWord St.ok 0 (ldgKey n.val e.pos)) (e.bytes n.val) | none => empty)) ∧
    exec (.ledgCount i rd ra rb 2) s = .next (put (statusWord St.ok 0 0) (s.ldgCountRec n engine)) ∧
    (exec (.ledgNextout i rd ra rb 3) s = .next (match s.ldgNextOut n pos with
      | some e => put (statusWord St.ok 0 (ldgKey n.val e.pos)) (e.bytes n.val) | none => empty)) ∧
    (lowestTrap (s.blockChecks i .store dst 0x40000 16) = none → exec (.ledgSnapshot i rd ra rb 4) s =
      .next (put (statusWord St.ok 0 0) (State.ldgSnapBytes n.val 0 16384 (s.led n).entries)))

/-- DMOV queues a descriptor, reports its channel and aborts it. At ORDER, with a readable descriptor that passes the checks of DMOV, START,
and PACED outside SERVICE mode, queue it on the channel with the channel's next sequence number, which rd returns with ACCEPTED, and leave
all of memory; with 16 descriptors queued they answer FULL; PACED in SERVICE mode answers REFUSED. QUERY returns the depth and the last
completed number. ABORT empties the queue, ends the running transfer and returns how many it ended; on an idle channel it leaves all of
memory. (Completes: dmovStart, dmovPaced, dmovQuery, dmovAbort.) (04_tender_isa_system.md R77, 17_memory_and_dma.md R351,
17_memory_and_dma.md R355) -/
def Obligations.DmaInstructions : Prop :=
  ∀ (s : State) (i : Tender) (rd ra rb : Fin 32) (c : Fin 32) (b : List Byte), s.executes i → s.canonical → (s.t i).prv = true →
    (s.g i rb).toNat = c.val → rd ≠ 0 →
    let next := s.f F.DMA_CH_NEXT_next c.val
    let p := s.postedDone i
    let startOk := lowestTrap (s.dmaChecks i (encA 0x46 rd ra rb 0) (State.dmaParse i false b) b) = none
    let pacedOk := lowestTrap (s.dmaChecks i (encA 0x46 rd ra rb 3) (State.dmaParse i true b) b) = none
    let queued := fun (x : Instr) (paced : Bool) => ∃ t, exec x s = .next t ∧ t.g i rd = statusWord St.accepted 0 next ∧
      (t.dch c).running.toList ++ (t.dch c).queue =
        (s.dch c).running.toList ++ (s.dch c).queue ++ [{ State.dmaParse i paced b with seq := next }] ∧
      t.f F.DMA_CH_NEXT_next c.val = (next + 1) % 2 ^ 48 ∧ t.mem = s.mem
    (s.blockAt i (s.g i ra) 64 64 b → startOk →
      ((s.dch c).queue.length < 16 → queued (.dmovStart i rd ra rb 0) false) ∧
      (16 ≤ (s.dch c).queue.length → exec (.dmovStart i rd ra rb 0) s = .next ((p.setG i rd (statusWord St.full 0 0)).retire i))) ∧
    (s.blockAt i (s.g i ra) 64 64 b → pacedOk →
      (s.f F.DMA_CTL_mode ≠ 0 → (s.dch c).queue.length < 16 → queued (.dmovPaced i rd ra rb 3) true) ∧
      (s.f F.DMA_CTL_mode = 0 → exec (.dmovPaced i rd ra rb 3) s = .next ((p.setG i rd (statusWord St.refused 0 0)).retire i))) ∧
    exec (.dmovQuery i rd 0 rb 1) s = .next ((s.setG i rd (statusWord St.ok 0
      ((s.dch c).queue.length + s.f F.DMA_CH_STAT_done_seq c.val % 2 ^ 32 * 2 ^ 16))).retire i) ∧
    ∃ t, exec (.dmovAbort i rd ra rb 2) s = .next t ∧
      t.g i rd = statusWord St.ok 0 ((s.dch c).running.toList.length + (s.dch c).queue.length) ∧ (t.dch c).queue = [] ∧
      (t.dch c).running = none ∧ ((s.dch c).running = none → t.mem = s.mem)

/-- PLMB queues an op under a ticket and reports a ticket's state. With a readable op block, ISSUE directed at ORDER to a tile in rotation
with room answers ACCEPTED with the next ticket and appends the op to that tile's queue; to a tile out of rotation, for an op that is no
canary, NOTARGET; to a full one FULL. QUERY of a ticket answers OK with queued, running or complete, or EMPTY for a ticket never given.
(Completes: plmbIssue, plmbQuery.) (04_tender_isa_system.md R78, 07_plumb_array.md R135) -/
def Obligations.PlumbInstructions : Prop :=
  ∀ (s : State) (i : Tender) (rd ra rb : Fin 32) (b : List Byte) (k : Fin 8), s.executes i → rd ≠ 0 →
    let res := fun (st : Nat) => ((s.postedDone i).setG i rd (statusWord st 0 0)).retire i
    (s.blockAt i (s.g i ra) 64 64 b → (s.t i).prv = true → (s.g i rb).toNat % 16 = 8 + k.val →
      ((s.tile k).inRot = true → (s.tile k).depth < 64 → ∃ t o, exec (.plmbIssue i rd ra rb 0) s = .next t ∧
        t.g i rd = statusWord St.accepted 0 s.plbTicket.1 ∧ (t.tile k).queue = (s.tile k).queue ++ [o] ∧ o.ticket = s.plbTicket.1 ∧
        o.desc = b ∧ (∀ a, a < 0x20000000 ∨ 0x20400000 ≤ a → t.rdByte a = s.rdByte a)) ∧
      ((s.tile k).inRot = true → 64 ≤ (s.tile k).depth → exec (.plmbIssue i rd ra rb 0) s = .next (res St.full)) ∧
      ((s.tile k).inRot = false → (plbDesc b).type ≠ 6 → exec (.plmbIssue i rd ra rb 0) s = .next (res St.noTarget))) ∧
    exec (.plmbQuery i rd 0 rb 1) s = .next ((s.setG i rd (match s.plbQuery (s.g i rb).toNat with
      | some d => statusWord St.ok d 0 | none => statusWord St.empty 0 0)).retire i)

/-- DGST, SIGN and VRFY wait in the security block's queue and end with their status. With a readable request block that passes its checks,
DGST, VRFY and, at ORDER, SIGN leave the tender waiting and its request last in the queue of the security block. The request at the head,
whose data can be read, completes with its tender running again, past the instruction, and its status in rd: a SIGN under a key that is held
with OK and 96 bytes at its destination, under one that is not with BADKEY; a VRFY with OK exactly where the signature verifies under the
key, with INVALID where it does not; a whole DGST with OK and the 48 bytes of SHA-384 of its data at its destination. (Completes: dgst,
sign, vrfy, secRequestDone.) (04_tender_isa_system.md R79, 04_tender_isa_system.md R80) -/
def Obligations.SecurityRequests : Prop :=
  ∀ (s : State) (i : Tender) (rd ra : Fin 32) (b : List Byte), s.ready = [] →
    (s.executes i → s.blockAt i (s.g i ra) 64 64 b →
      let waits := fun (x : Instr) => ∃ t k, exec x s = .next t ∧ (t.t i).run = .waitSec ∧ (t.t i).pc = (s.t i).pc ∧
        t.sec.queue = s.sec.queue ++ [⟨i, rd, k⟩] ∧ t.mem = s.mem ∧ t.regs = s.regs
      (lowestTrap (s.dgstChecks i (encA 0x48 rd ra 0 0) 0 b) = none → waits (.dgst i rd ra 0 0)) ∧
      (lowestTrap (s.vrfyChecks i (encA 0x4A rd ra 0 0) 0 b) = none → waits (.vrfy i rd ra 0 0)) ∧
      ((s.t i).prv = true → lowestTrap (s.signChecks i (encA 0x49 rd ra 0 0) 0 b) = none → waits (.sign i rd ra 0 0))) ∧
    (∀ k rest, s.sec.queue = ⟨i, rd, k⟩ :: rest → s.clk.held = false →
      (∀ x ∈ State.secReads k, s.loadState (State.home i x.1) x.2 ≠ .held ∧ (x.2 ≠ 0 → s.readable i x.1 x.2 = true)) →
      let u : State := ({ s with sec := { s.sec with queue := rest } } : State).updT i (fun x => { x with run := .running })
      let ends := fun (st : Nat) (v : State) => exec .secRequestDone s = .next ((v.setG i rd (statusWord st 0 0)).retire i)
      (∀ d key dst, k = .sign d key dst → if s.keyHeld key then
        ends St.ok (u.stAt i dst (P384.sign (s.privKey key) (s.rdAt i d 48))) else ends St.badKey u) ∧
      (∀ d key sig q, k = .vrfy d false key sig → P384.decode (s.rdAt i key 97) = some q →
        if P384.verify q (s.rdAt i d 48) (s.rdAt i sig 96) then ends St.ok u else ends St.invalid u) ∧
      (∀ src len ctx dst, k = .dgst src len ctx dst true true → ends St.ok (u.stAt i dst (sha384 (s.rdAt i src len)))))

/-- LOGW writes its record into the retained ring under the next sequence number. On a keeper that does not follow, with room in the ring,
and a readable request of n literal words that passes its checks, LOGW at ORDER retires with the next sequence number in rd; the record's
120 bytes, with that number, trigger, source, time and words, stand at the number's place in the ring, LOG_NEXT counts one more, and every
byte of memory outside the two is unchanged. Without room the tender waits and nothing is written. (Completes: logw.)
(04_tender_isa_system.md R81, 15_logbook.md R300, 15_logbook.md R304, 15_logbook.md R305) -/
def Obligations.LogWriteInstruction : Prop :=
  ∀ (s : State) (i : Tender) (rd ra : Fin 32) (b : List Byte) (n : Nat), s.executes i → s.canonical → (s.t i).prv = true → rd ≠ 0 → n ≤ 12 →
    s.following = false → s.blockAt i (s.g i ra) (8 + 16 * n) 8 b → zeros (cut b 4 4) = true →
    (∀ p ∈ State.logwSpecs b n, p.lit = true ∧ p.mbz = true) →
    let d := s.logwDraft i b (State.logwSpecs b n)
    let q := s.logNext
    (s.ringRoom = true → ∃ u : State, exec (.logw i rd ra 0 (BitVec.ofNat 10 n)) s = .next u.settle ∧
      u.g i rd = BitVec.ofNat 64 q ∧ (u.t i).pc = (s.t i).pc + 4 ∧ u.rdBytes (State.ringAddr q) 120 = d.bytes q ∧
      u.logNext = (q + 1) % 2 ^ 64 ∧ u.log.held = s.log.held ++ [q] ∧
      (∀ a, (a < State.ringAddr q ∨ State.ringAddr q + 120 ≤ a) → (a < 0x203C0208 ∨ 0x203C0210 ≤ a) → u.rdByte a = s.rdByte a)) ∧
    (s.ringRoom = false → ∃ t, exec (.logw i rd ra 0 (BitVec.ofNat 10 n)) s = .next t ∧ (t.t i).run = .waitLog ∧
      (t.t i).pc = (s.t i).pc ∧ t.log.waiters = s.log.waiters ++ [LogWaiter.logw i.val] ∧ t.mem = s.mem)

/-- SEND completes or answers a session's command, or sends a notice. At ORDER on a keeper in control, with a readable request whose checks
pass and an empty body, for an open session with room whose command is not yet complete: SEND of kind 0 marks the command completed with
status OK and retires with OK; of kind 1 answers it with a RESPONSE and leaves it open; on a command not known or already complete it
answers NOTARGET, and so on a closed session; kind 2 sends a notice and retires with OK. On a keeper not in control each answers NOTCONTROL,
with 64 frames of the session unacknowledged kinds 0 and 1 answer FULL. (Completes: sendComplete, sendResponse, sendNotice.)
(04_tender_isa_system.md R82, 04_tender_isa_system.md R83) -/
def Obligations.SendInstructions : Prop :=
  ∀ (s : State) (i : Tender) (rd ra : Fin 32) (b : List Byte), s.executes i → (s.t i).prv = true → rd ≠ 0 →
    s.blockAt i (s.g i ra) 32 8 b → lowestTrap (s.sendChecks i (encA 0x4C rd ra 0 0) 0 b) = none → numAt b 2 2 = 0 →
    let x : Sess := Fin.ofNat 8 (numAt b 0 1)
    let num := numAt b 8 8
    let kind := numAt b 1 1
    let p := s.postedDone i
    let res := fun (st : Nat) => .next ((p.setG i rd (statusWord st 0 0)).retire i)
    let live := (s.ses x).isOpen = true ∧ s.cmdOpen x num = true
    (s.control = false → exec (.sendComplete i rd ra 0 0) s = res St.notControl ∧ exec (.sendResponse i rd ra 0 0) s = res St.notControl ∧
      exec (.sendNotice i rd ra 0 0) s = res St.notControl) ∧
    (s.control = true → kind ≠ 2 → ¬ live → exec (.sendComplete i rd ra 0 0) s = res St.noTarget ∧
      exec (.sendResponse i rd ra 0 0) s = res St.noTarget) ∧
    (s.control = true → kind ≠ 2 → live → 64 ≤ (s.ses x).unacked.length → exec (.sendComplete i rd ra 0 0) s = res St.full ∧
      exec (.sendResponse i rd ra 0 0) s = res St.full) ∧
    (s.control = true → live → (s.ses x).unacked.length < 64 →
      (kind = 0 → ∃ (u : State) (c : SessCmd), exec (.sendComplete i rd ra 0 0) s = .next u.settle ∧ u.g i rd = statusWord St.ok 0 0 ∧
        u.cmdOf x num = some c ∧ c.phase = .completed ∧ c.status = St.ok) ∧
      (kind = 1 → exec (.sendResponse i rd ra 0 0) s = .next (((p.respond x num []).setG i rd (statusWord St.ok 0 0)).retire i).settle)) ∧
    (s.control = true → kind = 2 →
      exec (.sendNotice i rd ra 0 0) s = .next (((p.noticeSent []).setG i rd (statusWord St.ok 0 0)).retire i).settle)

/-- An armed acting instruction is accepted with the next ticket. On a keeper in control, each of the 22 acting instructions whose operands
pass their checks, whose targets exist and are all armed for its class, with no running action on them and no state check against it,
returns ACCEPTED with the next ticket in rd, raises ACT_ACCEPTED with it, and joins the running actions as its issuer's, accepted; the tray
is driven once the acceptance is mirrored. OCLT STOP pulls W1 of every target low in the same step, and OCLT AT shows its time and slots as
pending. In the cycle in which the hardware stop path has decided a stop, OCLT STOP joins it under that stop's ticket. (Completes, each by
its constructor through SubAct.instr: rsetCore, rsetLinks, rsetMemory, rsetWarm, rsetCold, rsetHold, rsetRelease, pwrOn, pwrOff, pwrCycle,
pwrCap, fencFence, fencUnfence, ocltStop, ocltAt, ocltCancel, ocltRelease, rollRollback, rollRestore, quarLink, quarSlot, quarRelease.)
(04_tender_isa_system.md R84, 04_tender_isa_system.md R87, 04_tender_isa_system.md R88, 14_pair_failover.md R287) -/
def Obligations.ArmedActionsAreAccepted : Prop :=
  ∀ (s : State) (i : Tender) (x : SubAct) (rd ra rb : Fin 32) (mask : Nat) (core : Option Nat), s.executes i → s.canonical →
    s.emergency = false → s.actsOn i x ra rb mask core → s.control = true → (x = .ocltCancel → s.atPending = true ∧ s.atReached = false) →
    s.targetsExist mask core = true → mask.land (s.armedSlots x.cls) = mask → rd ≠ 0 →
    let tk := (s.lastTicket + 1) % 2 ^ 48
    (∀ h, x = .ocltStop → s.hwStopNow mask = some h → ∃ u : State, exec (.ocltStop i rd ra rb 0) s = .next u.settle ∧
      u.g i rd = statusWord St.accepted 0 h.ticket ∧ ∀ n : Slot, (u.mo n).w1low = ((bitOf mask n.val && !bitOf h.mask n.val) || (s.mo n).w1low)) ∧
    (s.actBusy mask core = false → s.actState x mask (s.g i rb) = none → (∀ a ∈ s.act.running, a.ticket ≠ tk) → (x = .ocltStop → s.hwStopNow mask = none) →
    ∃ u : State, exec (x.instr i rd ra rb) s = .next u.settle ∧ u.g i rd = statusWord St.accepted 0 tk ∧
      s.raises u Ev.actAccepted ((lowestBit mask 16).getD 0) (BitVec.ofNat 64 (tk + x.code.1 * 2 ^ 56)) ∧
      (x ≠ .ocltStop → x ≠ .ocltAt → u.holds (.actDrive tk) ∧ u.mor.slots = s.mor.slots ∧
        ∃ a : Action, u.act.running = s.act.running ++ [a] ∧ a.ticket = tk ∧ a.sub = x ∧ a.mask = mask ∧ a.core = core ∧
          a.tender = some i ∧ a.phase = .accepted ∧ a.ga = s.g i ra ∧ a.gb = s.g i rb) ∧
      (x = .ocltStop → ∀ n : Slot, (u.mo n).w1low = (bitOf mask n.val || (s.mo n).w1low)) ∧
      (x = .ocltAt → u.f F.OCC_AT_TIME_at_time = (s.g i rb).toNat ∧ u.f F.OCC_STATUS_sched = mask ∧
        u.fb F.OCC_STATUS_at_pending = true ∧ ∀ n, (u.mo n).w1low = (s.mo n).w1low))

/-- An unarmed acting instruction changes nothing on the tray. On a keeper in control, an acting instruction whose operands pass their
checks and whose targets exist, with a target that is not armed for its class, returns WITHHELD with the next ticket and raises
ACT_WITHHELD; no action joins the running ones, no slot's wires, phase or power change, no message goes to a Buoy, no arming entry changes,
and every step that it releases is a record's. (Says where the acting instructions are withheld, not where they complete.) (02_promises.md
R28, 04_tender_isa_system.md R84, 04_tender_isa_system.md R87, 05_programs_and_arming.md R100) -/
def Obligations.UnarmedActionsAreWithheld : Prop :=
  ∀ (s : State) (i : Tender) (x : SubAct) (rd ra rb : Fin 32) (mask : Nat) (core : Option Nat), s.executes i →
    s.emergency = false → s.actsOn i x ra rb mask core → s.control = true → (x = .ocltCancel → s.atPending = true ∧ s.atReached = false) →
    s.targetsExist mask core = true → mask.land (s.armedSlots x.cls) ≠ mask → rd ≠ 0 →
    let tk := (s.lastTicket + 1) % 2 ^ 48
    ∃ u : State, exec (x.instr i rd ra rb) s = .next u.settle ∧ u.g i rd = statusWord St.withheld 0 tk ∧
      s.raises u Ev.actWithheld ((lowestBit mask 16).getD 0) (BitVec.ofNat 64 (tk + x.code.1 * 2 ^ 56)) ∧
      u.act = s.act ∧ u.mor = s.mor ∧ u.occ = s.occ ∧ u.evt.arms = s.evt.arms ∧ (∀ n msg h l, .buoy n msg h l ∈ u.out → .buoy n msg h l ∈ s.out) ∧
      ∀ h ∈ u.ready, ∃ q, h = .record q

/-- Acting instructions that return a status without effect, and SCOPE. An acting instruction at ORDER whose operands pass their checks
returns NOTCONTROL on a keeper not in control; in control OCLT CANCEL without a pending OCLT AT, or at or after its time, returns EMPTY, a
target that does not exist NOTARGET, an armed one with a running action on its targets BUSY (where OCLT STOP does not join a hardware stop
of the same cycle), and one that a state check stops that check's status; none of these changes anything but rd and the tender's pc and
count. At HOST an acting instruction on a slot not bound to the tender's program takes the SCOPE trap with the operand as value (for ROLL
RESTORE where the checks of its descriptor's address pass). (04_tender_isa_system.md R84, 04_tender_isa_system.md R86, 14_pair_failover.md
R285, 03_tender_isa_core.md R63) -/
def Obligations.ActionsThatAreNotTaken : Prop :=
  ∀ (s : State) (i : Tender) (x : SubAct) (rd ra rb : Fin 32) (mask : Nat) (core : Option Nat), s.executes i →
    let answer := fun (st : Nat) => ∃ t : State, exec (x.instr i rd ra rb) s = .next t ∧ s.onlyResult t i rd ∧
      (t.t i).pc = (s.t i).pc + 4 ∧ (rd ≠ 0 → t.g i rd = statusWord st 0 0)
    (s.actsOn i x ra rb mask core →
      (s.control = false → answer St.notControl) ∧
      (s.control = true → x = .ocltCancel → s.atPending = false ∨ s.atReached = true → answer St.empty) ∧
      (s.control = true → (x = .ocltCancel → s.atPending = true ∧ s.atReached = false) →
        (s.targetsExist mask core = false → answer St.noTarget) ∧
        (s.targetsExist mask core = true → mask.land (s.armedSlots x.cls) = mask → s.actBusy mask core = true →
          (x = .ocltStop → s.hwStopNow mask = none) → answer St.busy) ∧
        (∀ st, s.targetsExist mask core = true → mask.land (s.armedSlots x.cls) = mask → s.actBusy mask core = false →
          (x = .ocltStop → s.hwStopNow mask = none) → s.actState x mask (s.g i rb) = some st → answer st))) ∧
    ((s.t i).prv = false → s.actTargets x (s.g i ra).toNat = some (mask, core) → x.secondOk (s.g i rb).toNat = true →
      mask.land (s.boundSlots i) ≠ mask → (x = .rollRestore → lowestTrap (s.blockChecks i .load (s.g i rb) 0x260 64) = none) →
      exec (x.instr i rd ra rb) s = .next (s.trap i Cause.scope (s.g i ra)).settle)

/-- Driving an accepted action changes its own slots and no others. Driving an accepted action: RSET COLD and HOLD, PWR OFF and CYCLE begin
ENTER_STAGGER on every target in run or dump phase, W1 low for 1 µs and high for 6 µs; the command given as W1 falls, the slot is in stagger
phase, W1 is let go 1 µs later (the model's reading of R267), and 3 µs after the fall the keeper drives its wires; a target under a phase
command waits for its end; one in stagger phase is driven at once: COLD and HOLD drive RESET_L low, COLD for its time in µs (100 for 0),
HOLD until released; OFF and CYCLE drive W0, RESET_L and REFCLK_EN low, to be complete after 1 ms. OCLT STOP pulls W1 low; OCLT RELEASE
frees it and clears the stop with a resume tick 3,200 ticks ahead; QUAR SLOT takes the slots out of the job. Phase, wires and power of a
slot outside the mask are as before. (04_tender_isa_system.md R86, 10_occult_dump_recovery.md R190, 10_occult_dump_recovery.md R192,
13_mooring_and_bringup.md R263, 13_mooring_and_bringup.md R265, 13_mooring_and_bringup.md R267) -/
def Obligations.AcceptedActionsDriveTheTray : Prop :=
  (∀ (s : State) (tk : Nat) (a : Action), s.actionOf tk = some a → a.phase = .accepted →
    let t := s.actDrive tk
    let us := if a.gb = 0 then 100 else a.gb.toNat
    (∀ n : Slot, bitOf a.mask n.val = true →
      (∀ th : StaggerThen, (a.sub = .rsetHold ∧ th = .hold none) ∨ (a.sub = .rsetCold ∧ th = .hold (some us)) ∨
          (a.sub = .pwrOff ∧ th = .off 0) ∨ (a.sub = .pwrCycle ∧ th = .off a.gb.toNat) →
        ((s.mo n).pulse.isSome = true → (t.mo n).phase = (s.mo n).phase ∧ (t.mo n).pulse = (s.mo n).pulse ∧ (t.mo n).nextStagger = some th) ∧
        (2 ≤ (s.mo n).phase → (s.mo n).pulse = none → (t.mo n).phase = (s.mo n).phase ∧ (t.mo n).w1pull = true ∧
          (t.mo n).pulse = some ⟨false, s.beacon + 1600, s.beacon + 11200, false, some th, 0, 0, none⟩) ∧
        ((s.mo n).phase < 2 → (s.mo n).pulse = none → (t.mo n).phase = (s.mo n).phase ∧ (t.mo n).drv = true ∧ (t.mo n).w2 = false ∧
          (a.sub = .rsetHold → (t.mo n).seq = some (.hold, none)) ∧
          (a.sub = .rsetCold → (t.mo n).seq = some (.hold, some (s.beacon + us * State.tickUs))) ∧
          (a.sub = .pwrOff ∨ a.sub = .pwrCycle → (t.mo n).w0 = false ∧ (t.mo n).w3 = false ∧
            (t.mo n).seq = some (.off, some (s.beacon + State.tickMs)) ∧ (t.mo n).offMs = if a.sub = .pwrOff then 0 else a.gb.toNat))) ∧
      (a.sub = .ocltStop → (t.mo n).w1low = true) ∧
      (a.sub = .ocltRelease → (t.mo n).w1low = false ∧ (t.mo n).stopped = false ∧ (t.mo n).resumeAt = some (s.beacon + 3200)) ∧
      (a.sub = .quarSlot → (t.mo n).quarSlot = true)) ∧
    (a.sub = .rsetHold ∨ a.sub = .rsetCold ∨ a.sub = .pwrOff ∨ a.sub = .pwrCycle ∨ a.sub = .ocltStop ∨ a.sub = .ocltRelease ∨
        a.sub = .quarSlot →
      ∀ n : Slot, bitOf a.mask n.val = false → (t.mo n).phase = (s.mo n).phase ∧ (t.mo n).w0 = (s.mo n).w0 ∧
        (t.mo n).w1low = (s.mo n).w1low ∧ (t.mo n).w2 = (s.mo n).w2 ∧ (t.mo n).w3 = (s.mo n).w3 ∧
        (t.mo n).powered = (s.mo n).powered ∧ (t.mo n).quarSlot = (s.mo n).quarSlot)) ∧
  ∀ (s : State) (n : Slot) (p : PhasePulse) (th : StaggerThen), (s.mo n).pulse = some p → p.dump = false → p.again = 0 →
    p.after = some th →
    (p.given = false → p.fall ≤ s.beacon → ((s.pulseTick n).mo n).phase = 1 ∧ ((s.pulseTick n).mo n).w1pull = true ∧
      ((s.pulseTick n).mo n).pulse = some { p with given := true }) ∧
    (p.given = true → p.fall + 1600 ≤ s.beacon → s.beacon < p.fall + 4800 → ((s.pulseTick n).mo n).w1pull = false ∧
      ((s.pulseTick n).mo n).pulse = some p) ∧
    (p.given = true → p.fall + 4800 ≤ s.beacon → (s.mo n).nextStagger = none → ((s.pulseTick n).mo n).pulse = none ∧ ((s.pulseTick n).mo n).w2 = false ∧
      (∀ ms, th = .off ms → ((s.pulseTick n).mo n).w0 = false ∧ ((s.pulseTick n).mo n).w3 = false ∧
        ((s.pulseTick n).mo n).seq = some (.off, some (s.beacon + State.tickMs))))

/-- Grants change one arming entry, once for a handle, from tender 23 only. A store to EVT_GRANT by tender 23 at ORDER with an outstanding
handle, a class below 6 and the zero bit clear: GRANT writes the entry with class, slots and session of the store, the expiry of
EVT_GRANT_EXP and a generation one higher; RENEW of an entry of the class that is valid and not past its expiry changes only its expiry;
REMOVE only invalidates it; with the handle of a DISARM of a class REMOVE invalidates every valid entry of the class (by the model's
choice); the handle is then outstanding no more, every other entry stays and ARM_CHANGED is raised. Without the handle, or from another
tender, no entry changes. An entry whose expiry's PCLK cycle is over becomes invalid, with ARM_EXPIRED on the keeper in control. (Completes:
grant, grantRenew, grantRemove, armExpired.) (18_register_map.md R370, 05_programs_and_arming.md R101, 05_programs_and_arming.md R102,
05_programs_and_arming.md R103, 05_programs_and_arming.md R391) -/
def Obligations.GrantPath : Prop :=
  ∀ (s : State) (v : Word) (e : Fin 16), e.val = bits v.toNat 24 4 →
    let h := bits v.toNat 0 24
    let old := s.evt.arms[e]
    let exp := s.f F.EVT_GRANT_EXP_exp
    let cls := bits v.toNat 28 3
    let becomes := fun (c : Instr) (op : Nat) (new : ArmEntry) => ∃ u : State, exec c s = .next u.settle ∧ (∀ k : Fin 16, u.evt.arms[k] = if k = e then new
        else if op = 2 ∧ s.removes h e k = true then { s.evt.arms[k] with valid := false } else s.evt.arms[k]) ∧ h ∉ u.kcp.handles ∧ (∀ k ∈ s.kcp.handles, k ≠ h → k ∈ u.kcp.handles) ∧ (u.t 23).pc = (s.t 23).pc + 4 ∧ u.mem = s.mem ∧
      s.raises u Ev.armChanged (e.val + new.cls % 8 * 16 + new.sess % 8 * 128 + op * 1024) (BitVec.ofNat 64 (new.token e.val + new.slots % 65536 * 2 ^ 32))
    (s.executes 23 → (s.t 23).prv = true → s.emergency = false → h ∈ s.kcp.handles → cls < 6 → bitOf v.toNat 31 = false →
      (bits v.toNat 51 2 = 0 → becomes (.grant 23 v) 0 ⟨true, cls, bits v.toNat 32 16, bits v.toNat 48 3, (old.gen + 1) % 2 ^ 28, exp⟩) ∧
      (bits v.toNat 51 2 = 1 → s.armLive old = true → old.cls = cls → becomes (.grantRenew 23 v) 1 { old with expiry := exp }) ∧
      (bits v.toNat 51 2 = 2 → becomes (.grantRemove 23 v) 2 { old with valid := false })) ∧
    (∀ i : Tender, s.executes i → (s.t i).prv = true → (i ≠ 23 ∨ h ∉ s.kcp.handles) →
      ∃ t : State, exec (.grant i v) s = .next t ∧ t.evt.arms = s.evt.arms ∧ t.kcp.handles = s.kcp.handles) ∧
    (s.working → s.control = true → old.valid = true → old.expiry / 8 * 8 < s.pclkTime →
      ∃ u : State, exec (.armExpired e) s = .next u.settle ∧ u.evt.arms = s.evt.arms.set e { old with valid := false } ∧
        s.raises u Ev.armExpired (e.val + old.cls % 8 * 16 + old.sess % 8 * 128) (BitVec.ofNat 64 (old.token e.val + old.slots % 65536 * 2 ^ 32)))

/-- A binding applies between events, and a budget ends a handler. A pending binding of a tender on which no owner handler runs takes
effect: the tender's program is the one wanted, and where it is a loaded program its code and data stand in the tender's owner region. While
a handler runs nothing changes. A handler whose budget is over is ended; its tender, if it runs or waits at HOST, goes on at ORDER at
TS_TVEC (that address is the model's choice). (Completes: bindingTakesEffect, handlerBudgetExpired.) (05_programs_and_arming.md R92,
05_programs_and_arming.md R97) -/
def Obligations.BindingAndBudget : Prop :=
  ∀ (s : State) (i : Tender), s.working → s.canonical →
    (∀ want, (s.t i).bindPend = some want →
      ((s.t i).handler = none → ∃ u : State, exec (.bindingTakesEffect i) s = .next u.settle ∧ (u.t i).prog = want ∧ (u.t i).bindPend = none ∧
        ∀ (k : Fin 16) (p : Program), want = some k.val → s.prog.owned[k] = some p →
          u.rdBytes (State.home i ownerBase) p.body.length = p.body) ∧
      ((s.t i).handler.isSome = true → exec (.bindingTakesEffect i) s = .next s)) ∧
    (∀ h, (s.t i).handler = some h →
      (s.beacon < h.due → exec (.handlerBudgetExpired i) s = .next s) ∧
      (h.due ≤ s.beacon → ∃ u : State, exec (.handlerBudgetExpired i) s = .next u.settle ∧ (u.t i).handler = none ∧
        (s.alive i = true → (s.t i).prv = false → (u.t i).prv = true ∧ (u.t i).pc = (s.t i).tvec.truncate 48 ∧
          (u.t i).run = .running ∧ (u.t i).intrap = (s.t i).intrap)))

/-- Straps, the staggered start, and each slot's power-on, reset and off steps at their times. On a keeper whose blocks run the straps are
sampled in their windows; 1 ms after the release of reset MOR_STRAPS_READ is raised and, where no live wire of the peer is seen, present
slots enter stagger phase unpowered; with the live wire every slot stays as it was, but where this keeper is a principal that takes control
then: its present slots enter stagger phase too. In control each stagger step starts the keeper's next unit, and then the next slot due. A
slot whose step is due, with no wire change unacknowledged: PWR_GOOD powers it (on a keeper that may not go on its rise is kept), REFCLK_EN
rises 1 ms later, RESET_L another 1 ms later, run phase comes at the first mark from 100 µs after that; without PWR_GOOD in time W0 falls;
the end of COLD's hold raises RESET_L; 1 ms of W0 low completes OFF, after its off time a CYCLE is queued again. A Buoy's answer ends a
driven action as rejected, or as done with its last slot where no ready report is due; a missing ready report ends it with TIMEOUT.
(Completes: strapSample, strapPhaseEnd, staggerStep, pwrGoodRise, pwrGoodTimeout, refclkEnableStep, resetReleaseStep, runEntry,
coldHoldExpired, pwrOffDone, pwrCycleOffExpired, actionDone, actionReadyTimeout.) (13_mooring_and_bringup.md R264, 13_mooring_and_bringup.md
R266, 13_mooring_and_bringup.md R267, 13_mooring_and_bringup.md R268, 13_mooring_and_bringup.md R273, 04_tender_isa_system.md R86,
10_occult_dump_recovery.md R204) -/
def Obligations.PowerSequenceRows : Prop :=
  ∀ (s : State) (n : Slot), s.working → s.canonical →
    let ends := fun (c : Instr) (P : State → Prop) => ∃ u : State, exec c s = .next u.settle ∧ P u
    let due := fun (row : SeqStep) => ∃ d, (s.mo n).seq = some (row, some d) ∧ d ≤ s.beacon
    let ended := fun (u : State) (tk res : Nat) => u.holds (.actDeliver tk) ∧
      ∃ a ∈ u.act.running, a.ticket = tk ∧ a.phase = .ended ∧ a.result = res
    (∀ r levels, s.mor.released = some r → s.mor.strapsRead = false →
      (r + 404 * State.tickUs ≤ s.beacon → ends (.strapSample true levels) (fun u => ∀ m : Slot, u.f F.MOR_STRAP_up m.val = (levels.get m).toNat)) ∧
      (r + 804 * State.tickUs ≤ s.beacon → ends (.strapSample false levels) (fun u => ∀ m : Slot,
        u.f F.MOR_STRAP_dn m.val = (levels.get m).toNat ∧
        u.fb F.MOR_STRAP_present m.val = (!bitOf (s.f F.MOR_STRAP_up m.val) 0 && !bitOf (levels.get m).toNat 0)))) ∧
    (∀ r, s.mor.released = some r → s.mor.strapsRead = false → r + State.tickMs ≤ s.beacon → ends .strapPhaseEnd (fun u =>
      u.mor.strapsRead = true ∧ (∃ p, s.raises u Ev.morStrapsRead 0 p) ∧
      (∀ m, (s.slotPresent m = true → (s.mo m).phase = 0 → s.peerLive = false →
          (u.mo m).phase = 1 ∧ (u.mo m).w0 = false ∧ (u.mo m).w2 = false) ∧
        (s.slotPresent m = false → (u.mo m).phase = (s.mo m).phase ∧ (u.mo m).w0 = (s.mo m).w0)) ∧
      (s.peerLive = true → (s.f F.PAR_STATUS_state ≠ 0 ∨ s.peerInControl = true ∨ s.clk.relief = true → u.mor.slots = s.mor.slots) ∧
        (s.f F.PAR_STATUS_state = 0 → s.peerInControl = false → s.clk.relief = false → u.control = true ∧
          ∀ m, s.slotPresent m = true → (s.mo m).phase = 0 → (u.mo m).phase = 1 ∧ (u.mo m).w0 = false)))) ∧
    ((s.control = false ∨ s.wireFree n = false) → (s.mo n).phase = 1 → ends (.pwrGoodRise n) (fun u =>
      (u.mo n).pwrGood = some s.beacon ∧ (u.mo n).powered = (s.mo n).powered)) ∧
    (s.control = true → s.wireFree n = true →
    (∀ k d, k < 22 → s.mor.unit = (k, some d) → d ≤ s.beacon →
      ends .staggerStep (fun u => u.mor.unit.1 = k + 1 ∧ s.raises u Ev.staggerStep 0 0)) ∧
    (22 ≤ s.mor.unit.1 → s.seqReady = false → s.pwrOrder.find? (fun m => s.rowDue m .queued) = some n →
      ends .staggerStep (fun u => (u.mo n).w0 = true ∧ (u.mo n).w2 = false ∧ (u.mo n).w3 = false ∧
        (u.mo n).seq = some (.pwrGood, some (s.beacon + s.f F.PWR_CTL_pg_ms * State.tickMs)) ∧ s.raises u Ev.staggerStep 0 0 ∧
        ∀ m, m ≠ n → u.mo m = s.mo m)) ∧
    (∀ d, (s.mo n).seq = some (.pwrGood, d) → (s.mo n).phase = 1 → ends (.pwrGoodRise n) (fun u => (u.mo n).powered = true ∧
      (u.mo n).readyFrom = some s.beacon ∧ (u.mo n).seq = some (.refclk, some (s.beacon + State.tickMs)))) ∧
    (due .pwrGood → (s.mo n).pwrGood = none → ends (.pwrGoodTimeout n) (fun u => (u.mo n).w0 = false ∧ (u.mo n).seq = none)) ∧
    (due .refclk → ends (.refclkEnableStep n) (fun u => (u.mo n).w3 = true ∧ (u.mo n).seq = some (.resetRise, some (s.beacon + State.tickMs)))) ∧
    (due .resetRise → ends (.resetReleaseStep n) (fun u => (u.mo n).w2 = true ∧
      (u.mo n).seq = some (.runEntry, some (State.nextMark (s.beacon + 100 * State.tickUs))))) ∧
    (due .runEntry → ends (.runEntry n) (fun u => (u.mo n).phase = 2 ∧ (u.mo n).seq = none ∧ (u.mo n).maskFrom = s.beacon + 2 * State.tickUs ∧ (u.mo n).hbFrom = s.beacon + State.tickMs ∧
      u.fb F.BCN_SLOT_valid n.val = false)) ∧
    (due .hold → ends (.coldHoldExpired n) (fun u => (u.mo n).w2 = true ∧ (u.mo n).readyFrom = some s.beacon ∧
      (u.mo n).seq = some (.runEntry, some (State.nextMark (s.beacon + 100 * State.tickUs))))) ∧
    (due .off → ends (.pwrOffDone n) (fun u => (u.mo n).powered = false ∧ (u.mo n).seq =
      if (s.mo n).offMs = 0 then none else some (.cycleOff, some (s.beacon + (s.mo n).offMs * State.tickMs)))) ∧
    (due .cycleOff → ends (.pwrCycleOffExpired n) (fun u => (u.mo n).offMs = 0 ∧ ∃ d, (u.mo n).seq = some (.queued, d) ∧
      (s.mor.seqBase.isSome = true → ∃ t, d = some t ∧ s.beacon ≤ t)))) ∧
    (∀ tk a, s.linkUp n = true → s.actionOf tk = some a → a.phase = .driving → bitOf a.left n.val = true →
      ends (.actionDone n tk false) (fun u => ended u tk Res.rejected) ∧
      ((State.readyBound a.sub).isSome = true → exec (.actionDone n tk true) s = .next (s.slotHeard n 0 0)) ∧
      (State.readyBound a.sub = none → a.left = 2 ^ n.val → ends (.actionDone n tk true) (fun u => ended u tk Res.done)) ∧
      (State.readyBound a.sub = none → a.left ≠ 2 ^ n.val → ends (.actionDone n tk true) (fun u => ∃ b, u.actionOf tk = some b ∧ b.phase = .driving ∧
        b.left = a.left - 2 ^ n.val))) ∧
    (∀ a, s.act.running.find? (fun a => decide (a.phase = .driving) && bitOf a.left n.val && (State.readyBound a.sub).any (fun b =>
        (if a.sub ∈ [.rsetCore, .rsetLinks, .rsetMemory, .rsetWarm] then some a.since else (s.mo n).readyFrom).any (fun t => decide (t + b ≤ s.beacon)))) = some a →
      s.actionOf a.ticket = some a →
      ends (.actionReadyTimeout n) (fun u => ended u a.ticket Res.timeout ∧ (u.mo n).readyFrom = none))

/-- Power faults, PMBus, wire faults, a stuck W1, proxies and repeated pulses: each row completes on every state on which the blocks run.
POWER_FAULT raises its event; where PWR_GOOD fell in stagger phase the slot is unpowered and its sequence ends. A poll of an enabled stage
stores status, power (at most 65,535) and temperature; a failed one, as an alert, counts and raises PMBUS_FAULT; another stage's poll does
nothing. The set point moves by at most 5 mV within 680 to 800 mV, not within 1 ms of the last move, and stays where the regulator does not
answer, with PMBUS_FAULT; any other step does nothing. A new wire fault is shown and reported, and W1's function passes to the peer; a known
one does nothing. In control a W1 stuck low in run phase, of either keeper, is masked at the Buoy and followed, and a stop that it alone
caused is released; not in control this keeper's own is shown. A masked W1 that has followed its drive for 100 ms is unmasked, else nothing
happens. The peer's proxy request drives W1 of its slot alone. A cut phase pulse is repeated once; cut again, it ends: MOOR PHASE answers
BUSY, an action ends with TIMEOUT; without one due nothing happens. (Completes: powerFault, pmbusPoll, pmbusAlert, avsStep, morWireFault,
w1StuckLow, w1Unmask, w1ProxyRequest, phasePulseRetry.) (13_mooring_and_bringup.md R265, 13_mooring_and_bringup.md R266,
13_mooring_and_bringup.md R270, 13_mooring_and_bringup.md R271, 13_mooring_and_bringup.md R282, 13_mooring_and_bringup.md R283,
19_pins_power_clocks.md R380) -/
def Obligations.MooringFaultRows : Prop :=
  ∀ (s : State) (n : Slot), s.working → s.canonical →
    let ends := fun (c : Instr) (P : State → Prop) => ∃ u : State, exec c s = .next u.settle ∧ P u
    let rests := fun (c : Instr) => exec c s = .next s
    let own := s.ownPort
    (∀ fell : Bool, ends (.powerFault n fell) (fun u => s.raises u (slotEv n 12) n.val 0 ∧ (∀ m, m ≠ n → u.mo m = s.mo m) ∧
      (if fell = true ∧ (s.mo n).phase = 1 then (u.mo n).powered = false ∧ (u.mo n).seq = none ∧ (u.mo n).w0 = (s.mo n).w0 else u.mo n = s.mo n))) ∧
    (if s.fb F.PWR_CTL_pmb_en = true ∧ s.f F.PWR_STAGE_addr n.val ≠ 0 then
      (∀ st p t, ends (.pmbusPoll n (some (st, p, t))) (fun u => u.f F.PWR_STAGE_status n.val = st % 65536 ∧
        u.f F.PWR_STAGE_pout n.val = min p 65535 ∧ u.f F.PWR_STAGE_temp n.val = t % 256 ∧ u.mor = s.mor ∧ u.evt = s.evt)) ∧
      ends (.pmbusPoll n none) (fun u => s.raises u Ev.pmbusFault 0 0 ∧
        u.f F.PWR_STAGE_faults n.val = min (s.f F.PWR_STAGE_faults n.val + 1) 65535)
    else ∀ r, rests (.pmbusPoll n r)) ∧
    ends (.pmbusAlert n) (fun u => s.raises u Ev.pmbusFault 0 0 ∧ u.f F.PWR_STAGE_faults n.val = min (s.f F.PWR_STAGE_faults n.val + 1) 65535) ∧
    (∀ mv, if (∀ t, s.clk.vddAt = some t → t + State.tickMs ≤ s.beacon) ∧ 680 ≤ mv ∧ mv ≤ 800 ∧ mv ≤ s.clk.vdd + 5 ∧ s.clk.vdd ≤ mv + 5 then
        ends (.avsStep mv true) (fun u => u.clk = { s.clk with vdd := mv, vddAt := some s.beacon } ∧ u.evt = s.evt) ∧
        ends (.avsStep mv false) (fun u => u.clk = s.clk ∧ s.raises u Ev.pmbusFault 0xFF 0)
      else ∀ answers, rests (.avsStep mv answers)) ∧
    (∀ w : Fin 4, let bit := 4 * n.val + w.val
      if bitOf (s.f F.MOR_FAULT_fault) bit = true ∧ (w ≠ 1 ∨ bitOf (s.f F.MOR_PROXY_in) n.val = true) then rests (.morWireFault n w)
      else ends (.morWireFault n w) (fun u => bitOf (u.f F.MOR_FAULT_fault) bit = true ∧ s.raises u Ev.morWireFault (n.val + 16 * w.val) 0 ∧
        (w = 1 → bitOf (u.f F.MOR_PROXY_in) n.val = true) ∧ u.mor = s.mor)) ∧
    (∀ peer : Bool, let p := if peer = true then 1 - own else own
      ((s.mo n).phase ≠ 2 ∨ (peer = false ∧ (s.mo n).w1low = true) → rests (.w1StuckLow n peer)) ∧
      ((s.mo n).phase = 2 → (peer = true ∨ (s.mo n).w1low = false) →
        (s.control = true → ends (.w1StuckLow n peer) (fun u => bitOf (u.mo n).masked p = true ∧ State.MorSlot.follow (u.mo n) p = some s.beacon ∧
          (u.mo n).w1low = (s.mo n).w1low ∧ (peer = false → bitOf (u.f F.MOR_FAULT_fault) (4 * n.val + 1) = true) ∧
          (if (s.mo n).w1low = true ∨ (s.mo n).stopped = true then (u.mo n).resumeAt = (s.mo n).resumeAt
           else (u.mo n).resumeAt = some (s.beacon + 3200) ∧ s.raises u Ev.occReleased (2 ^ n.val) 0))) ∧
        (s.control = false → ends (.w1StuckLow n peer) (fun u => u.mor = s.mor ∧
          (peer = false → bitOf (u.f F.MOR_FAULT_fault) (4 * n.val + 1) = true))))) ∧
    (let aged := fun (p : Nat) => ∃ t, State.MorSlot.follow (s.mo n) p = some t ∧ t + 100 * State.tickMs ≤ s.beacon;
      (¬ aged own → ¬ aged (1 - own) → rests (.w1Unmask n)) ∧
      ∀ p, (p = own ∨ (p = 1 - own ∧ ¬ aged own)) → aged p → ends (.w1Unmask n) (fun u => bitOf (u.mo n).masked p = false ∧
        State.MorSlot.follow (u.mo n) p = none ∧ (p = own → bitOf (u.f F.MOR_PROXY_in) n.val = false))) ∧
    (∀ low, ends (.w1ProxyRequest n low) (fun u => (u.mo n).w1low = low ∧ (u.mo n).w1pull = low ∧ bitOf (u.f F.MOR_PROXY_out) n.val = low ∧
      ∀ m, m ≠ n → u.mo m = s.mo m)) ∧
    ((∀ p, (s.mo n).pulse = some p → p.again = 0 ∨ s.beacon < p.again) → rests (.phasePulseRetry n)) ∧
    (∀ p, (s.mo n).pulse = some p → p.again ≠ 0 → p.again ≤ s.beacon →
      (p.cuts = 0 → ends (.phasePulseRetry n) (fun u => (u.mo n).phase = (s.mo n).phase ∧ (u.mo n).w1pull = false ∧ (u.mo n).pulse =
        some { p with cuts := 1, again := 0, rise := s.beacon, fall := s.beacon + (if p.dump then 2 else 6) * State.tickUs })) ∧
      (p.cuts ≠ 0 → (s.mo n).nextStagger = none →
        ends (.phasePulseRetry n) (fun u => (u.mo n).pulse = none ∧ (u.mo n).phase = (s.mo n).phase ∧
          (∀ i rd, p.by_ = some (i, rd) → rd ≠ 0 → (s.t i).run = .waitMoor → (s.t i).wdogHit = none →
            (u.t i).run = .running ∧ u.g i rd = statusWord St.busy 0 0) ∧
          ∀ a, p.by_ = none → p.dump = false → s.drivenOn n [.rsetCold, .rsetHold, .pwrOff, .pwrCycle] = some a → s.actionOf a.ticket = some a →
            u.holds (.actDeliver a.ticket) ∧ ∃ b ∈ u.act.running, b.ticket = a.ticket ∧ b.phase = .ended ∧ b.result = Res.timeout)) ∧
      (∀ a, p.cuts ≠ 0 → (s.mo n).nextStagger = some a → 2 ≤ (s.mo n).phase → ends (.phasePulseRetry n) (fun u => (u.mo n).phase = (s.mo n).phase ∧
        (u.mo n).pulse = some ⟨false, s.beacon + 1600, s.beacon + 11200, false, some a, 0, 0, none⟩ ∧ (u.mo n).nextStagger = none)))

/-- Heartbeats, alarms, the hardware stop path, and stops with their acknowledgements. In run phase an edge restarts a slot's heartbeat;
hb_us without one raises HEARTBEAT_LOST and starts the probe, probe_us more CHIP_DOWN. An ALARM raises its event once and counts the
partials discarded; with the hardware path enabled for it, all stop slots armed and no stop to merge with, it pulls W1 of every stop slot
low; with one not armed no W1 changes and ACT_WITHHELD is raised. A stop's acknowledgement stores the stop tick and marks the slot stopped,
the last one of each running stop raises OCC_STOPPED and ends its action; a missing one ends it with NOREPLY. At its time a scheduled stop
pulls W1 low and raises OCC_POD_FIRED; a Buoy's acknowledgement 1,600 ticks before it is kept. (Completes: heartbeatEdge, heartbeatLost,
chipDown, alarmWire, stopAck, stopAckTimeout, ocltAtFire, stopAt.) (10_occult_dump_recovery.md R186, 10_occult_dump_recovery.md R187,
10_occult_dump_recovery.md R189, 10_occult_dump_recovery.md R190, 10_occult_dump_recovery.md R193, 08_trusses_and_determinism.md R156) -/
def Obligations.HeartbeatAndStopRows : Prop :=
  ∀ (s : State) (n : Slot), s.working → s.canonical →
    let ends := fun (c : Instr) (P : State → Prop) => ∃ u : State, exec c s = .next u.settle ∧ P u
    let ended := fun (u : State) (tk res : Nat) => u.holds (.actDeliver tk) ∧
      ∃ a ∈ u.act.running, a.ticket = tk ∧ a.phase = .ended ∧ a.result = res
    ((s.mo n).phase = 2 → ends (.heartbeatEdge n) (fun u => (u.mo n).hbEdge = s.beacon ∧ (u.mo n).hbLost = false ∧ (u.mo n).probeAt = none ∧
      u.evt = s.evt)) ∧
    ((s.mo n).phase = 2 → (s.mo n).hbLost = false → (s.mo n).hbFrom ≤ s.beacon →
      max (s.mo n).hbEdge (s.mo n).hbFrom + s.f F.OCC_HB_hb_us * State.tickUs ≤ s.beacon → ends (.heartbeatLost n) (fun u =>
        (u.mo n).hbLost = true ∧ (u.mo n).probeAt = some s.beacon ∧ s.raises u (slotEv n 1) n.val 0)) ∧
    (∀ t, (s.mo n).phase = 2 → (s.mo n).probeAt = some t → (s.mo n).chipDown = false → t + s.f F.OCC_HB_probe_us * State.tickUs ≤ s.beacon →
      ends (.chipDown n) (fun u => (u.mo n).chipDown = true ∧ (u.mo n).probeAt = none ∧ s.raises u (slotEv n 11) n.val 0)) ∧
    (∀ k, (s.mo n).phase = 2 →
      ends (.alarmWire n k) (fun u => (u.mo n).alarm = true ∧ s.raises u (slotEv n 0) (n.val + 16) 0 ∧
        u.f F.TRS_FWD_ERR_discards = min (s.f F.TRS_FWD_ERR_discards + k) (2 ^ 32 - 1)) ∧
      (s.control = true → s.fb F.OCC_CTL_hw_en = true → bitOf (s.f F.OCC_TRIG_src) 0 = true → bitOf (s.f F.OCC_TRIG_watch) n.val = true →
        let mask := s.f F.OCC_TRIG_stop
        mask ≠ 0 → (∀ a ∈ s.act.running, a.ticket ≠ (s.lastTicket + 1) % 2 ^ 48) →
        (mask &&& s.armedSlots 3 = mask → s.mergeStop mask = none → ends (.alarmWire n k) (fun u =>
          ∀ m : Slot, (u.mo m).w1low = (bitOf mask m.val || (s.mo m).w1low))) ∧
        (mask &&& s.armedSlots 3 ≠ mask → ends (.alarmWire n k) (fun u => (∀ m, (u.mo m).w1low = (s.mo m).w1low) ∧ u.act = s.act ∧
          ∃ f p, s.raises u Ev.actWithheld f p)))) ∧
    (∀ tick, tick < 2 ^ 64 → s.linkUp n = true → (s.mo n).w1low = true → (s.mo n).stopped = false →
      ends (.stopAck n tick) (fun u => u.f F.OCC_SNAP_tick n.val = tick ∧ (u.mo n).stopped = true ∧ (u.mo n).w1low = true) ∧
      (∀ a, s.actionOf a.ticket = some a → (a.sub = .ocltStop ∨ a.sub = .ocltAt) → a.phase = .driving → a.left = 2 ^ n.val →
        ends (.stopAck n tick) (fun u => ended u a.ticket Res.done ∧ s.raises u Ev.occStopped a.mask (BitVec.ofNat 64 a.ticket)))) ∧
    (∀ tk a, s.actionOf tk = some a → (a.sub = .ocltStop ∨ a.sub = .ocltAt) → a.phase = .driving → a.left ≠ 0 →
      a.since + s.f F.OCC_HB_ack_us * State.tickUs ≤ s.beacon → ends (.stopAckTimeout tk) (fun u => ended u tk Res.noReply ∧ u.mor = s.mor)) ∧
    (let mask := s.f F.OCC_STATUS_sched;
      (∀ a, s.actionOf s.occ.atTicket = some a → a.mask = mask) → s.control = true → s.fb F.OCC_STATUS_at_pending = true →
      s.f F.OCC_AT_TIME_at_time ≤ s.beacon → ends .ocltAtFire (fun u =>
        (∀ m : Slot, (u.mo m).w1low = (bitOf mask m.val || (s.mo m).w1low)) ∧ u.fb F.OCC_STATUS_at_pending = false ∧
        s.raises u Ev.occPodFired mask (BitVec.ofNat 64 s.occ.atTicket))) ∧
    (s.linkUp n = true → s.fb F.OCC_STATUS_at_pending = true → s.beacon + 1600 ≤ s.f F.OCC_AT_TIME_at_time → ends (.stopAt n) (fun u =>
      bitOf u.occ.atAcked n.val = true ∧ u.evt = s.evt))

/-- Dumps begin, read their units, mark unreadable ones, and are aborted. At ORDER a store to OCC_DUMP_GO.start begins a dump of each slot
named whose dump does not run, live where the slot is not stopped; under the custody seal it ends at once. A store to abort ends a dump that
reads nothing, where no other runs, as aborted with DUMP_SLOT_DONE, and marks one whose read is under way. A reply to a read of a unit that
is not the last keeps the data up to the unit's length, with the unit complete once all of it is there, or marks it unreadable where the
read failed; no reply in read_tmo_us raises DUMP_UNREADABLE with the unit's number. (Completes: occDumpStart, occDumpAbort, unitData,
dumpReadTimeout.) (10_occult_dump_recovery.md R197, 10_occult_dump_recovery.md R199, 10_occult_dump_recovery.md R202) -/
def Obligations.DumpRows : Prop :=
  ∀ (s : State) (n : Slot) (v : Word), s.canonical → s.emergency = false →
    let ends := fun (c : Instr) (P : State → Prop) => ∃ u : State, exec c s = .next u.settle ∧ P u
    (∀ t : Tender, s.executes t → (s.t t).prv = true →
      (v.toNat < 65536 → bitOf v.toNat n.val = true → s.occ.dumps.get n = none →
        (s.fb F.LOG_STATUS_sealed = false → ends (.occDumpStart t v) (fun u => (u.t t).pc = (s.t t).pc + 4 ∧
          (∃ d : DumpSlot, u.occ.dumps.get n = some d ∧ d.live = !s.occulted n ∧ d.start = s.beacon ∧ d.table = none) ∧
          u.f F.OCC_DUMP_STAT_state n.val = 1 ∧ ((s.mo n).pulse = none → u.occ.reading.isSome = true))) ∧
        (s.fb F.LOG_STATUS_sealed = true → ends (.occDumpStart t v) (fun u => u.occ.dumps.get n = none ∧
          u.f F.OCC_DUMP_STAT_state n.val = 4 ∧ s.raises u Ev.dumpSlotDone n.val 4))) ∧
      (v.toNat = 2 ^ (16 + n.val) → ∀ d, s.occ.dumps.get n = some d →
        ((s.mo n).pulse = none → s.occ.reading = none → (∀ m, m ≠ n → s.occ.dumps.get m = none) → s.fb F.LOG_STATUS_sealed = false →
          ends (.occDumpAbort t v) (fun u => u.occ.dumps.get n = none ∧ u.f F.OCC_DUMP_STAT_state n.val = 5 ∧
            s.raises u Ev.dumpSlotDone n.val 5)) ∧
        (∀ r, s.occ.reading = some r → ends (.occDumpAbort t v) (fun u => u.occ.dumps.get n = some { d with abort := true } ∧
          u.occ.reading = some r)))) ∧
    (∀ (pos t i : Nat) (d : DumpSlot) (x : DumpUnit) (data : List Byte), s.working → s.occ.reading = some (n, pos, t) →
      s.occ.dumps.get n = some d → d.moor = false → d.unreachable = false → d.abort = false → pos < 65535 → d.units[pos]? = some x → i ≠ pos →
      (d.units[i]?).any (fun y => y.status.isNone) = true →
      ends (.unitData n true data) (fun u => ∃ d', u.occ.dumps.get n = some d' ∧ d'.units[pos]? = some { x with
        data := (x.data ++ data).take x.want, status := if x.want ≤ x.data.length + data.length then some 0 else x.status }) ∧
      ends (.unitData n false data) (fun u => ∃ d', u.occ.dumps.get n = some d' ∧ d'.units[pos]? = some { x with data := [], status := some 2 }) ∧
      (t + s.f F.OCC_DUMP_CTL_read_tmo_us * State.tickUs ≤ s.beacon → ends .dumpReadTimeout (fun u =>
        s.raises u Ev.dumpUnreadable n.val (BitVec.ofNat 64 (unitNo x.entry)) ∧
        ∃ d', u.occ.dumps.get n = some d' ∧ d'.units[pos]? = some { x with data := [], status := some 2 })))

/-- Buoy links and the pair link: lanes, frames, replay, credit, loss, identity and notes. The first lane to lock takes a training link to
the identity exchange; corrected and discarded frames are counted, a discarded one answered with a NAK that names the last frame received,
after which a frame out of sequence goes without another NAK until the expected one comes; a frame of a reserved class is discarded and
counted, a message of a reserved type is an ALARM; a nak or 4 µs without acknowledgement sends every unacknowledged frame again; an IDLE
frame acknowledges and adds credit; a lost lane leaves the other one up with LANE_DEGRADE and returns after 100 ms of lock; 20 µs without a
frame take the link down with LINK_DOWN. An identity that agrees brings the link up with LINK_UP and its serial; another protocol or another
slot quarantines it with its event. A note of a defined kind is kept and raises CONTROL_MSG, any other an ALARM. The pair link discards,
answers, replays and takes credit alike (what it discards is counted in State, the model's choice). (Completes: linkLock, linkFrameError,
linkNak, linkReplayTimeout, linkCredit, laneFail, laneRestored, linkDown, buoyIdent, buoyNote.) (13_mooring_and_bringup.md R274,
13_mooring_and_bringup.md R275, 13_mooring_and_bringup.md R276, 13_mooring_and_bringup.md R277, 13_mooring_and_bringup.md R278,
13_mooring_and_bringup.md R279, 13_mooring_and_bringup.md R280, 13_mooring_and_bringup.md R394, 14_pair_failover.md R285) -/
def Obligations.LinkRows : Prop :=
  ∀ (s : State) (p : Slot), s.working → s.canonical →
    let ends := fun (c : Instr) (P : State → Prop) => ∃ u : State, exec c s = .next u.settle ∧ P u
    let st := s.blkState p
    let n := s.slotOf p
    let w := s.par.wire
    let up := s.fb F.PAR_STATUS_link_up
    let nak := Out.buoy p.val "NAK" [] [State.LinkSt.ack (s.port p)]
    let pnak := Out.pair "NAK" [w.ack]
    let late := fun (ack : Nat) (x : Nat × Nat) => decide (2 ^ 23 ≤ (ack + 2 ^ 24 - x.1) % 2 ^ 24)
    (∀ lane : Fin 2, s.clk.refclk = true → s.fb F.BLK_CTL_en p.val = true → st = 1 → bitOf (s.f F.BLK_CTL_lanes p.val) lane.val = true →
      bitOf (s.lanesUp p) lane.val = false → s.slotPresent n = true → ends (.linkLock p lane) (fun u => u.blkState p = 2 ∧
        bitOf (u.lanesUp p) lane.val = true ∧ (u.port p).lastFrame = s.beacon)) ∧
    (1 ≤ st → st ≠ 5 →
      (∀ k, ends (.linkFrameError (.buoy p) (.corrected k)) (fun u => u.f F.BLK_ERR_corrected p.val = min (s.f F.BLK_ERR_corrected p.val + k) 65535)) ∧
      ends (.linkFrameError (.buoy p) .discarded) (fun u => u.f F.BLK_ERR_uncorrectable p.val = min (s.f F.BLK_ERR_uncorrectable p.val + 1) 65535 ∧
        u.out = nak :: s.out ∧ (u.port p).rxNak = true) ∧
      ends (.linkFrameError (.buoy p) .late) (fun u => u.f F.BLK_ERR_uncorrectable p.val = min (s.f F.BLK_ERR_uncorrectable p.val + 1) 65535 ∧
        u.out = (if (s.port p).rxNak = true then s.out else nak :: s.out) ∧ (u.port p).rxNak = true) ∧
      ends (.linkFrameError (.buoy p) .expected) (fun u => (u.port p).rxNak = false ∧ u.out = s.out) ∧
      ends (.linkFrameError (.buoy p) .reservedClass) (fun u => u.f F.BLK_ERR_uncorrectable p.val = min (s.f F.BLK_ERR_uncorrectable p.val + 1) 65535 ∧
        (u.port p).rxNext = ((s.port p).rxNext + 1) % 2 ^ 24 ∧ u.out = s.out) ∧
      ends (.linkFrameError (.buoy p) .reservedType) (fun u => (u.port p).rxNext = ((s.port p).rxNext + 1) % 2 ^ 24 ∧ s.raises u (slotEv n 0) n.val 0)) ∧
    (up = true →
      (∀ k, exec (.linkFrameError .pair (.corrected k)) s = .next s) ∧
      ends (.linkFrameError .pair .discarded) (fun u => u.par.wire.discarded = w.discarded + 1 ∧ u.out = pnak :: s.out ∧ u.par.wire.rxNak = true) ∧
      ends (.linkFrameError .pair .late) (fun u => u.par.wire.discarded = w.discarded + 1 ∧
        u.out = (if w.rxNak = true then s.out else pnak :: s.out) ∧ u.par.wire.rxNak = true) ∧
      ends (.linkFrameError .pair .expected) (fun u => u.par.wire = { w with rxNak := false } ∧ u.out = s.out) ∧
      (∀ f ∈ [FrameFault.reservedClass, .reservedType], ends (.linkFrameError .pair f) (fun u => u.par.wire.discarded = w.discarded + 1 ∧
        u.par.wire.rxNext = (w.rxNext + 1) % 2 ^ 24 ∧ u.out = s.out)) ∧
      (∀ ack, ends (.linkNak .pair ack) (fun u => u.par.wire.unacked = (w.unacked.filter (late ack)).map (fun x => (x.1, s.beacon)))) ∧
      ((∃ x ∈ w.unacked, x.2 + 4 * State.tickUs ≤ s.beacon) → ends (.linkReplayTimeout .pair) (fun u =>
        u.par.wire.unacked = w.unacked.map (fun x => (x.1, s.beacon)))) ∧
      (∀ ack counts, w.waiting = [] → ends (.linkCredit .pair ack counts) (fun u => u.par.wire.unacked = w.unacked.filter (late ack) ∧
        ∀ c : Fin 16, u.par.wire.credits[c] = w.credits[c] + (counts[c]).toNat))) ∧
    (s.lanesUp p ≠ 0 →
      (∀ ack, ends (.linkNak (.buoy p) ack) (fun u => (u.port p).unacked = ((s.port p).unacked.filter (late ack)).map (fun x => (x.1, s.beacon)))) ∧
      ((∃ x ∈ (s.port p).unacked, x.2 + 4 * State.tickUs ≤ s.beacon) → ends (.linkReplayTimeout (.buoy p)) (fun u =>
        (u.port p).unacked = (s.port p).unacked.map (fun x => (x.1, s.beacon)) ∧
        u.f F.BLK_ERR_replays p.val = min (s.f F.BLK_ERR_replays p.val + 1) 65535)) ∧
      (∀ ack counts, ends (.linkCredit (.buoy p) ack counts) (fun u => (u.port p).lastFrame = s.beacon ∧ ((s.port p).waiting = [] →
        (u.port p).unacked = (s.port p).unacked.filter (late ack) ∧
        ∀ c : Fin 16, (u.port p).credits[c] = (s.port p).credits[c] + (counts[c]).toNat)))) ∧
    (∀ lane : Fin 2, bitOf (s.lanesUp p) lane.val = true → ends (.laneFail p lane) (fun u => u.lanesUp p = s.lanesUp p - 2 ^ lane.val ∧
      (u.port p).lostLane[lane] = some none ∧ (s.lanesUp p ≠ 2 ^ lane.val → s.raises u (slotEv n 4) (n.val + 16 * lane.val) 0))) ∧
    (∀ (lane : Fin 2) t, (s.port p).lostLane[lane] = some (some t) → t + 100 * State.tickMs ≤ s.beacon →
      (lane = 1 → ∀ t0, (s.port p).lostLane[(0 : Fin 2)] = some (some t0) → s.beacon < t0 + 100 * State.tickMs) → ends (.laneRestored p) (fun u =>
      bitOf (u.lanesUp p) lane.val = true ∧ (u.port p).lostLane[lane] = none ∧ s.raises u (slotEv n 5) n.val 0)) ∧
    (st = 2 ∨ st = 3 ∨ st = 4 → (s.port p).lastFrame + 20 * State.tickUs ≤ s.beacon → ends (.linkDown p) (fun u =>
      u.blkState p = 0 ∧ u.lanesUp p = 0 ∧ (u.port p).unacked = [] ∧ (u.port p).serving = false ∧ s.raises u (slotEv n 2) n.val 0)) ∧
    (∀ id : Ident, st = 2 → s.held p = false →
      (id.major = 1 → id.slot = n.val → (s.mo n).peerSerial = none → ends (.buoyIdent p id) (fun u => u.blkState p = 3 ∧
        (u.port p).ident = some id ∧ u.f F.BLK_SERIAL_LO_serial_lo p.val = id.serialLo.toNat ∧
        u.f F.BLK_SERIAL_HI_serial_hi p.val = id.serialHi.toNat ∧ s.raises u (slotEv n 3) n.val 0)) ∧
      (id.major ≠ 1 → ends (.buoyIdent p id) (fun u => u.blkState p = 4 ∧ u.f F.BLK_STATUS_qreason p.val = 2 ∧ (u.port p).agreed = false ∧
        s.raises u (slotEv n 7) n.val 0)) ∧
      (id.major = 1 → id.slot ≠ n.val → ends (.buoyIdent p id) (fun u => u.blkState p = 4 ∧ u.f F.BLK_STATUS_qreason p.val = 1 ∧
        (u.port p).agreed = false ∧ s.raises u (slotEv n 6) n.val 0))) ∧
    (∀ (m : Slot) ref step time kind data, s.linkUp m = true →
      (1 ≤ kind → kind ≤ 5 → ends (.buoyNote m ref step time kind data) (fun u => (u.mo m).notes = (s.mo m).notes + 1 ∧
        s.raises u (slotEv m 13) (m.val + 16 * kind) (BitVec.ofNat 64 (State.noteAddr m (s.mo m).notes)))) ∧
      (kind = 0 ∨ 5 < kind → ends (.buoyNote m ref step time kind data) (fun u => (u.mo m).notes = (s.mo m).notes ∧
        (∀ a, 0x10000000 ≤ a → a < 0x12000000 → u.rdByte a = s.rdByte a) ∧ s.raises u (slotEv m 0) m.val 0)))

/-- The window registers of a Buoy link, and retraining. A tender at ORDER that loads a link's window register waits for the reply where the
link is up or quarantined, and else reads all ones with win_err set; the reply gives the oldest reader its data, and none in 2 µs gives all
ones with win_err. A store goes to the Buoy of a link that is up or quarantined. A store of retrain to an enabled link of a present slot
trains it anew, with no lane up and nothing unacknowledged. (Completes: blkWinRead, blkWinWrite, blkRetrain, winReply, winReplyTimeout.)
(13_mooring_and_bringup.md R281, 13_mooring_and_bringup.md R276, 18_register_map.md R360) -/
def Obligations.LinkWindowRows : Prop :=
  ∀ (s : State) (p : Slot), s.canonical →
    let ends := fun (c : Instr) (P : State → Prop) => ∃ u : State, exec c s = .next u.settle ∧ P u
    let st := s.blkState p
    let off := s.f F.BLK_WIN_ADDR_offset p.val
    (∀ (t : Tender) (rd : Fin 32), s.executes t → (s.t t).prv = true →
      (st = 3 ∨ st = 4 → ends (.blkWinRead t rd p) (fun u => (u.t t).run = .waitWin ∧ (u.t t).pc = (s.t t).pc ∧
        (u.port p).windows = (s.port p).windows ++ [(off, s.beacon, .tender t rd)])) ∧
      (¬ (st = 3 ∨ st = 4) → ends (.blkWinRead t rd p) (fun u => (u.t t).pc = (s.t t).pc + 4 ∧ (rd ≠ 0 → u.g t rd = BitVec.allOnes 64) ∧
        u.fb F.BLK_STATUS_win_err p.val = true)) ∧
      (∀ v : Word, st = 3 ∨ st = 4 → ends (.blkWinWrite t p v) (fun u => (u.t t).pc = (s.t t).pc + 4 ∧
        (.buoy p.val "WIN_WRITE" (msgHeader "WIN_WRITE" [off, v.toNat] s.beacon) [off, v.toNat] ∈ u.out ∨ (0, "WIN_WRITE", [off, v.toNat]) ∈ (u.port p).waiting))) ∧
      (∀ v : Word, s.fb F.BLK_CTL_en p.val = true → bitOf v.toNat 0 = true → bitOf v.toNat 1 = true → s.slotPresent (s.slotOf p) = true →
        ends (.blkRetrain t p v) (fun u => (u.t t).pc = (s.t t).pc + 4 ∧ u.blkState p = 1 ∧ u.lanesUp p = 0 ∧ (u.port p).unacked = [] ∧
          (u.port p).ident = none))) ∧
    (s.working → ∀ (i : Tender) (rd : Fin 32) (o t : Nat) r, (s.port p).windows = (o, t, .tender i rd) :: r → (s.t i).run = .waitWin → (s.t i).wdogHit = none → rd ≠ 0 →
      (∀ data, ends (.winReply p data) (fun u => (u.port p).windows = r ∧ (u.t i).run = .running ∧ u.g i rd = data ∧
        (u.t i).pc = (s.t i).pc + 4)) ∧
      (t + 2 * State.tickUs ≤ s.beacon → ends (.winReplyTimeout p) (fun u => (u.port p).windows = r ∧ (u.t i).run = .running ∧
        u.g i rd = BitVec.allOnes 64 ∧ u.fb F.BLK_STATUS_win_err p.val = true)))

/-- Tiles and their envelope, the running of ops, samples and credits, keys and canaries. The tile sensors are stored, and a tile in
rotation above the temperature limit leaves with reason 2 and PLB_TILE_OUT; a settled tile awaits its self-test; an idle tile starts its
next valid op (self-test canaries alone on a keeper not in control), and ends an invalid one. A compare op whose digest is the reported one
matches; one that differs gets a confirming run at the head of another tile's queue, and a second equal digest is a mismatch with
AUDIT_MISMATCH. Samples are captured against a credit or counted as skipped; a credit reserves its pages within 1,024; a key change ends
once earlier ops and boundaries are past; a canary passes or fails by its digest, or ends by its timeout where its bins were not met.
(Events are stated with no result ring set.) (Completes: plbEnvSample, tileSettled, plbOpDequeue, plbOpComplete, plbSample, plbCredit,
keyDrainDone, canaryGateTimeout, plbCanary.) (07_plumb_array.md R126, 07_plumb_array.md R127, 07_plumb_array.md R130, 07_plumb_array.md
R132, 07_plumb_array.md R134, 07_plumb_array.md R135, 07_plumb_array.md R139, 07_plumb_array.md R140, 07_plumb_array.md R141,
07_plumb_array.md R142, 07_plumb_array.md R145) -/
def Obligations.PlumbRows : Prop :=
  ∀ (s : State) (k : Fin 8) (n : Slot), s.working → s.canonical →
    let ends := fun (c : Instr) (P : State → Prop) => ∃ u : State, exec c s = .next u.settle ∧ P u
    (∀ temps volts, ends (.plbEnvSample temps volts) (fun u =>
      ((s.tile k).started = true → (u.tile k).temp = temps[k] ∧ (u.tile k).volt = volts[k]) ∧
      ((s.tile k).started = true → (s.tile k).inRot = true → s.f F.PLB_ENV_tmax < (temps[k]).toNat →
        (u.tile k).inRot = false ∧ (u.tile k).envelope = true ∧ s.raises u Ev.plbTileOut k.val 2))) ∧
    (∀ t, (s.tile k).settled = some t → (s.tile k).inRot = false → (s.tile k).reason ≠ 5 → bitOf (s.f F.PLB_CTL_tile_en) k.val = true →
      t + s.f F.PLB_ENV_settle_ms * State.tickMs ≤ s.beacon → ends (.tileSettled k) (fun u => (u.tile k).reason = 5 ∧
        ∃ o : PlbOp, (u.tile k).queue = (s.tile k).queue ++ [o] ∧ o.src = .selfTest ∧ o.canary = true)) ∧
    (∀ o rest, s.plbIdle k = true → (s.tile k).queue = o :: rest → o.dOf = none → (o.src = .selfTest → s.f F.PLB_CLIB_BASE_clib ≠ 0) →
      (o.src ≠ .selfTest → s.control = true) → s.plb.waiting = [] →
      (firstInvalid (s.plbChecks o) = none ∨ o.loaded = true → ends (.plbOpDequeue k) (fun u => (u.tile k).queue = rest ∧
        (u.tile k).running = some (s.plbLoadOp o))) ∧
      (∀ off, firstInvalid (s.plbChecks o) = some off → o.loaded = false → ends (.plbOpDequeue k) (fun u => (u.tile k).running = none ∧
        (u.tile k).ops = ((s.tile k).ops + 1) % 2 ^ 32))) ∧
    (∀ o : PlbOp, (s.tile k).running = some o → o.open_ = true → o.canary = false → o.good = true → o.d.type ≠ 5 → o.d.cmp = true → s.plb.waiting = [] →
      let res := plbResult o.d o.seed o.a o.b o.c
      let dig := o.d.digest o.key res
      (o.first = none → dig = leNat (o.r.take 16) → ends (.plbOpComplete k none .clean) (fun u => (u.tile k).running = none ∧
        (u.tile k).ops = ((s.tile k).ops + 1) % 2 ^ 32 ∧ u.plb.mismatches = s.plb.mismatches)) ∧
      (∀ q, o.first = none → dig ≠ leNat (o.r.take 16) → State.PlbOp.noConfirm o = false → s.fb F.PLB_CTL_confirm = true →
        (s.updTile k (fun x => { x with running := none })).plbConfirmTile k = some q → ends (.plbOpComplete k none .clean) (fun u =>
          (u.tile k).running = none ∧ (u.tile q).queue = { o with first := some (k, res, dig) } :: (s.tile q).queue)) ∧
      (∀ f d1 m core bins pages step, o.first = some (f, d1, dig) → o.src = .captured m core bins pages step →
        s.f F.PLB_RES_BASE_base = 0 → ends (.plbOpComplete k none .clean) (fun u => (u.tile k).running = none ∧
          u.plb.mismatches = s.plb.mismatches ++ [(o.ticket, core, bins, step)] ∧
          ∃ arg p, s.raises u (slotEv (tagSlot o.d.tag) Ev.auditMismatch) arg p))) ∧
    (s.control = true → s.linkUp n = true →
      (∀ c, ends (.plbSample n (.skipped c)) (fun u => u.f F.PLB_SLOT_CNT_skipped n.val = min (s.f F.PLB_SLOT_CNT_skipped n.val + c) (2 ^ 32 - 1))) ∧
      (∀ hdr a b c d e, s.plb.credits[n] = [] → ends (.plbSample n (.sample hdr a b c d true e)) (fun u =>
        u.f F.PLB_SLOT_CNT_skipped n.val = min (s.f F.PLB_SLOT_CNT_skipped n.val + 1) (2 ^ 32 - 1) ∧
        ∀ j, (u.tile j).queue = (s.tile j).queue)) ∧
      (∀ hdr a b c d pages rest key, s.plb.credits[n] = pages :: rest → s.plbKeyFor (numAt hdr 0x40 8) = some key → key ≠ 0 → s.inRot ≠ [] →
        s.fb F.PLB_CTL_capture_en = true → s.f F.PLB_RES_BASE_base ≠ 0 → ends (.plbSample n (.sample hdr a b c d true .clean)) (fun u =>
          u.f F.PLB_SLOT_CNT_captured n.val = min (s.f F.PLB_SLOT_CNT_captured n.val + 1) (2 ^ 32 - 1) ∧ u.plb.credits[n] = rest)) ∧
      (∀ pages, s.fb F.PLB_CTL_capture_en = true → s.plb.key ≠ 0 → s.f F.PLB_RES_BASE_base ≠ 0 → 0 < pages →
        (s.plb.credits[n]).length < s.f F.PLB_SLOT_RATE_credits n.val → s.plbPages + pages ≤ 1024 →
        ends (.plbCredit n pages) (fun u => u.plb.credits[n] = s.plb.credits[n] ++ [pages]))) ∧
    (s.plb.keyPending = true → s.plbEarlierOps = false → s.plbBoundariesPast = true → ends .keyDrainDone (fun u =>
      u.plb.keyPending = false ∧ u.plb.keyFreeAt = s.pclkTime + 8)) ∧
    (∀ o : PlbOp, (s.tile k).running = some o → o.canary = true → (∃ t p, o.src = .issued t p) → s.f F.PLB_RES_BASE_base = 0 →
      (o.open_ = false → o.startedAt + o.d.offC * State.tickUs ≤ s.beacon → ends (.canaryGateTimeout k) (fun u =>
        (u.tile k).running = none ∧ ∃ arg p, s.raises u Ev.plbCanaryFail arg p)) ∧
      (∀ digest : BitVec 128, o.open_ = true → o.selfCanary = false → tagSlot o.d.tag = n →
        (∀ j, j ≠ k → (s.tile j).running.all (fun x => decide (x.ticket ≠ o.ticket)) = true) →
        ends (.plbCanary n o.ticket digest) (fun u => (u.tile k).running = none ∧
          ∃ arg p, s.raises u (if digest.toNat = canaryExpected o.a then Ev.plbCanaryPass else Ev.plbCanaryFail) arg p)))

/-- Stores that disable a tile, free result records, and load, bind and unbind the job. A tender at ORDER that clears a tile's enable bit
takes it out of rotation with reason 1 and PLB_TILE_OUT; a store to PLB_RES_HEAD takes the value. TRS_CTL.load takes a map and plan that
nothing speaks against, and else stores the reason of refusal; bind binds a loaded job with an arrangement, reason 8 otherwise; unbind of a
bound job drops its arrangements. A Buoy's acknowledgement of the generation distributed is kept, another changes nothing but the counts of
its frame on the link. (Completes: plbTileDisable, plbResHeadWrite, trsLoad, trsBind, trsUnbind, scheduleAck.) (07_plumb_array.md R127,
07_plumb_array.md R142, 08_trusses_and_determinism.md R148, 08_trusses_and_determinism.md R152, 08_trusses_and_determinism.md R157) -/
def Obligations.PlumbAndTrussStores : Prop :=
  ∀ (s : State) (t : Tender) (v : Word), s.canonical →
    let ends := fun (c : Instr) (P : State → Prop) => ∃ u : State, exec c s = .next u.settle ∧ P u
    let only := fun (b : Nat) => bits v.toNat 0 3 = 2 ^ b
    (s.executes t → (s.t t).prv = true → s.emergency = false →
      (∀ k : Fin 8, (s.tile k).inRot = true → bitOf (s.f F.PLB_CTL_tile_en) k.val = true → bitOf v.toNat k.val = false →
        ends (.plbTileDisable t v) (fun u => (u.tile k).inRot = false ∧ (u.tile k).reason = 1 ∧ u.f F.PLB_CTL_tile_en = bits v.toNat 0 8 ∧
          s.raises u Ev.plbTileOut k.val 1)) ∧
      ends (.plbResHeadWrite t v) (fun u => u.f F.PLB_RES_HEAD_head = v.toNat % 4096 ∧ (u.t t).pc = (s.t t).pc + 4) ∧
      (only 0 →
        let m := s.trsImage (s.f F.TRS_MAP_SRC_map)
        let p := s.trsImage (s.f F.TRS_PLAN_SRC_plan)
        (trsRefusal s.jobBound m p = 0 → ends (.trsLoad t v) (fun u => u.f F.TRS_STATUS_state = 1 ∧
          u.trs.job = some ⟨m.lgG, m.jobId, m.digest, p.digest0, p.seed, p.tensors.map (fun e => (e.1, bits e.2.1 0 4))⟩)) ∧
        (trsRefusal s.jobBound m p ≠ 0 → ends (.trsLoad t v) (fun u => u.trs = s.trs ∧ u.f F.TRS_STATUS_reason = trsRefusal s.jobBound m p ∧
          u.f F.TRS_STATUS_state = s.f F.TRS_STATUS_state))) ∧
      (only 1 → s.jobBound = false →
        (s.trs.job.isSome = true → (s.trs.active.isSome = true ∨ s.trs.pending.isSome = true) → ends (.trsBind t v) (fun u => u.jobBound = true)) ∧
        (s.trs.job = none ∨ (s.trs.active = none ∧ s.trs.pending = none) → ends (.trsBind t v) (fun u => u.jobBound = false ∧
          u.f F.TRS_STATUS_reason = 8))) ∧
      (only 2 → s.jobBound = true → ends (.trsUnbind t v) (fun u => u.f F.TRS_STATUS_state = 1 ∧ u.trs.active = none ∧ u.trs.pending = none ∧
        u.trs.job = s.trs.job))) ∧
    (s.working → ∀ (n : Slot) gen, s.linkUp n = true →
      let a := s.trs.pending.orElse (fun _ => s.trs.active)
      (a.map (·.gen) = some gen → ends (.scheduleAck n gen) (fun u => bitOf (u.f F.TRS_DIST_acked) n.val = true ∧ u.trs = s.trs)) ∧
      (a.map (·.gen) ≠ some gen → exec (.scheduleAck n gen) s = .next (s.slotHeard n 0 0)))

/-- The ledger's begins, ends and timeouts, and the records, triggers and drops of a trace stream. On the keeper in control a begin takes
the free entry of its engine with the lowest index, counts untracked where none is free, or as orphan where its command is open; an end
frees its entry, counts an untracked one down, or as orphan; a late entry is marked and raises LEDGER_TIMEOUT. A flowing stream stages an
ANCHOR at each whole second and when it is enabled, and a MARK with its identifier and value, stored or sent by firmware; a trigger counts
and raises its event, with the match cause too where MATCH names TRIGGER records, and a second one in the same PCLK cycle joins it; rearming
ends the freeze; room returning to a dropping stream stages GAP and ANCHOR; a drained window frees its reserve; a head stored takes its
value. Where a staged record could match, the match may fire a trigger first, so those clauses say what is staged with match_en clear, and
an ANCHOR's place where no received record of its PCLK cycle is staged. (Completes: ledgerBegin ledgerEnd ledgerTimeout traceAnchorTick
traceRoomReturn trcReserveDrained trcTrig trcRearm trcStreamEnable trcMark trcHeadWrite.) (09_ledger_trace_sightings.md R164,
09_ledger_trace_sightings.md R165, 09_ledger_trace_sightings.md R166, 09_ledger_trace_sightings.md R167, 09_ledger_trace_sightings.md R169,
09_ledger_trace_sightings.md R171, 09_ledger_trace_sightings.md R174, 09_ledger_trace_sightings.md R175, 09_ledger_trace_sightings.md R176,
09_ledger_trace_sightings.md R177) -/
def Obligations.LedgerAndTraceRows : Prop :=
  ∀ (s : State) (n : Slot), s.canonical → s.control = true →
    let ends := fun (c : Instr) (P : State → Prop) => ∃ u : State, exec c s = .next u.settle ∧ P u
    let x := s.trc n
    let flows := s.fb F.TRC_SLOT_CTL_en n.val = true ∧ x.loss = none ∧ x.stopped = false ∧ x.window = none ∧ x.general 16 = true ∧
      s.fb F.TRC_SLOT_CTL_match_en n.val = false
    let staged := fun (u : State) (b : List Byte) => (u.trc n).staged.map (fun r => (r.bytes, r.reserve)) = x.staged.map (fun r => (r.bytes, r.reserve)) ++ [(b, false)] ∧ (u.trc n).nStaged = x.nStaged + 1
    (s.working →
      (∀ (e : BitVec 10) (ctx : BitVec 12) (q : BitVec 32) (time : BitVec 64) (core kind : BitVec 16) (tc : BitVec 2) (st : BitVec 8),
        s.linkUp n = true →
        let mine := (s.led n).ofEngine e.toNat
        let open_ := mine.any (fun y => decide (y.cseq = q.toNat))
        (open_ = true → ends (.ledgerBegin n e ctx q time core kind tc) (fun u => u.led n = s.led n ∧
          u.f F.LDG_SLOT_CNT_orphan n.val = min (s.f F.LDG_SLOT_CNT_orphan n.val + 1) 65535)) ∧
        (∀ i, open_ = false → (s.led n).free e.toNat = some i → ends (.ledgerBegin n e ctx q time core kind tc) (fun u =>
          (∀ y, y ∈ (u.led n).entries ↔ y ∈ (s.led n).entries ∨ y = ⟨e.toNat * 16 + i, time.toNat, q.toNat, ctx.toNat, tc.toNat, false⟩) ∧
          (u.led n).untracked = (s.led n).untracked)) ∧
        (open_ = false → (s.led n).free e.toNat = none → ends (.ledgerBegin n e ctx q time core kind tc) (fun u =>
          (u.led n).entries = (s.led n).entries ∧ (u.led n).count e.toNat = (s.led n).count e.toNat + 1 ∧
          ((s.led n).count e.toNat = 0 → s.raises u Ev.ldgSaturated (n.val + 16 * e.toNat) (BitVec.ofNat 64 q.toNat)))) ∧
        (∀ y, mine.find? (fun z => decide (z.cseq = q.toNat)) = some y → ends (.ledgerEnd n e ctx q time core st) (fun u =>
          (u.led n).entries = (s.led n).entries.filter (fun z => decide (z.pos ≠ y.pos)) ∧ (u.led n).untracked = (s.led n).untracked)) ∧
        (open_ = false → (s.led n).count e.toNat ≠ 0 → ends (.ledgerEnd n e ctx q time core st) (fun u =>
          (u.led n).entries = (s.led n).entries ∧ (u.led n).count e.toNat = (s.led n).count e.toNat - 1)) ∧
        (open_ = false → (s.led n).count e.toNat = 0 → ends (.ledgerEnd n e ctx q time core st) (fun u => u.led n = s.led n ∧
          u.f F.LDG_SLOT_CNT_orphan n.val = min (s.f F.LDG_SLOT_CNT_orphan n.val + 1) 65535)) ∧
        (∀ value : BitVec 32, flows → ends (.trcMark (.firmware e ctx time) n (q ++ value)) (fun u =>
          staged u (TrcRec.raw ⟨3, e.toNat, ctx.toNat, time.toNat, q.toNat, value.toNat, none⟩ n.val)))) ∧
      (∀ (e : BitVec 10) (i : Fin 16) (y : LdgEntry), (s.led n).entries.find? (fun z => decide (z.pos = e.toNat * 16 + i.val)) = some y →
        s.fb F.LDG_CTL_tmo_en = true → s.f F.LDG_TMO_tmo_us y.tclass ≠ 0 → y.timedOut = false →
        y.begin_ + s.f F.LDG_TMO_tmo_us y.tclass * State.tickUs ≤ s.beacon → ends (.ledgerTimeout n e i) (fun u =>
          (∀ z ∈ (u.led n).entries, z.pos = y.pos → z.timedOut = true) ∧
          s.raises u (slotEv n Ev.ledgerTimeout) (n.val + 16 * e.toNat) (BitVec.ofNat 64 (ldgKey n.val y.pos + y.cseq % 2 ^ 32 * 2 ^ 32)))) ∧
      (s.trace.anchorSec ≠ s.beacon / State.tickS → ends .traceAnchorTick (fun u => u.trace.anchorSec = s.beacon / State.tickS ∧
        (flows → cycleTail (s.beacon / 8) x.staged = [] → s.beacon / State.tickS = s.trace.anchorSec + 1 →
          staged u ((anchorRec (s.beacon / State.tickS * State.tickS)).raw n.val)))) ∧
      (∀ l, x.loss = some l → x.stopped = false → x.window = none → x.general 16 = true → ends (.traceRoomReturn n) (fun u =>
        s.raises u Ev.trcGap n.val (BitVec.ofNat 64 (min l.count (2 ^ 64 - 1))) ∧
        (s.fb F.TRC_SLOT_CTL_match_en n.val = false → (u.trc n).loss = none ∧
          (u.trc n).staged.map (fun r => (r.bytes, r.reserve)) =
            x.staged.map (fun r => (r.bytes, r.reserve)) ++ [(l.gap n.val, false), ((anchorRec s.beacon).raw n.val, false)]))) ∧
      (∀ k, x.draining = some k → k ≤ x.nLanded → ends (.trcReserveDrained n) (fun u => (u.trc n).draining = none ∧
        s.raises u Ev.trcReserveDrained n.val 0))) ∧
    (∀ (t : Tender) (v : Word), s.executes t → (s.t t).prv = true → s.emergency = false →
      let self := bitOf v.toNat 6 && decide (s.f F.TRC_SLOT_MATCH_type n.val = 6) &&
        (s.fb F.TRC_SLOT_MATCH_any_engine n.val || decide (s.f F.TRC_SLOT_MATCH_engine n.val = 0x3FF)) &&
        (s.fb F.TRC_SLOT_MATCH_any_context n.val || decide (s.f F.TRC_SLOT_MATCH_context n.val = 0))
      let cause := if self then 3 else 1
      (bitOf v.toNat 3 = true → bitOf v.toNat 7 = false → (s.fb F.TRC_SLOT_CTL_en n.val = true ∨ bitOf v.toNat 0 = false) →
        (x.trigAt ≠ some (s.beacon / 8) → ends (.trcTrig t n v) (fun u => (u.trc n).triggers = (x.triggers + 1) % 2 ^ 32 ∧
          (u.trc n).cause = cause ∧ s.raises u Ev.trcTrigger n.val (BitVec.ofNat 64 cause))) ∧
        (x.trigAt = some (s.beacon / 8) → ends (.trcTrig t n v) (fun u => (u.trc n).triggers = x.triggers ∧ (u.trc n).cause = x.cause ||| cause))) ∧
      (bitOf v.toNat 7 = true → bitOf v.toNat 3 = false → bitOf v.toNat 6 = false →
        ends (.trcRearm t n v) (fun u => (u.trc n).frozen = false ∧ (u.trc n).stopped = false)) ∧
      (s.fb F.TRC_SLOT_CTL_en n.val = false → bitOf v.toNat 0 = true → ends (.trcStreamEnable t n v) (fun u =>
        u.fb F.TRC_SLOT_CTL_en n.val = true ∧
        (bitOf v.toNat 3 = false → bitOf v.toNat 6 = false → bitOf v.toNat 7 = false → x.loss = none → x.stopped = false → x.window = none →
          x.general 16 = true → cycleTail (s.beacon / 8) x.staged = [] → staged u ((anchorRec s.beacon).raw n.val)))) ∧
      (flows → ends (.trcMark (.store t) n v) (fun u => ∃ b, staged u b ∧ b.length = 16 ∧
        b.drop 8 = leBytes (v.toNat / 2 ^ 32) 4 ++ leBytes (v.toNat % 2 ^ 32) 4)) ∧
      ends (.trcHeadWrite t n v) (fun u => (u.t t).pc = (s.t t).pc + 4 ∧
        u.f F.TRC_SLOT_HEAD_head n.val = if s.segSize ≤ v.toNat % 2 ^ 30 then 0 else v.toNat % 2 ^ 30))

/-- The Lens port, sightings and counter samples. A capture unit's credit is counted; the Lens link comes up where it is enabled, and its
loss raises LENS_DOWN. A Buoy that announces a sighting with room for it gets that space at the tail, and one without room, or with no
region set, is refused; a section that completes a holder marks it captured. When the sampling period is over the next one is set; a
sample's done and busy are kept for the next one. (Completes: lensCredit lensDown lensLinkUp sightAnnounce sight counterSampleTick
counters.) (09_ledger_trace_sightings.md R178, 09_ledger_trace_sightings.md R180, 09_ledger_trace_sightings.md R181,
09_ledger_trace_sightings.md R182, 09_ledger_trace_sightings.md R183, 09_ledger_trace_sightings.md R184) -/
def Obligations.LensSightingCounterRows : Prop :=
  ∀ (s : State) (n : Slot) (k : Fin 8), s.working → s.canonical →
    let ends := fun (c : Instr) (P : State → Prop) => ∃ u : State, exec c s = .next u.settle ∧ P u
    let z := s.sightSize
    let tail := s.f F.TRC_SIGHT_TAIL_stail
    let used := (tail + z - s.f F.TRC_SIGHT_HEAD_shead % z) % z
    (∀ j : Fin 4, ends (.lensCredit j) (fun u => (u.trace.lens[j]).credits = (s.trace.lens[j]).credits + 1 ∧ u.regs = s.regs)) ∧
    (s.fb F.TRC_LENS_CTL_up = true → ends .lensDown (fun u => u.fb F.TRC_LENS_CTL_up = false ∧ s.raises u Ev.lensDown 0 0)) ∧
    (s.fb F.TRC_LENS_CTL_en = true → s.clk.refclk = true → ends .lensLinkUp (fun u => u.fb F.TRC_LENS_CTL_up = true)) ∧
    (s.linkUp n = true → s.sightOpen k n = true →
      (∀ bytes, (∀ r ∈ s.trace.sights[k], r.slot ≠ n.val) →
        (s.f F.TRC_SIGHT_BASE_sbase ≠ 0 → used + bytes < z → ends (.sightAnnounce k n bytes) (fun u =>
          u.trace.sights[k] = s.trace.sights[k] ++ [⟨n.val, tail, bytes, 0⟩] ∧ u.f F.TRC_SIGHT_TAIL_stail = (tail + bytes) % z ∧
          (bytes ≠ 0 → u.f F.TRC_SIGHT_STAT_state k.val = 2) ∧
          (bytes = 0 → bitOf (u.f F.TRC_SIGHT_STAT_captured k.val) n.val = true))) ∧
        (s.f F.TRC_SIGHT_BASE_sbase = 0 ∨ z ≤ used + bytes → ends (.sightAnnounce k n bytes) (fun u =>
          bitOf (u.f F.TRC_SIGHT_STAT_refused k.val) n.val = true ∧ u.trace = s.trace))) ∧
      (∀ r data, (s.trace.sights[k]).find? (fun y => decide (y.slot = n.val)) = some r → r.received + data.length = r.bytes →
        ends (.sight k n data) (fun u => bitOf (u.f F.TRC_SIGHT_STAT_captured k.val) n.val = true ∧
          ∀ y ∈ u.trace.sights[k], y.slot = n.val → y.received = r.bytes))) ∧
    (s.f F.TRC_CNT_CTL_period_us ≠ 0 → s.trace.sampleDue ≤ s.beacon → ends .counterSampleTick (fun u =>
      u.trace.sampleDue = s.beacon + s.f F.TRC_CNT_CTL_period_us * State.tickUs ∧ u.mem = s.mem)) ∧
    (∀ c : CounterSample, s.linkUp n = true → ends (.counters n [c]) (fun u => (n.val * 1024 + c.engine, c.done, c.busy) ∈ u.trace.prevCnt))

/-- Marks, delay compensation, the PTP exchange and lock, the tie, 1PPS and the transmit timestamp queue. A mark sends each slot in run
phase its W0 frame and moves its compensation one tick towards its target; the echo of a mark gives the new compensation; the period and
BCN_CAL.now ask for calibration. A Sync, its Follow_Up, the Delay_Req and the Delay_Resp give offset and mean path delay with their stamps
corrected; sixteen good exchanges lock the domain, sixteen far ones or no Sync for loss_ms lose it. A master heard twice is selected (the
number two is the model's, PRESUMED from IEEE 1588). The tie wait ends untied, or with the set to a domain that has locked; and after 60 s
locked the tie returns to the preferred domain. 1PPS rises at whole seconds; its input edge is stamped and steers where it is the tie, and
its absence is raised once. A read of PTP_TSQ_TAG gives the head entry and removes it. (Completes: w0Mark calEcho calPeriod bcnCalNow
beaconTieWaitExpired ptpSync ptpFollowUp ptpAnnounce ptpDelayReq ptpDelayResp ptpSyncLoss ptpRevert ppsOutEdge ppsInEdge ppsInLost
ptpTsqTagRead.) (12_beacon_time.md R242, 12_beacon_time.md R244, 12_beacon_time.md R245, 12_beacon_time.md R248, 12_beacon_time.md R252,
12_beacon_time.md R253, 12_beacon_time.md R254, 12_beacon_time.md R255, 12_beacon_time.md R256, 12_beacon_time.md R257) -/
def Obligations.BeaconAndPtpRows : Prop :=
  ∀ (s : State) (n : Slot) (d : Fin 2), s.working → s.canonical →
    let ends := fun (c : Instr) (P : State → Prop) => ∃ u : State, exec c s = .next u.settle ∧ P u
    let c := s.bcn.slots[n]
    let x := s.ptp d
    let cal := c.want || c.due.any (fun k => decide (k ≤ s.beacon))
    let dly := s.f F.BCN_SLOT_dly n.val
    let st := s.f F.PTP_DOM_STAT_state d.val
    let runs := s.fb F.PTP_DOM_CFG_en d.val = true ∧ s.f F.MAC_STATUS_mode ≠ 0
    let tie := s.f F.BCN_CTL_tie
    (s.beacon % 16384 = 0 → s.w0Rests = false → (s.mo n).phase = 2 → ends .w0Mark (fun u =>
      Out.w0 n.val ((s.beacon : Int) - dly) (w0Frame s.beacon s.control s.bcn.tied cal (s.fb F.BCN_STATUS_holdover)) ∈ u.out ∧
      (cal = true → (u.bcn.slots[n]).echo = some (s.beacon + 16384) ∧ (u.bcn.slots[n]).want = false) ∧
      (c.target = none → u.f F.BCN_SLOT_dly n.val = dly) ∧
      (∀ new old, c.target = some (new, old) → new < 1024 →
        u.f F.BCN_SLOT_dly n.val = if dly < new then dly + 1 else if new < dly then dly - 1 else dly))) ∧
    (∀ a m1, c.echo = some m1 → ends (.calEcho n a) (fun u =>
      let delta : Int := (((s.port (s.portOf n)).ident.map (·.delta)).getD 0)
      let z : Int := if s.followed n then (16 * ((a : Int) - m1 + dly - 1600) - delta + 16) / 32
        else (16 * ((a : Int) - m1 - 1600) - delta - signedOf (s.f F.BCN_PAIR_skew) 32 + 8) / 16
      let new := (clampInt z 0 1023).toNat
      (u.bcn.slots[n]).echo = none ∧ (u.bcn.slots[n]).target = (if new = dly then none else some (new, dly)) ∧
      u.f F.BCN_SLOT_rtt n.val = wrapInt ((a : Int) - m1 - 1600) 16 ∧ (u.mo n).hbEdge = s.beacon)) ∧
    (∀ a, c.echo = none → ends (.calEcho n a) (fun u => u.bcn = s.bcn ∧ (u.mo n).hbEdge = s.beacon)) ∧
    (s.f F.BCN_CAL_period_s ≠ 0 → s.bcn.calAt + s.f F.BCN_CAL_period_s * State.tickS ≤ s.beacon → ends .calPeriod (fun u =>
      u.bcn.calAt = s.beacon ∧ ∀ k : Slot, (u.bcn.slots[k]).want = true)) ∧
    (∀ (t : Tender) (v : Word), s.executes t → (s.t t).prv = true → ends (.bcnCalNow t v) (fun u =>
      u.f F.BCN_CAL_period_s = v.toNat % 65536 ∧ (bitOf v.toNat (16 + n.val) = true → (u.bcn.slots[n]).want = true) ∧
      (bitOf v.toNat (16 + n.val) = false → u.bcn.slots[n] = c))) ∧
    (∀ k, s.bcn.waitFrom = some k → s.bcn.waitOver = false → k + s.f F.BCN_CTL_wait_s * State.tickS ≤ s.beacon →
      (s.ptpLocked 0 = false → s.ptpLocked 1 = false →
        ends .beaconTieWaitExpired (fun u => u.bcn.waitOver = true ∧ u.bcn.tied = s.bcn.tied ∧ u.regs = s.regs)) ∧
      (∀ z, [s.ptpPrefer, 1 - s.ptpPrefer].find? s.ptpLocked = some z → s.timeService = true → s.bcn.tied = false → s.inService = false →
        ends .beaconTieWaitExpired (fun u => u.bcn.waitOver = true ∧ u.bcn.tied = true ∧ u.f F.BCN_CTL_tie = z.val + 1 ∧
          u.bcn.hardPend = some (wrapInt ((s.nextPclk : Int) + s.ptpTicks z) 64)))) ∧
    (runs →
      (∀ m q corr t1 log, x.master = some m → ends (.ptpSync d m q corr t1 log) (fun u =>
        (u.ptp d).sync = some (q, s.beacon - s.f F.PTP_CORR_rx - s.f F.PTP_MOD_DLY_rx, corr, t1) ∧ (u.ptp d).lastSync = s.beacon ∧
        u.fb F.PTP_DOM_STAT_two_step d.val = t1.isNone ∧ u.f F.PTP_DOM_STAT_state d.val = if st = 0 ∨ st = 3 then 1 else st)) ∧
      (∀ m q t2 k corr t1, x.master = some m → x.sync = some (q, t2, k, none) → ends (.ptpFollowUp d m q corr t1) (fun u =>
        (u.ptp d).sync = some (q, t2, k + corr, some t1) ∧ u.regs = s.regs)) ∧
      (∀ (m : PtpMaster) gm rank, x.masters = [m] → 1 ≤ m.heard → s.beacon < m.at_ + 6 * State.tickS → ends (.ptpAnnounce d m.source gm rank) (fun u =>
        (u.ptp d).master = some m.source ∧ u.f F.PTP_DOM_GM_gm d.val = gm % 2 ^ 64 ∧ (st = 0 → u.f F.PTP_DOM_STAT_state d.val = 1))) ∧
      (∀ q t2 k t1, x.sync = some (q, t2, k, some t1) → ends (.ptpDelayReq d) (fun u =>
        let t3 := s.beacon + s.f F.PTP_CORR_tx + s.f F.PTP_MOD_DLY_tx
        u.out = s.onPort (.delayReq d.val x.seq t3) :: s.out ∧ (u.ptp d).req = some (x.seq, t3) ∧ (u.ptp d).seq = (x.seq + 1) % 65536)) ∧
      (∀ m q0 t2 k t1 q t3 corr t4, x.master = some m → x.sync = some (q0, t2, k, some t1) → x.req = some (q, t3) →
        ends (.ptpDelayResp d m q corr t4) (fun u =>
          let up := s.ptpTime t2 - t1 - k
          let back := t4 - s.ptpTime t3 - corr
          let ofs := -((up - back) / 2)
          let near := decide (ofs.natAbs ≤ s.f F.PTP_DOM_CFG_lock_ns d.val * 65536)
          let far := decide (1000 * 65536 < ofs.natAbs)
          u.f F.PTP_DOM_OFS_ofs d.val = wrapInt ofs 64 ∧ u.f F.PTP_DOM_DLY_dly d.val = wrapInt ((up + back) / 2) 64 ∧
          (u.ptp d).sync = none ∧ (u.ptp d).req = none ∧
          (near = true → far = false ∨ st ≠ 2 → 15 ≤ x.good → u.f F.PTP_DOM_STAT_state d.val = 2) ∧
          (near = true → far = false → x.good < 15 → u.f F.PTP_DOM_STAT_state d.val = st) ∧
          (near = false → far = true → 15 ≤ x.bad → u.f F.PTP_DOM_STAT_state d.val = 3) ∧
          (near = false → far = false → u.f F.PTP_DOM_STAT_state d.val = st)))) ∧
    (st = 1 ∨ st = 2 → x.lastSync + s.f F.PTP_DOM_CFG_loss_ms d.val * State.tickMs ≤ s.beacon → ends (.ptpSyncLoss d) (fun u =>
      u.f F.PTP_DOM_STAT_state d.val = 3 ∧ s.raises u (Ev.ptpLostA + d.val) 0 0)) ∧
    (∀ k, s.ptpPrefer = d → x.lockedAt = some k → s.timeService = true → s.fb F.BCN_CTL_revert = true → (tie = 1 ∨ tie = 2) → tie ≠ d.val + 1 →
      st = 2 → k + 60 * State.tickS ≤ s.beacon → ends .ptpRevert (fun u => u.f F.BCN_CTL_tie = d.val + 1 ∧
        u.fb F.BCN_STATUS_holdover = false ∧ s.raises u Ev.ptpSwitch 0 (BitVec.ofNat 64 (tie + 4 * (d.val + 1))))) ∧
    (s.beacon % State.tickS = 0 → s.fb F.PTP_PPS_out_en = true → ends .ppsOutEdge (fun u => Out.pin "PPS_OUT" true ∈ u.out ∧
      u.bcn.ppsFall = some (s.beacon + s.f F.PTP_PPS_width_us * State.tickUs) ∧ u.beacon = s.beacon)) ∧
    (s.fb F.PTP_PPS_in_en = true →
      ends .ppsInEdge (fun u => u.f F.PTP_PPS_IN_time = s.beacon % 2 ^ 64 ∧ (tie ≠ 3 ∨ s.bcn.tied = false ∨ s.following = true → u.f F.BCN_SLEW_slew = s.f F.BCN_SLEW_slew) ∧
        (tie = 3 → s.bcn.tied = true → s.following = false → let r := s.beacon % State.tickS
          u.f F.BCN_SLEW_slew = wrapInt (if 2 * r < State.tickS then -(r : Int) else (State.tickS : Int) - r) 32)) ∧
      (s.bcn.ppsLost = false → s.bcn.ppsAt + 1100 * State.tickMs ≤ s.beacon → ends .ppsInLost (fun u =>
        u.bcn.ppsLost = true ∧ s.raises u Ev.ppsInLost 0 0))) ∧
    (∀ (t : Tender) (rd : Fin 32), s.executes t → (s.t t).prv = true → rd ≠ 0 →
      (s.bcn.tsq = [] → ends (.ptpTsqTagRead t rd) (fun u => u.g t rd = 0 ∧ u.bcn.tsq = [])) ∧
      (∀ e l, s.bcn.tsq = e :: l → ends (.ptpTsqTagRead t rd) (fun u => u.g t rd = BitVec.ofNat 64 (65536 + e.2 % 65536) ∧ u.bcn.tsq = l)))

/-- The own image: taking a step, ingest, replication, READY to COMMITTED, discard. A boundary tag that Scarf takes opens an image over the
arrangement's slots and asks for the shard, and is skipped while another step's image runs that has not committed; a shard over its budget
drops the image. A segment that was asked for is digested and held until it is durable; a write that disagrees, or that met a lost channel,
is repeated raw and is not durable, and one that a relocking channel holds has not completed. SEG_ACK, SEG_NAK and the resend timer keep
what is unacknowledged going. PREPARED moves a SIGNED image to PREPARED; the other keeper's report, the wait or the mirrored commit commits
it: the commit word names it and SCF_COMMIT is held for the mirror; COMMITTED returns to IDLE, or ends the image before the one that
ingests. Discard, full and the end of the hold act on stores to SCF_CTL. The image_seq of the first image is the model's choice. (Completes:
stepBoundary shardAnnounce scfSegment segmentDurable segAck segNak prepared committed segResendTimer peerPrepared reliefWaitExpired
mirroredCommit scfDiscard scfHoldClear scfFull.) (11_scarf_checkpoint.md R212, 11_scarf_checkpoint.md R213, 11_scarf_checkpoint.md R215,
11_scarf_checkpoint.md R222, 11_scarf_checkpoint.md R223, 11_scarf_checkpoint.md R225, 11_scarf_checkpoint.md R226, 11_scarf_checkpoint.md
R230, 11_scarf_checkpoint.md R231, 11_scarf_checkpoint.md R233) -/
def Obligations.ScarfImageRows : Prop :=
  ∀ (s : State) (n : Slot) (step : Nat), s.working → s.canonical →
    let ends := fun (c : Instr) (P : State → Prop) => ∃ u : State, exec c s = .next u.settle ∧ P u
    let st := s.scfState
    let commits := fun (u : State) (g : ScfImage) => u.scfState = 5 ∧ u.commitStep 0 = g.step % 2 ^ 64 ∧
      (g.place < 2 → u.commitPlace 0 = g.place ∧ u.commitValid 0 = true) ∧ u.holds .scfCommit
    let gone := fun (u : State) => u.scf.img = s.scf.awaiting ∧ u.scfState = (if s.scf.awaiting.isSome then 5 else 0)
    let discards := fun (u : State) (g : ScfImage) => gone u ∧ s.raises u Ev.scfDiscard 0 (BitVec.ofNat 64 g.step)
    (s.linkUp n = true →
      ends (.stepBoundary n step) (fun u => s.raises u (slotEv n Ev.stepBoundary) n.val (BitVec.ofNat 64 step)) ∧
      (s.trs.pending = none → s.fb F.SCF_CTL_en = true → s.jobBound = true → step % s.f F.SCF_CTL_k = 0 →
        bitOf s.imageSlots n.val = true → s.scf.skipped ≠ some step →
        (s.scfOpens step = true → ends (.stepBoundary n step) (fun u => u.scfState = 1 ∧ u.scf.awaiting = s.scf.img ∧ u.f F.SCF_SLOT_STAT_state n.val = 2 ∧
          ∃ g, u.scf.img = some g ∧ g.step = step ∧ g.seq = s.scf.nextSeq ∧ g.mask = s.imageSlots ∧ g.boundary = s.beacon ∧ g.tags = 2 ^ n.val)) ∧
        (∀ g, s.scfOpens step = false → s.scf.img = some g → g.step ≠ step → ends (.stepBoundary n step) (fun u => u.scf.skipped = some step ∧ u.scf.img = some g ∧
          s.raises u Ev.scfStepSkipped 0 (BitVec.ofNat 64 (place step 0 48)))))) ∧
    (∀ g, s.scf.img = some g →
      let own := g.segs.filter (fun x => decide (x.rcd.slot = n.val))
      (st = 1 →
        (s.linkUp n = true → bitOf g.tags n.val = true → State.announcedCount g n.val = none → ∀ refused raw count,
          (refused = true ∨ s.f F.SCF_SLOT_BUDGET_bytes n.val < raw → ends (.shardAnnounce n refused raw count) (fun u =>
            gone u ∧ u.scf.skipped = some g.step)) ∧
          (refused = false → raw ≤ s.f F.SCF_SLOT_BUDGET_bytes n.val → ends (.shardAnnounce n refused raw count) (fun u =>
            ∃ h, u.scf.img = some h ∧ h.announced = g.announced ++ [(n.val, raw, count)]))) ∧
        (∀ count index grain tensor toff secs data, s.linkUp n = true → State.announcedCount g n.val = some count → index < count →
          g.asked.find? (fun y => decide (y.1 = n.val)) = some (n.val, index) →
          (∀ x ∈ own, x.rcd.index = index → x.durable = false) → data ≠ [] → data.length ≤ 4194304 →
          ends (.scfSegment n (.raw grain tensor toff secs data)) (fun u => ∃ h x, u.scf.img = some h ∧ x ∈ h.segs ∧ x.rcd.slot = n.val ∧
            x.rcd.index = index ∧ x.rcd.grain = grain ∧ x.rcd.raw = data.length ∧ x.rcd.digest = sha384 data ∧ x.durable = false)) ∧
        (∀ index x, g.segs.find? (fun y => decide (y.rcd.slot = n.val ∧ y.rcd.index = index) && !y.durable) = some x → x.data ≠ [] →
          let place := s.imgBase g.place + x.rcd.off
          let bad := fun (agree : Bool) => ends (.segmentDurable n index agree) (fun u => s.raises u Ev.scfShardBad n.val 0 ∧ ∃ h y, u.scf.img = some h ∧
            y ∈ h.segs ∧ y.rcd.slot = n.val ∧ y.rcd.index = index ∧ y.rcd.isRaw = true ∧ y.tries = x.tries + 1 ∧ y.durable = false)
          if s.loadState place x.rcd.stored = .held then ∀ agree, exec (.segmentDurable n index agree) s = .next s
          else bad false ∧ (s.blockFails place x.rcd.stored = true → bad true) ∧
            (s.blockFails place x.rcd.stored = false → ends (.segmentDurable n index true) (fun u => ∃ h y, u.scf.img = some h ∧ y ∈ h.segs ∧
              y.rcd.slot = n.val ∧ y.rcd.index = index ∧ y.durable = true)))) ∧
      (∀ h : ReplHdr, s.fromBuddy h = true → h.seq = g.seq →
        (s.replGood h Rk.segAck 0 = true → ends (.segAck h) (fun u => u.scf.lastRx = s.beacon ∧ ∃ k, u.scf.img = some k ∧
          ∀ y ∈ k.segs, State.segNumber k y.rcd.slot y.rcd.index = some h.seg → y.acked = true)) ∧
        (s.replGood h Rk.segNak 0 = true → g.segs.any (fun x => decide (State.segNumber g x.rcd.slot x.rcd.index = some h.seg)) = true → ends (.segNak h) (fun u =>
          u.f F.SCF_REPL_CNT_naks = min (s.f F.SCF_REPL_CNT_naks + 1) 65535 ∧ u.f F.SCF_REPL_CNT_resent = min (s.f F.SCF_REPL_CNT_resent + 1) 65535 ∧
          ∃ k, u.scf.img = some k ∧ ∀ y ∈ k.segs, State.segNumber k y.rcd.slot y.rcd.index = some h.seg →
            y.acked = false ∧ (y.sentAt = none ∨ y.sentAt = some s.beacon))) ∧
        (s.replGood h Rk.prepared 0 = true → st = 3 → ends (.prepared h) (fun u => (s.fb F.PAR_STATUS_link_up = true → u.paired (.pair "PREPARED" [g.step])) ∧
          (s.control = false → s.scf.peerBuddyLost = false → s.scf.peerStep ≠ some g.step → u.scfState = 4 ∧ (u.scf.img.bind (·.preparedAt)) = some s.beacon) ∧
          (s.control = true → s.scf.peerPrepared = some g.step → commits u g))) ∧
        (s.replGood h Rk.committed 0 = true → st = 5 → s.scf.awaiting = none → ends (.committed h) (fun u => u.scf.img = none ∧
          u.scfState = 0 ∧ u.scf.refs = g.segs.map (·.rcd)))) ∧
      (∀ h : ReplHdr, ∀ a, s.fromBuddy h = true → s.replGood h Rk.committed 0 = true → s.scf.awaiting = some a → h.seq = a.seq →
        ends (.committed h) (fun u => u.scf.awaiting = none ∧ u.scf.refs = a.segs.map (·.rcd))) ∧
      (s.buddyUp = true → ∀ x ∈ g.segs, ∀ k, x.acked = false → x.sentAt = some k → k + s.f F.SCF_REPL_rto_ms * State.tickMs ≤ s.beacon →
        ends .segResendTimer (fun u => ∃ h, u.scf.img = some h ∧ ∀ y ∈ h.segs, y.acked = false → ∀ j, y.sentAt = some j →
          s.beacon < j + s.f F.SCF_REPL_rto_ms * State.tickMs ∨ j = s.beacon)) ∧
      (st = 4 →
        (s.control = true → ends (.peerPrepared g.step) (fun u => commits u g ∧ u.fb F.SCF_STATUS_peer_stale = false)) ∧
        (∀ k, s.control = true → g.preparedAt = some k → k + s.f F.SCF_CTL_relief_wait_ms * State.tickMs ≤ s.beacon →
          ends .reliefWaitExpired (fun u => commits u g ∧ u.fb F.SCF_STATUS_peer_stale = true)) ∧
        (s.control = false →
          (¬ (s.commitValid 0 = true ∧ s.commitStep 0 = g.step) → ends (.mirroredCommit g.step) (fun u => commits u g)) ∧
          (¬ (s.commitValid 0 = true ∧ s.commitStep 0 = step) → g.step ≠ step → ends (.mirroredCommit step) (fun u => discards u g)))) ∧
      (∀ (t : Tender) (v : Word), s.executes t → (s.t t).prv = true →
        (bitOf v.toNat 18 = true → st ≠ 0 → st ≠ 5 → ends (.scfDiscard t v) (fun u => discards u g)) ∧
        (bitOf v.toNat 18 = false → bitOf v.toNat 17 = false → s.fb F.SCF_CTL_hold = true → st = 6 →
          ends (.scfHoldClear t v) (fun u =>
            if State.allAcked g then u.scfState = 3 ∧ ∃ h m, u.scf.img = some h ∧ h.manifest = some m else u.scfState = 2)))) ∧
    (s.control = false → s.commitValid 0 = true → s.commitStep 0 = step → ends (.mirroredCommit step) (fun u =>
      u.fb F.SCF_STATUS_peer_stale = false ∧ u.scf = s.scf)) ∧
    (∀ (t : Tender) (v : Word), s.executes t → (s.t t).prv = true → bitOf v.toNat 19 = true → ends (.scfFull t v) (fun u => u.scf.needFull = true))

/-- The buddy's image at the receiver, the counterpart's loss and return, and planning and loading a restore. A frame that is not the
counterpart's, or whose header does not hold, is counted. HELLO brings the relation up, and asks for full images where nothing is held;
KEEPALIVE refreshes it; the timers send KEEPALIVE, SEG_NAK 1 and HELLO, and declare the counterpart lost, one that has not answered yet too.
SEG_HEAD enters a record or finds no space; the fragment that makes a segment whole, or a reference copied, gives SEG_ACK or SEG_NAK 2; no
reference SEG_NAK 3. A whole good manifest is PREPARED; COMMIT swaps the buddy commit word; ABORT drops the image; FETCH is answered, an
empty fragment where nothing is held (the model's choice). A bad or unfitting restore descriptor fails the plan, a good one is kept; cancel
drops it. The last Buoy's acknowledgement ends the load; 10 s of silence close an association. What is sent leaves where the port has a link
and the association its keys. (Completes: keepalive hello scfAbort segRef segHead segData prepare scfCommitFrame scfFetch keepaliveTimer
scfBuddyLost helloRetry segIncompleteTimer rstPlan rstCancel shardLoadAck restoreAssocIdle.) (11_scarf_checkpoint.md R223,
11_scarf_checkpoint.md R229, 11_scarf_checkpoint.md R230, 11_scarf_checkpoint.md R231, 11_scarf_checkpoint.md R232, 11_scarf_checkpoint.md
R233, 11_scarf_checkpoint.md R234, 11_scarf_checkpoint.md R235, 11_scarf_checkpoint.md R236, 11_scarf_checkpoint.md R237) -/
def Obligations.ScarfPeerAndRestoreRows : Prop :=
  ∀ (s : State) (n : Slot) (h : ReplHdr) (data : List Byte), s.working → s.canonical →
    let ends := fun (c : Instr) (P : State → Prop) => ∃ u : State, exec c s = .next u.settle ∧ P u
    let sends := fun (u : State) (kind step seq seg off flags value : Nat) (b : List Byte) => s.portUp = true →
      s.scf.assocs.any (fun a => decide (a.no = 0 ∧ a.keyOut ≠ [])) = true →
      ∃ w p, Out.port p (.scf 0 (s.replHeader 0 kind step seq seg off flags value b.length) b w) ∈ u.out
    let sent := fun (u : State) (kind step seq seg value : Nat) => sends u kind step seq seg 0 0 value []
    let good := fun (kind len : Nat) => s.replGood h kind len = true
    let rec_ := segRecOf data
    let checked := fun (u : State) (r : ScfRecv) =>
      (sent u Rk.segAck r.step r.seq h.seg 0 ∧ ∃ k y, u.scf.recv = some k ∧ y ∈ k.segs ∧ y.no = h.seg ∧ y.durable = true) ∨
      (sent u Rk.segNak r.step r.seq h.seg 2 ∧ ∃ k, u.scf.recv = some k ∧ ∀ y ∈ k.segs, y.no ≠ h.seg)
    (s.fromBuddy h = false ∨ ¬ good Rk.keepalive 0 → ends (.keepalive h) (fun u => u.f F.SCF_REPL_CNT_foreign = min (s.f F.SCF_REPL_CNT_foreign + 1) 65535)) ∧
    (s.fromBuddy h = true →
      (good Rk.keepalive 0 → ends (.keepalive h) (fun u => u.scf.lastRx = s.beacon ∧ u.regs = s.regs)) ∧
      (good Rk.hello 32 → ends (.hello h) (fun u => u.buddyUp = true ∧ u.scf.helloAt = none ∧ u.scf.lastRx = s.beacon ∧
        (bitOf h.value 3 = false → (s.scf.img = none → u.scf.needFull = true) ∧
          ∀ g, s.scf.img = some g → ∃ k, u.scf.img = some k ∧ k.full = true))) ∧
      (∀ r, s.scf.recv = some r → r.seq = h.seq →
        (good Rk.abort 0 → ends (.scfAbort h) (fun u => u.scf.recv = none ∧ u.f F.SCF_STATUS_recv = 0)) ∧
        (good Rk.segRef data.length → ends (.segRef h data) (fun u =>
          match (if s.commitValid 1 then (manRecs (s.manAt (2 + s.commitPlace 1))).find? (fun x => x.same rec_) else none) with
          | none => sent u Rk.segNak h.step h.seq h.seg 3
          | some _ => checked u r)) ∧
        (bitOf h.flags 0 = false →
          (good Rk.segHead data.length → ends (.segHead h data) (fun u =>
            if 0x3C00000000 < rec_.off + rec_.stored ∨ rec_.off % 64 ≠ 0 ∨ 4194304 < rec_.raw then sent u Rk.segNak h.step h.seq h.seg 4
            else ∃ k, u.scf.recv = some k ∧ ⟨h.seg, rec_, [], s.beacon, false⟩ ∈ k.segs)) ∧
          (∀ x, good Rk.segData data.length → r.segs.find? (fun y => decide (y.no = h.seg) && !y.durable) = some x → h.off + data.length ≤ x.rcd.stored → data ≠ [] →
            let parts := x.parts ++ [(h.off, data.length)]
            ends (.segData h data) (fun u =>
              if covers parts x.rcd.stored (parts.length + 1) 0 then checked u r
              else ∃ k y, u.scf.recv = some k ∧ y ∈ k.segs ∧ y.no = h.seg ∧ y.parts = parts ∧ y.last = s.beacon)) ∧
          (∀ m, good Rk.prepare data.length → r.prepared = some m → ends (.prepare h data) (fun u => sent u Rk.prepared r.step r.seq 0 0 ∧ u.scf.recv = some r)) ∧
          (let parts := r.parts.filter (fun x => decide (x.1 ≠ h.off)) ++ [(h.off, data)]
           let m := gather parts (parts.length + 1) []
           good Rk.prepare data.length → r.prepared = none → 0xA00 ≤ m.length → manLength m ≤ m.length → manGood m (s.scf.buddyKey.getD []) = true →
           (manRecs m).zipIdx.all (fun x => r.segs.any (fun y => decide (y.no = x.2 ∧ y.rcd = x.1) && y.durable)) = true →
           ends (.prepare h data) (fun u => sent u Rk.prepared r.step r.seq 0 0 ∧ u.f F.SCF_STATUS_recv = 2 ∧
             (u.scf.recv.bind (·.prepared)) = some m))) ∧
        (∀ m, good Rk.commit 0 → r.prepared = some m → ends (.scfCommitFrame h) (fun u => u.scf.recv = none ∧ u.commitStep 1 = r.step % 2 ^ 64 ∧
          sent u Rk.committed h.step h.seq 0 0 ∧ s.raises u Ev.scfBuddyImage 0 0))) ∧
      (h.value = 0 → good Rk.fetch data.length →
        (s.fetchManifest false (decide (h.seg % 2 = 1)) = none → ends (.scfFetch h data) (fun u => sends u Rk.prepare 0 0 0 0 3 0 [])) ∧
        (∀ m i, s.fetchManifest false (decide (h.seg % 2 = 1)) = some (m, i) → ends (.scfFetch h data) (fun u =>
          ∀ x ∈ fragments s.scfMax (m.length + 1) 0 m,
            sends u Rk.prepare (manStep m) (manSeq m) 0 x.1 (1 + if x.1 + x.2.length = m.length then 2 else 0) 0 x.2)))) ∧
    (s.scf.buddy.isSome = true →
      (s.scf.lastTx + State.tickMs ≤ s.beacon → ends .keepaliveTimer (fun u => sent u Rk.keepalive 0 0 0 0 ∧ u.scf.lastTx = s.beacon)) ∧
      (s.buddyUp = true ∨ s.scf.lostTold = false → s.scf.lastRx + s.f F.SCF_REPL_lost_ms * State.tickMs ≤ s.beacon → ends .scfBuddyLost (fun u =>
        u.buddyUp = false ∧ (s.fb F.PAR_STATUS_link_up = true → u.paired (.pair "BUDDY_LOST" [])) ∧ s.raises u Ev.scfBuddyLost 0 0)) ∧
      (∀ k, s.scf.helloAt = some k → k + 10 * State.tickMs ≤ s.beacon → ends .helloRetry (fun u => u.scf.helloAt = some s.beacon ∧
        ∃ step seq value b, sends u Rk.hello step seq 0 0 0 value b ∧ b.length = 32))) ∧
    (∀ r, s.scf.recv = some r → ∀ x ∈ r.segs, x.durable = false → x.last + s.f F.SCF_REPL_nak_ms * State.tickMs ≤ s.beacon →
      ends .segIncompleteTimer (fun u => sent u Rk.segNak r.step r.seq x.no 1)) ∧
    (∀ (t : Tender) (v : Word), s.executes t → (s.t t).prv = true → s.f F.SCF_RST_STATUS_state ≠ 3 →
      let d := s.rstBytes (s.f F.SCF_RST_DESC_desc)
      let valid := rstValid d = true ∧ regionOf (s.f F.SCF_RST_DESC_desc) 0x260 = some .gallery
      let known := s.trs.active.map (·.gen) = some (rstArr d) ∨ s.trs.pending.map (·.gen) = some (rstArr d)
      (bitOf v.toNat 0 = true → bitOf v.toNat 1 = false → ends (.rstPlan t v) (fun u =>
        (¬ valid → u.f F.SCF_RST_STATUS_state = 5 ∧ u.f F.SCF_RST_STATUS_reason = 3) ∧
        (valid → ¬ known → u.f F.SCF_RST_STATUS_state = 5 ∧ u.f F.SCF_RST_STATUS_reason = 4) ∧
        (valid → known → u.scf.plan.map (·.desc) = some d))) ∧
      (bitOf v.toNat 0 = false → bitOf v.toNat 1 = true → s.scf.plan.isSome = true → ends (.rstCancel t v) (fun u =>
        u.scf.plan = none ∧ u.f F.SCF_RST_STATUS_state = 0))) ∧
    (∀ l, s.linkUp n = true → s.scf.load = some l → bitOf l.left n.val = true → l.items.any (fun it => bitOf it.dests n.val) = false →
      l.peerMan = none → ends (.shardLoadAck n) (fun u => (u.scf.load.map (·.left)).getD 0 = l.left - 2 ^ n.val ∧
        (l.left = 2 ^ n.val → l.restore = true → u.f F.SCF_RST_STATUS_state = 4 ∧ s.raises u Ev.scfRestoreDone 0 0))) ∧
    (∀ p i x, s.scf.plan = some p → p.srcs[i]? = some x → x.here = false → x.phase ≠ 3 → x.last + 10 * State.tickS ≤ s.beacon →
      ends .restoreAssocIdle (fun u => Out.assocClose (i + 1) ∈ u.out))

/-- The pair: live wire and health words, takeover and takeback, mirroring, detaching and resynchronising, splits, emergency-light mode. A
health word is sent with its six parts and received, the failing word once; a failing word, or silence with the live wire lost, establishes
the failure, silence with it toggling leaves a stale mirror; TAKEOVER takes control, as does a relief that has seen no peer since its strap
phase ended. A mirrored item is stored and acknowledged, a record once its place in the ring is free, and the acknowledgement releases the
held step; a late one raises MIRROR_LAG; a link down for the silence threshold detaches the follower; resync and a handover at the quiet
point, asked for or ordered, move mirroring and role. What is sent stands on the pair link, sent or waiting for its class's credit. The
later controller of a split yields. The entry to emergency-light mode closes sessions, clears the arming table, ends actions and stops
tenders. The payloads of PEER_LOST are the model's choice. (Completes: healthWordSend healthWord pairLiveEdge pairLiveLost healthSilence
takeover mirrorItem takeback mirrorAck mirrorLag followerDetach peerHealthy roleRequest parResync parYield splitResolve ledgerSnapshotPeriod
aloneWaitExpired pairLinkUp pairLinkDown emergencyEntry.) (14_pair_failover.md R284, 14_pair_failover.md R285, 14_pair_failover.md R286,
14_pair_failover.md R287, 14_pair_failover.md R288, 14_pair_failover.md R289, 14_pair_failover.md R290, 14_pair_failover.md R292,
14_pair_failover.md R293, 14_pair_failover.md R294, 14_pair_failover.md R295, 14_pair_failover.md R297) -/
def Obligations.PairRows : Prop :=
  ∀ (s : State), s.working → s.canonical →
    let ends := fun (c : Instr) (P : State → Prop) => ∃ u : State, exec c s = .next u.settle ∧ P u
    let p := s.par
    let up := s.fb F.PAR_STATUS_link_up
    let role := fun (u : State) (control : Bool) (state : Nat) => u.control = control ∧ u.f F.PAR_STATUS_state = state
    let aged := fun (k ticks : Nat) => decide (k + ticks ≤ s.beacon)
    (let word := fun (failing : Bool) => Out.pair "HEALTH" [s.beacon, ((p.lastT.map (·.2)).getD 0) % 2 ^ 32, s.beacon % 2 ^ 32, s.logNext - 1,
        s.healthByte failing, b2n (s.fb F.THM_STATUS_warn)];
      up = true → (p.failing = false ∨ s.control = false → ends (.healthWordSend false) (fun u =>
          u.par.sentT = (s.beacon :: p.sentT).take 2 ∧ u.paired (word s.failingNow))) ∧
        (p.failing = false → ends (.healthWordSend true) (fun u => u.par.failing = true ∧ u.paired (word true)))) ∧
    (up = true → ∀ t1 e2 e3 q state thermal, ends (.healthWord t1 e2 e3 q state thermal) (fun u =>
      u.par.lastHealth = some (state % 256, s.beacon) ∧ u.par.lastT = some (t1, s.beacon) ∧
      (s.following = true → bitOf state 3 = true → u.par.failedBy = some 1) ∧
      (s.control = true → s.following = false → s.f F.PAR_STATUS_state ≠ 0 → bitOf state 2 = true → u.par.split = true))) ∧
    ends .pairLiveEdge (fun u => u.peerLive = true ∧ u.par.liveEdge = some s.beacon ∧ u.par.liveLost = false) ∧
    (∀ k, p.liveEdge = some k → s.peerLive = true → aged k (5 * State.tickUs) = true → ends .pairLiveLost (fun u =>
      u.peerLive = false ∧ u.par.liveLost = true ∧
      (s.following = true → p.lastHealth.isSome = true → s.wordsArrive = false → u.par.failedBy = some 2) ∧
      (s.control = true → s.following = false → s.wordsArrive = false → s.fb F.PAR_STATUS_solo = false → u.fb F.PAR_STATUS_solo = true ∧ s.raises u Ev.peerLost 0 2))) ∧
    (∀ w k, p.lastHealth = some (w, k) → aged k s.silence = true → s.following = true →
      (p.liveLost = true → ends .healthSilence (fun u => u.par.failedBy = some 2)) ∧
      (p.liveLost = false → s.peerLive = true → s.fb F.PAR_STATUS_detached = false → ends .healthSilence (fun u =>
        u.fb F.PAR_STATUS_detached = true ∧ u.fb F.PAR_STATUS_in_sync = false ∧ s.raises u Ev.pairLinkDown 0 0))) ∧
    (∀ r, p.failedBy = some r → r ≠ 3 → s.following = true → ends .takeover (fun u => role u true 2 ∧ u.fb F.PAR_STATUS_solo = true ∧
      u.par.mirroring = false ∧ s.raises u Ev.peerLost 0 (BitVec.ofNat 64 r) ∧ ∃ q, s.raises u Ev.takeover 0 q)) ∧
    (s.following = true → up = true →
      (∀ m : MirrorMsg, m.kept = true → ends (.mirrorItem m) (fun u => u.paired (.pair "MIRROR_ACK" []))) ∧
      (∀ b, (p.recWait = [] → s.recordRoom b = true → ends (.mirrorItem (.record b)) (fun u => numAt b 0 8 ∈ u.log.held ∧ u.paired (.pair "MIRROR_ACK" []))) ∧
        (p.recWait ≠ [] ∨ s.recordRoom b = false → ends (.mirrorItem (.record b)) (fun u => u.par.recWait = p.recWait ++ [b] ∧ u.log = s.log))) ∧
      (∀ lost, ends (.mirrorItem (.buddy lost)) (fun u => u.scf.peerBuddyLost = lost)) ∧
      ends .takeback (fun u => role u true 2 ∧ u.par.mirroring = true ∧ s.raises u Ev.takeback 0 0)) ∧
    (∀ i r, p.queue = i :: r → ends .mirrorAck (fun u => (∃ l, u.par.queue = r ++ l) ∧ (i.held ≠ .nothing → i.held ∈ u.ready))) ∧
    (∀ i, p.queue.find? (fun i => !i.lagged) = some i → aged i.sentAt (s.f F.PAR_CFG_lag_us * State.tickUs) = true → ends .mirrorLag (fun u =>
      u.f F.PAR_LAG_lags = min (s.f F.PAR_LAG_lags + 1) (2 ^ 32 - 1) ∧ s.raises u Ev.mirrorLag 0 (BitVec.ofNat 64 i.row))) ∧
    (s.control = true →
      (∀ k, p.downSince = some k → p.mirroring = true → s.peerLive = true → aged k s.silence = true → ends .followerDetach (fun u =>
        u.fb F.PAR_STATUS_detached = true ∧ u.fb F.PAR_STATUS_solo = true ∧ u.par.mirroring = false ∧ u.par.queue = [] ∧
        ∀ i ∈ p.queue, i.held ≠ .nothing → i.held ∈ u.ready)) ∧
      (∀ k, s.clk.relief = true → p.healthyRaised = false → p.healthySince = some k → aged k (30 * State.tickS) = true → ends .peerHealthy (fun u =>
        u.par.healthyRaised = true ∧ s.raises u Ev.peerHealthy 0 0)) ∧
      (up = true →
        (s.quiet = true → p.mirroring = true → ends .roleRequest (fun u => role u false 1 ∧ u.paired (.pair "HANDOVER" []))) ∧
        (s.quiet = false ∨ p.mirroring = false → ends .roleRequest (fun u => u.paired (.pair "ROLE_REFUSED" []) ∧ u.regs = s.regs)) ∧
        (∀ (t : Tender) (v : Word), s.executes t → (s.t t).prv = true →
          (bitOf v.toNat 1 = true → ends (.parResync t v) (fun u => u.fb F.PAR_STATUS_in_sync = true ∧ u.fb F.PAR_STATUS_detached = false ∧
            u.par.mirroring = true ∧ u.paired (.snapshot .synced))) ∧
          (bitOf v.toNat 2 = true → bitOf v.toNat 1 = false → s.peerFollows = true → ends (.parYield t v) (fun u => u.par.yieldPending = true)))) ∧
      (∀ peerLast peerNext, p.split = true →
        let later := peerLast < s.f F.PAR_LAST_beacon ∨ (peerLast = s.f F.PAR_LAST_beacon ∧ s.clk.relief = true)
        (later → ends (.splitResolve peerLast peerNext) (fun u => role u false 1 ∧ u.par.split = false)) ∧
        (¬ later → ends (.splitResolve peerLast peerNext) (fun u => u.control = true ∧ u.par.split = false ∧
          u.logNext = if s.logNext ≤ peerNext then (peerNext + 1) % 2 ^ 64 else s.logNext))) ∧
      (p.mirroring = true → ends .ledgerSnapshotPeriod (fun u =>
        u.par.queue = p.queue ++ allSlots.map (fun n => (⟨10, s.ledgerMsg n, .nothing, s.beacon, false⟩ : MirrorItem)) ∧
        (up = true → ∀ n, u.paired (.mirror 10 (s.ledgerMsg n)))))) ∧
    (∀ k, p.strapEnd = some k → s.clk.relief = true → s.f F.PAR_STATUS_state = 0 → s.peerLive = false → p.peerSeen = false →
      aged k (s.f F.PAR_CFG_alone_ms * State.tickMs) = true → ends .aloneWaitExpired (fun u => role u true 2 ∧ ∃ q, s.raises u Ev.takeover 0 q)) ∧
    (∀ lanes, s.clk.refclk = true → s.unitStarted 12 = true → 1 ≤ lanes → lanes ≤ 4 → ends (.pairLinkUp lanes) (fun u =>
      u.fb F.PAR_STATUS_link_up = true ∧ u.f F.PAR_STATUS_lanes = lanes ∧ (up = false → s.raises u Ev.pairLinkUp 0 0))) ∧
    (up = true → ends .pairLinkDown (fun u => u.fb F.PAR_STATUS_link_up = false ∧ u.f F.PAR_STATUS_lanes = 0 ∧ s.raises u Ev.pairLinkDown 0 0)) ∧
    (p.emergDue ≠ 0 → ends .emergencyEntry (fun u => u.emergency = true ∧ role u (s.control && !s.peerFollows) 3 ∧
      u.fb F.KCP_STATUS_responder = true ∧ u.act.running = [] ∧ (∀ x, (u.ses x).isOpen = false) ∧ (∀ e : Fin 16, (u.evt.arms[e]).valid = false) ∧
      ∀ i, (u.t i).run = .inReset ∨ (u.t i).run = .halted))

/-- Frames of a session: in order, ahead, repeated; every command is numbered and held for the mirror; CLOSE ends the session. For every
command of R332: its frame, taken by the port for an open session that is served, counts as heard, its acknowledgement is taken and one of
its own is due; next in the sequence, it is accepted with the session's next command number and the keeper's next handle, and its execution
is held until the mirrored acceptance is acknowledged. A frame ahead of the next within 64 is kept, one beyond is dropped, one already taken
is counted. A CLOSE frame in order ends the session: its staging set is emptied and SESSION_CLOSE raised with reason 0. A keeper that has
asked for the role keeps the frame for the handover; a frame of another version draws REFUSE 0x05. (Completes: kcpAttest regRead regWrite
kcpPeg readMem kcpSubscribe kcpArm kcpRenew kcpDisarm kcpAct kcpLoad kcpUnbind bindJob kcpBuddy noticeSub kcpCustody kcpFloor kcpSeal
kcpRelease kcpDebug tenderReset macsecSa ownerCommand flashWrite kcpRestart kcpClose, the constructors whose frameOf is a frame.)
(16_host_port.md R321, 16_host_port.md R323, 16_host_port.md R324, 16_host_port.md R328, 16_host_port.md R329, 16_host_port.md R330,
16_host_port.md R332, 14_pair_failover.md R287, 14_pair_failover.md R293) -/
def Obligations.SessionFrames : Prop :=
  ∀ (s : State) (i : Instr) (x : Sess) (h : KcpHead) (c : KcpCmd), frameOf i = some (x, h, c) → s.canonical → s.clk.shutDown = false →
    let ends := fun (P : State → Prop) => ∃ u : State, exec i s = .next u.settle ∧ P u
    let m := s.ses x
    let s1 := (((s.headIn h).sessHeard x h).ackTake x h.ack).ackSoon x
    let seen := h.seq < m.rxNext ∨ ∃ f ∈ m.rxHeld, f.1 = h.seq
    (s.sessTakes h = true → s.kcpServes = true → m.isOpen = true →
      (seen → ends (fun u => u = s1.bump F.KCP_CNT_dup ∧ (u.ses x).ackDue.isSome = true ∧ (u.ses x).cmds = m.cmds ∧ (u.ses x).rxNext = m.rxNext)) ∧
      (m.rxNext + 64 < h.seq → ¬ seen → ends (fun u => u = s1)) ∧
      (m.rxNext < h.seq → h.seq ≤ m.rxNext + 64 → ¬ seen → (∀ f ∈ m.rxHeld, f.1 ≠ m.rxNext) →
        ends (fun u => u = s1.updSes x (fun u => { u with rxHeld := m.rxHeld ++ [(h.seq, c)] }))) ∧
      (h.seq = m.rxNext → m.rxHeld = [] →
        (c ≠ .close → ends (fun u => u.kcp.nextHandle = (s.kcp.nextHandle + 1) % 2 ^ 24 ∧ u.holds (.cmdExec x.val m.nextCmd) ∧
          u.ses x = { s1.ses x with rxNext := h.seq + 1, nextCmd := m.nextCmd + 1
                                    cmds := m.cmds ++ [⟨m.nextCmd, h.seq, s.kcp.nextHandle, c, .received, 0, [], false, none⟩] })) ∧
        (c = .close → ends (fun u => (u.ses x).isOpen = false ∧ u.sets[State.sessSet x] = [] ∧
          (s.emergency = false → s.raises u Ev.sessionClose (x.val + place m.priv 3 2) 0))))) ∧
    (s.sessTakes h = true → s.kcpHolds = true → ends (fun u => u.kcp.heldCmds = s.kcp.heldCmds ++ [(x, h, c)])) ∧
    (s.portUp = true → s.headTaken h = true → h.version ≠ 1 → (h.station = false ∨ s.emergency = true) → s.kcpServes = true →
      ends (fun u => ∃ p, Out.port p (s.plainOut h 3 0x05 []) ∈ u.out))

/-- What an accepted command does: privilege first, then its effect and its completion, or its announcement to the tender that answers it.
Once its acceptance is acknowledged, and with no command of a takeover still to be carried on before it, a command is handed on: a session
without the privilege completes it with DENIED; PEG COUNT and DISCARD answer the number of staged entries, DISCARD emptying the set; a
REG_READ or REG_WRITE of no or more than 64 registers is MALFORMED; DEBUG attaches; MACSEC_SA installs an association; BUDDY of another tray
sets SCF_BUDDY, its keepers being taken at the next image; ARM, RENEW and DISARM get a handle that is outstanding and are announced to
tender 23, whose policy completes an ARM beyond the masks or limits with REFUSED, with no free entry FULL, and a RENEW or DISARM whose token
names no entry with NOTARGET; READ_MEM waits for a DMA channel where none of its four is enabled; the responder's commands, unknown codes
and owner commands that no binding permits are UNKNOWN outside emergency-light mode. A completion is held for the mirror, with its handle no
longer outstanding. (16_host_port.md R332, 04_tender_isa_system.md R73, 04_tender_isa_system.md R83, 05_programs_and_arming.md R102,
01_tray_and_pod.md R8, 16_host_port.md R322, 16_host_port.md R326) -/
def Obligations.SessionCommands : Prop :=
  ∀ (s : State) (x : Sess) (n : Nat) (c : SessCmd), s.canonical → s.emergency = false → s.cmdOf x n = some c → c.phase = .received → (s.ses x).redo = [] →
    let u := s.heldRun (.cmdExec x.val n)
    let m := s.ses x
    let completesIn := fun (v : State) (st : Nat) (body : List Byte) => v.holds (.cmdReport x.val n) ∧ c.handle ∉ v.kcp.handles ∧
      ∃ y ∈ (v.ses x).cmds, y.num = n ∧ y.phase = .completed ∧ y.status = st ∧ y.body = body
    let completes := completesIn u
    let policy := fun (st : Nat) => u.cmdByHandle c.handle = some (x, { c with phase := .handed }) → completesIn (u.armPolicy c.handle) st []
    let told := fun (i : Tender) => c.handle ∈ u.kcp.handles ∧ ∃ f ∈ u.evt.inflight, f.target = i ∧ f.ev.event = Ev.kcpCommand ∧
      f.ev.payload = BitVec.ofNat 64 (c.handle + place (kcpCode c.cmd) 24 16)
    c.frame ≤ (u.ses x).rxAck ∧
    (bitOf (cmdPriv c.cmd) m.priv = false → completes St.denied []) ∧
    (bitOf (cmdPriv c.cmd) m.priv = true →
      match c.cmd with
      | .peg op =>
        (op = 1 → completes St.ok (leBytes (s.sets[State.sessSet x]).length 8) ∧ u.sets[State.sessSet x] = []) ∧
        (op = 2 → completes St.ok (leBytes (s.sets[State.sessSet x]).length 8) ∧ u.sets = s.sets) ∧ (2 < op → completes St.malformed [])
      | .regRead l => l = [] ∨ 64 < l.length → completes St.malformed []
      | .regWrite l => l = [] ∨ 64 < l.length → completes St.malformed []
      | .debug slot =>
        (16 ≤ slot → completes St.malformed []) ∧
        (slot < 16 → m.priv ≠ 3 ∨ bitOf m.slots slot = true → completes St.ok [] ∧ (u.ses x).attached = some (slot, n))
      | .macsecSa channel tx an key salt ssci =>
        if 4 ≤ channel ∨ 4 ≤ an ∨ key.length ≠ 32 ∨ salt.length ≠ 12 then completes St.malformed []
        else completes St.ok [] ∧ ⟨if tx then none else some channel, an, key, salt, ssci, 1⟩ ∈ u.kcp.sas
      | .buddy tray a b ia ib =>
        tray < 0xFFF → ia.length = 48 → ib.length = 48 → tray ≠ s.f F.GLB_TRAY_tray → ia ≠ s.identity → ib ≠ s.identity →
          completes St.ok [] ∧ u.f F.SCF_BUDDY_tray = tray ∧ u.fb F.SCF_BUDDY_valid = true ∧ u.kcp.buddyNext = some (a, b, ia, ib)
      | .arm cls slots ms =>
        if 6 ≤ cls ∨ 2 ^ 16 ≤ slots then completes St.malformed []
        else told 23 ∧ (s.armAllowed m.priv cls ms = false → policy St.refused) ∧
          (s.armAllowed m.priv cls ms = true → (∀ a ∈ s.evt.arms.toList, s.armLive a = true) → policy St.full)
      | .renew token ms => told 23 ∧
        (match s.tokenEntry token with
         | none => policy St.noTarget
         | some a => s.armAllowed m.priv a.cls ms = false → policy St.refused)
      | .disarm byToken key =>
        if byToken = false ∧ 6 ≤ key then completes St.malformed []
        else told 23 ∧ (byToken = true → s.tokenEntry key = none → policy St.noTarget)
      | .tenderReset mask => 2 ^ 24 ≤ mask → completes St.malformed []
      | .readMem addr len =>
        (0x400000000 < len ∨ len = 0 → completes St.malformed []) ∧
        (0 < len → len ≤ 0x400000000 → regionOf addr len = some .lpddr → (∀ k < 4, s.fb F.DMA_CH_CTL_en (23 + k) = false) →
          m.priv = 0 → u.kcp.reads = s.kcp.reads ++ [(x, n, addr, len)])
      | .owner code body =>
        (code < 0x8000 → completes St.unknown []) ∧
        (0x8000 ≤ code → ∀ b r, body = b :: r → s.cmdTender x c = none → completes St.unknown [])
      | .flashWrite _ _ _ => completes St.unknown []
      | .restart => completes St.unknown []
      | _ => True)

/-- Opening and timing sessions, acknowledgements, notices, the Ethernet port and its addresses, and the logbook's mirror, windows and
hours. A request is refused with its reason, counted and raised, or takes a free session that is held for the mirror; INFO is answered; an
association's signed ACCEPT gives its key, its REFUSE leaves its source out. Acknowledged frames leave the window; acknowledgements,
retransmissions and batched events leave at their times; a session that hears nothing ends. Subscribers join and leave; a notice is raised
once and repeated at its times. The port goes down, trains and is upgraded; its module's flags and monitors are read; its addresses are
answered and claimed. The mirror takes the oldest record or fails and is counted; the windows latch; a snapshot entry that cannot apply is
marked; hours and the seal end as due. The order of the refusals is the model's choice. (Completes: kcpOpen kcpInfo kcpAccept kcpRefuse
arpRequest gratuitousArpRepeat kcpAck kcpIdleAck ackDelay kcpRetransmit sessionIdle eventBatchExpired noticeSubscribe noticeSubscribed
noticeUnsubscribe podNoticeIn noticeRepeat ethDown ethUp macUpgrade modulePresenceChange moduleInt moduleMonitor logMirrorWrite logWinRead
logFwinRead logSnapWrite hourTick custodySealed.) (16_host_port.md R318, 16_host_port.md R320, 16_host_port.md R321, 16_host_port.md R326,
16_host_port.md R327, 16_host_port.md R328, 16_host_port.md R329, 16_host_port.md R333, 16_host_port.md R335, 15_logbook.md R306,
15_logbook.md R311, 15_logbook.md R313) -/
def Obligations.HostPortAndLogRows : Prop :=
  ∀ (s : State) (x : Sess), s.working → s.canonical →
    let ends := fun (c : Instr) (P : State → Prop) => ∃ u : State, exec c s = .next u.settle ∧ P u
    let m := s.ses x
    let counts := fun (u : State) (y : Fld) (top : Nat) => u.f y = min (s.f y + 1) top
    let sent := fun (u : State) (o : Out) => ∃ p, Out.port p o ∈ u.out
    (s.portUp = true →
      (∀ h : KcpHead, s.headTaken h = true → s.fb F.KCP_CTL_en = true →
        (∀ b r, h.station = false → s.openRefusal h.version b = some r → ends (.kcpOpen .host h b) (fun u => sent u (s.plainOut h 3 r []) ∧
          counts u F.KCP_CNT_refused 65535 ∧ s.raises u Ev.sessionRefused (r + place (numAt b 1 1) 8 5 + place (numAt b 0 1) 13 2) 0)) ∧
        (∀ b, h.station = false → s.openRefusal h.version b = none → ends (.kcpOpen .host h b) (fun u => ∃ y : Sess, (s.ses y).isOpen = false ∧
          (∀ z : Sess, z.val < y.val → (s.ses z).isOpen = true) ∧ (u.ses y).isOpen = true ∧ (u.ses y).priv = numAt b 0 1 ∧
          (u.ses y).key = numAt b 1 1 ∧ (u.ses y).via = h.via ∧ ∃ body, u.holds (.sessionAccept y.val body))) ∧
        (∀ b, h.station = true → ends (.kcpOpen .host h b) (fun u => counts u F.KCP_CNT_dropped 65535)) ∧
        (h.station = true ∨ s.control = true → ends (.kcpInfo h) (fun u =>
          if h.version = 1 then ∃ body, sent u (s.plainOut h 0xD 0 body) else sent u (s.plainOut h 3 0x05 [])))) ∧
      (∀ a b r, s.scf.assocs.find? (fun a => decide (a.no = 0 ∧ a.eph ≠ 0)) = some a → b.length = 304 → numAt b 0 1 = State.assocSession 0 →
        (P384.decode (State.openEph b)).isSome = true →
        verifyBytes (repSessionKey r) (a.body ++ b.take 0xD0) (cut b 0xD0 96) = true → reportGood r = true → s.buddyKnows r = true →
        ends (.kcpAccept 0 ⟨b, r⟩) (fun u => u.scf.buddyKey = some (repManifestKey r) ∧ u.scf.lastRx = s.beacon)) ∧
      (∀ h, ends (.kcpAck x h .badTag) (fun u => counts u F.KCP_CNT_badtag 65535 ∧ u.ses x = m)) ∧
      (∀ p j y reason, s.scf.plan = some p → p.srcs[j]? = some y → y.here = false → y.phase = 0 → ends (.kcpRefuse (j + 1) reason) (fun u =>
        (u.scf.plan.bind (fun q => q.srcs[j]?)).map (·.phase) = some 3)) ∧
      (∀ v6 addr asker mac a, s.macOf v6 addr = some a → ends (.arpRequest v6 addr asker mac) (fun u => sent u (.arp v6 addr a false) ∧
        (if v6 then 6 else 4, asker, mac) ∈ u.kcp.neighbours)) ∧
      (∀ k due, s.kcp.claims = (k + 1, due) → s.control = true → due ≤ s.beacon → ends .gratuitousArpRepeat (fun u =>
        u.kcp.claims = (k, due + State.tickMs) ∧
        (s.fb F.KCP_PORT_ip4_en = true → sent u (.arp false (s.f F.KCP_IP4_svc4) (s.f F.MAC_SVC_addr) true)))) ∧
      (s.kcpServes = true → m.isOpen = true →
        (∀ h, s.sessTakes h = true → ends (.kcpAck x h .none) (fun u => (u.ses x).lastRx = s.beacon ∧
          ∀ f ∈ (u.ses x).unacked, (f ∈ m.unacked ∧ h.ack < f.seq) ∨ m.txNext ≤ f.seq)) ∧
        (m.lastTx + State.tickS ≤ s.beacon → ends (.kcpIdleAck x) (fun u => (u.ses x).lastTx = s.beacon ∧
          (s.viaOpen m.via = true → u.out = s.onPort (s.sessOut x 9 0 0 m.rxAck 0 0 []) :: s.out))) ∧
        (∀ k, m.ackDue = some k → k ≤ s.beacon → ends (.ackDelay x) (fun u => (u.ses x).ackDue = none ∧
          (s.viaOpen m.via = true → u.out = s.onPort (s.sessOut x 9 0 0 m.rxAck 0 0 []) :: s.out))) ∧
        (∀ q f, m.unacked.find? (fun f => decide (f.seq = q)) = some f → f.sentAt + f.interval * State.tickMs ≤ s.beacon →
          ends (.kcpRetransmit x q) (fun u => (s.viaOpen m.via = true → u.out = s.onPort (s.sessOut x f.cls 1 f.seq m.rxAck f.ref f.code f.body) :: s.out) ∧
            ∀ g ∈ (u.ses x).unacked, g.seq = q → g.sentAt = s.beacon ∧ g.interval ≤ 128)) ∧
        (m.lastRx + s.f F.KCP_CTL_idle_s * State.tickS ≤ s.beacon → ends (.sessionIdle x) (fun u => (u.ses x).isOpen = false ∧
          s.raises u Ev.sessionClose (x.val + place m.priv 3 2) 2)) ∧
        (∀ k v q, m.batchDue = some k → k ≤ s.beacon → m.sub = some v → m.unacked.length < 64 → m.waiting = [] → 0 < s.recMax →
          (s.recsFrom v.next).filter (fun q => State.recMatches v (s.recordBytes q)) = [q] → ends (.eventBatchExpired x) (fun u =>
            (s.viaOpen m.via = true → sent u (s.sessOut x 7 0 m.txNext m.rxAck q 1 (s.recordBytes q))) ∧ (u.ses x).batchDue = none)))) ∧
    (∀ h : KcpHead, s.noticeTakes h = true →
      (∀ addr b, State.noticeReport b = none → ends (.noticeSubscribe ⟨h, addr⟩ b) (fun u => counts u F.KCP_CNT_dropped 65535)) ∧
      (∀ addr b r, State.noticeReport b = some r → s.kcp.subscribers.length < 64 → ends (.noticeSubscribe ⟨h, addr⟩ b) (fun u =>
        ⟨addr, repIdentity r, repSessionKey r, []⟩ ∈ u.kcp.subscribers)) ∧
      (∀ addr b r p, s.kcp.subPending.find? (fun p => decide (p.1 = addr)) = some p → State.noticeReport b = some r → repIdentity r = p.2.1 →
        ends (.noticeSubscribed ⟨h, addr⟩ b) (fun u => ⟨addr, p.2.1, repSessionKey r, []⟩ ∈ u.kcp.subscribed ∧ p ∉ u.kcp.subPending)) ∧
      (∀ b p, s.kcp.subscribers.find? (fun p => decide (p.identity = cut b 0x20 48)) = some p → State.noticeSigned p.key b = true →
        ends (.noticeUnsubscribe ⟨h, b⟩) (fun u => p ∉ u.kcp.subscribers)) ∧
      (∀ b p, s.kcp.subscribed.find? (fun p => decide (p.identity = cut b 0x20 48)) = some p → State.noticeSigned p.key b = true →
        3 ≤ numAt b 0 1 → numAt b 0 1 ≤ 5 → numAt b 4 4 ∉ p.seen → ends (.podNoticeIn ⟨h, b⟩) (fun u => s.raises u Ev.podNoticeIn 0
          (BitVec.ofNat 64 (numAt b 0 1 + place (numAt b 2 2) 8 12 + place (numAt b 1 1) 20 4 + place (numAt b 4 4) 32 32))))) ∧
    (∀ r ∈ s.kcp.repeats, r.due ≤ s.beacon → ends .noticeRepeat (fun u => s.portUp = true →
      ∀ p ∈ s.kcp.subscribers, (s.nextHop p.addr).isSome = true → sent u (s.noticeFrame p.addr r.body))) ∧
    (∀ lost, s.portUp = true → (groupOf (s.f F.MAC_STATUS_mode) (s.f F.MAC_STATUS_lanes)).land lost ≠ 0 → ends (.ethDown lost) (fun u =>
      u.portUp = false ∧ s.raises u Ev.ethDown 0 0)) ∧
    (∀ good mode lanes, s.ethTrains = true → s.portUp = false →
      pickMode (max (s.f F.MAC_CTL_max_mode) (s.kcp.ethCap.getD 0)) good = some (mode, lanes) → ends (.ethUp good) (fun u =>
        u.f F.MAC_STATUS_mode = mode ∧ u.f F.MAC_STATUS_lanes = lanes ∧ s.raises u Ev.ethUp 0 (BitVec.ofNat 64 mode))) ∧
    (∀ (t : Tender) (v : Word), s.executes t → (s.t t).prv = true → bitOf v.toNat 3 = true → ends (.macUpgrade t v) (fun u =>
      u.portUp = false ∧ u.kcp.ethCap = none)) ∧
    (∀ present, ends (.modulePresenceChange present) (fun u => u.fb F.MAC_STATUS_module = present ∧ (present = false → u.portUp = false))) ∧
    (s.fb F.MAC_STATUS_module = true → s.fb F.MAC_CTL_cmis_en = true →
      ends (.moduleInt true) (fun u => u.fb F.MAC_STATUS_intl = true ∧ u.out = .i2c "module flags" 0x50 :: s.out) ∧
      (s.kcp.monitorAt.all (fun k => decide (k + State.tickS ≤ s.beacon)) = true → ends .moduleMonitor (fun u =>
        u.kcp.monitorAt = some s.beacon ∧ u.out = .i2c "module monitors" 0x50 :: s.out)) ∧
      (∀ k, s.kcp.monitorAt = some k → s.beacon < k + State.tickS → exec .moduleMonitor s = .next s)) ∧
    (∀ q r, s.log.unmirrored = q :: r → s.fb F.LOG_CTL_mirror_en = true → s.fb F.DMA_CH_CTL_en 22 = true → isLpddr (s.mirrorAddr q) = true → s.loadState (s.mirrorAddr q) 128 = .ok →
      ends (.logMirrorWrite false) (fun u => s.raises u Ev.logMirrorErr 0 0 ∧ ∃ l, u.log.unmirrored = s.log.unmirrored ++ l) ∧
      (s.mirrorFull = false → ends (.logMirrorWrite true) (fun u => u.f F.LOG_MIRRORED_mirrored = q % 2 ^ 64 ∧ ∃ l, u.log.unmirrored = r ++ l))) ∧
    (∀ (t : Tender) (rd : Fin 32), s.executes t → (s.t t).prv = true → rd ≠ 0 →
      let rdr : Fin 32 := Fin.ofNat 32 (t.val + 8)
      let q := s.log.held.find? (fun q => decide ((s.log.readers[rdr]).cursor ≤ q ∧ s.f F.LOG_FLOOR_floor ≤ q))
      ends (.logWinRead t rd) (fun u => (u.log.readers[rdr]).latch = q.map s.recordBytes ∧
        u.g t rd = ((q.map (fun q => State.wordAt (s.recordBytes q) 0)).getD 0)) ∧
      ends (.logFwinRead t rd) (fun u => (u.log.readers[rdr]).latch = q.map s.recordBytes ∧
        u.g t rd = ((q.map (fun q => s.fwinWord (s.recordBytes q) 0)).getD 0))) ∧
    (∀ (t : Tender) (e : Fin 32) (v : Word), s.executes t → (s.t t).prv = true → ends (.logSnapWrite t e v) (fun u =>
      let pos := bits v.toNat 10 4
      u.f F.LOG_SNAP_event e.val = bits v.toNat 0 10 ∧ u.f F.LOG_SNAP_pos e.val = pos ∧
      u.fb F.LOG_SNAP_ignored e.val =
        (bitOf v.toNat 14 && decide (pos < 2 ∨ 12 ≤ pos ∨ (0x3C0 ≤ bits v.toNat 0 10 ∧ bits v.toNat 0 10 < 0x3C4))))) ∧
    (s.log.hourDue ≤ s.beacon → ends .hourTick (fun u => u.log.hourDue = s.log.hourDue + hourTicks ∧
      u.sec.flash.writing.length = s.sec.flash.writing.length + 1)) ∧
    (∀ g, s.log.sealing = some g → s.alive 20 = true → ends .custodySealed (fun u => u.log.sealing = none ∧ u.fb F.LOG_STATUS_sealing = false ∧
      s.raises u Ev.custodySealed 0 0))

/-- Channels and scrub, the ends and paces of DMA, stores to registers, resets of tenders, blocks and the keeper, temperatures, pins,
clocks. A channel that loses lock relocks and is counted, or leaves service with MEM_CHANNEL_LOST; a redirection takes force; scrub counts
or poisons; training brings channels up. A good transfer ends with status 0; a due pace starts its descriptor; mode SERVICE drops the paced
ones, mode TEST is not a tender's. A store to a register acts as the store of its block; TND_RESET restarts tenders at their entries;
GLB_BLKRST returns a block's registers, the tender entries at the orders' entry again; the floors are raised and cleared; the warm reset,
ordered or by pin, holds the keeper with its memory but the gallery kept. Sensors show their samples, a trip is raised and the shutdown
follows. Power falls and rises, the tenders are released, the reference goes and returns, a flash write is applied, the internal reset is
released: at once with the beacon at zero at a power-on, at a PCLK edge with the beacon kept at a warm reset. (Completes:
internalResetRelease phyLockLoss phyRelock relockTimeout redirectionReady patrolScrub lpddrTrainingDone dmaDone dmaPacedStart thmSample
thermalShutdown tendersReleased refclkLoss refclkReturn registerWrite dmaModeWrite tndReset glbBlkrst glbReset secFloorRaise secFloorClear
pwrokFall warmResetPin bootFlashWriteDone warmResetRelease pwrokRise.) (17_memory_and_dma.md R341, 17_memory_and_dma.md R343,
17_memory_and_dma.md R344, 17_memory_and_dma.md R346, 17_memory_and_dma.md R347, 17_memory_and_dma.md R355, 17_memory_and_dma.md R356,
18_register_map.md R363, 18_register_map.md R367, 19_pins_power_clocks.md R384, 19_pins_power_clocks.md R385, 19_pins_power_clocks.md R388)
-/
def Obligations.MemoryResetAndThermalRows : Prop :=
  ∀ (s : State), s.canonical →
    let ends := fun (c : Instr) (P : State → Prop) => ∃ u : State, exec c s = .next u.settle ∧ P u
    let counts := fun (u : State) (y : Fld) (i : Nat) => u.f y i = min (s.f y i + 1) (2 ^ y.len - 1)
    let warm := fun (u : State) (cause : Nat) => u.clk.held = true ∧ u.beacon = s.beacon ∧ u.f F.GLB_CAUSE_cause = cause ∧
      u.f F.GLB_CAUSE_warm_count = min 255 (s.f F.GLB_CAUSE_warm_count + 1) ∧
      u.mem = s.mem.filter (fun c => decide (¬ (0x10000000 ≤ c.1 ∧ c.1 < 0x12000000))) ∧ ∀ i, (u.t i).run = .inReset
    (s.working →
      (∀ c : Fin 64,
        (bitOf (s.f F.MEM_CH_UP_up) c.val = true → (∀ x ∈ s.mc.relock, x.1 ≠ c.val) → ends (.phyLockLoss c) (fun u =>
          u = { s with mc := { s.mc with relock := s.mc.relock ++ [(c.val, s.beacon)] } })) ∧
        (∀ k b, s.mc.relock.find? (fun x => decide (x.1 = c.val)) = some (k, b) →
          (s.clk.refclk = true → s.beacon ≤ b + 10 * State.tickMs → ends (.phyRelock c) (fun u => (∀ x ∈ u.mc.relock, x.1 ≠ c.val) ∧
            counts u F.MEM_CH_CNT_retrain c.val)) ∧
          (b + 10 * State.tickMs ≤ s.beacon → s.mc.lost ≠ some c.val → c.val ∉ s.mc.second → ends (.relockTimeout c) (fun u =>
            bitOf (u.f F.MEM_CH_UP_up) c.val = false ∧ (s.mc.lost = none → u.mc.lost = some c.val) ∧
            s.raises u Ev.memChannelLost c.val 0)))) ∧
      (∀ c, s.mc.lost = some c → s.mc.redirected = false → ends .redirectionReady (fun u => u.mc.redirected = true ∧
        u.f F.MEM_STATUS_redirecting = 0)) ∧
      (∀ a, s.fb F.MEM_CTL_scrub_en = true → isLpddr a = true → s.lpState a = .ok →
        ends (.patrolScrub a .clean) (fun u => u = s) ∧
        ends (.patrolScrub a .corrected) (fun u => counts u F.MEM_CH_CNT_ce (lpChannel a) ∧ u.mem = s.mem) ∧
        ends (.patrolScrub a .uncorrectable) (fun u => s.raises u Ev.memUe 0 0 ∧
          (s.mc.ueTimes.length + 1 < s.f F.MEM_CTL_ue_limit → a / 64 ∈ u.poison ∧ counts u F.MEM_CH_CNT_ue (lpChannel a)))) ∧
      (∀ (g : Fin 8) (failed : Nat), s.unitStarted g.val = true → bits (s.f F.MEM_CH_UP_up) (8 * g.val) 8 = 0 →
        ends (.lpddrTrainingDone g failed) (fun u => ∀ k < 8, bitOf (u.f F.MEM_CH_UP_up) (8 * g.val + k) = !bitOf failed k)) ∧
      (∀ (c : Fin 32) (d : DmaDesc),
        ((s.dch c).running = some d → s.fb F.DMA_CH_CTL_en c.val = true → s.dmaHeld d = false → d.srcPort = false → d.dstPort = false →
          (∀ i < d.count, s.dmaMeets d i = none) → ∀ ce pauses, ends (.dmaDone c ⟨none, none, ce, pauses⟩ none) (fun u => u.f F.DMA_CH_STAT_status c.val = 0 ∧
              s.raises u (Ev.dmaDone + c.val) 0 (BitVec.ofNat 64 (place d.seq 0 48))) ∧
            ∀ k < d.count, (s.dch c).pos ≤ k → d.fill = false → ends (.dmaDone c ⟨none, some k, ce, pauses⟩ none) (fun u => u.f F.DMA_CH_STAT_status c.val = 2 ∧
              s.raises u (Ev.dmaDone + c.val) 0 (BitVec.ofNat 64 (place d.seq 0 48 + place 2 48 8)))) ∧
        (∀ r k, (s.dch c).queue = d :: r → (s.dch c).headSince = some k → (s.dch c).running = none → d.paced = true → d.paceKind = 0 →
          s.fb F.DMA_CH_CTL_en c.val = true → (k / (d.pacePeriod * State.tickUs) + 1) * (d.pacePeriod * State.tickUs) ≤ s.beacon →
          (s.mc.lost = none ∨ s.mc.redirected = true) → ends (.dmaPacedStart c) (fun u => (u.dch c).running = some d ∧ (u.dch c).queue = r))) ∧
      (∀ temps : Vector (BitVec 8) 24, s.clk.pwrok = true → ends (.thmSample temps) (fun u =>
        (∀ k : Fin 24, u.f F.THM_SENSOR_temp k.val = (temps[k]).toNat) ∧
        (∀ k : Fin 24, s.fb F.THM_STATUS_tripped = false → (s.f F.THM_CTL_trip_c : Int) ≤ (temps[k]).toInt →
          u.fb F.THM_STATUS_tripped = true ∧ u.clk.tripAt = some (s.beacon + 20 * State.tickUs) ∧ s.raises u Ev.thmTrip 0 0))) ∧
      (∀ b, s.clk.tripAt = some b → s.clk.pwrok = true → b ≤ s.beacon → ends .thermalShutdown (fun u => u.clk.shutDown = true ∧
        (∀ i, (u.t i).run = .inReset) ∧ Out.pin "THERM_TRIP_L" false ∈ u.out)) ∧
      (s.prog.orders = none → s.par.emergDue = 0 →
        ends (.tendersReleased false) (fun u => u = (s.updPar (fun p => { p with emergDue := 1 })).failWord) ∧
        ends (.tendersReleased true) (fun u => u.fb F.SEC_STATUS_puf_ok = true ∧ u.sec.owner = s.sec.flash.owner ∧
          (u.prog.orders = none → u.par.emergDue = 1) ∧ (u.prog.orders.isSome = true → ∀ i, (u.t i).run = .running))) ∧
      (s.clk.pwrok = true → s.clk.refclk = true → ends .refclkLoss (fun u => u.clk.refclk = false ∧ u.fb F.PAR_STATUS_link_up = false)) ∧
      (s.clk.pwrok = true → s.clk.refclk = false → ends .refclkReturn (fun u => u.clk.refclk = true)) ∧
      (∀ (t : Tender) (v : Word), s.executes t → (s.t t).prv = true →
        (∀ off l, lowestTrap (s.memChecks t .store (State.regEa off) 8) = none → State.eaReg (State.regEa off) = some l → off % 8 = 0 →
          s.storeStop (.tender t true) l 0 64 v = none →
          exec (.registerWrite t off v true) s = .next (((s.retire t).regStore (.tender t true) l 0 64 v).settle)) ∧
        (bits v.toNat 0 2 = 0 → s.f F.DMA_CTL_mode ≠ 0 → ends (.dmaModeWrite t v) (fun u => u.f F.DMA_CTL_mode = 0 ∧
          ∀ c, ∀ d ∈ (u.dch c).queue, d.paced = false)) ∧
        (bits v.toNat 0 2 = 2 → ends (.dmaModeWrite t v) (fun u => u.f F.DMA_CTL_mode = s.f F.DMA_CTL_mode)) ∧
        (∀ i, i ≠ t → bitOf v.toNat i.val = true → (s.t i).run ≠ .inReset → ends (.tndReset t v) (fun u => (u.t i).run = .running ∧
          (u.t i).pc = BitVec.ofNat 48 (s.f F.TND_TENDER_ENTRY_entry i.val) ∧ (u.t i).queue = (s.t i).queue ∧
          s.raises u (Ev.tenderReset + i.val) i.val (BitVec.ofNat 64 (s.f F.TND_TENDER_ENTRY_entry i.val)))) ∧
        (bits v.toNat 16 16 = 0x4252 →
          let b := bits v.toNat 0 6
          b ∉ [0, 1, 0xE, 0x14] → (b < 0x16 ∨ 0x20 ≤ b) → b ≤ 0x2F → ends (.glbBlkrst t v) (fun u =>
            (b ≠ 0xF → b ≠ 2 ∨ s.prog.orders = none → ∀ y ∈ u.regs, y.1 / 0x10000 ≠ b) ∧
            (b = 0xF → u.f F.LOG_HOURS_pcc = s.flashHour.1 % 2 ^ 32 ∧ u.f F.LOG_HOURS_base = s.flashHour.2 % 2 ^ 32) ∧
            (∀ o, s.prog.orders = some o → b = 2 → ∀ i : Tender, u.f F.TND_TENDER_ENTRY_entry i.val = o.entry / 4 * 4 % 2 ^ 18) ∧
            ∀ k : Fin 64, ∀ y ∈ u.sets[k], y.off / 0x10000 ≠ b)) ∧
        (bits v.toNat 0 16 = 0x5753 →
          (s.sec.flash.writing = [] → ends (.glbReset t v) (fun u => warm u 2)) ∧
          (s.sec.flash.writing ≠ [] → ends (.glbReset t v) (fun u => u.sec.warmWait = some (s.beacon + 200 * State.tickMs)))) ∧
        (let e : Fin 32 := Fin.ofNat 32 (s.f F.SEC_FLOOR_SEL_entry)
         let old := s.sec.floor.entries[e]
         (∀ pid ep, bitOf v.toNat 0 = true → bitOf v.toNat 1 = false → s.epochInForce e = some (pid, ep) → ends (.secFloorRaise t v) (fun u =>
            u.sec.floor.entries[e] = some (pid, max ((old.map (·.2)).getD 0) ep) ∧ u.sec.floor.count = s.sec.floor.count + 1)) ∧
         (bitOf v.toNat 0 = false → bitOf v.toNat 1 = true → e ≠ 0 → old.isSome = true → s.epochInForce e = none →
            ends (.secFloorClear t v) (fun u => u.sec.floor.entries[e] = none ∧ u.sec.floor.count = s.sec.floor.count + 1))))) ∧
    (s.clk.pwrok = true → s.ready = [] →
      ends .pwrokFall (fun u => u.clk.pwrok = false ∧ u.mem = State.reset.mem ∧ u.regs = State.reset.regs ∧
        u.sec.flash = { s.sec.flash with writing := [] }) ∧
      (s.clk.warmHigh = true → ends .warmResetPin (fun u => warm u 1 ∧ u.clk.warmHigh = false ∧ u.sec.flash.writing = [])) ∧
      (∀ w r, s.sec.flash.writing = w :: r → s.sec.warmWait = none → ends .bootFlashWriteDone (fun u =>
        u.sec.flash = { State.flashApply s.sec.flash w with writing := r }))) ∧
    (s.ready = [] → ends .warmResetRelease (fun u =>
      u = if s.clk.warmHigh then s else { s with clk := { s.clk with warmHigh := true, riseAt := some s.beacon } })) ∧
    (∀ relief testMode, s.ready = [] → s.clk.pwrok = false → ends (.pwrokRise ⟨relief, testMode⟩) (fun u =>
      u.clk = { s.clk with pwrok := true, held := true, testMode := testMode, relief := relief } ∧ u.fb F.GLB_STATUS_strap = relief ∧ u.f F.GLB_CAUSE_cause = 0)) ∧
    (s.ready = [] → s.clk.held = true → s.clk.pwrok = true → s.clk.warmHigh = true → s.clk.testMode = false →
      let cause := s.f F.GLB_CAUSE_cause
      (cause = 0 → ends .internalResetRelease (fun u => u.clk.held = false ∧ u.beacon = 0 ∧ u.mor.released = some 0)) ∧
      (cause ≠ 0 → (cause = 1 → ∀ t, s.clk.riseAt = some t → t + 50 * State.tickUs ≤ s.beacon) →
        (s.beacon % 8 = 0 → ends .internalResetRelease (fun u => u.clk.held = false ∧ u.beacon = s.beacon ∧ u.mor.released = some s.beacon)) ∧
        (s.beacon % 8 ≠ 0 → ends .internalResetRelease (fun u => u = { s with clk := { s.clk with releasing := true } }))))
end

