-- ==== Sys2Proof/Laws/Sparse.lean ====
section
/-! SUPPORT. The sparse lists that hold memory and the registers: a value written is read back, every other key keeps its value,
and the canonical form is kept. -/

namespace Sys2Proof.Machine

variable {α : Type} [DecidableEq α]

/-- Every key of a sparse list is above a bound. -/
def spAbove (b : Nat) (m : List (Nat × α)) : Prop := ∀ x ∈ m, b < x.1

theorem spWf_cons {d : Nat → α} {a : Nat} {v : α} {m : List (Nat × α)} :
    spWf d ((a, v) :: m) = true ↔ v ≠ d a ∧ spAbove a m ∧ spWf d m = true := by
  induction m generalizing a v with
  | nil => simp [spWf, spAbove]
  | cons x m ih =>
    obtain ⟨b, w⟩ := x
    simp only [spWf, Bool.and_eq_true, decide_eq_true_eq]
    constructor
    · rintro ⟨⟨h1, h2⟩, h3⟩
      refine ⟨h1, ?_, h3⟩
      intro y hy
      rcases List.mem_cons.1 hy with rfl | hy
      · exact h2
      · exact Nat.lt_trans h2 ((ih.1 h3).2.1 y hy)
    · rintro ⟨h1, h2, h3⟩
      exact ⟨⟨h1, h2 (b, w) (List.mem_cons_self ..)⟩, h3⟩

omit [DecidableEq α] in
theorem spGet_of_above {d : α} {m : List (Nat × α)} {b k : Nat} (h : spAbove b m) (hk : k ≤ b) : spGet d m k = d := by
  cases m with
  | nil => rfl
  | cons x m =>
    obtain ⟨a, v⟩ := x
    have : b < a := h (a, v) (List.mem_cons_self ..)
    simp [spGet, Nat.lt_of_le_of_lt hk this]

theorem spPut_above {d : α} {m : List (Nat × α)} {b k : Nat} {v : α} (h : spAbove b m) (hk : b < k) :
    spAbove b (spPut d m k v) := by
  induction m with
  | nil => intro x hx; simp only [spPut] at hx; split at hx <;> simp_all
  | cons y m ih =>
    obtain ⟨a, w⟩ := y
    have ha : b < a := h (a, w) (List.mem_cons_self ..)
    have hm : spAbove b m := fun x hx => h x (List.mem_cons_of_mem _ hx)
    intro x hx
    simp only [spPut] at hx
    split at hx
    · split at hx
      · exact h x hx
      · rcases List.mem_cons.1 hx with rfl | hx
        · exact hk
        · exact h x hx
    · split at hx
      · split at hx
        · exact hm x hx
        · rcases List.mem_cons.1 hx with rfl | hx
          · exact hk
          · exact hm x hx
      · rcases List.mem_cons.1 hx with rfl | hx
        · exact ha
        · exact ih hm x hx

/-- A write keeps the canonical form. -/
theorem spPut_wf {d : Nat → α} {m : List (Nat × α)} {k : Nat} {v : α} (h : spWf d m = true) : spWf d (spPut (d k) m k v) = true := by
  induction m with
  | nil => by_cases hv : v = d k <;> simp [spPut, spWf, hv]
  | cons x m ih =>
    obtain ⟨a, w⟩ := x
    obtain ⟨h1, h2, h3⟩ := spWf_cons.1 h
    simp only [spPut]
    split
    · next hk =>
      split
      · exact h
      · next hv =>
        refine spWf_cons.2 ⟨hv, ?_, h⟩
        intro y hy
        rcases List.mem_cons.1 hy with rfl | hy
        · exact hk
        · exact Nat.lt_trans hk (h2 y hy)
    · split
      · next hk =>
        subst hk
        split
        · exact h3
        · next hv => exact spWf_cons.2 ⟨hv, h2, h3⟩
      · exact spWf_cons.2 ⟨h1, spPut_above h2 (by omega), ih h3⟩

/-- What was written is read back. -/
theorem spGet_spPut_same {d : Nat → α} {m : List (Nat × α)} {k : Nat} {v : α} (h : spWf d m = true) :
    spGet (d k) (spPut (d k) m k v) k = v := by
  induction m with
  | nil => by_cases hv : v = d k <;> simp [spPut, spGet, hv]
  | cons x m ih =>
    obtain ⟨a, w⟩ := x
    obtain ⟨h1, h2, h3⟩ := spWf_cons.1 h
    simp only [spPut]
    split
    · next hk => by_cases hv : v = d k <;> simp [spGet, hv, hk]
    · split
      · next hk =>
        subst hk
        by_cases hv : v = d k
        · simp [hv, spGet_of_above h2 (Nat.le_refl k)]
        · simp [spGet, hv]
      · next hlt hne => simp only [spGet, hlt, hne, if_false]; exact ih h3

/-- Every other key keeps its value. -/
theorem spGet_spPut_other {d : Nat → α} {m : List (Nat × α)} {j k : Nat} {v : α} (h : spWf d m = true) (hj : j ≠ k) :
    spGet (d j) (spPut (d k) m k v) j = spGet (d j) m j := by
  induction m with
  | nil =>
    by_cases hv : v = d k
    · simp [spPut, hv]
    · simp [spPut, spGet, hv, hj]
  | cons x m ih =>
    obtain ⟨a, w⟩ := x
    obtain ⟨h1, h2, h3⟩ := spWf_cons.1 h
    simp only [spPut]
    split
    · next hk =>
      by_cases hv : v = d k
      · simp [hv]
      · by_cases hlt : j < k
        · simp [spGet, hv, hlt, Nat.lt_trans hlt hk]
        · simp [spGet, hv, hlt, hj]
    · split
      · next hk =>
        subst hk
        by_cases hlt : j < k
        · have : spGet (d j) m j = d j := spGet_of_above h2 (Nat.le_of_lt hlt)
          by_cases hv : v = d k <;> simp [spGet, hv, hlt, this]
        · by_cases hv : v = d k <;> simp [spGet, hv, hlt, hj]
      · simp only [spGet, ih h3]

end Sys2Proof.Machine
end

