-- ==== Sys2Proof/Laws/Fields.lean ====
section
/-! SUPPORT. Registers and their fields: what a write of a register or of a field does, and what it leaves. -/

namespace Sys2Proof.Machine

theorem testBit_bits (x lo len i : Nat) : (bits x lo len).testBit i = (decide (i < len) && x.testBit (lo + i)) := by
  simp [bits, Nat.testBit_mod_two_pow, Nat.testBit_shiftRight]

theorem bits_lt (x lo len : Nat) : bits x lo len < 2 ^ len := Nat.mod_lt _ (Nat.two_pow_pos len)

theorem testBit_place (v lo len i : Nat) :
    (place v lo len).testBit i = (decide (lo ≤ i) && (decide (i - lo < len) && v.testBit (i - lo))) := by
  simp [place, Nat.testBit_shiftLeft, Nat.testBit_mod_two_pow]

theorem place_lt (v lo len : Nat) (h : lo + len ≤ 64) : place v lo len < 2 ^ 64 := by
  have h1 : v % 2 ^ len < 2 ^ len := Nat.mod_lt _ (Nat.two_pow_pos len)
  calc place v lo len = v % 2 ^ len * 2 ^ lo := by simp [place, Nat.shiftLeft_eq]
    _ < 2 ^ len * 2 ^ lo := Nat.mul_lt_mul_of_pos_right h1 (Nat.two_pow_pos lo)
    _ = 2 ^ (lo + len) := by rw [← Nat.pow_add, Nat.add_comm]
    _ ≤ 2 ^ 64 := Nat.pow_le_pow_right (by decide) h

theorem testBit_putField (w : Word) (lo len v i : Nat) (h : lo + len ≤ 64) :
    (putField w lo len v).toNat.testBit i =
      if lo ≤ i ∧ i < lo + len then v.testBit (i - lo) else w.toNat.testBit i := by
  by_cases hi : i < 64
  · rw [BitVec.testBit_toNat, BitVec.testBit_toNat]
    simp only [putField, BitVec.getLsbD_or, BitVec.getLsbD_and, BitVec.getLsbD_not, BitVec.getLsbD_ofNat, hi, decide_true, Bool.true_and,
      testBit_place, Nat.testBit_two_pow_sub_one]
    by_cases h1 : lo ≤ i <;> by_cases h2 : i < lo + len
    · have : i - lo < len := by omega
      simp [h1, h2, this]
    · have : ¬ i - lo < len := by omega
      simp [h2, this]
    · simp [h1]
    · simp [h1]
  · have h64 : ∀ x : Word, x.toNat.testBit i = false := fun x =>
      Nat.testBit_lt_two_pow (Nat.lt_of_lt_of_le x.isLt (Nat.pow_le_pow_right (by decide) (by omega)))
    have : ¬ (lo ≤ i ∧ i < lo + len) := by omega
    simp [h64, this]

/-- A field written reads back, truncated to its width. -/
theorem bits_putField_same (w : Word) (lo len v : Nat) (h : lo + len ≤ 64) : bits (putField w lo len v).toNat lo len = v % 2 ^ len := by
  apply Nat.eq_of_testBit_eq
  intro i
  rw [testBit_bits, testBit_putField _ _ _ _ _ h, Nat.testBit_mod_two_pow]
  by_cases hi : i < len <;> simp [hi]

/-- A field beside the one written keeps its value. -/
theorem bits_putField_other (w : Word) (lo len v lo' len' : Nat) (h : lo + len ≤ 64) (hd : lo' + len' ≤ lo ∨ lo + len ≤ lo') :
    bits (putField w lo len v).toNat lo' len' = bits w.toNat lo' len' := by
  apply Nat.eq_of_testBit_eq
  intro i
  rw [testBit_bits, testBit_bits, testBit_putField _ _ _ _ _ h]
  by_cases hi : i < len'
  · have : ¬ (lo ≤ lo' + i ∧ lo' + i < lo + len) := by omega
    simp [this]
  · simp [hi]

namespace State

/-! ### Registers -/

theorem reg_setReg_same (s : State) (off : Nat) (v : Word) (h : Regs.wf s.regs = true) : (s.setReg off v).reg off = v :=
  spGet_spPut_same h

theorem reg_setReg_other (s : State) (off k : Nat) (v : Word) (h : Regs.wf s.regs = true) (hk : k ≠ off) :
    (s.setReg off v).reg k = s.reg k := spGet_spPut_other h hk

theorem setReg_wf (s : State) (off : Nat) (v : Word) (h : Regs.wf s.regs = true) : Regs.wf (s.setReg off v).regs = true := spPut_wf h

theorem setF_wf (s : State) (x : Fld) (v i : Nat) (h : Regs.wf s.regs = true) : Regs.wf (s.setF x v i).regs = true := setReg_wf _ _ _ h

theorem setFb_wf (s : State) (x : Fld) (v : Bool) (i : Nat) (h : Regs.wf s.regs = true) : Regs.wf (s.setFb x v i).regs = true :=
  setF_wf _ _ _ _ h

theorem bump_wf (s : State) (x : Fld) (k i : Nat) (h : Regs.wf s.regs = true) : Regs.wf (s.bump x k i).regs = true := setF_wf _ _ _ _ h

/-- A field written reads back, truncated to its width. -/
theorem f_setF_same (s : State) (x : Fld) (v i : Nat) (h : Regs.wf s.regs = true) (hx : x.lo + x.len ≤ 64) :
    (s.setF x v i).f x i = v % 2 ^ x.len := by
  simp only [f, setF, reg_setReg_same _ _ _ h]
  exact bits_putField_same _ _ _ _ hx

theorem fb_setFb_same (s : State) (x : Fld) (v : Bool) (i : Nat) (h : Regs.wf s.regs = true) (hx : x.lo + 1 ≤ 64) (h1 : x.len = 1) :
    (s.setFb x v i).fb x i = v := by
  have := f_setF_same s x (b2n v) i h (by omega)
  simp only [fb, setFb, this, h1]
  cases v <;> simp [b2n]

/-- A field written leaves every other field: of another register, or beside it in its own. -/
theorem f_setF_other (s : State) (x y : Fld) (v i j : Nat) (h : Regs.wf s.regs = true) (hx : x.lo + x.len ≤ 64)
    (hd : y.base + y.stride * j ≠ x.base + x.stride * i ∨ y.lo + y.len ≤ x.lo ∨ x.lo + x.len ≤ y.lo) :
    (s.setF x v i).f y j = s.f y j := by
  by_cases ho : y.base + y.stride * j = x.base + x.stride * i
  · rcases hd with hd | hd
    · exact absurd ho hd
    · simp only [f, setF, ho, reg_setReg_same _ _ _ h]
      exact bits_putField_other _ _ _ _ _ _ hx hd
  · simp only [f, setF, reg_setReg_other _ _ _ _ h ho]

/-- A saturating counter after it was raised. -/
theorem f_bump_same (s : State) (x : Fld) (k i : Nat) (h : Regs.wf s.regs = true) (hx : x.lo + x.len ≤ 64) :
    (s.bump x k i).f x i = min (s.f x i + k) (2 ^ x.len - 1) := by
  have hp : 0 < 2 ^ x.len := Nat.two_pow_pos _
  simp only [bump, f_setF_same _ _ _ _ h hx, satAdd]
  exact Nat.mod_eq_of_lt (by omega)

end State
end Sys2Proof.Machine
end

