-- ==== Sys2Proof/Laws/Memory.lean ====
section
/-! SUPPORT. Memory: what the named operations over it do and leave, and that each keeps the canonical form. -/

namespace Sys2Proof.Machine
namespace State

theorem rdByte_wrByte_same (s : State) (a : Nat) (b : Byte) (h : Memory.wf s.mem = true) : (s.wrByte a b).rdByte a = b :=
  spGet_spPut_same (d := fun _ => 0) h

theorem rdByte_wrByte_other (s : State) (a k : Nat) (b : Byte) (h : Memory.wf s.mem = true) (hk : k ≠ a) :
    (s.wrByte a b).rdByte k = s.rdByte k := spGet_spPut_other (d := fun _ => 0) h hk

theorem wrByte_wf (s : State) (a : Nat) (b : Byte) (h : Memory.wf s.mem = true) : Memory.wf (s.wrByte a b).mem = true :=
  spPut_wf (d := fun _ => 0) h

theorem wrBytes_wf (b : List Byte) (s : State) (a : Nat) (h : Memory.wf s.mem = true) : Memory.wf (s.wrBytes a b).mem = true := by
  induction b generalizing s a with
  | nil => exact h
  | cons b bs ih => exact ih _ _ (wrByte_wf s a b h)

theorem wrNat_wf (s : State) (a n x : Nat) (h : Memory.wf s.mem = true) : Memory.wf (s.wrNat a n x).mem = true := wrBytes_wf _ _ _ h

/-- Every byte outside those written keeps its value. -/
theorem rdByte_wrBytes_other (b : List Byte) (s : State) (a k : Nat) (h : Memory.wf s.mem = true) (hk : k < a ∨ a + b.length ≤ k) :
    (s.wrBytes a b).rdByte k = s.rdByte k := by
  induction b generalizing s a with
  | nil => rfl
  | cons b bs ih =>
    simp only [List.length_cons] at hk
    rw [wrBytes, ih _ _ (wrByte_wf s a b h) (by omega), rdByte_wrByte_other _ _ _ _ h (by omega)]

/-- The bytes written are read back. -/
theorem rdByte_wrBytes_same (b : List Byte) (s : State) (a i : Nat) (h : Memory.wf s.mem = true) (hi : i < b.length) :
    (s.wrBytes a b).rdByte (a + i) = b[i] := by
  induction b generalizing s a i with
  | nil => simp at hi
  | cons b bs ih =>
    cases i with
    | zero => rw [wrBytes, rdByte_wrBytes_other _ _ _ _ (wrByte_wf s a b h) (by omega)]; exact rdByte_wrByte_same s a b h
    | succ i =>
      have := ih (s.wrByte a b) (a + 1) i (wrByte_wf s a b h) (by simpa using hi)
      rw [wrBytes, show a + (i + 1) = a + 1 + i by omega, this]; rfl

/-- An extent written is read back whole. -/
theorem rdBytes_wrBytes_same (b : List Byte) (s : State) (a : Nat) (h : Memory.wf s.mem = true) :
    (s.wrBytes a b).rdBytes a b.length = b := by
  apply List.ext_getElem
  · simp [rdBytes]
  · intro i h1 h2
    simp only [rdBytes, List.getElem_map, List.getElem_range]
    exact rdByte_wrBytes_same b s a i h h2

end State

theorem leBytes_length (x n : Nat) : (leBytes x n).length = n := by
  induction n generalizing x with
  | zero => rfl
  | succ n ih => simp [leBytes, ih]

/-- The number that bytes spell is the number they were made of, truncated. -/
theorem leNat_leBytes (x n : Nat) : leNat (leBytes x n) = x % 2 ^ (8 * n) := by
  induction n generalizing x with
  | zero => simp [leBytes, leNat, Nat.mod_one]
  | succ n ih =>
    simp only [leBytes, leNat, ih, BitVec.toNat_ofNat, Nat.shiftRight_eq_div_pow]
    rw [show 2 ^ (8 * (n + 1)) = 2 ^ 8 * 2 ^ (8 * n) by rw [← Nat.pow_add]; congr 1; omega, Nat.mod_mul]
    first | done | rfl

namespace State

/-- A number stored is the number read, truncated to its width. -/
theorem rdNat_wrNat_same (s : State) (a n x : Nat) (h : Memory.wf s.mem = true) : (s.wrNat a n x).rdNat a n = x % 2 ^ (8 * n) := by
  have := rdBytes_wrBytes_same (leBytes x n) s a h
  rw [leBytes_length] at this
  rw [rdNat, wrNat, this, leNat_leBytes]

theorem reset_canonical : State.reset.canonical := by
  unfold canonical; decide

end State
end Sys2Proof.Machine
end

