-- ==== Sys2Proof/Laws/State.lean ====
section
/-! SUPPORT. What each update of the state leaves unchanged: one lemma per field and reading per update. -/

namespace Sys2Proof.Machine.State

/-! #### wrByte -/

@[simp] theorem wrByte_beacon (s : State) (a : Nat) (b : Byte) : (s.wrByte a b).beacon = s.beacon := rfl
@[simp] theorem wrByte_clk (s : State) (a : Nat) (b : Byte) : (s.wrByte a b).clk = s.clk := rfl
@[simp] theorem wrByte_tnd (s : State) (a : Nat) (b : Byte) : (s.wrByte a b).tnd = s.tnd := rfl
@[simp] theorem wrByte_evt (s : State) (a : Nat) (b : Byte) : (s.wrByte a b).evt = s.evt := rfl
@[simp] theorem wrByte_sets (s : State) (a : Nat) (b : Byte) : (s.wrByte a b).sets = s.sets := rfl
@[simp] theorem wrByte_prog (s : State) (a : Nat) (b : Byte) : (s.wrByte a b).prog = s.prog := rfl
@[simp] theorem wrByte_act (s : State) (a : Nat) (b : Byte) : (s.wrByte a b).act = s.act := rfl
@[simp] theorem wrByte_log (s : State) (a : Nat) (b : Byte) : (s.wrByte a b).log = s.log := rfl
@[simp] theorem wrByte_sec (s : State) (a : Nat) (b : Byte) : (s.wrByte a b).sec = s.sec := rfl
@[simp] theorem wrByte_kcp (s : State) (a : Nat) (b : Byte) : (s.wrByte a b).kcp = s.kcp := rfl
@[simp] theorem wrByte_par (s : State) (a : Nat) (b : Byte) : (s.wrByte a b).par = s.par := rfl
@[simp] theorem wrByte_plb (s : State) (a : Nat) (b : Byte) : (s.wrByte a b).plb = s.plb := rfl
@[simp] theorem wrByte_trs (s : State) (a : Nat) (b : Byte) : (s.wrByte a b).trs = s.trs := rfl
@[simp] theorem wrByte_ldg (s : State) (a : Nat) (b : Byte) : (s.wrByte a b).ldg = s.ldg := rfl
@[simp] theorem wrByte_trace (s : State) (a : Nat) (b : Byte) : (s.wrByte a b).trace = s.trace := rfl
@[simp] theorem wrByte_mor (s : State) (a : Nat) (b : Byte) : (s.wrByte a b).mor = s.mor := rfl
@[simp] theorem wrByte_occ (s : State) (a : Nat) (b : Byte) : (s.wrByte a b).occ = s.occ := rfl
@[simp] theorem wrByte_bcn (s : State) (a : Nat) (b : Byte) : (s.wrByte a b).bcn = s.bcn := rfl
@[simp] theorem wrByte_scf (s : State) (a : Nat) (b : Byte) : (s.wrByte a b).scf = s.scf := rfl
@[simp] theorem wrByte_mc (s : State) (a : Nat) (b : Byte) : (s.wrByte a b).mc = s.mc := rfl
@[simp] theorem wrByte_dma (s : State) (a : Nat) (b : Byte) : (s.wrByte a b).dma = s.dma := rfl
@[simp] theorem wrByte_regs (s : State) (a : Nat) (b : Byte) : (s.wrByte a b).regs = s.regs := rfl
@[simp] theorem wrByte_poison (s : State) (a : Nat) (b : Byte) : (s.wrByte a b).poison = s.poison := rfl
@[simp] theorem wrByte_ready (s : State) (a : Nat) (b : Byte) : (s.wrByte a b).ready = s.ready := rfl
@[simp] theorem wrByte_out (s : State) (a : Nat) (b : Byte) : (s.wrByte a b).out = s.out := rfl
@[simp] theorem wrByte_draws (s : State) (a : Nat) (b : Byte) : (s.wrByte a b).draws = s.draws := rfl
@[simp] theorem wrByte_pending (s : State) (a : Nat) (b : Byte) : (s.wrByte a b).pending = s.pending := rfl
@[simp] theorem wrByte_t_read (s : State) (a : Nat) (b : Byte) (jj : Tender) : (s.wrByte a b).t jj = s.t jj := rfl
@[simp] theorem wrByte_g_read (s : State) (a : Nat) (b : Byte) (jj : Tender) (q : Fin 32) : (s.wrByte a b).g jj q = s.g jj q := rfl
@[simp] theorem wrByte_reg_read (s : State) (a : Nat) (b : Byte) (oo : Nat) : (s.wrByte a b).reg oo = s.reg oo := rfl
@[simp] theorem wrByte_f_read (s : State) (a : Nat) (b : Byte) (y : Fld) (jj : Nat) : (s.wrByte a b).f y jj = s.f y jj := rfl
@[simp] theorem wrByte_fb_read (s : State) (a : Nat) (b : Byte) (y : Fld) (jj : Nat) : (s.wrByte a b).fb y jj = s.fb y jj := rfl
@[simp] theorem wrByte_control_read (s : State) (a : Nat) (b : Byte)  : (s.wrByte a b).control  = s.control  := rfl
@[simp] theorem wrByte_emergency_read (s : State) (a : Nat) (b : Byte)  : (s.wrByte a b).emergency  = s.emergency  := rfl
@[simp] theorem wrByte_following_read (s : State) (a : Nat) (b : Byte)  : (s.wrByte a b).following  = s.following  := rfl
@[simp] theorem wrByte_portUp_read (s : State) (a : Nat) (b : Byte)  : (s.wrByte a b).portUp  = s.portUp  := rfl
@[simp] theorem wrByte_mo_read (s : State) (a : Nat) (b : Byte) (kk : Slot) : (s.wrByte a b).mo kk = s.mo kk := rfl
@[simp] theorem wrByte_port_read (s : State) (a : Nat) (b : Byte) (kk : Slot) : (s.wrByte a b).port kk = s.port kk := rfl
@[simp] theorem wrByte_ses_read (s : State) (a : Nat) (b : Byte) (kk : Sess) : (s.wrByte a b).ses kk = s.ses kk := rfl
@[simp] theorem wrByte_dch_read (s : State) (a : Nat) (b : Byte) (kk : Fin 32) : (s.wrByte a b).dch kk = s.dch kk := rfl
@[simp] theorem wrByte_tile_read (s : State) (a : Nat) (b : Byte) (kk : Fin 8) : (s.wrByte a b).tile kk = s.tile kk := rfl
@[simp] theorem wrByte_led_read (s : State) (a : Nat) (b : Byte) (kk : Slot) : (s.wrByte a b).led kk = s.led kk := rfl
@[simp] theorem wrByte_trc_read (s : State) (a : Nat) (b : Byte) (kk : Slot) : (s.wrByte a b).trc kk = s.trc kk := rfl
@[simp] theorem wrByte_slotOf_read (s : State) (a : Nat) (b : Byte) (kk : Slot) : (s.wrByte a b).slotOf kk = s.slotOf kk := rfl
@[simp] theorem wrByte_blkState_read (s : State) (a : Nat) (b : Byte) (kk : Slot) : (s.wrByte a b).blkState kk = s.blkState kk := rfl
@[simp] theorem wrByte_linkUp_read (s : State) (a : Nat) (b : Byte) (kk : Slot) : (s.wrByte a b).linkUp kk = s.linkUp kk := rfl
@[simp] theorem wrByte_pclkTime_read (s : State) (a : Nat) (b : Byte)  : (s.wrByte a b).pclkTime  = s.pclkTime  := rfl

/-! #### setReg -/

@[simp] theorem setReg_beacon (s : State) (off : Nat) (v : Word) : (s.setReg off v).beacon = s.beacon := rfl
@[simp] theorem setReg_clk (s : State) (off : Nat) (v : Word) : (s.setReg off v).clk = s.clk := rfl
@[simp] theorem setReg_tnd (s : State) (off : Nat) (v : Word) : (s.setReg off v).tnd = s.tnd := rfl
@[simp] theorem setReg_evt (s : State) (off : Nat) (v : Word) : (s.setReg off v).evt = s.evt := rfl
@[simp] theorem setReg_sets (s : State) (off : Nat) (v : Word) : (s.setReg off v).sets = s.sets := rfl
@[simp] theorem setReg_prog (s : State) (off : Nat) (v : Word) : (s.setReg off v).prog = s.prog := rfl
@[simp] theorem setReg_act (s : State) (off : Nat) (v : Word) : (s.setReg off v).act = s.act := rfl
@[simp] theorem setReg_log (s : State) (off : Nat) (v : Word) : (s.setReg off v).log = s.log := rfl
@[simp] theorem setReg_sec (s : State) (off : Nat) (v : Word) : (s.setReg off v).sec = s.sec := rfl
@[simp] theorem setReg_kcp (s : State) (off : Nat) (v : Word) : (s.setReg off v).kcp = s.kcp := rfl
@[simp] theorem setReg_par (s : State) (off : Nat) (v : Word) : (s.setReg off v).par = s.par := rfl
@[simp] theorem setReg_plb (s : State) (off : Nat) (v : Word) : (s.setReg off v).plb = s.plb := rfl
@[simp] theorem setReg_trs (s : State) (off : Nat) (v : Word) : (s.setReg off v).trs = s.trs := rfl
@[simp] theorem setReg_ldg (s : State) (off : Nat) (v : Word) : (s.setReg off v).ldg = s.ldg := rfl
@[simp] theorem setReg_trace (s : State) (off : Nat) (v : Word) : (s.setReg off v).trace = s.trace := rfl
@[simp] theorem setReg_mor (s : State) (off : Nat) (v : Word) : (s.setReg off v).mor = s.mor := rfl
@[simp] theorem setReg_occ (s : State) (off : Nat) (v : Word) : (s.setReg off v).occ = s.occ := rfl
@[simp] theorem setReg_bcn (s : State) (off : Nat) (v : Word) : (s.setReg off v).bcn = s.bcn := rfl
@[simp] theorem setReg_scf (s : State) (off : Nat) (v : Word) : (s.setReg off v).scf = s.scf := rfl
@[simp] theorem setReg_mc (s : State) (off : Nat) (v : Word) : (s.setReg off v).mc = s.mc := rfl
@[simp] theorem setReg_dma (s : State) (off : Nat) (v : Word) : (s.setReg off v).dma = s.dma := rfl
@[simp] theorem setReg_mem (s : State) (off : Nat) (v : Word) : (s.setReg off v).mem = s.mem := rfl
@[simp] theorem setReg_poison (s : State) (off : Nat) (v : Word) : (s.setReg off v).poison = s.poison := rfl
@[simp] theorem setReg_ready (s : State) (off : Nat) (v : Word) : (s.setReg off v).ready = s.ready := rfl
@[simp] theorem setReg_out (s : State) (off : Nat) (v : Word) : (s.setReg off v).out = s.out := rfl
@[simp] theorem setReg_draws (s : State) (off : Nat) (v : Word) : (s.setReg off v).draws = s.draws := rfl
@[simp] theorem setReg_pending (s : State) (off : Nat) (v : Word) : (s.setReg off v).pending = s.pending := rfl
@[simp] theorem setReg_t_read (s : State) (off : Nat) (v : Word) (jj : Tender) : (s.setReg off v).t jj = s.t jj := rfl
@[simp] theorem setReg_g_read (s : State) (off : Nat) (v : Word) (jj : Tender) (q : Fin 32) : (s.setReg off v).g jj q = s.g jj q := rfl
@[simp] theorem setReg_rdByte_read (s : State) (off : Nat) (v : Word) (oo : Nat) : (s.setReg off v).rdByte oo = s.rdByte oo := rfl
@[simp] theorem setReg_logNext_read (s : State) (off : Nat) (v : Word)  : (s.setReg off v).logNext  = s.logNext  := rfl
@[simp] theorem setReg_mo_read (s : State) (off : Nat) (v : Word) (kk : Slot) : (s.setReg off v).mo kk = s.mo kk := rfl
@[simp] theorem setReg_port_read (s : State) (off : Nat) (v : Word) (kk : Slot) : (s.setReg off v).port kk = s.port kk := rfl
@[simp] theorem setReg_ses_read (s : State) (off : Nat) (v : Word) (kk : Sess) : (s.setReg off v).ses kk = s.ses kk := rfl
@[simp] theorem setReg_dch_read (s : State) (off : Nat) (v : Word) (kk : Fin 32) : (s.setReg off v).dch kk = s.dch kk := rfl
@[simp] theorem setReg_tile_read (s : State) (off : Nat) (v : Word) (kk : Fin 8) : (s.setReg off v).tile kk = s.tile kk := rfl
@[simp] theorem setReg_led_read (s : State) (off : Nat) (v : Word) (kk : Slot) : (s.setReg off v).led kk = s.led kk := rfl
@[simp] theorem setReg_trc_read (s : State) (off : Nat) (v : Word) (kk : Slot) : (s.setReg off v).trc kk = s.trc kk := rfl
@[simp] theorem setReg_pclkTime_read (s : State) (off : Nat) (v : Word)  : (s.setReg off v).pclkTime  = s.pclkTime  := rfl

/-! #### setF -/

@[simp] theorem setF_beacon (s : State) (x : Fld) (v i : Nat) : (s.setF x v i).beacon = s.beacon := rfl
@[simp] theorem setF_clk (s : State) (x : Fld) (v i : Nat) : (s.setF x v i).clk = s.clk := rfl
@[simp] theorem setF_tnd (s : State) (x : Fld) (v i : Nat) : (s.setF x v i).tnd = s.tnd := rfl
@[simp] theorem setF_evt (s : State) (x : Fld) (v i : Nat) : (s.setF x v i).evt = s.evt := rfl
@[simp] theorem setF_sets (s : State) (x : Fld) (v i : Nat) : (s.setF x v i).sets = s.sets := rfl
@[simp] theorem setF_prog (s : State) (x : Fld) (v i : Nat) : (s.setF x v i).prog = s.prog := rfl
@[simp] theorem setF_act (s : State) (x : Fld) (v i : Nat) : (s.setF x v i).act = s.act := rfl
@[simp] theorem setF_log (s : State) (x : Fld) (v i : Nat) : (s.setF x v i).log = s.log := rfl
@[simp] theorem setF_sec (s : State) (x : Fld) (v i : Nat) : (s.setF x v i).sec = s.sec := rfl
@[simp] theorem setF_kcp (s : State) (x : Fld) (v i : Nat) : (s.setF x v i).kcp = s.kcp := rfl
@[simp] theorem setF_par (s : State) (x : Fld) (v i : Nat) : (s.setF x v i).par = s.par := rfl
@[simp] theorem setF_plb (s : State) (x : Fld) (v i : Nat) : (s.setF x v i).plb = s.plb := rfl
@[simp] theorem setF_trs (s : State) (x : Fld) (v i : Nat) : (s.setF x v i).trs = s.trs := rfl
@[simp] theorem setF_ldg (s : State) (x : Fld) (v i : Nat) : (s.setF x v i).ldg = s.ldg := rfl
@[simp] theorem setF_trace (s : State) (x : Fld) (v i : Nat) : (s.setF x v i).trace = s.trace := rfl
@[simp] theorem setF_mor (s : State) (x : Fld) (v i : Nat) : (s.setF x v i).mor = s.mor := rfl
@[simp] theorem setF_occ (s : State) (x : Fld) (v i : Nat) : (s.setF x v i).occ = s.occ := rfl
@[simp] theorem setF_bcn (s : State) (x : Fld) (v i : Nat) : (s.setF x v i).bcn = s.bcn := rfl
@[simp] theorem setF_scf (s : State) (x : Fld) (v i : Nat) : (s.setF x v i).scf = s.scf := rfl
@[simp] theorem setF_mc (s : State) (x : Fld) (v i : Nat) : (s.setF x v i).mc = s.mc := rfl
@[simp] theorem setF_dma (s : State) (x : Fld) (v i : Nat) : (s.setF x v i).dma = s.dma := rfl
@[simp] theorem setF_mem (s : State) (x : Fld) (v i : Nat) : (s.setF x v i).mem = s.mem := rfl
@[simp] theorem setF_poison (s : State) (x : Fld) (v i : Nat) : (s.setF x v i).poison = s.poison := rfl
@[simp] theorem setF_ready (s : State) (x : Fld) (v i : Nat) : (s.setF x v i).ready = s.ready := rfl
@[simp] theorem setF_out (s : State) (x : Fld) (v i : Nat) : (s.setF x v i).out = s.out := rfl
@[simp] theorem setF_draws (s : State) (x : Fld) (v i : Nat) : (s.setF x v i).draws = s.draws := rfl
@[simp] theorem setF_pending (s : State) (x : Fld) (v i : Nat) : (s.setF x v i).pending = s.pending := rfl
@[simp] theorem setF_t_read (s : State) (x : Fld) (v i : Nat) (jj : Tender) : (s.setF x v i).t jj = s.t jj := rfl
@[simp] theorem setF_g_read (s : State) (x : Fld) (v i : Nat) (jj : Tender) (q : Fin 32) : (s.setF x v i).g jj q = s.g jj q := rfl
@[simp] theorem setF_rdByte_read (s : State) (x : Fld) (v i : Nat) (oo : Nat) : (s.setF x v i).rdByte oo = s.rdByte oo := rfl
@[simp] theorem setF_logNext_read (s : State) (x : Fld) (v i : Nat)  : (s.setF x v i).logNext  = s.logNext  := rfl
@[simp] theorem setF_mo_read (s : State) (x : Fld) (v i : Nat) (kk : Slot) : (s.setF x v i).mo kk = s.mo kk := rfl
@[simp] theorem setF_port_read (s : State) (x : Fld) (v i : Nat) (kk : Slot) : (s.setF x v i).port kk = s.port kk := rfl
@[simp] theorem setF_ses_read (s : State) (x : Fld) (v i : Nat) (kk : Sess) : (s.setF x v i).ses kk = s.ses kk := rfl
@[simp] theorem setF_dch_read (s : State) (x : Fld) (v i : Nat) (kk : Fin 32) : (s.setF x v i).dch kk = s.dch kk := rfl
@[simp] theorem setF_tile_read (s : State) (x : Fld) (v i : Nat) (kk : Fin 8) : (s.setF x v i).tile kk = s.tile kk := rfl
@[simp] theorem setF_led_read (s : State) (x : Fld) (v i : Nat) (kk : Slot) : (s.setF x v i).led kk = s.led kk := rfl
@[simp] theorem setF_trc_read (s : State) (x : Fld) (v i : Nat) (kk : Slot) : (s.setF x v i).trc kk = s.trc kk := rfl
@[simp] theorem setF_pclkTime_read (s : State) (x : Fld) (v i : Nat)  : (s.setF x v i).pclkTime  = s.pclkTime  := rfl

/-! #### setFb -/

@[simp] theorem setFb_beacon (s : State) (x : Fld) (v : Bool) (i : Nat) : (s.setFb x v i).beacon = s.beacon := rfl
@[simp] theorem setFb_clk (s : State) (x : Fld) (v : Bool) (i : Nat) : (s.setFb x v i).clk = s.clk := rfl
@[simp] theorem setFb_tnd (s : State) (x : Fld) (v : Bool) (i : Nat) : (s.setFb x v i).tnd = s.tnd := rfl
@[simp] theorem setFb_evt (s : State) (x : Fld) (v : Bool) (i : Nat) : (s.setFb x v i).evt = s.evt := rfl
@[simp] theorem setFb_sets (s : State) (x : Fld) (v : Bool) (i : Nat) : (s.setFb x v i).sets = s.sets := rfl
@[simp] theorem setFb_prog (s : State) (x : Fld) (v : Bool) (i : Nat) : (s.setFb x v i).prog = s.prog := rfl
@[simp] theorem setFb_act (s : State) (x : Fld) (v : Bool) (i : Nat) : (s.setFb x v i).act = s.act := rfl
@[simp] theorem setFb_log (s : State) (x : Fld) (v : Bool) (i : Nat) : (s.setFb x v i).log = s.log := rfl
@[simp] theorem setFb_sec (s : State) (x : Fld) (v : Bool) (i : Nat) : (s.setFb x v i).sec = s.sec := rfl
@[simp] theorem setFb_kcp (s : State) (x : Fld) (v : Bool) (i : Nat) : (s.setFb x v i).kcp = s.kcp := rfl
@[simp] theorem setFb_par (s : State) (x : Fld) (v : Bool) (i : Nat) : (s.setFb x v i).par = s.par := rfl
@[simp] theorem setFb_plb (s : State) (x : Fld) (v : Bool) (i : Nat) : (s.setFb x v i).plb = s.plb := rfl
@[simp] theorem setFb_trs (s : State) (x : Fld) (v : Bool) (i : Nat) : (s.setFb x v i).trs = s.trs := rfl
@[simp] theorem setFb_ldg (s : State) (x : Fld) (v : Bool) (i : Nat) : (s.setFb x v i).ldg = s.ldg := rfl
@[simp] theorem setFb_trace (s : State) (x : Fld) (v : Bool) (i : Nat) : (s.setFb x v i).trace = s.trace := rfl
@[simp] theorem setFb_mor (s : State) (x : Fld) (v : Bool) (i : Nat) : (s.setFb x v i).mor = s.mor := rfl
@[simp] theorem setFb_occ (s : State) (x : Fld) (v : Bool) (i : Nat) : (s.setFb x v i).occ = s.occ := rfl
@[simp] theorem setFb_bcn (s : State) (x : Fld) (v : Bool) (i : Nat) : (s.setFb x v i).bcn = s.bcn := rfl
@[simp] theorem setFb_scf (s : State) (x : Fld) (v : Bool) (i : Nat) : (s.setFb x v i).scf = s.scf := rfl
@[simp] theorem setFb_mc (s : State) (x : Fld) (v : Bool) (i : Nat) : (s.setFb x v i).mc = s.mc := rfl
@[simp] theorem setFb_dma (s : State) (x : Fld) (v : Bool) (i : Nat) : (s.setFb x v i).dma = s.dma := rfl
@[simp] theorem setFb_mem (s : State) (x : Fld) (v : Bool) (i : Nat) : (s.setFb x v i).mem = s.mem := rfl
@[simp] theorem setFb_poison (s : State) (x : Fld) (v : Bool) (i : Nat) : (s.setFb x v i).poison = s.poison := rfl
@[simp] theorem setFb_ready (s : State) (x : Fld) (v : Bool) (i : Nat) : (s.setFb x v i).ready = s.ready := rfl
@[simp] theorem setFb_out (s : State) (x : Fld) (v : Bool) (i : Nat) : (s.setFb x v i).out = s.out := rfl
@[simp] theorem setFb_draws (s : State) (x : Fld) (v : Bool) (i : Nat) : (s.setFb x v i).draws = s.draws := rfl
@[simp] theorem setFb_pending (s : State) (x : Fld) (v : Bool) (i : Nat) : (s.setFb x v i).pending = s.pending := rfl
@[simp] theorem setFb_t_read (s : State) (x : Fld) (v : Bool) (i : Nat) (jj : Tender) : (s.setFb x v i).t jj = s.t jj := rfl
@[simp] theorem setFb_g_read (s : State) (x : Fld) (v : Bool) (i : Nat) (jj : Tender) (q : Fin 32) : (s.setFb x v i).g jj q = s.g jj q := rfl
@[simp] theorem setFb_rdByte_read (s : State) (x : Fld) (v : Bool) (i : Nat) (oo : Nat) : (s.setFb x v i).rdByte oo = s.rdByte oo := rfl
@[simp] theorem setFb_logNext_read (s : State) (x : Fld) (v : Bool) (i : Nat)  : (s.setFb x v i).logNext  = s.logNext  := rfl
@[simp] theorem setFb_mo_read (s : State) (x : Fld) (v : Bool) (i : Nat) (kk : Slot) : (s.setFb x v i).mo kk = s.mo kk := rfl
@[simp] theorem setFb_port_read (s : State) (x : Fld) (v : Bool) (i : Nat) (kk : Slot) : (s.setFb x v i).port kk = s.port kk := rfl
@[simp] theorem setFb_ses_read (s : State) (x : Fld) (v : Bool) (i : Nat) (kk : Sess) : (s.setFb x v i).ses kk = s.ses kk := rfl
@[simp] theorem setFb_dch_read (s : State) (x : Fld) (v : Bool) (i : Nat) (kk : Fin 32) : (s.setFb x v i).dch kk = s.dch kk := rfl
@[simp] theorem setFb_tile_read (s : State) (x : Fld) (v : Bool) (i : Nat) (kk : Fin 8) : (s.setFb x v i).tile kk = s.tile kk := rfl
@[simp] theorem setFb_led_read (s : State) (x : Fld) (v : Bool) (i : Nat) (kk : Slot) : (s.setFb x v i).led kk = s.led kk := rfl
@[simp] theorem setFb_trc_read (s : State) (x : Fld) (v : Bool) (i : Nat) (kk : Slot) : (s.setFb x v i).trc kk = s.trc kk := rfl
@[simp] theorem setFb_pclkTime_read (s : State) (x : Fld) (v : Bool) (i : Nat)  : (s.setFb x v i).pclkTime  = s.pclkTime  := rfl

/-! #### bump -/

@[simp] theorem bump_beacon (s : State) (x : Fld) (k i : Nat) : (s.bump x k i).beacon = s.beacon := rfl
@[simp] theorem bump_clk (s : State) (x : Fld) (k i : Nat) : (s.bump x k i).clk = s.clk := rfl
@[simp] theorem bump_tnd (s : State) (x : Fld) (k i : Nat) : (s.bump x k i).tnd = s.tnd := rfl
@[simp] theorem bump_evt (s : State) (x : Fld) (k i : Nat) : (s.bump x k i).evt = s.evt := rfl
@[simp] theorem bump_sets (s : State) (x : Fld) (k i : Nat) : (s.bump x k i).sets = s.sets := rfl
@[simp] theorem bump_prog (s : State) (x : Fld) (k i : Nat) : (s.bump x k i).prog = s.prog := rfl
@[simp] theorem bump_act (s : State) (x : Fld) (k i : Nat) : (s.bump x k i).act = s.act := rfl
@[simp] theorem bump_log (s : State) (x : Fld) (k i : Nat) : (s.bump x k i).log = s.log := rfl
@[simp] theorem bump_sec (s : State) (x : Fld) (k i : Nat) : (s.bump x k i).sec = s.sec := rfl
@[simp] theorem bump_kcp (s : State) (x : Fld) (k i : Nat) : (s.bump x k i).kcp = s.kcp := rfl
@[simp] theorem bump_par (s : State) (x : Fld) (k i : Nat) : (s.bump x k i).par = s.par := rfl
@[simp] theorem bump_plb (s : State) (x : Fld) (k i : Nat) : (s.bump x k i).plb = s.plb := rfl
@[simp] theorem bump_trs (s : State) (x : Fld) (k i : Nat) : (s.bump x k i).trs = s.trs := rfl
@[simp] theorem bump_ldg (s : State) (x : Fld) (k i : Nat) : (s.bump x k i).ldg = s.ldg := rfl
@[simp] theorem bump_trace (s : State) (x : Fld) (k i : Nat) : (s.bump x k i).trace = s.trace := rfl
@[simp] theorem bump_mor (s : State) (x : Fld) (k i : Nat) : (s.bump x k i).mor = s.mor := rfl
@[simp] theorem bump_occ (s : State) (x : Fld) (k i : Nat) : (s.bump x k i).occ = s.occ := rfl
@[simp] theorem bump_bcn (s : State) (x : Fld) (k i : Nat) : (s.bump x k i).bcn = s.bcn := rfl
@[simp] theorem bump_scf (s : State) (x : Fld) (k i : Nat) : (s.bump x k i).scf = s.scf := rfl
@[simp] theorem bump_mc (s : State) (x : Fld) (k i : Nat) : (s.bump x k i).mc = s.mc := rfl
@[simp] theorem bump_dma (s : State) (x : Fld) (k i : Nat) : (s.bump x k i).dma = s.dma := rfl
@[simp] theorem bump_mem (s : State) (x : Fld) (k i : Nat) : (s.bump x k i).mem = s.mem := rfl
@[simp] theorem bump_poison (s : State) (x : Fld) (k i : Nat) : (s.bump x k i).poison = s.poison := rfl
@[simp] theorem bump_ready (s : State) (x : Fld) (k i : Nat) : (s.bump x k i).ready = s.ready := rfl
@[simp] theorem bump_out (s : State) (x : Fld) (k i : Nat) : (s.bump x k i).out = s.out := rfl
@[simp] theorem bump_draws (s : State) (x : Fld) (k i : Nat) : (s.bump x k i).draws = s.draws := rfl
@[simp] theorem bump_pending (s : State) (x : Fld) (k i : Nat) : (s.bump x k i).pending = s.pending := rfl
@[simp] theorem bump_t_read (s : State) (x : Fld) (k i : Nat) (jj : Tender) : (s.bump x k i).t jj = s.t jj := rfl
@[simp] theorem bump_g_read (s : State) (x : Fld) (k i : Nat) (jj : Tender) (q : Fin 32) : (s.bump x k i).g jj q = s.g jj q := rfl
@[simp] theorem bump_rdByte_read (s : State) (x : Fld) (k i : Nat) (oo : Nat) : (s.bump x k i).rdByte oo = s.rdByte oo := rfl
@[simp] theorem bump_logNext_read (s : State) (x : Fld) (k i : Nat)  : (s.bump x k i).logNext  = s.logNext  := rfl
@[simp] theorem bump_mo_read (s : State) (x : Fld) (k i : Nat) (kk : Slot) : (s.bump x k i).mo kk = s.mo kk := rfl
@[simp] theorem bump_port_read (s : State) (x : Fld) (k i : Nat) (kk : Slot) : (s.bump x k i).port kk = s.port kk := rfl
@[simp] theorem bump_ses_read (s : State) (x : Fld) (k i : Nat) (kk : Sess) : (s.bump x k i).ses kk = s.ses kk := rfl
@[simp] theorem bump_dch_read (s : State) (x : Fld) (k i : Nat) (kk : Fin 32) : (s.bump x k i).dch kk = s.dch kk := rfl
@[simp] theorem bump_tile_read (s : State) (x : Fld) (k i : Nat) (kk : Fin 8) : (s.bump x k i).tile kk = s.tile kk := rfl
@[simp] theorem bump_led_read (s : State) (x : Fld) (k i : Nat) (kk : Slot) : (s.bump x k i).led kk = s.led kk := rfl
@[simp] theorem bump_trc_read (s : State) (x : Fld) (k i : Nat) (kk : Slot) : (s.bump x k i).trc kk = s.trc kk := rfl
@[simp] theorem bump_pclkTime_read (s : State) (x : Fld) (k i : Nat)  : (s.bump x k i).pclkTime  = s.pclkTime  := rfl

/-! #### setT -/

@[simp] theorem setT_beacon (s : State) (i : Tender) (x : TenderSt) : (s.setT i x).beacon = s.beacon := rfl
@[simp] theorem setT_clk (s : State) (i : Tender) (x : TenderSt) : (s.setT i x).clk = s.clk := rfl
@[simp] theorem setT_evt (s : State) (i : Tender) (x : TenderSt) : (s.setT i x).evt = s.evt := rfl
@[simp] theorem setT_sets (s : State) (i : Tender) (x : TenderSt) : (s.setT i x).sets = s.sets := rfl
@[simp] theorem setT_prog (s : State) (i : Tender) (x : TenderSt) : (s.setT i x).prog = s.prog := rfl
@[simp] theorem setT_act (s : State) (i : Tender) (x : TenderSt) : (s.setT i x).act = s.act := rfl
@[simp] theorem setT_log (s : State) (i : Tender) (x : TenderSt) : (s.setT i x).log = s.log := rfl
@[simp] theorem setT_sec (s : State) (i : Tender) (x : TenderSt) : (s.setT i x).sec = s.sec := rfl
@[simp] theorem setT_kcp (s : State) (i : Tender) (x : TenderSt) : (s.setT i x).kcp = s.kcp := rfl
@[simp] theorem setT_par (s : State) (i : Tender) (x : TenderSt) : (s.setT i x).par = s.par := rfl
@[simp] theorem setT_plb (s : State) (i : Tender) (x : TenderSt) : (s.setT i x).plb = s.plb := rfl
@[simp] theorem setT_trs (s : State) (i : Tender) (x : TenderSt) : (s.setT i x).trs = s.trs := rfl
@[simp] theorem setT_ldg (s : State) (i : Tender) (x : TenderSt) : (s.setT i x).ldg = s.ldg := rfl
@[simp] theorem setT_trace (s : State) (i : Tender) (x : TenderSt) : (s.setT i x).trace = s.trace := rfl
@[simp] theorem setT_mor (s : State) (i : Tender) (x : TenderSt) : (s.setT i x).mor = s.mor := rfl
@[simp] theorem setT_occ (s : State) (i : Tender) (x : TenderSt) : (s.setT i x).occ = s.occ := rfl
@[simp] theorem setT_bcn (s : State) (i : Tender) (x : TenderSt) : (s.setT i x).bcn = s.bcn := rfl
@[simp] theorem setT_scf (s : State) (i : Tender) (x : TenderSt) : (s.setT i x).scf = s.scf := rfl
@[simp] theorem setT_mc (s : State) (i : Tender) (x : TenderSt) : (s.setT i x).mc = s.mc := rfl
@[simp] theorem setT_dma (s : State) (i : Tender) (x : TenderSt) : (s.setT i x).dma = s.dma := rfl
@[simp] theorem setT_regs (s : State) (i : Tender) (x : TenderSt) : (s.setT i x).regs = s.regs := rfl
@[simp] theorem setT_mem (s : State) (i : Tender) (x : TenderSt) : (s.setT i x).mem = s.mem := rfl
@[simp] theorem setT_poison (s : State) (i : Tender) (x : TenderSt) : (s.setT i x).poison = s.poison := rfl
@[simp] theorem setT_ready (s : State) (i : Tender) (x : TenderSt) : (s.setT i x).ready = s.ready := rfl
@[simp] theorem setT_out (s : State) (i : Tender) (x : TenderSt) : (s.setT i x).out = s.out := rfl
@[simp] theorem setT_draws (s : State) (i : Tender) (x : TenderSt) : (s.setT i x).draws = s.draws := rfl
@[simp] theorem setT_pending (s : State) (i : Tender) (x : TenderSt) : (s.setT i x).pending = s.pending := rfl
@[simp] theorem setT_reg_read (s : State) (i : Tender) (x : TenderSt) (oo : Nat) : (s.setT i x).reg oo = s.reg oo := rfl
@[simp] theorem setT_f_read (s : State) (i : Tender) (x : TenderSt) (y : Fld) (jj : Nat) : (s.setT i x).f y jj = s.f y jj := rfl
@[simp] theorem setT_fb_read (s : State) (i : Tender) (x : TenderSt) (y : Fld) (jj : Nat) : (s.setT i x).fb y jj = s.fb y jj := rfl
@[simp] theorem setT_control_read (s : State) (i : Tender) (x : TenderSt)  : (s.setT i x).control  = s.control  := rfl
@[simp] theorem setT_emergency_read (s : State) (i : Tender) (x : TenderSt)  : (s.setT i x).emergency  = s.emergency  := rfl
@[simp] theorem setT_following_read (s : State) (i : Tender) (x : TenderSt)  : (s.setT i x).following  = s.following  := rfl
@[simp] theorem setT_portUp_read (s : State) (i : Tender) (x : TenderSt)  : (s.setT i x).portUp  = s.portUp  := rfl
@[simp] theorem setT_rdByte_read (s : State) (i : Tender) (x : TenderSt) (oo : Nat) : (s.setT i x).rdByte oo = s.rdByte oo := rfl
@[simp] theorem setT_logNext_read (s : State) (i : Tender) (x : TenderSt)  : (s.setT i x).logNext  = s.logNext  := rfl
@[simp] theorem setT_mo_read (s : State) (i : Tender) (x : TenderSt) (kk : Slot) : (s.setT i x).mo kk = s.mo kk := rfl
@[simp] theorem setT_port_read (s : State) (i : Tender) (x : TenderSt) (kk : Slot) : (s.setT i x).port kk = s.port kk := rfl
@[simp] theorem setT_ses_read (s : State) (i : Tender) (x : TenderSt) (kk : Sess) : (s.setT i x).ses kk = s.ses kk := rfl
@[simp] theorem setT_dch_read (s : State) (i : Tender) (x : TenderSt) (kk : Fin 32) : (s.setT i x).dch kk = s.dch kk := rfl
@[simp] theorem setT_tile_read (s : State) (i : Tender) (x : TenderSt) (kk : Fin 8) : (s.setT i x).tile kk = s.tile kk := rfl
@[simp] theorem setT_led_read (s : State) (i : Tender) (x : TenderSt) (kk : Slot) : (s.setT i x).led kk = s.led kk := rfl
@[simp] theorem setT_trc_read (s : State) (i : Tender) (x : TenderSt) (kk : Slot) : (s.setT i x).trc kk = s.trc kk := rfl
@[simp] theorem setT_slotOf_read (s : State) (i : Tender) (x : TenderSt) (kk : Slot) : (s.setT i x).slotOf kk = s.slotOf kk := rfl
@[simp] theorem setT_blkState_read (s : State) (i : Tender) (x : TenderSt) (kk : Slot) : (s.setT i x).blkState kk = s.blkState kk := rfl
@[simp] theorem setT_linkUp_read (s : State) (i : Tender) (x : TenderSt) (kk : Slot) : (s.setT i x).linkUp kk = s.linkUp kk := rfl
@[simp] theorem setT_pclkTime_read (s : State) (i : Tender) (x : TenderSt)  : (s.setT i x).pclkTime  = s.pclkTime  := rfl

/-! #### updT -/

@[simp] theorem updT_beacon (s : State) (i : Tender) (h : TenderSt → TenderSt) : (s.updT i h).beacon = s.beacon := rfl
@[simp] theorem updT_clk (s : State) (i : Tender) (h : TenderSt → TenderSt) : (s.updT i h).clk = s.clk := rfl
@[simp] theorem updT_evt (s : State) (i : Tender) (h : TenderSt → TenderSt) : (s.updT i h).evt = s.evt := rfl
@[simp] theorem updT_sets (s : State) (i : Tender) (h : TenderSt → TenderSt) : (s.updT i h).sets = s.sets := rfl
@[simp] theorem updT_prog (s : State) (i : Tender) (h : TenderSt → TenderSt) : (s.updT i h).prog = s.prog := rfl
@[simp] theorem updT_act (s : State) (i : Tender) (h : TenderSt → TenderSt) : (s.updT i h).act = s.act := rfl
@[simp] theorem updT_log (s : State) (i : Tender) (h : TenderSt → TenderSt) : (s.updT i h).log = s.log := rfl
@[simp] theorem updT_sec (s : State) (i : Tender) (h : TenderSt → TenderSt) : (s.updT i h).sec = s.sec := rfl
@[simp] theorem updT_kcp (s : State) (i : Tender) (h : TenderSt → TenderSt) : (s.updT i h).kcp = s.kcp := rfl
@[simp] theorem updT_par (s : State) (i : Tender) (h : TenderSt → TenderSt) : (s.updT i h).par = s.par := rfl
@[simp] theorem updT_plb (s : State) (i : Tender) (h : TenderSt → TenderSt) : (s.updT i h).plb = s.plb := rfl
@[simp] theorem updT_trs (s : State) (i : Tender) (h : TenderSt → TenderSt) : (s.updT i h).trs = s.trs := rfl
@[simp] theorem updT_ldg (s : State) (i : Tender) (h : TenderSt → TenderSt) : (s.updT i h).ldg = s.ldg := rfl
@[simp] theorem updT_trace (s : State) (i : Tender) (h : TenderSt → TenderSt) : (s.updT i h).trace = s.trace := rfl
@[simp] theorem updT_mor (s : State) (i : Tender) (h : TenderSt → TenderSt) : (s.updT i h).mor = s.mor := rfl
@[simp] theorem updT_occ (s : State) (i : Tender) (h : TenderSt → TenderSt) : (s.updT i h).occ = s.occ := rfl
@[simp] theorem updT_bcn (s : State) (i : Tender) (h : TenderSt → TenderSt) : (s.updT i h).bcn = s.bcn := rfl
@[simp] theorem updT_scf (s : State) (i : Tender) (h : TenderSt → TenderSt) : (s.updT i h).scf = s.scf := rfl
@[simp] theorem updT_mc (s : State) (i : Tender) (h : TenderSt → TenderSt) : (s.updT i h).mc = s.mc := rfl
@[simp] theorem updT_dma (s : State) (i : Tender) (h : TenderSt → TenderSt) : (s.updT i h).dma = s.dma := rfl
@[simp] theorem updT_regs (s : State) (i : Tender) (h : TenderSt → TenderSt) : (s.updT i h).regs = s.regs := rfl
@[simp] theorem updT_mem (s : State) (i : Tender) (h : TenderSt → TenderSt) : (s.updT i h).mem = s.mem := rfl
@[simp] theorem updT_poison (s : State) (i : Tender) (h : TenderSt → TenderSt) : (s.updT i h).poison = s.poison := rfl
@[simp] theorem updT_ready (s : State) (i : Tender) (h : TenderSt → TenderSt) : (s.updT i h).ready = s.ready := rfl
@[simp] theorem updT_out (s : State) (i : Tender) (h : TenderSt → TenderSt) : (s.updT i h).out = s.out := rfl
@[simp] theorem updT_draws (s : State) (i : Tender) (h : TenderSt → TenderSt) : (s.updT i h).draws = s.draws := rfl
@[simp] theorem updT_pending (s : State) (i : Tender) (h : TenderSt → TenderSt) : (s.updT i h).pending = s.pending := rfl
@[simp] theorem updT_reg_read (s : State) (i : Tender) (h : TenderSt → TenderSt) (oo : Nat) : (s.updT i h).reg oo = s.reg oo := rfl
@[simp] theorem updT_f_read (s : State) (i : Tender) (h : TenderSt → TenderSt) (y : Fld) (jj : Nat) : (s.updT i h).f y jj = s.f y jj := rfl
@[simp] theorem updT_fb_read (s : State) (i : Tender) (h : TenderSt → TenderSt) (y : Fld) (jj : Nat) : (s.updT i h).fb y jj = s.fb y jj := rfl
@[simp] theorem updT_control_read (s : State) (i : Tender) (h : TenderSt → TenderSt)  : (s.updT i h).control  = s.control  := rfl
@[simp] theorem updT_emergency_read (s : State) (i : Tender) (h : TenderSt → TenderSt)  : (s.updT i h).emergency  = s.emergency  := rfl
@[simp] theorem updT_following_read (s : State) (i : Tender) (h : TenderSt → TenderSt)  : (s.updT i h).following  = s.following  := rfl
@[simp] theorem updT_portUp_read (s : State) (i : Tender) (h : TenderSt → TenderSt)  : (s.updT i h).portUp  = s.portUp  := rfl
@[simp] theorem updT_rdByte_read (s : State) (i : Tender) (h : TenderSt → TenderSt) (oo : Nat) : (s.updT i h).rdByte oo = s.rdByte oo := rfl
@[simp] theorem updT_logNext_read (s : State) (i : Tender) (h : TenderSt → TenderSt)  : (s.updT i h).logNext  = s.logNext  := rfl
@[simp] theorem updT_mo_read (s : State) (i : Tender) (h : TenderSt → TenderSt) (kk : Slot) : (s.updT i h).mo kk = s.mo kk := rfl
@[simp] theorem updT_port_read (s : State) (i : Tender) (h : TenderSt → TenderSt) (kk : Slot) : (s.updT i h).port kk = s.port kk := rfl
@[simp] theorem updT_ses_read (s : State) (i : Tender) (h : TenderSt → TenderSt) (kk : Sess) : (s.updT i h).ses kk = s.ses kk := rfl
@[simp] theorem updT_dch_read (s : State) (i : Tender) (h : TenderSt → TenderSt) (kk : Fin 32) : (s.updT i h).dch kk = s.dch kk := rfl
@[simp] theorem updT_tile_read (s : State) (i : Tender) (h : TenderSt → TenderSt) (kk : Fin 8) : (s.updT i h).tile kk = s.tile kk := rfl
@[simp] theorem updT_led_read (s : State) (i : Tender) (h : TenderSt → TenderSt) (kk : Slot) : (s.updT i h).led kk = s.led kk := rfl
@[simp] theorem updT_trc_read (s : State) (i : Tender) (h : TenderSt → TenderSt) (kk : Slot) : (s.updT i h).trc kk = s.trc kk := rfl
@[simp] theorem updT_slotOf_read (s : State) (i : Tender) (h : TenderSt → TenderSt) (kk : Slot) : (s.updT i h).slotOf kk = s.slotOf kk := rfl
@[simp] theorem updT_blkState_read (s : State) (i : Tender) (h : TenderSt → TenderSt) (kk : Slot) : (s.updT i h).blkState kk = s.blkState kk := rfl
@[simp] theorem updT_linkUp_read (s : State) (i : Tender) (h : TenderSt → TenderSt) (kk : Slot) : (s.updT i h).linkUp kk = s.linkUp kk := rfl
@[simp] theorem updT_pclkTime_read (s : State) (i : Tender) (h : TenderSt → TenderSt)  : (s.updT i h).pclkTime  = s.pclkTime  := rfl

/-! #### retire -/

@[simp] theorem retire_beacon (s : State) (i : Tender) : (s.retire i).beacon = s.beacon := rfl
@[simp] theorem retire_clk (s : State) (i : Tender) : (s.retire i).clk = s.clk := rfl
@[simp] theorem retire_evt (s : State) (i : Tender) : (s.retire i).evt = s.evt := rfl
@[simp] theorem retire_sets (s : State) (i : Tender) : (s.retire i).sets = s.sets := rfl
@[simp] theorem retire_prog (s : State) (i : Tender) : (s.retire i).prog = s.prog := rfl
@[simp] theorem retire_act (s : State) (i : Tender) : (s.retire i).act = s.act := rfl
@[simp] theorem retire_log (s : State) (i : Tender) : (s.retire i).log = s.log := rfl
@[simp] theorem retire_sec (s : State) (i : Tender) : (s.retire i).sec = s.sec := rfl
@[simp] theorem retire_kcp (s : State) (i : Tender) : (s.retire i).kcp = s.kcp := rfl
@[simp] theorem retire_par (s : State) (i : Tender) : (s.retire i).par = s.par := rfl
@[simp] theorem retire_plb (s : State) (i : Tender) : (s.retire i).plb = s.plb := rfl
@[simp] theorem retire_trs (s : State) (i : Tender) : (s.retire i).trs = s.trs := rfl
@[simp] theorem retire_ldg (s : State) (i : Tender) : (s.retire i).ldg = s.ldg := rfl
@[simp] theorem retire_trace (s : State) (i : Tender) : (s.retire i).trace = s.trace := rfl
@[simp] theorem retire_mor (s : State) (i : Tender) : (s.retire i).mor = s.mor := rfl
@[simp] theorem retire_occ (s : State) (i : Tender) : (s.retire i).occ = s.occ := rfl
@[simp] theorem retire_bcn (s : State) (i : Tender) : (s.retire i).bcn = s.bcn := rfl
@[simp] theorem retire_scf (s : State) (i : Tender) : (s.retire i).scf = s.scf := rfl
@[simp] theorem retire_mc (s : State) (i : Tender) : (s.retire i).mc = s.mc := rfl
@[simp] theorem retire_dma (s : State) (i : Tender) : (s.retire i).dma = s.dma := rfl
@[simp] theorem retire_regs (s : State) (i : Tender) : (s.retire i).regs = s.regs := rfl
@[simp] theorem retire_mem (s : State) (i : Tender) : (s.retire i).mem = s.mem := rfl
@[simp] theorem retire_poison (s : State) (i : Tender) : (s.retire i).poison = s.poison := rfl
@[simp] theorem retire_ready (s : State) (i : Tender) : (s.retire i).ready = s.ready := rfl
@[simp] theorem retire_out (s : State) (i : Tender) : (s.retire i).out = s.out := rfl
@[simp] theorem retire_draws (s : State) (i : Tender) : (s.retire i).draws = s.draws := rfl
@[simp] theorem retire_pending (s : State) (i : Tender) : (s.retire i).pending = s.pending := rfl
@[simp] theorem retire_reg_read (s : State) (i : Tender) (oo : Nat) : (s.retire i).reg oo = s.reg oo := rfl
@[simp] theorem retire_f_read (s : State) (i : Tender) (y : Fld) (jj : Nat) : (s.retire i).f y jj = s.f y jj := rfl
@[simp] theorem retire_fb_read (s : State) (i : Tender) (y : Fld) (jj : Nat) : (s.retire i).fb y jj = s.fb y jj := rfl
@[simp] theorem retire_control_read (s : State) (i : Tender)  : (s.retire i).control  = s.control  := rfl
@[simp] theorem retire_emergency_read (s : State) (i : Tender)  : (s.retire i).emergency  = s.emergency  := rfl
@[simp] theorem retire_following_read (s : State) (i : Tender)  : (s.retire i).following  = s.following  := rfl
@[simp] theorem retire_portUp_read (s : State) (i : Tender)  : (s.retire i).portUp  = s.portUp  := rfl
@[simp] theorem retire_rdByte_read (s : State) (i : Tender) (oo : Nat) : (s.retire i).rdByte oo = s.rdByte oo := rfl
@[simp] theorem retire_logNext_read (s : State) (i : Tender)  : (s.retire i).logNext  = s.logNext  := rfl
@[simp] theorem retire_mo_read (s : State) (i : Tender) (kk : Slot) : (s.retire i).mo kk = s.mo kk := rfl
@[simp] theorem retire_port_read (s : State) (i : Tender) (kk : Slot) : (s.retire i).port kk = s.port kk := rfl
@[simp] theorem retire_ses_read (s : State) (i : Tender) (kk : Sess) : (s.retire i).ses kk = s.ses kk := rfl
@[simp] theorem retire_dch_read (s : State) (i : Tender) (kk : Fin 32) : (s.retire i).dch kk = s.dch kk := rfl
@[simp] theorem retire_tile_read (s : State) (i : Tender) (kk : Fin 8) : (s.retire i).tile kk = s.tile kk := rfl
@[simp] theorem retire_led_read (s : State) (i : Tender) (kk : Slot) : (s.retire i).led kk = s.led kk := rfl
@[simp] theorem retire_trc_read (s : State) (i : Tender) (kk : Slot) : (s.retire i).trc kk = s.trc kk := rfl
@[simp] theorem retire_slotOf_read (s : State) (i : Tender) (kk : Slot) : (s.retire i).slotOf kk = s.slotOf kk := rfl
@[simp] theorem retire_blkState_read (s : State) (i : Tender) (kk : Slot) : (s.retire i).blkState kk = s.blkState kk := rfl
@[simp] theorem retire_linkUp_read (s : State) (i : Tender) (kk : Slot) : (s.retire i).linkUp kk = s.linkUp kk := rfl
@[simp] theorem retire_pclkTime_read (s : State) (i : Tender)  : (s.retire i).pclkTime  = s.pclkTime  := rfl

/-! #### retireTo -/

@[simp] theorem retireTo_beacon (s : State) (i : Tender) (a : BitVec 48) : (s.retireTo i a).beacon = s.beacon := rfl
@[simp] theorem retireTo_clk (s : State) (i : Tender) (a : BitVec 48) : (s.retireTo i a).clk = s.clk := rfl
@[simp] theorem retireTo_evt (s : State) (i : Tender) (a : BitVec 48) : (s.retireTo i a).evt = s.evt := rfl
@[simp] theorem retireTo_sets (s : State) (i : Tender) (a : BitVec 48) : (s.retireTo i a).sets = s.sets := rfl
@[simp] theorem retireTo_prog (s : State) (i : Tender) (a : BitVec 48) : (s.retireTo i a).prog = s.prog := rfl
@[simp] theorem retireTo_act (s : State) (i : Tender) (a : BitVec 48) : (s.retireTo i a).act = s.act := rfl
@[simp] theorem retireTo_log (s : State) (i : Tender) (a : BitVec 48) : (s.retireTo i a).log = s.log := rfl
@[simp] theorem retireTo_sec (s : State) (i : Tender) (a : BitVec 48) : (s.retireTo i a).sec = s.sec := rfl
@[simp] theorem retireTo_kcp (s : State) (i : Tender) (a : BitVec 48) : (s.retireTo i a).kcp = s.kcp := rfl
@[simp] theorem retireTo_par (s : State) (i : Tender) (a : BitVec 48) : (s.retireTo i a).par = s.par := rfl
@[simp] theorem retireTo_plb (s : State) (i : Tender) (a : BitVec 48) : (s.retireTo i a).plb = s.plb := rfl
@[simp] theorem retireTo_trs (s : State) (i : Tender) (a : BitVec 48) : (s.retireTo i a).trs = s.trs := rfl
@[simp] theorem retireTo_ldg (s : State) (i : Tender) (a : BitVec 48) : (s.retireTo i a).ldg = s.ldg := rfl
@[simp] theorem retireTo_trace (s : State) (i : Tender) (a : BitVec 48) : (s.retireTo i a).trace = s.trace := rfl
@[simp] theorem retireTo_mor (s : State) (i : Tender) (a : BitVec 48) : (s.retireTo i a).mor = s.mor := rfl
@[simp] theorem retireTo_occ (s : State) (i : Tender) (a : BitVec 48) : (s.retireTo i a).occ = s.occ := rfl
@[simp] theorem retireTo_bcn (s : State) (i : Tender) (a : BitVec 48) : (s.retireTo i a).bcn = s.bcn := rfl
@[simp] theorem retireTo_scf (s : State) (i : Tender) (a : BitVec 48) : (s.retireTo i a).scf = s.scf := rfl
@[simp] theorem retireTo_mc (s : State) (i : Tender) (a : BitVec 48) : (s.retireTo i a).mc = s.mc := rfl
@[simp] theorem retireTo_dma (s : State) (i : Tender) (a : BitVec 48) : (s.retireTo i a).dma = s.dma := rfl
@[simp] theorem retireTo_regs (s : State) (i : Tender) (a : BitVec 48) : (s.retireTo i a).regs = s.regs := rfl
@[simp] theorem retireTo_mem (s : State) (i : Tender) (a : BitVec 48) : (s.retireTo i a).mem = s.mem := rfl
@[simp] theorem retireTo_poison (s : State) (i : Tender) (a : BitVec 48) : (s.retireTo i a).poison = s.poison := rfl
@[simp] theorem retireTo_ready (s : State) (i : Tender) (a : BitVec 48) : (s.retireTo i a).ready = s.ready := rfl
@[simp] theorem retireTo_out (s : State) (i : Tender) (a : BitVec 48) : (s.retireTo i a).out = s.out := rfl
@[simp] theorem retireTo_draws (s : State) (i : Tender) (a : BitVec 48) : (s.retireTo i a).draws = s.draws := rfl
@[simp] theorem retireTo_pending (s : State) (i : Tender) (a : BitVec 48) : (s.retireTo i a).pending = s.pending := rfl
@[simp] theorem retireTo_reg_read (s : State) (i : Tender) (a : BitVec 48) (oo : Nat) : (s.retireTo i a).reg oo = s.reg oo := rfl
@[simp] theorem retireTo_f_read (s : State) (i : Tender) (a : BitVec 48) (y : Fld) (jj : Nat) : (s.retireTo i a).f y jj = s.f y jj := rfl
@[simp] theorem retireTo_fb_read (s : State) (i : Tender) (a : BitVec 48) (y : Fld) (jj : Nat) : (s.retireTo i a).fb y jj = s.fb y jj := rfl
@[simp] theorem retireTo_control_read (s : State) (i : Tender) (a : BitVec 48)  : (s.retireTo i a).control  = s.control  := rfl
@[simp] theorem retireTo_emergency_read (s : State) (i : Tender) (a : BitVec 48)  : (s.retireTo i a).emergency  = s.emergency  := rfl
@[simp] theorem retireTo_following_read (s : State) (i : Tender) (a : BitVec 48)  : (s.retireTo i a).following  = s.following  := rfl
@[simp] theorem retireTo_portUp_read (s : State) (i : Tender) (a : BitVec 48)  : (s.retireTo i a).portUp  = s.portUp  := rfl
@[simp] theorem retireTo_rdByte_read (s : State) (i : Tender) (a : BitVec 48) (oo : Nat) : (s.retireTo i a).rdByte oo = s.rdByte oo := rfl
@[simp] theorem retireTo_logNext_read (s : State) (i : Tender) (a : BitVec 48)  : (s.retireTo i a).logNext  = s.logNext  := rfl
@[simp] theorem retireTo_mo_read (s : State) (i : Tender) (a : BitVec 48) (kk : Slot) : (s.retireTo i a).mo kk = s.mo kk := rfl
@[simp] theorem retireTo_port_read (s : State) (i : Tender) (a : BitVec 48) (kk : Slot) : (s.retireTo i a).port kk = s.port kk := rfl
@[simp] theorem retireTo_ses_read (s : State) (i : Tender) (a : BitVec 48) (kk : Sess) : (s.retireTo i a).ses kk = s.ses kk := rfl
@[simp] theorem retireTo_dch_read (s : State) (i : Tender) (a : BitVec 48) (kk : Fin 32) : (s.retireTo i a).dch kk = s.dch kk := rfl
@[simp] theorem retireTo_tile_read (s : State) (i : Tender) (a : BitVec 48) (kk : Fin 8) : (s.retireTo i a).tile kk = s.tile kk := rfl
@[simp] theorem retireTo_led_read (s : State) (i : Tender) (a : BitVec 48) (kk : Slot) : (s.retireTo i a).led kk = s.led kk := rfl
@[simp] theorem retireTo_trc_read (s : State) (i : Tender) (a : BitVec 48) (kk : Slot) : (s.retireTo i a).trc kk = s.trc kk := rfl
@[simp] theorem retireTo_slotOf_read (s : State) (i : Tender) (a : BitVec 48) (kk : Slot) : (s.retireTo i a).slotOf kk = s.slotOf kk := rfl
@[simp] theorem retireTo_blkState_read (s : State) (i : Tender) (a : BitVec 48) (kk : Slot) : (s.retireTo i a).blkState kk = s.blkState kk := rfl
@[simp] theorem retireTo_linkUp_read (s : State) (i : Tender) (a : BitVec 48) (kk : Slot) : (s.retireTo i a).linkUp kk = s.linkUp kk := rfl
@[simp] theorem retireTo_pclkTime_read (s : State) (i : Tender) (a : BitVec 48)  : (s.retireTo i a).pclkTime  = s.pclkTime  := rfl

/-! #### send -/

@[simp] theorem send_beacon (s : State) (o : Out) : (s.send o).beacon = s.beacon := rfl
@[simp] theorem send_clk (s : State) (o : Out) : (s.send o).clk = s.clk := rfl
@[simp] theorem send_tnd (s : State) (o : Out) : (s.send o).tnd = s.tnd := rfl
@[simp] theorem send_evt (s : State) (o : Out) : (s.send o).evt = s.evt := rfl
@[simp] theorem send_sets (s : State) (o : Out) : (s.send o).sets = s.sets := rfl
@[simp] theorem send_prog (s : State) (o : Out) : (s.send o).prog = s.prog := rfl
@[simp] theorem send_act (s : State) (o : Out) : (s.send o).act = s.act := rfl
@[simp] theorem send_log (s : State) (o : Out) : (s.send o).log = s.log := rfl
@[simp] theorem send_sec (s : State) (o : Out) : (s.send o).sec = s.sec := rfl
@[simp] theorem send_kcp (s : State) (o : Out) : (s.send o).kcp = s.kcp := rfl
@[simp] theorem send_par (s : State) (o : Out) : (s.send o).par = s.par := rfl
@[simp] theorem send_plb (s : State) (o : Out) : (s.send o).plb = s.plb := rfl
@[simp] theorem send_trs (s : State) (o : Out) : (s.send o).trs = s.trs := rfl
@[simp] theorem send_ldg (s : State) (o : Out) : (s.send o).ldg = s.ldg := rfl
@[simp] theorem send_trace (s : State) (o : Out) : (s.send o).trace = s.trace := rfl
@[simp] theorem send_mor (s : State) (o : Out) : (s.send o).mor = s.mor := rfl
@[simp] theorem send_occ (s : State) (o : Out) : (s.send o).occ = s.occ := rfl
@[simp] theorem send_bcn (s : State) (o : Out) : (s.send o).bcn = s.bcn := rfl
@[simp] theorem send_scf (s : State) (o : Out) : (s.send o).scf = s.scf := rfl
@[simp] theorem send_mc (s : State) (o : Out) : (s.send o).mc = s.mc := rfl
@[simp] theorem send_dma (s : State) (o : Out) : (s.send o).dma = s.dma := rfl
@[simp] theorem send_regs (s : State) (o : Out) : (s.send o).regs = s.regs := rfl
@[simp] theorem send_mem (s : State) (o : Out) : (s.send o).mem = s.mem := rfl
@[simp] theorem send_poison (s : State) (o : Out) : (s.send o).poison = s.poison := rfl
@[simp] theorem send_ready (s : State) (o : Out) : (s.send o).ready = s.ready := rfl
@[simp] theorem send_draws (s : State) (o : Out) : (s.send o).draws = s.draws := rfl
@[simp] theorem send_pending (s : State) (o : Out) : (s.send o).pending = s.pending := rfl
@[simp] theorem send_t_read (s : State) (o : Out) (jj : Tender) : (s.send o).t jj = s.t jj := rfl
@[simp] theorem send_g_read (s : State) (o : Out) (jj : Tender) (q : Fin 32) : (s.send o).g jj q = s.g jj q := rfl
@[simp] theorem send_reg_read (s : State) (o : Out) (oo : Nat) : (s.send o).reg oo = s.reg oo := rfl
@[simp] theorem send_f_read (s : State) (o : Out) (y : Fld) (jj : Nat) : (s.send o).f y jj = s.f y jj := rfl
@[simp] theorem send_fb_read (s : State) (o : Out) (y : Fld) (jj : Nat) : (s.send o).fb y jj = s.fb y jj := rfl
@[simp] theorem send_control_read (s : State) (o : Out)  : (s.send o).control  = s.control  := rfl
@[simp] theorem send_emergency_read (s : State) (o : Out)  : (s.send o).emergency  = s.emergency  := rfl
@[simp] theorem send_following_read (s : State) (o : Out)  : (s.send o).following  = s.following  := rfl
@[simp] theorem send_portUp_read (s : State) (o : Out)  : (s.send o).portUp  = s.portUp  := rfl
@[simp] theorem send_rdByte_read (s : State) (o : Out) (oo : Nat) : (s.send o).rdByte oo = s.rdByte oo := rfl
@[simp] theorem send_logNext_read (s : State) (o : Out)  : (s.send o).logNext  = s.logNext  := rfl
@[simp] theorem send_mo_read (s : State) (o : Out) (kk : Slot) : (s.send o).mo kk = s.mo kk := rfl
@[simp] theorem send_port_read (s : State) (o : Out) (kk : Slot) : (s.send o).port kk = s.port kk := rfl
@[simp] theorem send_ses_read (s : State) (o : Out) (kk : Sess) : (s.send o).ses kk = s.ses kk := rfl
@[simp] theorem send_dch_read (s : State) (o : Out) (kk : Fin 32) : (s.send o).dch kk = s.dch kk := rfl
@[simp] theorem send_tile_read (s : State) (o : Out) (kk : Fin 8) : (s.send o).tile kk = s.tile kk := rfl
@[simp] theorem send_led_read (s : State) (o : Out) (kk : Slot) : (s.send o).led kk = s.led kk := rfl
@[simp] theorem send_trc_read (s : State) (o : Out) (kk : Slot) : (s.send o).trc kk = s.trc kk := rfl
@[simp] theorem send_slotOf_read (s : State) (o : Out) (kk : Slot) : (s.send o).slotOf kk = s.slotOf kk := rfl
@[simp] theorem send_blkState_read (s : State) (o : Out) (kk : Slot) : (s.send o).blkState kk = s.blkState kk := rfl
@[simp] theorem send_linkUp_read (s : State) (o : Out) (kk : Slot) : (s.send o).linkUp kk = s.linkUp kk := rfl
@[simp] theorem send_pclkTime_read (s : State) (o : Out)  : (s.send o).pclkTime  = s.pclkTime  := rfl

/-! #### release -/

@[simp] theorem release_beacon (s : State) (h : HeldStep) : (s.release h).beacon = s.beacon := rfl
@[simp] theorem release_clk (s : State) (h : HeldStep) : (s.release h).clk = s.clk := rfl
@[simp] theorem release_tnd (s : State) (h : HeldStep) : (s.release h).tnd = s.tnd := rfl
@[simp] theorem release_evt (s : State) (h : HeldStep) : (s.release h).evt = s.evt := rfl
@[simp] theorem release_sets (s : State) (h : HeldStep) : (s.release h).sets = s.sets := rfl
@[simp] theorem release_prog (s : State) (h : HeldStep) : (s.release h).prog = s.prog := rfl
@[simp] theorem release_act (s : State) (h : HeldStep) : (s.release h).act = s.act := rfl
@[simp] theorem release_log (s : State) (h : HeldStep) : (s.release h).log = s.log := rfl
@[simp] theorem release_sec (s : State) (h : HeldStep) : (s.release h).sec = s.sec := rfl
@[simp] theorem release_kcp (s : State) (h : HeldStep) : (s.release h).kcp = s.kcp := rfl
@[simp] theorem release_par (s : State) (h : HeldStep) : (s.release h).par = s.par := rfl
@[simp] theorem release_plb (s : State) (h : HeldStep) : (s.release h).plb = s.plb := rfl
@[simp] theorem release_trs (s : State) (h : HeldStep) : (s.release h).trs = s.trs := rfl
@[simp] theorem release_ldg (s : State) (h : HeldStep) : (s.release h).ldg = s.ldg := rfl
@[simp] theorem release_trace (s : State) (h : HeldStep) : (s.release h).trace = s.trace := rfl
@[simp] theorem release_mor (s : State) (h : HeldStep) : (s.release h).mor = s.mor := rfl
@[simp] theorem release_occ (s : State) (h : HeldStep) : (s.release h).occ = s.occ := rfl
@[simp] theorem release_bcn (s : State) (h : HeldStep) : (s.release h).bcn = s.bcn := rfl
@[simp] theorem release_scf (s : State) (h : HeldStep) : (s.release h).scf = s.scf := rfl
@[simp] theorem release_mc (s : State) (h : HeldStep) : (s.release h).mc = s.mc := rfl
@[simp] theorem release_dma (s : State) (h : HeldStep) : (s.release h).dma = s.dma := rfl
@[simp] theorem release_regs (s : State) (h : HeldStep) : (s.release h).regs = s.regs := rfl
@[simp] theorem release_mem (s : State) (h : HeldStep) : (s.release h).mem = s.mem := rfl
@[simp] theorem release_poison (s : State) (h : HeldStep) : (s.release h).poison = s.poison := rfl
@[simp] theorem release_out (s : State) (h : HeldStep) : (s.release h).out = s.out := rfl
@[simp] theorem release_draws (s : State) (h : HeldStep) : (s.release h).draws = s.draws := rfl
@[simp] theorem release_pending (s : State) (h : HeldStep) : (s.release h).pending = s.pending := rfl
@[simp] theorem release_t_read (s : State) (h : HeldStep) (jj : Tender) : (s.release h).t jj = s.t jj := rfl
@[simp] theorem release_g_read (s : State) (h : HeldStep) (jj : Tender) (q : Fin 32) : (s.release h).g jj q = s.g jj q := rfl
@[simp] theorem release_reg_read (s : State) (h : HeldStep) (oo : Nat) : (s.release h).reg oo = s.reg oo := rfl
@[simp] theorem release_f_read (s : State) (h : HeldStep) (y : Fld) (jj : Nat) : (s.release h).f y jj = s.f y jj := rfl
@[simp] theorem release_fb_read (s : State) (h : HeldStep) (y : Fld) (jj : Nat) : (s.release h).fb y jj = s.fb y jj := rfl
@[simp] theorem release_control_read (s : State) (h : HeldStep)  : (s.release h).control  = s.control  := rfl
@[simp] theorem release_emergency_read (s : State) (h : HeldStep)  : (s.release h).emergency  = s.emergency  := rfl
@[simp] theorem release_following_read (s : State) (h : HeldStep)  : (s.release h).following  = s.following  := rfl
@[simp] theorem release_portUp_read (s : State) (h : HeldStep)  : (s.release h).portUp  = s.portUp  := rfl
@[simp] theorem release_rdByte_read (s : State) (h : HeldStep) (oo : Nat) : (s.release h).rdByte oo = s.rdByte oo := rfl
@[simp] theorem release_logNext_read (s : State) (h : HeldStep)  : (s.release h).logNext  = s.logNext  := rfl
@[simp] theorem release_mo_read (s : State) (h : HeldStep) (kk : Slot) : (s.release h).mo kk = s.mo kk := rfl
@[simp] theorem release_port_read (s : State) (h : HeldStep) (kk : Slot) : (s.release h).port kk = s.port kk := rfl
@[simp] theorem release_ses_read (s : State) (h : HeldStep) (kk : Sess) : (s.release h).ses kk = s.ses kk := rfl
@[simp] theorem release_dch_read (s : State) (h : HeldStep) (kk : Fin 32) : (s.release h).dch kk = s.dch kk := rfl
@[simp] theorem release_tile_read (s : State) (h : HeldStep) (kk : Fin 8) : (s.release h).tile kk = s.tile kk := rfl
@[simp] theorem release_led_read (s : State) (h : HeldStep) (kk : Slot) : (s.release h).led kk = s.led kk := rfl
@[simp] theorem release_trc_read (s : State) (h : HeldStep) (kk : Slot) : (s.release h).trc kk = s.trc kk := rfl
@[simp] theorem release_slotOf_read (s : State) (h : HeldStep) (kk : Slot) : (s.release h).slotOf kk = s.slotOf kk := rfl
@[simp] theorem release_blkState_read (s : State) (h : HeldStep) (kk : Slot) : (s.release h).blkState kk = s.blkState kk := rfl
@[simp] theorem release_linkUp_read (s : State) (h : HeldStep) (kk : Slot) : (s.release h).linkUp kk = s.linkUp kk := rfl
@[simp] theorem release_pclkTime_read (s : State) (h : HeldStep)  : (s.release h).pclkTime  = s.pclkTime  := rfl

/-! #### launch -/

@[simp] theorem launch_beacon (s : State) (i : Tender) (e : EvEntry) : (s.launch i e).beacon = s.beacon := rfl
@[simp] theorem launch_clk (s : State) (i : Tender) (e : EvEntry) : (s.launch i e).clk = s.clk := rfl
@[simp] theorem launch_tnd (s : State) (i : Tender) (e : EvEntry) : (s.launch i e).tnd = s.tnd := rfl
@[simp] theorem launch_sets (s : State) (i : Tender) (e : EvEntry) : (s.launch i e).sets = s.sets := rfl
@[simp] theorem launch_prog (s : State) (i : Tender) (e : EvEntry) : (s.launch i e).prog = s.prog := rfl
@[simp] theorem launch_act (s : State) (i : Tender) (e : EvEntry) : (s.launch i e).act = s.act := rfl
@[simp] theorem launch_log (s : State) (i : Tender) (e : EvEntry) : (s.launch i e).log = s.log := rfl
@[simp] theorem launch_sec (s : State) (i : Tender) (e : EvEntry) : (s.launch i e).sec = s.sec := rfl
@[simp] theorem launch_kcp (s : State) (i : Tender) (e : EvEntry) : (s.launch i e).kcp = s.kcp := rfl
@[simp] theorem launch_par (s : State) (i : Tender) (e : EvEntry) : (s.launch i e).par = s.par := rfl
@[simp] theorem launch_plb (s : State) (i : Tender) (e : EvEntry) : (s.launch i e).plb = s.plb := rfl
@[simp] theorem launch_trs (s : State) (i : Tender) (e : EvEntry) : (s.launch i e).trs = s.trs := rfl
@[simp] theorem launch_ldg (s : State) (i : Tender) (e : EvEntry) : (s.launch i e).ldg = s.ldg := rfl
@[simp] theorem launch_trace (s : State) (i : Tender) (e : EvEntry) : (s.launch i e).trace = s.trace := rfl
@[simp] theorem launch_mor (s : State) (i : Tender) (e : EvEntry) : (s.launch i e).mor = s.mor := rfl
@[simp] theorem launch_occ (s : State) (i : Tender) (e : EvEntry) : (s.launch i e).occ = s.occ := rfl
@[simp] theorem launch_bcn (s : State) (i : Tender) (e : EvEntry) : (s.launch i e).bcn = s.bcn := rfl
@[simp] theorem launch_scf (s : State) (i : Tender) (e : EvEntry) : (s.launch i e).scf = s.scf := rfl
@[simp] theorem launch_mc (s : State) (i : Tender) (e : EvEntry) : (s.launch i e).mc = s.mc := rfl
@[simp] theorem launch_dma (s : State) (i : Tender) (e : EvEntry) : (s.launch i e).dma = s.dma := rfl
@[simp] theorem launch_regs (s : State) (i : Tender) (e : EvEntry) : (s.launch i e).regs = s.regs := rfl
@[simp] theorem launch_mem (s : State) (i : Tender) (e : EvEntry) : (s.launch i e).mem = s.mem := rfl
@[simp] theorem launch_poison (s : State) (i : Tender) (e : EvEntry) : (s.launch i e).poison = s.poison := rfl
@[simp] theorem launch_ready (s : State) (i : Tender) (e : EvEntry) : (s.launch i e).ready = s.ready := rfl
@[simp] theorem launch_out (s : State) (i : Tender) (e : EvEntry) : (s.launch i e).out = s.out := rfl
@[simp] theorem launch_draws (s : State) (i : Tender) (e : EvEntry) : (s.launch i e).draws = s.draws := rfl
@[simp] theorem launch_pending (s : State) (i : Tender) (e : EvEntry) : (s.launch i e).pending = s.pending := rfl
@[simp] theorem launch_t_read (s : State) (i : Tender) (e : EvEntry) (jj : Tender) : (s.launch i e).t jj = s.t jj := rfl
@[simp] theorem launch_g_read (s : State) (i : Tender) (e : EvEntry) (jj : Tender) (q : Fin 32) : (s.launch i e).g jj q = s.g jj q := rfl
@[simp] theorem launch_reg_read (s : State) (i : Tender) (e : EvEntry) (oo : Nat) : (s.launch i e).reg oo = s.reg oo := rfl
@[simp] theorem launch_f_read (s : State) (i : Tender) (e : EvEntry) (y : Fld) (jj : Nat) : (s.launch i e).f y jj = s.f y jj := rfl
@[simp] theorem launch_fb_read (s : State) (i : Tender) (e : EvEntry) (y : Fld) (jj : Nat) : (s.launch i e).fb y jj = s.fb y jj := rfl
@[simp] theorem launch_control_read (s : State) (i : Tender) (e : EvEntry)  : (s.launch i e).control  = s.control  := rfl
@[simp] theorem launch_emergency_read (s : State) (i : Tender) (e : EvEntry)  : (s.launch i e).emergency  = s.emergency  := rfl
@[simp] theorem launch_following_read (s : State) (i : Tender) (e : EvEntry)  : (s.launch i e).following  = s.following  := rfl
@[simp] theorem launch_portUp_read (s : State) (i : Tender) (e : EvEntry)  : (s.launch i e).portUp  = s.portUp  := rfl
@[simp] theorem launch_rdByte_read (s : State) (i : Tender) (e : EvEntry) (oo : Nat) : (s.launch i e).rdByte oo = s.rdByte oo := rfl
@[simp] theorem launch_logNext_read (s : State) (i : Tender) (e : EvEntry)  : (s.launch i e).logNext  = s.logNext  := rfl
@[simp] theorem launch_mo_read (s : State) (i : Tender) (e : EvEntry) (kk : Slot) : (s.launch i e).mo kk = s.mo kk := rfl
@[simp] theorem launch_port_read (s : State) (i : Tender) (e : EvEntry) (kk : Slot) : (s.launch i e).port kk = s.port kk := rfl
@[simp] theorem launch_ses_read (s : State) (i : Tender) (e : EvEntry) (kk : Sess) : (s.launch i e).ses kk = s.ses kk := rfl
@[simp] theorem launch_dch_read (s : State) (i : Tender) (e : EvEntry) (kk : Fin 32) : (s.launch i e).dch kk = s.dch kk := rfl
@[simp] theorem launch_tile_read (s : State) (i : Tender) (e : EvEntry) (kk : Fin 8) : (s.launch i e).tile kk = s.tile kk := rfl
@[simp] theorem launch_led_read (s : State) (i : Tender) (e : EvEntry) (kk : Slot) : (s.launch i e).led kk = s.led kk := rfl
@[simp] theorem launch_trc_read (s : State) (i : Tender) (e : EvEntry) (kk : Slot) : (s.launch i e).trc kk = s.trc kk := rfl
@[simp] theorem launch_slotOf_read (s : State) (i : Tender) (e : EvEntry) (kk : Slot) : (s.launch i e).slotOf kk = s.slotOf kk := rfl
@[simp] theorem launch_blkState_read (s : State) (i : Tender) (e : EvEntry) (kk : Slot) : (s.launch i e).blkState kk = s.blkState kk := rfl
@[simp] theorem launch_linkUp_read (s : State) (i : Tender) (e : EvEntry) (kk : Slot) : (s.launch i e).linkUp kk = s.linkUp kk := rfl
@[simp] theorem launch_pclkTime_read (s : State) (i : Tender) (e : EvEntry)  : (s.launch i e).pclkTime  = s.pclkTime  := rfl

/-! #### note -/

@[simp] theorem note_beacon (s : State) (e : Nat) (w : Word) (l : List Word) : (s.note e w l).beacon = s.beacon := rfl
@[simp] theorem note_clk (s : State) (e : Nat) (w : Word) (l : List Word) : (s.note e w l).clk = s.clk := rfl
@[simp] theorem note_tnd (s : State) (e : Nat) (w : Word) (l : List Word) : (s.note e w l).tnd = s.tnd := rfl
@[simp] theorem note_evt (s : State) (e : Nat) (w : Word) (l : List Word) : (s.note e w l).evt = s.evt := rfl
@[simp] theorem note_sets (s : State) (e : Nat) (w : Word) (l : List Word) : (s.note e w l).sets = s.sets := rfl
@[simp] theorem note_prog (s : State) (e : Nat) (w : Word) (l : List Word) : (s.note e w l).prog = s.prog := rfl
@[simp] theorem note_act (s : State) (e : Nat) (w : Word) (l : List Word) : (s.note e w l).act = s.act := rfl
@[simp] theorem note_sec (s : State) (e : Nat) (w : Word) (l : List Word) : (s.note e w l).sec = s.sec := rfl
@[simp] theorem note_kcp (s : State) (e : Nat) (w : Word) (l : List Word) : (s.note e w l).kcp = s.kcp := rfl
@[simp] theorem note_par (s : State) (e : Nat) (w : Word) (l : List Word) : (s.note e w l).par = s.par := rfl
@[simp] theorem note_plb (s : State) (e : Nat) (w : Word) (l : List Word) : (s.note e w l).plb = s.plb := rfl
@[simp] theorem note_trs (s : State) (e : Nat) (w : Word) (l : List Word) : (s.note e w l).trs = s.trs := rfl
@[simp] theorem note_ldg (s : State) (e : Nat) (w : Word) (l : List Word) : (s.note e w l).ldg = s.ldg := rfl
@[simp] theorem note_trace (s : State) (e : Nat) (w : Word) (l : List Word) : (s.note e w l).trace = s.trace := rfl
@[simp] theorem note_mor (s : State) (e : Nat) (w : Word) (l : List Word) : (s.note e w l).mor = s.mor := rfl
@[simp] theorem note_occ (s : State) (e : Nat) (w : Word) (l : List Word) : (s.note e w l).occ = s.occ := rfl
@[simp] theorem note_bcn (s : State) (e : Nat) (w : Word) (l : List Word) : (s.note e w l).bcn = s.bcn := rfl
@[simp] theorem note_scf (s : State) (e : Nat) (w : Word) (l : List Word) : (s.note e w l).scf = s.scf := rfl
@[simp] theorem note_mc (s : State) (e : Nat) (w : Word) (l : List Word) : (s.note e w l).mc = s.mc := rfl
@[simp] theorem note_dma (s : State) (e : Nat) (w : Word) (l : List Word) : (s.note e w l).dma = s.dma := rfl
@[simp] theorem note_regs (s : State) (e : Nat) (w : Word) (l : List Word) : (s.note e w l).regs = s.regs := rfl
@[simp] theorem note_mem (s : State) (e : Nat) (w : Word) (l : List Word) : (s.note e w l).mem = s.mem := rfl
@[simp] theorem note_poison (s : State) (e : Nat) (w : Word) (l : List Word) : (s.note e w l).poison = s.poison := rfl
@[simp] theorem note_ready (s : State) (e : Nat) (w : Word) (l : List Word) : (s.note e w l).ready = s.ready := rfl
@[simp] theorem note_out (s : State) (e : Nat) (w : Word) (l : List Word) : (s.note e w l).out = s.out := rfl
@[simp] theorem note_draws (s : State) (e : Nat) (w : Word) (l : List Word) : (s.note e w l).draws = s.draws := rfl
@[simp] theorem note_pending (s : State) (e : Nat) (w : Word) (l : List Word) : (s.note e w l).pending = s.pending := rfl
@[simp] theorem note_t_read (s : State) (e : Nat) (w : Word) (l : List Word) (jj : Tender) : (s.note e w l).t jj = s.t jj := rfl
@[simp] theorem note_g_read (s : State) (e : Nat) (w : Word) (l : List Word) (jj : Tender) (q : Fin 32) : (s.note e w l).g jj q = s.g jj q := rfl
@[simp] theorem note_reg_read (s : State) (e : Nat) (w : Word) (l : List Word) (oo : Nat) : (s.note e w l).reg oo = s.reg oo := rfl
@[simp] theorem note_f_read (s : State) (e : Nat) (w : Word) (l : List Word) (y : Fld) (jj : Nat) : (s.note e w l).f y jj = s.f y jj := rfl
@[simp] theorem note_fb_read (s : State) (e : Nat) (w : Word) (l : List Word) (y : Fld) (jj : Nat) : (s.note e w l).fb y jj = s.fb y jj := rfl
@[simp] theorem note_control_read (s : State) (e : Nat) (w : Word) (l : List Word)  : (s.note e w l).control  = s.control  := rfl
@[simp] theorem note_emergency_read (s : State) (e : Nat) (w : Word) (l : List Word)  : (s.note e w l).emergency  = s.emergency  := rfl
@[simp] theorem note_following_read (s : State) (e : Nat) (w : Word) (l : List Word)  : (s.note e w l).following  = s.following  := rfl
@[simp] theorem note_portUp_read (s : State) (e : Nat) (w : Word) (l : List Word)  : (s.note e w l).portUp  = s.portUp  := rfl
@[simp] theorem note_rdByte_read (s : State) (e : Nat) (w : Word) (l : List Word) (oo : Nat) : (s.note e w l).rdByte oo = s.rdByte oo := rfl
@[simp] theorem note_logNext_read (s : State) (e : Nat) (w : Word) (l : List Word)  : (s.note e w l).logNext  = s.logNext  := rfl
@[simp] theorem note_mo_read (s : State) (e : Nat) (w : Word) (l : List Word) (kk : Slot) : (s.note e w l).mo kk = s.mo kk := rfl
@[simp] theorem note_port_read (s : State) (e : Nat) (w : Word) (l : List Word) (kk : Slot) : (s.note e w l).port kk = s.port kk := rfl
@[simp] theorem note_ses_read (s : State) (e : Nat) (w : Word) (l : List Word) (kk : Sess) : (s.note e w l).ses kk = s.ses kk := rfl
@[simp] theorem note_dch_read (s : State) (e : Nat) (w : Word) (l : List Word) (kk : Fin 32) : (s.note e w l).dch kk = s.dch kk := rfl
@[simp] theorem note_tile_read (s : State) (e : Nat) (w : Word) (l : List Word) (kk : Fin 8) : (s.note e w l).tile kk = s.tile kk := rfl
@[simp] theorem note_led_read (s : State) (e : Nat) (w : Word) (l : List Word) (kk : Slot) : (s.note e w l).led kk = s.led kk := rfl
@[simp] theorem note_trc_read (s : State) (e : Nat) (w : Word) (l : List Word) (kk : Slot) : (s.note e w l).trc kk = s.trc kk := rfl
@[simp] theorem note_slotOf_read (s : State) (e : Nat) (w : Word) (l : List Word) (kk : Slot) : (s.note e w l).slotOf kk = s.slotOf kk := rfl
@[simp] theorem note_blkState_read (s : State) (e : Nat) (w : Word) (l : List Word) (kk : Slot) : (s.note e w l).blkState kk = s.blkState kk := rfl
@[simp] theorem note_linkUp_read (s : State) (e : Nat) (w : Word) (l : List Word) (kk : Slot) : (s.note e w l).linkUp kk = s.linkUp kk := rfl
@[simp] theorem note_pclkTime_read (s : State) (e : Nat) (w : Word) (l : List Word)  : (s.note e w l).pclkTime  = s.pclkTime  := rfl

/-! #### updMo -/

@[simp] theorem updMo_beacon (s : State) (n : Slot) (h : MorSlot → MorSlot) : (s.updMo n h).beacon = s.beacon := rfl
@[simp] theorem updMo_clk (s : State) (n : Slot) (h : MorSlot → MorSlot) : (s.updMo n h).clk = s.clk := rfl
@[simp] theorem updMo_tnd (s : State) (n : Slot) (h : MorSlot → MorSlot) : (s.updMo n h).tnd = s.tnd := rfl
@[simp] theorem updMo_evt (s : State) (n : Slot) (h : MorSlot → MorSlot) : (s.updMo n h).evt = s.evt := rfl
@[simp] theorem updMo_sets (s : State) (n : Slot) (h : MorSlot → MorSlot) : (s.updMo n h).sets = s.sets := rfl
@[simp] theorem updMo_prog (s : State) (n : Slot) (h : MorSlot → MorSlot) : (s.updMo n h).prog = s.prog := rfl
@[simp] theorem updMo_act (s : State) (n : Slot) (h : MorSlot → MorSlot) : (s.updMo n h).act = s.act := rfl
@[simp] theorem updMo_log (s : State) (n : Slot) (h : MorSlot → MorSlot) : (s.updMo n h).log = s.log := rfl
@[simp] theorem updMo_sec (s : State) (n : Slot) (h : MorSlot → MorSlot) : (s.updMo n h).sec = s.sec := rfl
@[simp] theorem updMo_kcp (s : State) (n : Slot) (h : MorSlot → MorSlot) : (s.updMo n h).kcp = s.kcp := rfl
@[simp] theorem updMo_par (s : State) (n : Slot) (h : MorSlot → MorSlot) : (s.updMo n h).par = s.par := rfl
@[simp] theorem updMo_plb (s : State) (n : Slot) (h : MorSlot → MorSlot) : (s.updMo n h).plb = s.plb := rfl
@[simp] theorem updMo_trs (s : State) (n : Slot) (h : MorSlot → MorSlot) : (s.updMo n h).trs = s.trs := rfl
@[simp] theorem updMo_ldg (s : State) (n : Slot) (h : MorSlot → MorSlot) : (s.updMo n h).ldg = s.ldg := rfl
@[simp] theorem updMo_trace (s : State) (n : Slot) (h : MorSlot → MorSlot) : (s.updMo n h).trace = s.trace := rfl
@[simp] theorem updMo_occ (s : State) (n : Slot) (h : MorSlot → MorSlot) : (s.updMo n h).occ = s.occ := rfl
@[simp] theorem updMo_bcn (s : State) (n : Slot) (h : MorSlot → MorSlot) : (s.updMo n h).bcn = s.bcn := rfl
@[simp] theorem updMo_scf (s : State) (n : Slot) (h : MorSlot → MorSlot) : (s.updMo n h).scf = s.scf := rfl
@[simp] theorem updMo_mc (s : State) (n : Slot) (h : MorSlot → MorSlot) : (s.updMo n h).mc = s.mc := rfl
@[simp] theorem updMo_dma (s : State) (n : Slot) (h : MorSlot → MorSlot) : (s.updMo n h).dma = s.dma := rfl
@[simp] theorem updMo_regs (s : State) (n : Slot) (h : MorSlot → MorSlot) : (s.updMo n h).regs = s.regs := rfl
@[simp] theorem updMo_mem (s : State) (n : Slot) (h : MorSlot → MorSlot) : (s.updMo n h).mem = s.mem := rfl
@[simp] theorem updMo_poison (s : State) (n : Slot) (h : MorSlot → MorSlot) : (s.updMo n h).poison = s.poison := rfl
@[simp] theorem updMo_ready (s : State) (n : Slot) (h : MorSlot → MorSlot) : (s.updMo n h).ready = s.ready := rfl
@[simp] theorem updMo_out (s : State) (n : Slot) (h : MorSlot → MorSlot) : (s.updMo n h).out = s.out := rfl
@[simp] theorem updMo_draws (s : State) (n : Slot) (h : MorSlot → MorSlot) : (s.updMo n h).draws = s.draws := rfl
@[simp] theorem updMo_pending (s : State) (n : Slot) (h : MorSlot → MorSlot) : (s.updMo n h).pending = s.pending := rfl
@[simp] theorem updMo_t_read (s : State) (n : Slot) (h : MorSlot → MorSlot) (jj : Tender) : (s.updMo n h).t jj = s.t jj := rfl
@[simp] theorem updMo_g_read (s : State) (n : Slot) (h : MorSlot → MorSlot) (jj : Tender) (q : Fin 32) : (s.updMo n h).g jj q = s.g jj q := rfl
@[simp] theorem updMo_reg_read (s : State) (n : Slot) (h : MorSlot → MorSlot) (oo : Nat) : (s.updMo n h).reg oo = s.reg oo := rfl
@[simp] theorem updMo_f_read (s : State) (n : Slot) (h : MorSlot → MorSlot) (y : Fld) (jj : Nat) : (s.updMo n h).f y jj = s.f y jj := rfl
@[simp] theorem updMo_fb_read (s : State) (n : Slot) (h : MorSlot → MorSlot) (y : Fld) (jj : Nat) : (s.updMo n h).fb y jj = s.fb y jj := rfl
@[simp] theorem updMo_control_read (s : State) (n : Slot) (h : MorSlot → MorSlot)  : (s.updMo n h).control  = s.control  := rfl
@[simp] theorem updMo_emergency_read (s : State) (n : Slot) (h : MorSlot → MorSlot)  : (s.updMo n h).emergency  = s.emergency  := rfl
@[simp] theorem updMo_following_read (s : State) (n : Slot) (h : MorSlot → MorSlot)  : (s.updMo n h).following  = s.following  := rfl
@[simp] theorem updMo_portUp_read (s : State) (n : Slot) (h : MorSlot → MorSlot)  : (s.updMo n h).portUp  = s.portUp  := rfl
@[simp] theorem updMo_rdByte_read (s : State) (n : Slot) (h : MorSlot → MorSlot) (oo : Nat) : (s.updMo n h).rdByte oo = s.rdByte oo := rfl
@[simp] theorem updMo_logNext_read (s : State) (n : Slot) (h : MorSlot → MorSlot)  : (s.updMo n h).logNext  = s.logNext  := rfl
@[simp] theorem updMo_ses_read (s : State) (n : Slot) (h : MorSlot → MorSlot) (kk : Sess) : (s.updMo n h).ses kk = s.ses kk := rfl
@[simp] theorem updMo_dch_read (s : State) (n : Slot) (h : MorSlot → MorSlot) (kk : Fin 32) : (s.updMo n h).dch kk = s.dch kk := rfl
@[simp] theorem updMo_tile_read (s : State) (n : Slot) (h : MorSlot → MorSlot) (kk : Fin 8) : (s.updMo n h).tile kk = s.tile kk := rfl
@[simp] theorem updMo_led_read (s : State) (n : Slot) (h : MorSlot → MorSlot) (kk : Slot) : (s.updMo n h).led kk = s.led kk := rfl
@[simp] theorem updMo_trc_read (s : State) (n : Slot) (h : MorSlot → MorSlot) (kk : Slot) : (s.updMo n h).trc kk = s.trc kk := rfl
@[simp] theorem updMo_slotOf_read (s : State) (n : Slot) (h : MorSlot → MorSlot) (kk : Slot) : (s.updMo n h).slotOf kk = s.slotOf kk := rfl
@[simp] theorem updMo_blkState_read (s : State) (n : Slot) (h : MorSlot → MorSlot) (kk : Slot) : (s.updMo n h).blkState kk = s.blkState kk := rfl
@[simp] theorem updMo_linkUp_read (s : State) (n : Slot) (h : MorSlot → MorSlot) (kk : Slot) : (s.updMo n h).linkUp kk = s.linkUp kk := rfl
@[simp] theorem updMo_pclkTime_read (s : State) (n : Slot) (h : MorSlot → MorSlot)  : (s.updMo n h).pclkTime  = s.pclkTime  := rfl

/-! #### updPort -/

@[simp] theorem updPort_beacon (s : State) (n : Slot) (h : LinkSt → LinkSt) : (s.updPort n h).beacon = s.beacon := rfl
@[simp] theorem updPort_clk (s : State) (n : Slot) (h : LinkSt → LinkSt) : (s.updPort n h).clk = s.clk := rfl
@[simp] theorem updPort_tnd (s : State) (n : Slot) (h : LinkSt → LinkSt) : (s.updPort n h).tnd = s.tnd := rfl
@[simp] theorem updPort_evt (s : State) (n : Slot) (h : LinkSt → LinkSt) : (s.updPort n h).evt = s.evt := rfl
@[simp] theorem updPort_sets (s : State) (n : Slot) (h : LinkSt → LinkSt) : (s.updPort n h).sets = s.sets := rfl
@[simp] theorem updPort_prog (s : State) (n : Slot) (h : LinkSt → LinkSt) : (s.updPort n h).prog = s.prog := rfl
@[simp] theorem updPort_act (s : State) (n : Slot) (h : LinkSt → LinkSt) : (s.updPort n h).act = s.act := rfl
@[simp] theorem updPort_log (s : State) (n : Slot) (h : LinkSt → LinkSt) : (s.updPort n h).log = s.log := rfl
@[simp] theorem updPort_sec (s : State) (n : Slot) (h : LinkSt → LinkSt) : (s.updPort n h).sec = s.sec := rfl
@[simp] theorem updPort_kcp (s : State) (n : Slot) (h : LinkSt → LinkSt) : (s.updPort n h).kcp = s.kcp := rfl
@[simp] theorem updPort_par (s : State) (n : Slot) (h : LinkSt → LinkSt) : (s.updPort n h).par = s.par := rfl
@[simp] theorem updPort_plb (s : State) (n : Slot) (h : LinkSt → LinkSt) : (s.updPort n h).plb = s.plb := rfl
@[simp] theorem updPort_trs (s : State) (n : Slot) (h : LinkSt → LinkSt) : (s.updPort n h).trs = s.trs := rfl
@[simp] theorem updPort_ldg (s : State) (n : Slot) (h : LinkSt → LinkSt) : (s.updPort n h).ldg = s.ldg := rfl
@[simp] theorem updPort_trace (s : State) (n : Slot) (h : LinkSt → LinkSt) : (s.updPort n h).trace = s.trace := rfl
@[simp] theorem updPort_occ (s : State) (n : Slot) (h : LinkSt → LinkSt) : (s.updPort n h).occ = s.occ := rfl
@[simp] theorem updPort_bcn (s : State) (n : Slot) (h : LinkSt → LinkSt) : (s.updPort n h).bcn = s.bcn := rfl
@[simp] theorem updPort_scf (s : State) (n : Slot) (h : LinkSt → LinkSt) : (s.updPort n h).scf = s.scf := rfl
@[simp] theorem updPort_mc (s : State) (n : Slot) (h : LinkSt → LinkSt) : (s.updPort n h).mc = s.mc := rfl
@[simp] theorem updPort_dma (s : State) (n : Slot) (h : LinkSt → LinkSt) : (s.updPort n h).dma = s.dma := rfl
@[simp] theorem updPort_regs (s : State) (n : Slot) (h : LinkSt → LinkSt) : (s.updPort n h).regs = s.regs := rfl
@[simp] theorem updPort_mem (s : State) (n : Slot) (h : LinkSt → LinkSt) : (s.updPort n h).mem = s.mem := rfl
@[simp] theorem updPort_poison (s : State) (n : Slot) (h : LinkSt → LinkSt) : (s.updPort n h).poison = s.poison := rfl
@[simp] theorem updPort_ready (s : State) (n : Slot) (h : LinkSt → LinkSt) : (s.updPort n h).ready = s.ready := rfl
@[simp] theorem updPort_out (s : State) (n : Slot) (h : LinkSt → LinkSt) : (s.updPort n h).out = s.out := rfl
@[simp] theorem updPort_draws (s : State) (n : Slot) (h : LinkSt → LinkSt) : (s.updPort n h).draws = s.draws := rfl
@[simp] theorem updPort_pending (s : State) (n : Slot) (h : LinkSt → LinkSt) : (s.updPort n h).pending = s.pending := rfl
@[simp] theorem updPort_t_read (s : State) (n : Slot) (h : LinkSt → LinkSt) (jj : Tender) : (s.updPort n h).t jj = s.t jj := rfl
@[simp] theorem updPort_g_read (s : State) (n : Slot) (h : LinkSt → LinkSt) (jj : Tender) (q : Fin 32) : (s.updPort n h).g jj q = s.g jj q := rfl
@[simp] theorem updPort_reg_read (s : State) (n : Slot) (h : LinkSt → LinkSt) (oo : Nat) : (s.updPort n h).reg oo = s.reg oo := rfl
@[simp] theorem updPort_f_read (s : State) (n : Slot) (h : LinkSt → LinkSt) (y : Fld) (jj : Nat) : (s.updPort n h).f y jj = s.f y jj := rfl
@[simp] theorem updPort_fb_read (s : State) (n : Slot) (h : LinkSt → LinkSt) (y : Fld) (jj : Nat) : (s.updPort n h).fb y jj = s.fb y jj := rfl
@[simp] theorem updPort_control_read (s : State) (n : Slot) (h : LinkSt → LinkSt)  : (s.updPort n h).control  = s.control  := rfl
@[simp] theorem updPort_emergency_read (s : State) (n : Slot) (h : LinkSt → LinkSt)  : (s.updPort n h).emergency  = s.emergency  := rfl
@[simp] theorem updPort_following_read (s : State) (n : Slot) (h : LinkSt → LinkSt)  : (s.updPort n h).following  = s.following  := rfl
@[simp] theorem updPort_portUp_read (s : State) (n : Slot) (h : LinkSt → LinkSt)  : (s.updPort n h).portUp  = s.portUp  := rfl
@[simp] theorem updPort_rdByte_read (s : State) (n : Slot) (h : LinkSt → LinkSt) (oo : Nat) : (s.updPort n h).rdByte oo = s.rdByte oo := rfl
@[simp] theorem updPort_logNext_read (s : State) (n : Slot) (h : LinkSt → LinkSt)  : (s.updPort n h).logNext  = s.logNext  := rfl
@[simp] theorem updPort_ses_read (s : State) (n : Slot) (h : LinkSt → LinkSt) (kk : Sess) : (s.updPort n h).ses kk = s.ses kk := rfl
@[simp] theorem updPort_dch_read (s : State) (n : Slot) (h : LinkSt → LinkSt) (kk : Fin 32) : (s.updPort n h).dch kk = s.dch kk := rfl
@[simp] theorem updPort_tile_read (s : State) (n : Slot) (h : LinkSt → LinkSt) (kk : Fin 8) : (s.updPort n h).tile kk = s.tile kk := rfl
@[simp] theorem updPort_led_read (s : State) (n : Slot) (h : LinkSt → LinkSt) (kk : Slot) : (s.updPort n h).led kk = s.led kk := rfl
@[simp] theorem updPort_trc_read (s : State) (n : Slot) (h : LinkSt → LinkSt) (kk : Slot) : (s.updPort n h).trc kk = s.trc kk := rfl
@[simp] theorem updPort_slotOf_read (s : State) (n : Slot) (h : LinkSt → LinkSt) (kk : Slot) : (s.updPort n h).slotOf kk = s.slotOf kk := rfl
@[simp] theorem updPort_blkState_read (s : State) (n : Slot) (h : LinkSt → LinkSt) (kk : Slot) : (s.updPort n h).blkState kk = s.blkState kk := rfl
@[simp] theorem updPort_linkUp_read (s : State) (n : Slot) (h : LinkSt → LinkSt) (kk : Slot) : (s.updPort n h).linkUp kk = s.linkUp kk := rfl
@[simp] theorem updPort_pclkTime_read (s : State) (n : Slot) (h : LinkSt → LinkSt)  : (s.updPort n h).pclkTime  = s.pclkTime  := rfl

/-! #### updSes -/

@[simp] theorem updSes_beacon (s : State) (x : Sess) (h : Session → Session) : (s.updSes x h).beacon = s.beacon := rfl
@[simp] theorem updSes_clk (s : State) (x : Sess) (h : Session → Session) : (s.updSes x h).clk = s.clk := rfl
@[simp] theorem updSes_tnd (s : State) (x : Sess) (h : Session → Session) : (s.updSes x h).tnd = s.tnd := rfl
@[simp] theorem updSes_evt (s : State) (x : Sess) (h : Session → Session) : (s.updSes x h).evt = s.evt := rfl
@[simp] theorem updSes_sets (s : State) (x : Sess) (h : Session → Session) : (s.updSes x h).sets = s.sets := rfl
@[simp] theorem updSes_prog (s : State) (x : Sess) (h : Session → Session) : (s.updSes x h).prog = s.prog := rfl
@[simp] theorem updSes_act (s : State) (x : Sess) (h : Session → Session) : (s.updSes x h).act = s.act := rfl
@[simp] theorem updSes_log (s : State) (x : Sess) (h : Session → Session) : (s.updSes x h).log = s.log := rfl
@[simp] theorem updSes_sec (s : State) (x : Sess) (h : Session → Session) : (s.updSes x h).sec = s.sec := rfl
@[simp] theorem updSes_par (s : State) (x : Sess) (h : Session → Session) : (s.updSes x h).par = s.par := rfl
@[simp] theorem updSes_plb (s : State) (x : Sess) (h : Session → Session) : (s.updSes x h).plb = s.plb := rfl
@[simp] theorem updSes_trs (s : State) (x : Sess) (h : Session → Session) : (s.updSes x h).trs = s.trs := rfl
@[simp] theorem updSes_ldg (s : State) (x : Sess) (h : Session → Session) : (s.updSes x h).ldg = s.ldg := rfl
@[simp] theorem updSes_trace (s : State) (x : Sess) (h : Session → Session) : (s.updSes x h).trace = s.trace := rfl
@[simp] theorem updSes_mor (s : State) (x : Sess) (h : Session → Session) : (s.updSes x h).mor = s.mor := rfl
@[simp] theorem updSes_occ (s : State) (x : Sess) (h : Session → Session) : (s.updSes x h).occ = s.occ := rfl
@[simp] theorem updSes_bcn (s : State) (x : Sess) (h : Session → Session) : (s.updSes x h).bcn = s.bcn := rfl
@[simp] theorem updSes_scf (s : State) (x : Sess) (h : Session → Session) : (s.updSes x h).scf = s.scf := rfl
@[simp] theorem updSes_mc (s : State) (x : Sess) (h : Session → Session) : (s.updSes x h).mc = s.mc := rfl
@[simp] theorem updSes_dma (s : State) (x : Sess) (h : Session → Session) : (s.updSes x h).dma = s.dma := rfl
@[simp] theorem updSes_regs (s : State) (x : Sess) (h : Session → Session) : (s.updSes x h).regs = s.regs := rfl
@[simp] theorem updSes_mem (s : State) (x : Sess) (h : Session → Session) : (s.updSes x h).mem = s.mem := rfl
@[simp] theorem updSes_poison (s : State) (x : Sess) (h : Session → Session) : (s.updSes x h).poison = s.poison := rfl
@[simp] theorem updSes_ready (s : State) (x : Sess) (h : Session → Session) : (s.updSes x h).ready = s.ready := rfl
@[simp] theorem updSes_out (s : State) (x : Sess) (h : Session → Session) : (s.updSes x h).out = s.out := rfl
@[simp] theorem updSes_draws (s : State) (x : Sess) (h : Session → Session) : (s.updSes x h).draws = s.draws := rfl
@[simp] theorem updSes_pending (s : State) (x : Sess) (h : Session → Session) : (s.updSes x h).pending = s.pending := rfl
@[simp] theorem updSes_t_read (s : State) (x : Sess) (h : Session → Session) (jj : Tender) : (s.updSes x h).t jj = s.t jj := rfl
@[simp] theorem updSes_g_read (s : State) (x : Sess) (h : Session → Session) (jj : Tender) (q : Fin 32) : (s.updSes x h).g jj q = s.g jj q := rfl
@[simp] theorem updSes_reg_read (s : State) (x : Sess) (h : Session → Session) (oo : Nat) : (s.updSes x h).reg oo = s.reg oo := rfl
@[simp] theorem updSes_f_read (s : State) (x : Sess) (h : Session → Session) (y : Fld) (jj : Nat) : (s.updSes x h).f y jj = s.f y jj := rfl
@[simp] theorem updSes_fb_read (s : State) (x : Sess) (h : Session → Session) (y : Fld) (jj : Nat) : (s.updSes x h).fb y jj = s.fb y jj := rfl
@[simp] theorem updSes_control_read (s : State) (x : Sess) (h : Session → Session)  : (s.updSes x h).control  = s.control  := rfl
@[simp] theorem updSes_emergency_read (s : State) (x : Sess) (h : Session → Session)  : (s.updSes x h).emergency  = s.emergency  := rfl
@[simp] theorem updSes_following_read (s : State) (x : Sess) (h : Session → Session)  : (s.updSes x h).following  = s.following  := rfl
@[simp] theorem updSes_portUp_read (s : State) (x : Sess) (h : Session → Session)  : (s.updSes x h).portUp  = s.portUp  := rfl
@[simp] theorem updSes_rdByte_read (s : State) (x : Sess) (h : Session → Session) (oo : Nat) : (s.updSes x h).rdByte oo = s.rdByte oo := rfl
@[simp] theorem updSes_logNext_read (s : State) (x : Sess) (h : Session → Session)  : (s.updSes x h).logNext  = s.logNext  := rfl
@[simp] theorem updSes_mo_read (s : State) (x : Sess) (h : Session → Session) (kk : Slot) : (s.updSes x h).mo kk = s.mo kk := rfl
@[simp] theorem updSes_port_read (s : State) (x : Sess) (h : Session → Session) (kk : Slot) : (s.updSes x h).port kk = s.port kk := rfl
@[simp] theorem updSes_dch_read (s : State) (x : Sess) (h : Session → Session) (kk : Fin 32) : (s.updSes x h).dch kk = s.dch kk := rfl
@[simp] theorem updSes_tile_read (s : State) (x : Sess) (h : Session → Session) (kk : Fin 8) : (s.updSes x h).tile kk = s.tile kk := rfl
@[simp] theorem updSes_led_read (s : State) (x : Sess) (h : Session → Session) (kk : Slot) : (s.updSes x h).led kk = s.led kk := rfl
@[simp] theorem updSes_trc_read (s : State) (x : Sess) (h : Session → Session) (kk : Slot) : (s.updSes x h).trc kk = s.trc kk := rfl
@[simp] theorem updSes_slotOf_read (s : State) (x : Sess) (h : Session → Session) (kk : Slot) : (s.updSes x h).slotOf kk = s.slotOf kk := rfl
@[simp] theorem updSes_blkState_read (s : State) (x : Sess) (h : Session → Session) (kk : Slot) : (s.updSes x h).blkState kk = s.blkState kk := rfl
@[simp] theorem updSes_linkUp_read (s : State) (x : Sess) (h : Session → Session) (kk : Slot) : (s.updSes x h).linkUp kk = s.linkUp kk := rfl
@[simp] theorem updSes_pclkTime_read (s : State) (x : Sess) (h : Session → Session)  : (s.updSes x h).pclkTime  = s.pclkTime  := rfl

/-! #### updPar -/

@[simp] theorem updPar_beacon (s : State) (h : ParSt → ParSt) : (s.updPar h).beacon = s.beacon := rfl
@[simp] theorem updPar_clk (s : State) (h : ParSt → ParSt) : (s.updPar h).clk = s.clk := rfl
@[simp] theorem updPar_tnd (s : State) (h : ParSt → ParSt) : (s.updPar h).tnd = s.tnd := rfl
@[simp] theorem updPar_evt (s : State) (h : ParSt → ParSt) : (s.updPar h).evt = s.evt := rfl
@[simp] theorem updPar_sets (s : State) (h : ParSt → ParSt) : (s.updPar h).sets = s.sets := rfl
@[simp] theorem updPar_prog (s : State) (h : ParSt → ParSt) : (s.updPar h).prog = s.prog := rfl
@[simp] theorem updPar_act (s : State) (h : ParSt → ParSt) : (s.updPar h).act = s.act := rfl
@[simp] theorem updPar_log (s : State) (h : ParSt → ParSt) : (s.updPar h).log = s.log := rfl
@[simp] theorem updPar_sec (s : State) (h : ParSt → ParSt) : (s.updPar h).sec = s.sec := rfl
@[simp] theorem updPar_kcp (s : State) (h : ParSt → ParSt) : (s.updPar h).kcp = s.kcp := rfl
@[simp] theorem updPar_plb (s : State) (h : ParSt → ParSt) : (s.updPar h).plb = s.plb := rfl
@[simp] theorem updPar_trs (s : State) (h : ParSt → ParSt) : (s.updPar h).trs = s.trs := rfl
@[simp] theorem updPar_ldg (s : State) (h : ParSt → ParSt) : (s.updPar h).ldg = s.ldg := rfl
@[simp] theorem updPar_trace (s : State) (h : ParSt → ParSt) : (s.updPar h).trace = s.trace := rfl
@[simp] theorem updPar_mor (s : State) (h : ParSt → ParSt) : (s.updPar h).mor = s.mor := rfl
@[simp] theorem updPar_occ (s : State) (h : ParSt → ParSt) : (s.updPar h).occ = s.occ := rfl
@[simp] theorem updPar_bcn (s : State) (h : ParSt → ParSt) : (s.updPar h).bcn = s.bcn := rfl
@[simp] theorem updPar_scf (s : State) (h : ParSt → ParSt) : (s.updPar h).scf = s.scf := rfl
@[simp] theorem updPar_mc (s : State) (h : ParSt → ParSt) : (s.updPar h).mc = s.mc := rfl
@[simp] theorem updPar_dma (s : State) (h : ParSt → ParSt) : (s.updPar h).dma = s.dma := rfl
@[simp] theorem updPar_regs (s : State) (h : ParSt → ParSt) : (s.updPar h).regs = s.regs := rfl
@[simp] theorem updPar_mem (s : State) (h : ParSt → ParSt) : (s.updPar h).mem = s.mem := rfl
@[simp] theorem updPar_poison (s : State) (h : ParSt → ParSt) : (s.updPar h).poison = s.poison := rfl
@[simp] theorem updPar_ready (s : State) (h : ParSt → ParSt) : (s.updPar h).ready = s.ready := rfl
@[simp] theorem updPar_out (s : State) (h : ParSt → ParSt) : (s.updPar h).out = s.out := rfl
@[simp] theorem updPar_draws (s : State) (h : ParSt → ParSt) : (s.updPar h).draws = s.draws := rfl
@[simp] theorem updPar_pending (s : State) (h : ParSt → ParSt) : (s.updPar h).pending = s.pending := rfl
@[simp] theorem updPar_t_read (s : State) (h : ParSt → ParSt) (jj : Tender) : (s.updPar h).t jj = s.t jj := rfl
@[simp] theorem updPar_g_read (s : State) (h : ParSt → ParSt) (jj : Tender) (q : Fin 32) : (s.updPar h).g jj q = s.g jj q := rfl
@[simp] theorem updPar_reg_read (s : State) (h : ParSt → ParSt) (oo : Nat) : (s.updPar h).reg oo = s.reg oo := rfl
@[simp] theorem updPar_f_read (s : State) (h : ParSt → ParSt) (y : Fld) (jj : Nat) : (s.updPar h).f y jj = s.f y jj := rfl
@[simp] theorem updPar_fb_read (s : State) (h : ParSt → ParSt) (y : Fld) (jj : Nat) : (s.updPar h).fb y jj = s.fb y jj := rfl
@[simp] theorem updPar_control_read (s : State) (h : ParSt → ParSt)  : (s.updPar h).control  = s.control  := rfl
@[simp] theorem updPar_emergency_read (s : State) (h : ParSt → ParSt)  : (s.updPar h).emergency  = s.emergency  := rfl
@[simp] theorem updPar_following_read (s : State) (h : ParSt → ParSt)  : (s.updPar h).following  = s.following  := rfl
@[simp] theorem updPar_portUp_read (s : State) (h : ParSt → ParSt)  : (s.updPar h).portUp  = s.portUp  := rfl
@[simp] theorem updPar_rdByte_read (s : State) (h : ParSt → ParSt) (oo : Nat) : (s.updPar h).rdByte oo = s.rdByte oo := rfl
@[simp] theorem updPar_logNext_read (s : State) (h : ParSt → ParSt)  : (s.updPar h).logNext  = s.logNext  := rfl
@[simp] theorem updPar_mo_read (s : State) (h : ParSt → ParSt) (kk : Slot) : (s.updPar h).mo kk = s.mo kk := rfl
@[simp] theorem updPar_port_read (s : State) (h : ParSt → ParSt) (kk : Slot) : (s.updPar h).port kk = s.port kk := rfl
@[simp] theorem updPar_ses_read (s : State) (h : ParSt → ParSt) (kk : Sess) : (s.updPar h).ses kk = s.ses kk := rfl
@[simp] theorem updPar_dch_read (s : State) (h : ParSt → ParSt) (kk : Fin 32) : (s.updPar h).dch kk = s.dch kk := rfl
@[simp] theorem updPar_tile_read (s : State) (h : ParSt → ParSt) (kk : Fin 8) : (s.updPar h).tile kk = s.tile kk := rfl
@[simp] theorem updPar_led_read (s : State) (h : ParSt → ParSt) (kk : Slot) : (s.updPar h).led kk = s.led kk := rfl
@[simp] theorem updPar_trc_read (s : State) (h : ParSt → ParSt) (kk : Slot) : (s.updPar h).trc kk = s.trc kk := rfl
@[simp] theorem updPar_slotOf_read (s : State) (h : ParSt → ParSt) (kk : Slot) : (s.updPar h).slotOf kk = s.slotOf kk := rfl
@[simp] theorem updPar_blkState_read (s : State) (h : ParSt → ParSt) (kk : Slot) : (s.updPar h).blkState kk = s.blkState kk := rfl
@[simp] theorem updPar_linkUp_read (s : State) (h : ParSt → ParSt) (kk : Slot) : (s.updPar h).linkUp kk = s.linkUp kk := rfl
@[simp] theorem updPar_pclkTime_read (s : State) (h : ParSt → ParSt)  : (s.updPar h).pclkTime  = s.pclkTime  := rfl

/-! #### setArms -/

@[simp] theorem setArms_beacon (s : State) (v : Vector ArmEntry 16) : (s.setArms v).beacon = s.beacon := rfl
@[simp] theorem setArms_clk (s : State) (v : Vector ArmEntry 16) : (s.setArms v).clk = s.clk := rfl
@[simp] theorem setArms_tnd (s : State) (v : Vector ArmEntry 16) : (s.setArms v).tnd = s.tnd := rfl
@[simp] theorem setArms_sets (s : State) (v : Vector ArmEntry 16) : (s.setArms v).sets = s.sets := rfl
@[simp] theorem setArms_prog (s : State) (v : Vector ArmEntry 16) : (s.setArms v).prog = s.prog := rfl
@[simp] theorem setArms_act (s : State) (v : Vector ArmEntry 16) : (s.setArms v).act = s.act := rfl
@[simp] theorem setArms_log (s : State) (v : Vector ArmEntry 16) : (s.setArms v).log = s.log := rfl
@[simp] theorem setArms_sec (s : State) (v : Vector ArmEntry 16) : (s.setArms v).sec = s.sec := rfl
@[simp] theorem setArms_kcp (s : State) (v : Vector ArmEntry 16) : (s.setArms v).kcp = s.kcp := rfl
@[simp] theorem setArms_par (s : State) (v : Vector ArmEntry 16) : (s.setArms v).par = s.par := rfl
@[simp] theorem setArms_plb (s : State) (v : Vector ArmEntry 16) : (s.setArms v).plb = s.plb := rfl
@[simp] theorem setArms_trs (s : State) (v : Vector ArmEntry 16) : (s.setArms v).trs = s.trs := rfl
@[simp] theorem setArms_ldg (s : State) (v : Vector ArmEntry 16) : (s.setArms v).ldg = s.ldg := rfl
@[simp] theorem setArms_trace (s : State) (v : Vector ArmEntry 16) : (s.setArms v).trace = s.trace := rfl
@[simp] theorem setArms_mor (s : State) (v : Vector ArmEntry 16) : (s.setArms v).mor = s.mor := rfl
@[simp] theorem setArms_occ (s : State) (v : Vector ArmEntry 16) : (s.setArms v).occ = s.occ := rfl
@[simp] theorem setArms_bcn (s : State) (v : Vector ArmEntry 16) : (s.setArms v).bcn = s.bcn := rfl
@[simp] theorem setArms_scf (s : State) (v : Vector ArmEntry 16) : (s.setArms v).scf = s.scf := rfl
@[simp] theorem setArms_mc (s : State) (v : Vector ArmEntry 16) : (s.setArms v).mc = s.mc := rfl
@[simp] theorem setArms_dma (s : State) (v : Vector ArmEntry 16) : (s.setArms v).dma = s.dma := rfl
@[simp] theorem setArms_regs (s : State) (v : Vector ArmEntry 16) : (s.setArms v).regs = s.regs := rfl
@[simp] theorem setArms_mem (s : State) (v : Vector ArmEntry 16) : (s.setArms v).mem = s.mem := rfl
@[simp] theorem setArms_poison (s : State) (v : Vector ArmEntry 16) : (s.setArms v).poison = s.poison := rfl
@[simp] theorem setArms_ready (s : State) (v : Vector ArmEntry 16) : (s.setArms v).ready = s.ready := rfl
@[simp] theorem setArms_out (s : State) (v : Vector ArmEntry 16) : (s.setArms v).out = s.out := rfl
@[simp] theorem setArms_draws (s : State) (v : Vector ArmEntry 16) : (s.setArms v).draws = s.draws := rfl
@[simp] theorem setArms_pending (s : State) (v : Vector ArmEntry 16) : (s.setArms v).pending = s.pending := rfl
@[simp] theorem setArms_t_read (s : State) (v : Vector ArmEntry 16) (jj : Tender) : (s.setArms v).t jj = s.t jj := rfl
@[simp] theorem setArms_g_read (s : State) (v : Vector ArmEntry 16) (jj : Tender) (q : Fin 32) : (s.setArms v).g jj q = s.g jj q := rfl
@[simp] theorem setArms_reg_read (s : State) (v : Vector ArmEntry 16) (oo : Nat) : (s.setArms v).reg oo = s.reg oo := rfl
@[simp] theorem setArms_f_read (s : State) (v : Vector ArmEntry 16) (y : Fld) (jj : Nat) : (s.setArms v).f y jj = s.f y jj := rfl
@[simp] theorem setArms_fb_read (s : State) (v : Vector ArmEntry 16) (y : Fld) (jj : Nat) : (s.setArms v).fb y jj = s.fb y jj := rfl
@[simp] theorem setArms_control_read (s : State) (v : Vector ArmEntry 16)  : (s.setArms v).control  = s.control  := rfl
@[simp] theorem setArms_emergency_read (s : State) (v : Vector ArmEntry 16)  : (s.setArms v).emergency  = s.emergency  := rfl
@[simp] theorem setArms_following_read (s : State) (v : Vector ArmEntry 16)  : (s.setArms v).following  = s.following  := rfl
@[simp] theorem setArms_portUp_read (s : State) (v : Vector ArmEntry 16)  : (s.setArms v).portUp  = s.portUp  := rfl
@[simp] theorem setArms_rdByte_read (s : State) (v : Vector ArmEntry 16) (oo : Nat) : (s.setArms v).rdByte oo = s.rdByte oo := rfl
@[simp] theorem setArms_logNext_read (s : State) (v : Vector ArmEntry 16)  : (s.setArms v).logNext  = s.logNext  := rfl
@[simp] theorem setArms_mo_read (s : State) (v : Vector ArmEntry 16) (kk : Slot) : (s.setArms v).mo kk = s.mo kk := rfl
@[simp] theorem setArms_port_read (s : State) (v : Vector ArmEntry 16) (kk : Slot) : (s.setArms v).port kk = s.port kk := rfl
@[simp] theorem setArms_ses_read (s : State) (v : Vector ArmEntry 16) (kk : Sess) : (s.setArms v).ses kk = s.ses kk := rfl
@[simp] theorem setArms_dch_read (s : State) (v : Vector ArmEntry 16) (kk : Fin 32) : (s.setArms v).dch kk = s.dch kk := rfl
@[simp] theorem setArms_tile_read (s : State) (v : Vector ArmEntry 16) (kk : Fin 8) : (s.setArms v).tile kk = s.tile kk := rfl
@[simp] theorem setArms_led_read (s : State) (v : Vector ArmEntry 16) (kk : Slot) : (s.setArms v).led kk = s.led kk := rfl
@[simp] theorem setArms_trc_read (s : State) (v : Vector ArmEntry 16) (kk : Slot) : (s.setArms v).trc kk = s.trc kk := rfl
@[simp] theorem setArms_slotOf_read (s : State) (v : Vector ArmEntry 16) (kk : Slot) : (s.setArms v).slotOf kk = s.slotOf kk := rfl
@[simp] theorem setArms_blkState_read (s : State) (v : Vector ArmEntry 16) (kk : Slot) : (s.setArms v).blkState kk = s.blkState kk := rfl
@[simp] theorem setArms_linkUp_read (s : State) (v : Vector ArmEntry 16) (kk : Slot) : (s.setArms v).linkUp kk = s.linkUp kk := rfl
@[simp] theorem setArms_pclkTime_read (s : State) (v : Vector ArmEntry 16)  : (s.setArms v).pclkTime  = s.pclkTime  := rfl

/-! #### updAct -/

@[simp] theorem updAct_beacon (s : State) (k : Nat) (h : Action → Action) : (s.updAct k h).beacon = s.beacon := rfl
@[simp] theorem updAct_clk (s : State) (k : Nat) (h : Action → Action) : (s.updAct k h).clk = s.clk := rfl
@[simp] theorem updAct_tnd (s : State) (k : Nat) (h : Action → Action) : (s.updAct k h).tnd = s.tnd := rfl
@[simp] theorem updAct_evt (s : State) (k : Nat) (h : Action → Action) : (s.updAct k h).evt = s.evt := rfl
@[simp] theorem updAct_sets (s : State) (k : Nat) (h : Action → Action) : (s.updAct k h).sets = s.sets := rfl
@[simp] theorem updAct_prog (s : State) (k : Nat) (h : Action → Action) : (s.updAct k h).prog = s.prog := rfl
@[simp] theorem updAct_log (s : State) (k : Nat) (h : Action → Action) : (s.updAct k h).log = s.log := rfl
@[simp] theorem updAct_sec (s : State) (k : Nat) (h : Action → Action) : (s.updAct k h).sec = s.sec := rfl
@[simp] theorem updAct_kcp (s : State) (k : Nat) (h : Action → Action) : (s.updAct k h).kcp = s.kcp := rfl
@[simp] theorem updAct_par (s : State) (k : Nat) (h : Action → Action) : (s.updAct k h).par = s.par := rfl
@[simp] theorem updAct_plb (s : State) (k : Nat) (h : Action → Action) : (s.updAct k h).plb = s.plb := rfl
@[simp] theorem updAct_trs (s : State) (k : Nat) (h : Action → Action) : (s.updAct k h).trs = s.trs := rfl
@[simp] theorem updAct_ldg (s : State) (k : Nat) (h : Action → Action) : (s.updAct k h).ldg = s.ldg := rfl
@[simp] theorem updAct_trace (s : State) (k : Nat) (h : Action → Action) : (s.updAct k h).trace = s.trace := rfl
@[simp] theorem updAct_mor (s : State) (k : Nat) (h : Action → Action) : (s.updAct k h).mor = s.mor := rfl
@[simp] theorem updAct_occ (s : State) (k : Nat) (h : Action → Action) : (s.updAct k h).occ = s.occ := rfl
@[simp] theorem updAct_bcn (s : State) (k : Nat) (h : Action → Action) : (s.updAct k h).bcn = s.bcn := rfl
@[simp] theorem updAct_scf (s : State) (k : Nat) (h : Action → Action) : (s.updAct k h).scf = s.scf := rfl
@[simp] theorem updAct_mc (s : State) (k : Nat) (h : Action → Action) : (s.updAct k h).mc = s.mc := rfl
@[simp] theorem updAct_dma (s : State) (k : Nat) (h : Action → Action) : (s.updAct k h).dma = s.dma := rfl
@[simp] theorem updAct_regs (s : State) (k : Nat) (h : Action → Action) : (s.updAct k h).regs = s.regs := rfl
@[simp] theorem updAct_mem (s : State) (k : Nat) (h : Action → Action) : (s.updAct k h).mem = s.mem := rfl
@[simp] theorem updAct_poison (s : State) (k : Nat) (h : Action → Action) : (s.updAct k h).poison = s.poison := rfl
@[simp] theorem updAct_ready (s : State) (k : Nat) (h : Action → Action) : (s.updAct k h).ready = s.ready := rfl
@[simp] theorem updAct_out (s : State) (k : Nat) (h : Action → Action) : (s.updAct k h).out = s.out := rfl
@[simp] theorem updAct_draws (s : State) (k : Nat) (h : Action → Action) : (s.updAct k h).draws = s.draws := rfl
@[simp] theorem updAct_pending (s : State) (k : Nat) (h : Action → Action) : (s.updAct k h).pending = s.pending := rfl
@[simp] theorem updAct_t_read (s : State) (k : Nat) (h : Action → Action) (jj : Tender) : (s.updAct k h).t jj = s.t jj := rfl
@[simp] theorem updAct_g_read (s : State) (k : Nat) (h : Action → Action) (jj : Tender) (q : Fin 32) : (s.updAct k h).g jj q = s.g jj q := rfl
@[simp] theorem updAct_reg_read (s : State) (k : Nat) (h : Action → Action) (oo : Nat) : (s.updAct k h).reg oo = s.reg oo := rfl
@[simp] theorem updAct_f_read (s : State) (k : Nat) (h : Action → Action) (y : Fld) (jj : Nat) : (s.updAct k h).f y jj = s.f y jj := rfl
@[simp] theorem updAct_fb_read (s : State) (k : Nat) (h : Action → Action) (y : Fld) (jj : Nat) : (s.updAct k h).fb y jj = s.fb y jj := rfl
@[simp] theorem updAct_control_read (s : State) (k : Nat) (h : Action → Action)  : (s.updAct k h).control  = s.control  := rfl
@[simp] theorem updAct_emergency_read (s : State) (k : Nat) (h : Action → Action)  : (s.updAct k h).emergency  = s.emergency  := rfl
@[simp] theorem updAct_following_read (s : State) (k : Nat) (h : Action → Action)  : (s.updAct k h).following  = s.following  := rfl
@[simp] theorem updAct_portUp_read (s : State) (k : Nat) (h : Action → Action)  : (s.updAct k h).portUp  = s.portUp  := rfl
@[simp] theorem updAct_rdByte_read (s : State) (k : Nat) (h : Action → Action) (oo : Nat) : (s.updAct k h).rdByte oo = s.rdByte oo := rfl
@[simp] theorem updAct_logNext_read (s : State) (k : Nat) (h : Action → Action)  : (s.updAct k h).logNext  = s.logNext  := rfl
@[simp] theorem updAct_mo_read (s : State) (k : Nat) (h : Action → Action) (kk : Slot) : (s.updAct k h).mo kk = s.mo kk := rfl
@[simp] theorem updAct_port_read (s : State) (k : Nat) (h : Action → Action) (kk : Slot) : (s.updAct k h).port kk = s.port kk := rfl
@[simp] theorem updAct_ses_read (s : State) (k : Nat) (h : Action → Action) (kk : Sess) : (s.updAct k h).ses kk = s.ses kk := rfl
@[simp] theorem updAct_dch_read (s : State) (k : Nat) (h : Action → Action) (kk : Fin 32) : (s.updAct k h).dch kk = s.dch kk := rfl
@[simp] theorem updAct_tile_read (s : State) (k : Nat) (h : Action → Action) (kk : Fin 8) : (s.updAct k h).tile kk = s.tile kk := rfl
@[simp] theorem updAct_led_read (s : State) (k : Nat) (h : Action → Action) (kk : Slot) : (s.updAct k h).led kk = s.led kk := rfl
@[simp] theorem updAct_trc_read (s : State) (k : Nat) (h : Action → Action) (kk : Slot) : (s.updAct k h).trc kk = s.trc kk := rfl
@[simp] theorem updAct_slotOf_read (s : State) (k : Nat) (h : Action → Action) (kk : Slot) : (s.updAct k h).slotOf kk = s.slotOf kk := rfl
@[simp] theorem updAct_blkState_read (s : State) (k : Nat) (h : Action → Action) (kk : Slot) : (s.updAct k h).blkState kk = s.blkState kk := rfl
@[simp] theorem updAct_linkUp_read (s : State) (k : Nat) (h : Action → Action) (kk : Slot) : (s.updAct k h).linkUp kk = s.linkUp kk := rfl
@[simp] theorem updAct_pclkTime_read (s : State) (k : Nat) (h : Action → Action)  : (s.updAct k h).pclkTime  = s.pclkTime  := rfl

/-! #### updCh -/

@[simp] theorem updCh_beacon (s : State) (c : Fin 32) (h : DmaChan → DmaChan) : (s.updCh c h).beacon = s.beacon := rfl
@[simp] theorem updCh_clk (s : State) (c : Fin 32) (h : DmaChan → DmaChan) : (s.updCh c h).clk = s.clk := rfl
@[simp] theorem updCh_tnd (s : State) (c : Fin 32) (h : DmaChan → DmaChan) : (s.updCh c h).tnd = s.tnd := rfl
@[simp] theorem updCh_evt (s : State) (c : Fin 32) (h : DmaChan → DmaChan) : (s.updCh c h).evt = s.evt := rfl
@[simp] theorem updCh_sets (s : State) (c : Fin 32) (h : DmaChan → DmaChan) : (s.updCh c h).sets = s.sets := rfl
@[simp] theorem updCh_prog (s : State) (c : Fin 32) (h : DmaChan → DmaChan) : (s.updCh c h).prog = s.prog := rfl
@[simp] theorem updCh_act (s : State) (c : Fin 32) (h : DmaChan → DmaChan) : (s.updCh c h).act = s.act := rfl
@[simp] theorem updCh_log (s : State) (c : Fin 32) (h : DmaChan → DmaChan) : (s.updCh c h).log = s.log := rfl
@[simp] theorem updCh_sec (s : State) (c : Fin 32) (h : DmaChan → DmaChan) : (s.updCh c h).sec = s.sec := rfl
@[simp] theorem updCh_kcp (s : State) (c : Fin 32) (h : DmaChan → DmaChan) : (s.updCh c h).kcp = s.kcp := rfl
@[simp] theorem updCh_par (s : State) (c : Fin 32) (h : DmaChan → DmaChan) : (s.updCh c h).par = s.par := rfl
@[simp] theorem updCh_plb (s : State) (c : Fin 32) (h : DmaChan → DmaChan) : (s.updCh c h).plb = s.plb := rfl
@[simp] theorem updCh_trs (s : State) (c : Fin 32) (h : DmaChan → DmaChan) : (s.updCh c h).trs = s.trs := rfl
@[simp] theorem updCh_ldg (s : State) (c : Fin 32) (h : DmaChan → DmaChan) : (s.updCh c h).ldg = s.ldg := rfl
@[simp] theorem updCh_trace (s : State) (c : Fin 32) (h : DmaChan → DmaChan) : (s.updCh c h).trace = s.trace := rfl
@[simp] theorem updCh_mor (s : State) (c : Fin 32) (h : DmaChan → DmaChan) : (s.updCh c h).mor = s.mor := rfl
@[simp] theorem updCh_occ (s : State) (c : Fin 32) (h : DmaChan → DmaChan) : (s.updCh c h).occ = s.occ := rfl
@[simp] theorem updCh_bcn (s : State) (c : Fin 32) (h : DmaChan → DmaChan) : (s.updCh c h).bcn = s.bcn := rfl
@[simp] theorem updCh_scf (s : State) (c : Fin 32) (h : DmaChan → DmaChan) : (s.updCh c h).scf = s.scf := rfl
@[simp] theorem updCh_mc (s : State) (c : Fin 32) (h : DmaChan → DmaChan) : (s.updCh c h).mc = s.mc := rfl
@[simp] theorem updCh_regs (s : State) (c : Fin 32) (h : DmaChan → DmaChan) : (s.updCh c h).regs = s.regs := rfl
@[simp] theorem updCh_mem (s : State) (c : Fin 32) (h : DmaChan → DmaChan) : (s.updCh c h).mem = s.mem := rfl
@[simp] theorem updCh_poison (s : State) (c : Fin 32) (h : DmaChan → DmaChan) : (s.updCh c h).poison = s.poison := rfl
@[simp] theorem updCh_ready (s : State) (c : Fin 32) (h : DmaChan → DmaChan) : (s.updCh c h).ready = s.ready := rfl
@[simp] theorem updCh_out (s : State) (c : Fin 32) (h : DmaChan → DmaChan) : (s.updCh c h).out = s.out := rfl
@[simp] theorem updCh_draws (s : State) (c : Fin 32) (h : DmaChan → DmaChan) : (s.updCh c h).draws = s.draws := rfl
@[simp] theorem updCh_pending (s : State) (c : Fin 32) (h : DmaChan → DmaChan) : (s.updCh c h).pending = s.pending := rfl
@[simp] theorem updCh_t_read (s : State) (c : Fin 32) (h : DmaChan → DmaChan) (jj : Tender) : (s.updCh c h).t jj = s.t jj := rfl
@[simp] theorem updCh_g_read (s : State) (c : Fin 32) (h : DmaChan → DmaChan) (jj : Tender) (q : Fin 32) : (s.updCh c h).g jj q = s.g jj q := rfl
@[simp] theorem updCh_reg_read (s : State) (c : Fin 32) (h : DmaChan → DmaChan) (oo : Nat) : (s.updCh c h).reg oo = s.reg oo := rfl
@[simp] theorem updCh_f_read (s : State) (c : Fin 32) (h : DmaChan → DmaChan) (y : Fld) (jj : Nat) : (s.updCh c h).f y jj = s.f y jj := rfl
@[simp] theorem updCh_fb_read (s : State) (c : Fin 32) (h : DmaChan → DmaChan) (y : Fld) (jj : Nat) : (s.updCh c h).fb y jj = s.fb y jj := rfl
@[simp] theorem updCh_control_read (s : State) (c : Fin 32) (h : DmaChan → DmaChan)  : (s.updCh c h).control  = s.control  := rfl
@[simp] theorem updCh_emergency_read (s : State) (c : Fin 32) (h : DmaChan → DmaChan)  : (s.updCh c h).emergency  = s.emergency  := rfl
@[simp] theorem updCh_following_read (s : State) (c : Fin 32) (h : DmaChan → DmaChan)  : (s.updCh c h).following  = s.following  := rfl
@[simp] theorem updCh_portUp_read (s : State) (c : Fin 32) (h : DmaChan → DmaChan)  : (s.updCh c h).portUp  = s.portUp  := rfl
@[simp] theorem updCh_rdByte_read (s : State) (c : Fin 32) (h : DmaChan → DmaChan) (oo : Nat) : (s.updCh c h).rdByte oo = s.rdByte oo := rfl
@[simp] theorem updCh_logNext_read (s : State) (c : Fin 32) (h : DmaChan → DmaChan)  : (s.updCh c h).logNext  = s.logNext  := rfl
@[simp] theorem updCh_mo_read (s : State) (c : Fin 32) (h : DmaChan → DmaChan) (kk : Slot) : (s.updCh c h).mo kk = s.mo kk := rfl
@[simp] theorem updCh_port_read (s : State) (c : Fin 32) (h : DmaChan → DmaChan) (kk : Slot) : (s.updCh c h).port kk = s.port kk := rfl
@[simp] theorem updCh_ses_read (s : State) (c : Fin 32) (h : DmaChan → DmaChan) (kk : Sess) : (s.updCh c h).ses kk = s.ses kk := rfl
@[simp] theorem updCh_tile_read (s : State) (c : Fin 32) (h : DmaChan → DmaChan) (kk : Fin 8) : (s.updCh c h).tile kk = s.tile kk := rfl
@[simp] theorem updCh_led_read (s : State) (c : Fin 32) (h : DmaChan → DmaChan) (kk : Slot) : (s.updCh c h).led kk = s.led kk := rfl
@[simp] theorem updCh_trc_read (s : State) (c : Fin 32) (h : DmaChan → DmaChan) (kk : Slot) : (s.updCh c h).trc kk = s.trc kk := rfl
@[simp] theorem updCh_slotOf_read (s : State) (c : Fin 32) (h : DmaChan → DmaChan) (kk : Slot) : (s.updCh c h).slotOf kk = s.slotOf kk := rfl
@[simp] theorem updCh_blkState_read (s : State) (c : Fin 32) (h : DmaChan → DmaChan) (kk : Slot) : (s.updCh c h).blkState kk = s.blkState kk := rfl
@[simp] theorem updCh_linkUp_read (s : State) (c : Fin 32) (h : DmaChan → DmaChan) (kk : Slot) : (s.updCh c h).linkUp kk = s.linkUp kk := rfl
@[simp] theorem updCh_pclkTime_read (s : State) (c : Fin 32) (h : DmaChan → DmaChan)  : (s.updCh c h).pclkTime  = s.pclkTime  := rfl

/-! #### updTile -/

@[simp] theorem updTile_beacon (s : State) (k : Fin 8) (h : PlbTile → PlbTile) : (s.updTile k h).beacon = s.beacon := rfl
@[simp] theorem updTile_clk (s : State) (k : Fin 8) (h : PlbTile → PlbTile) : (s.updTile k h).clk = s.clk := rfl
@[simp] theorem updTile_tnd (s : State) (k : Fin 8) (h : PlbTile → PlbTile) : (s.updTile k h).tnd = s.tnd := rfl
@[simp] theorem updTile_evt (s : State) (k : Fin 8) (h : PlbTile → PlbTile) : (s.updTile k h).evt = s.evt := rfl
@[simp] theorem updTile_sets (s : State) (k : Fin 8) (h : PlbTile → PlbTile) : (s.updTile k h).sets = s.sets := rfl
@[simp] theorem updTile_prog (s : State) (k : Fin 8) (h : PlbTile → PlbTile) : (s.updTile k h).prog = s.prog := rfl
@[simp] theorem updTile_act (s : State) (k : Fin 8) (h : PlbTile → PlbTile) : (s.updTile k h).act = s.act := rfl
@[simp] theorem updTile_log (s : State) (k : Fin 8) (h : PlbTile → PlbTile) : (s.updTile k h).log = s.log := rfl
@[simp] theorem updTile_sec (s : State) (k : Fin 8) (h : PlbTile → PlbTile) : (s.updTile k h).sec = s.sec := rfl
@[simp] theorem updTile_kcp (s : State) (k : Fin 8) (h : PlbTile → PlbTile) : (s.updTile k h).kcp = s.kcp := rfl
@[simp] theorem updTile_par (s : State) (k : Fin 8) (h : PlbTile → PlbTile) : (s.updTile k h).par = s.par := rfl
@[simp] theorem updTile_trs (s : State) (k : Fin 8) (h : PlbTile → PlbTile) : (s.updTile k h).trs = s.trs := rfl
@[simp] theorem updTile_ldg (s : State) (k : Fin 8) (h : PlbTile → PlbTile) : (s.updTile k h).ldg = s.ldg := rfl
@[simp] theorem updTile_trace (s : State) (k : Fin 8) (h : PlbTile → PlbTile) : (s.updTile k h).trace = s.trace := rfl
@[simp] theorem updTile_mor (s : State) (k : Fin 8) (h : PlbTile → PlbTile) : (s.updTile k h).mor = s.mor := rfl
@[simp] theorem updTile_occ (s : State) (k : Fin 8) (h : PlbTile → PlbTile) : (s.updTile k h).occ = s.occ := rfl
@[simp] theorem updTile_bcn (s : State) (k : Fin 8) (h : PlbTile → PlbTile) : (s.updTile k h).bcn = s.bcn := rfl
@[simp] theorem updTile_scf (s : State) (k : Fin 8) (h : PlbTile → PlbTile) : (s.updTile k h).scf = s.scf := rfl
@[simp] theorem updTile_mc (s : State) (k : Fin 8) (h : PlbTile → PlbTile) : (s.updTile k h).mc = s.mc := rfl
@[simp] theorem updTile_dma (s : State) (k : Fin 8) (h : PlbTile → PlbTile) : (s.updTile k h).dma = s.dma := rfl
@[simp] theorem updTile_regs (s : State) (k : Fin 8) (h : PlbTile → PlbTile) : (s.updTile k h).regs = s.regs := rfl
@[simp] theorem updTile_mem (s : State) (k : Fin 8) (h : PlbTile → PlbTile) : (s.updTile k h).mem = s.mem := rfl
@[simp] theorem updTile_poison (s : State) (k : Fin 8) (h : PlbTile → PlbTile) : (s.updTile k h).poison = s.poison := rfl
@[simp] theorem updTile_ready (s : State) (k : Fin 8) (h : PlbTile → PlbTile) : (s.updTile k h).ready = s.ready := rfl
@[simp] theorem updTile_out (s : State) (k : Fin 8) (h : PlbTile → PlbTile) : (s.updTile k h).out = s.out := rfl
@[simp] theorem updTile_draws (s : State) (k : Fin 8) (h : PlbTile → PlbTile) : (s.updTile k h).draws = s.draws := rfl
@[simp] theorem updTile_pending (s : State) (k : Fin 8) (h : PlbTile → PlbTile) : (s.updTile k h).pending = s.pending := rfl
@[simp] theorem updTile_t_read (s : State) (k : Fin 8) (h : PlbTile → PlbTile) (jj : Tender) : (s.updTile k h).t jj = s.t jj := rfl
@[simp] theorem updTile_g_read (s : State) (k : Fin 8) (h : PlbTile → PlbTile) (jj : Tender) (q : Fin 32) : (s.updTile k h).g jj q = s.g jj q := rfl
@[simp] theorem updTile_reg_read (s : State) (k : Fin 8) (h : PlbTile → PlbTile) (oo : Nat) : (s.updTile k h).reg oo = s.reg oo := rfl
@[simp] theorem updTile_f_read (s : State) (k : Fin 8) (h : PlbTile → PlbTile) (y : Fld) (jj : Nat) : (s.updTile k h).f y jj = s.f y jj := rfl
@[simp] theorem updTile_fb_read (s : State) (k : Fin 8) (h : PlbTile → PlbTile) (y : Fld) (jj : Nat) : (s.updTile k h).fb y jj = s.fb y jj := rfl
@[simp] theorem updTile_control_read (s : State) (k : Fin 8) (h : PlbTile → PlbTile)  : (s.updTile k h).control  = s.control  := rfl
@[simp] theorem updTile_emergency_read (s : State) (k : Fin 8) (h : PlbTile → PlbTile)  : (s.updTile k h).emergency  = s.emergency  := rfl
@[simp] theorem updTile_following_read (s : State) (k : Fin 8) (h : PlbTile → PlbTile)  : (s.updTile k h).following  = s.following  := rfl
@[simp] theorem updTile_portUp_read (s : State) (k : Fin 8) (h : PlbTile → PlbTile)  : (s.updTile k h).portUp  = s.portUp  := rfl
@[simp] theorem updTile_rdByte_read (s : State) (k : Fin 8) (h : PlbTile → PlbTile) (oo : Nat) : (s.updTile k h).rdByte oo = s.rdByte oo := rfl
@[simp] theorem updTile_logNext_read (s : State) (k : Fin 8) (h : PlbTile → PlbTile)  : (s.updTile k h).logNext  = s.logNext  := rfl
@[simp] theorem updTile_mo_read (s : State) (k : Fin 8) (h : PlbTile → PlbTile) (kk : Slot) : (s.updTile k h).mo kk = s.mo kk := rfl
@[simp] theorem updTile_port_read (s : State) (k : Fin 8) (h : PlbTile → PlbTile) (kk : Slot) : (s.updTile k h).port kk = s.port kk := rfl
@[simp] theorem updTile_ses_read (s : State) (k : Fin 8) (h : PlbTile → PlbTile) (kk : Sess) : (s.updTile k h).ses kk = s.ses kk := rfl
@[simp] theorem updTile_dch_read (s : State) (k : Fin 8) (h : PlbTile → PlbTile) (kk : Fin 32) : (s.updTile k h).dch kk = s.dch kk := rfl
@[simp] theorem updTile_led_read (s : State) (k : Fin 8) (h : PlbTile → PlbTile) (kk : Slot) : (s.updTile k h).led kk = s.led kk := rfl
@[simp] theorem updTile_trc_read (s : State) (k : Fin 8) (h : PlbTile → PlbTile) (kk : Slot) : (s.updTile k h).trc kk = s.trc kk := rfl
@[simp] theorem updTile_slotOf_read (s : State) (k : Fin 8) (h : PlbTile → PlbTile) (kk : Slot) : (s.updTile k h).slotOf kk = s.slotOf kk := rfl
@[simp] theorem updTile_blkState_read (s : State) (k : Fin 8) (h : PlbTile → PlbTile) (kk : Slot) : (s.updTile k h).blkState kk = s.blkState kk := rfl
@[simp] theorem updTile_linkUp_read (s : State) (k : Fin 8) (h : PlbTile → PlbTile) (kk : Slot) : (s.updTile k h).linkUp kk = s.linkUp kk := rfl
@[simp] theorem updTile_pclkTime_read (s : State) (k : Fin 8) (h : PlbTile → PlbTile)  : (s.updTile k h).pclkTime  = s.pclkTime  := rfl

/-! #### setLed -/

@[simp] theorem setLed_beacon (s : State) (n : Slot) (x : LdgSlot) : (s.setLed n x).beacon = s.beacon := rfl
@[simp] theorem setLed_clk (s : State) (n : Slot) (x : LdgSlot) : (s.setLed n x).clk = s.clk := rfl
@[simp] theorem setLed_tnd (s : State) (n : Slot) (x : LdgSlot) : (s.setLed n x).tnd = s.tnd := rfl
@[simp] theorem setLed_evt (s : State) (n : Slot) (x : LdgSlot) : (s.setLed n x).evt = s.evt := rfl
@[simp] theorem setLed_sets (s : State) (n : Slot) (x : LdgSlot) : (s.setLed n x).sets = s.sets := rfl
@[simp] theorem setLed_prog (s : State) (n : Slot) (x : LdgSlot) : (s.setLed n x).prog = s.prog := rfl
@[simp] theorem setLed_act (s : State) (n : Slot) (x : LdgSlot) : (s.setLed n x).act = s.act := rfl
@[simp] theorem setLed_log (s : State) (n : Slot) (x : LdgSlot) : (s.setLed n x).log = s.log := rfl
@[simp] theorem setLed_sec (s : State) (n : Slot) (x : LdgSlot) : (s.setLed n x).sec = s.sec := rfl
@[simp] theorem setLed_kcp (s : State) (n : Slot) (x : LdgSlot) : (s.setLed n x).kcp = s.kcp := rfl
@[simp] theorem setLed_par (s : State) (n : Slot) (x : LdgSlot) : (s.setLed n x).par = s.par := rfl
@[simp] theorem setLed_plb (s : State) (n : Slot) (x : LdgSlot) : (s.setLed n x).plb = s.plb := rfl
@[simp] theorem setLed_trs (s : State) (n : Slot) (x : LdgSlot) : (s.setLed n x).trs = s.trs := rfl
@[simp] theorem setLed_trace (s : State) (n : Slot) (x : LdgSlot) : (s.setLed n x).trace = s.trace := rfl
@[simp] theorem setLed_mor (s : State) (n : Slot) (x : LdgSlot) : (s.setLed n x).mor = s.mor := rfl
@[simp] theorem setLed_occ (s : State) (n : Slot) (x : LdgSlot) : (s.setLed n x).occ = s.occ := rfl
@[simp] theorem setLed_bcn (s : State) (n : Slot) (x : LdgSlot) : (s.setLed n x).bcn = s.bcn := rfl
@[simp] theorem setLed_scf (s : State) (n : Slot) (x : LdgSlot) : (s.setLed n x).scf = s.scf := rfl
@[simp] theorem setLed_mc (s : State) (n : Slot) (x : LdgSlot) : (s.setLed n x).mc = s.mc := rfl
@[simp] theorem setLed_dma (s : State) (n : Slot) (x : LdgSlot) : (s.setLed n x).dma = s.dma := rfl
@[simp] theorem setLed_regs (s : State) (n : Slot) (x : LdgSlot) : (s.setLed n x).regs = s.regs := rfl
@[simp] theorem setLed_mem (s : State) (n : Slot) (x : LdgSlot) : (s.setLed n x).mem = s.mem := rfl
@[simp] theorem setLed_poison (s : State) (n : Slot) (x : LdgSlot) : (s.setLed n x).poison = s.poison := rfl
@[simp] theorem setLed_ready (s : State) (n : Slot) (x : LdgSlot) : (s.setLed n x).ready = s.ready := rfl
@[simp] theorem setLed_out (s : State) (n : Slot) (x : LdgSlot) : (s.setLed n x).out = s.out := rfl
@[simp] theorem setLed_draws (s : State) (n : Slot) (x : LdgSlot) : (s.setLed n x).draws = s.draws := rfl
@[simp] theorem setLed_pending (s : State) (n : Slot) (x : LdgSlot) : (s.setLed n x).pending = s.pending := rfl
@[simp] theorem setLed_t_read (s : State) (n : Slot) (x : LdgSlot) (jj : Tender) : (s.setLed n x).t jj = s.t jj := rfl
@[simp] theorem setLed_g_read (s : State) (n : Slot) (x : LdgSlot) (jj : Tender) (q : Fin 32) : (s.setLed n x).g jj q = s.g jj q := rfl
@[simp] theorem setLed_reg_read (s : State) (n : Slot) (x : LdgSlot) (oo : Nat) : (s.setLed n x).reg oo = s.reg oo := rfl
@[simp] theorem setLed_f_read (s : State) (n : Slot) (x : LdgSlot) (y : Fld) (jj : Nat) : (s.setLed n x).f y jj = s.f y jj := rfl
@[simp] theorem setLed_fb_read (s : State) (n : Slot) (x : LdgSlot) (y : Fld) (jj : Nat) : (s.setLed n x).fb y jj = s.fb y jj := rfl
@[simp] theorem setLed_control_read (s : State) (n : Slot) (x : LdgSlot)  : (s.setLed n x).control  = s.control  := rfl
@[simp] theorem setLed_emergency_read (s : State) (n : Slot) (x : LdgSlot)  : (s.setLed n x).emergency  = s.emergency  := rfl
@[simp] theorem setLed_following_read (s : State) (n : Slot) (x : LdgSlot)  : (s.setLed n x).following  = s.following  := rfl
@[simp] theorem setLed_portUp_read (s : State) (n : Slot) (x : LdgSlot)  : (s.setLed n x).portUp  = s.portUp  := rfl
@[simp] theorem setLed_rdByte_read (s : State) (n : Slot) (x : LdgSlot) (oo : Nat) : (s.setLed n x).rdByte oo = s.rdByte oo := rfl
@[simp] theorem setLed_logNext_read (s : State) (n : Slot) (x : LdgSlot)  : (s.setLed n x).logNext  = s.logNext  := rfl
@[simp] theorem setLed_mo_read (s : State) (n : Slot) (x : LdgSlot) (kk : Slot) : (s.setLed n x).mo kk = s.mo kk := rfl
@[simp] theorem setLed_port_read (s : State) (n : Slot) (x : LdgSlot) (kk : Slot) : (s.setLed n x).port kk = s.port kk := rfl
@[simp] theorem setLed_ses_read (s : State) (n : Slot) (x : LdgSlot) (kk : Sess) : (s.setLed n x).ses kk = s.ses kk := rfl
@[simp] theorem setLed_dch_read (s : State) (n : Slot) (x : LdgSlot) (kk : Fin 32) : (s.setLed n x).dch kk = s.dch kk := rfl
@[simp] theorem setLed_tile_read (s : State) (n : Slot) (x : LdgSlot) (kk : Fin 8) : (s.setLed n x).tile kk = s.tile kk := rfl
@[simp] theorem setLed_trc_read (s : State) (n : Slot) (x : LdgSlot) (kk : Slot) : (s.setLed n x).trc kk = s.trc kk := rfl
@[simp] theorem setLed_slotOf_read (s : State) (n : Slot) (x : LdgSlot) (kk : Slot) : (s.setLed n x).slotOf kk = s.slotOf kk := rfl
@[simp] theorem setLed_blkState_read (s : State) (n : Slot) (x : LdgSlot) (kk : Slot) : (s.setLed n x).blkState kk = s.blkState kk := rfl
@[simp] theorem setLed_linkUp_read (s : State) (n : Slot) (x : LdgSlot) (kk : Slot) : (s.setLed n x).linkUp kk = s.linkUp kk := rfl
@[simp] theorem setLed_pclkTime_read (s : State) (n : Slot) (x : LdgSlot)  : (s.setLed n x).pclkTime  = s.pclkTime  := rfl

/-! #### updTrc -/

@[simp] theorem updTrc_beacon (s : State) (n : Slot) (h : TrcSlot → TrcSlot) : (s.updTrc n h).beacon = s.beacon := rfl
@[simp] theorem updTrc_clk (s : State) (n : Slot) (h : TrcSlot → TrcSlot) : (s.updTrc n h).clk = s.clk := rfl
@[simp] theorem updTrc_tnd (s : State) (n : Slot) (h : TrcSlot → TrcSlot) : (s.updTrc n h).tnd = s.tnd := rfl
@[simp] theorem updTrc_evt (s : State) (n : Slot) (h : TrcSlot → TrcSlot) : (s.updTrc n h).evt = s.evt := rfl
@[simp] theorem updTrc_sets (s : State) (n : Slot) (h : TrcSlot → TrcSlot) : (s.updTrc n h).sets = s.sets := rfl
@[simp] theorem updTrc_prog (s : State) (n : Slot) (h : TrcSlot → TrcSlot) : (s.updTrc n h).prog = s.prog := rfl
@[simp] theorem updTrc_act (s : State) (n : Slot) (h : TrcSlot → TrcSlot) : (s.updTrc n h).act = s.act := rfl
@[simp] theorem updTrc_log (s : State) (n : Slot) (h : TrcSlot → TrcSlot) : (s.updTrc n h).log = s.log := rfl
@[simp] theorem updTrc_sec (s : State) (n : Slot) (h : TrcSlot → TrcSlot) : (s.updTrc n h).sec = s.sec := rfl
@[simp] theorem updTrc_kcp (s : State) (n : Slot) (h : TrcSlot → TrcSlot) : (s.updTrc n h).kcp = s.kcp := rfl
@[simp] theorem updTrc_par (s : State) (n : Slot) (h : TrcSlot → TrcSlot) : (s.updTrc n h).par = s.par := rfl
@[simp] theorem updTrc_plb (s : State) (n : Slot) (h : TrcSlot → TrcSlot) : (s.updTrc n h).plb = s.plb := rfl
@[simp] theorem updTrc_trs (s : State) (n : Slot) (h : TrcSlot → TrcSlot) : (s.updTrc n h).trs = s.trs := rfl
@[simp] theorem updTrc_ldg (s : State) (n : Slot) (h : TrcSlot → TrcSlot) : (s.updTrc n h).ldg = s.ldg := rfl
@[simp] theorem updTrc_mor (s : State) (n : Slot) (h : TrcSlot → TrcSlot) : (s.updTrc n h).mor = s.mor := rfl
@[simp] theorem updTrc_occ (s : State) (n : Slot) (h : TrcSlot → TrcSlot) : (s.updTrc n h).occ = s.occ := rfl
@[simp] theorem updTrc_bcn (s : State) (n : Slot) (h : TrcSlot → TrcSlot) : (s.updTrc n h).bcn = s.bcn := rfl
@[simp] theorem updTrc_scf (s : State) (n : Slot) (h : TrcSlot → TrcSlot) : (s.updTrc n h).scf = s.scf := rfl
@[simp] theorem updTrc_mc (s : State) (n : Slot) (h : TrcSlot → TrcSlot) : (s.updTrc n h).mc = s.mc := rfl
@[simp] theorem updTrc_dma (s : State) (n : Slot) (h : TrcSlot → TrcSlot) : (s.updTrc n h).dma = s.dma := rfl
@[simp] theorem updTrc_regs (s : State) (n : Slot) (h : TrcSlot → TrcSlot) : (s.updTrc n h).regs = s.regs := rfl
@[simp] theorem updTrc_mem (s : State) (n : Slot) (h : TrcSlot → TrcSlot) : (s.updTrc n h).mem = s.mem := rfl
@[simp] theorem updTrc_poison (s : State) (n : Slot) (h : TrcSlot → TrcSlot) : (s.updTrc n h).poison = s.poison := rfl
@[simp] theorem updTrc_ready (s : State) (n : Slot) (h : TrcSlot → TrcSlot) : (s.updTrc n h).ready = s.ready := rfl
@[simp] theorem updTrc_out (s : State) (n : Slot) (h : TrcSlot → TrcSlot) : (s.updTrc n h).out = s.out := rfl
@[simp] theorem updTrc_draws (s : State) (n : Slot) (h : TrcSlot → TrcSlot) : (s.updTrc n h).draws = s.draws := rfl
@[simp] theorem updTrc_pending (s : State) (n : Slot) (h : TrcSlot → TrcSlot) : (s.updTrc n h).pending = s.pending := rfl
@[simp] theorem updTrc_t_read (s : State) (n : Slot) (h : TrcSlot → TrcSlot) (jj : Tender) : (s.updTrc n h).t jj = s.t jj := rfl
@[simp] theorem updTrc_g_read (s : State) (n : Slot) (h : TrcSlot → TrcSlot) (jj : Tender) (q : Fin 32) : (s.updTrc n h).g jj q = s.g jj q := rfl
@[simp] theorem updTrc_reg_read (s : State) (n : Slot) (h : TrcSlot → TrcSlot) (oo : Nat) : (s.updTrc n h).reg oo = s.reg oo := rfl
@[simp] theorem updTrc_f_read (s : State) (n : Slot) (h : TrcSlot → TrcSlot) (y : Fld) (jj : Nat) : (s.updTrc n h).f y jj = s.f y jj := rfl
@[simp] theorem updTrc_fb_read (s : State) (n : Slot) (h : TrcSlot → TrcSlot) (y : Fld) (jj : Nat) : (s.updTrc n h).fb y jj = s.fb y jj := rfl
@[simp] theorem updTrc_control_read (s : State) (n : Slot) (h : TrcSlot → TrcSlot)  : (s.updTrc n h).control  = s.control  := rfl
@[simp] theorem updTrc_emergency_read (s : State) (n : Slot) (h : TrcSlot → TrcSlot)  : (s.updTrc n h).emergency  = s.emergency  := rfl
@[simp] theorem updTrc_following_read (s : State) (n : Slot) (h : TrcSlot → TrcSlot)  : (s.updTrc n h).following  = s.following  := rfl
@[simp] theorem updTrc_portUp_read (s : State) (n : Slot) (h : TrcSlot → TrcSlot)  : (s.updTrc n h).portUp  = s.portUp  := rfl
@[simp] theorem updTrc_rdByte_read (s : State) (n : Slot) (h : TrcSlot → TrcSlot) (oo : Nat) : (s.updTrc n h).rdByte oo = s.rdByte oo := rfl
@[simp] theorem updTrc_logNext_read (s : State) (n : Slot) (h : TrcSlot → TrcSlot)  : (s.updTrc n h).logNext  = s.logNext  := rfl
@[simp] theorem updTrc_mo_read (s : State) (n : Slot) (h : TrcSlot → TrcSlot) (kk : Slot) : (s.updTrc n h).mo kk = s.mo kk := rfl
@[simp] theorem updTrc_port_read (s : State) (n : Slot) (h : TrcSlot → TrcSlot) (kk : Slot) : (s.updTrc n h).port kk = s.port kk := rfl
@[simp] theorem updTrc_ses_read (s : State) (n : Slot) (h : TrcSlot → TrcSlot) (kk : Sess) : (s.updTrc n h).ses kk = s.ses kk := rfl
@[simp] theorem updTrc_dch_read (s : State) (n : Slot) (h : TrcSlot → TrcSlot) (kk : Fin 32) : (s.updTrc n h).dch kk = s.dch kk := rfl
@[simp] theorem updTrc_tile_read (s : State) (n : Slot) (h : TrcSlot → TrcSlot) (kk : Fin 8) : (s.updTrc n h).tile kk = s.tile kk := rfl
@[simp] theorem updTrc_led_read (s : State) (n : Slot) (h : TrcSlot → TrcSlot) (kk : Slot) : (s.updTrc n h).led kk = s.led kk := rfl
@[simp] theorem updTrc_slotOf_read (s : State) (n : Slot) (h : TrcSlot → TrcSlot) (kk : Slot) : (s.updTrc n h).slotOf kk = s.slotOf kk := rfl
@[simp] theorem updTrc_blkState_read (s : State) (n : Slot) (h : TrcSlot → TrcSlot) (kk : Slot) : (s.updTrc n h).blkState kk = s.blkState kk := rfl
@[simp] theorem updTrc_linkUp_read (s : State) (n : Slot) (h : TrcSlot → TrcSlot) (kk : Slot) : (s.updTrc n h).linkUp kk = s.linkUp kk := rfl
@[simp] theorem updTrc_pclkTime_read (s : State) (n : Slot) (h : TrcSlot → TrcSlot)  : (s.updTrc n h).pclkTime  = s.pclkTime  := rfl

/-! #### updPtp -/

@[simp] theorem updPtp_beacon (s : State) (d : Fin 2) (h : PtpDom → PtpDom) : (s.updPtp d h).beacon = s.beacon := rfl
@[simp] theorem updPtp_clk (s : State) (d : Fin 2) (h : PtpDom → PtpDom) : (s.updPtp d h).clk = s.clk := rfl
@[simp] theorem updPtp_tnd (s : State) (d : Fin 2) (h : PtpDom → PtpDom) : (s.updPtp d h).tnd = s.tnd := rfl
@[simp] theorem updPtp_evt (s : State) (d : Fin 2) (h : PtpDom → PtpDom) : (s.updPtp d h).evt = s.evt := rfl
@[simp] theorem updPtp_sets (s : State) (d : Fin 2) (h : PtpDom → PtpDom) : (s.updPtp d h).sets = s.sets := rfl
@[simp] theorem updPtp_prog (s : State) (d : Fin 2) (h : PtpDom → PtpDom) : (s.updPtp d h).prog = s.prog := rfl
@[simp] theorem updPtp_act (s : State) (d : Fin 2) (h : PtpDom → PtpDom) : (s.updPtp d h).act = s.act := rfl
@[simp] theorem updPtp_log (s : State) (d : Fin 2) (h : PtpDom → PtpDom) : (s.updPtp d h).log = s.log := rfl
@[simp] theorem updPtp_sec (s : State) (d : Fin 2) (h : PtpDom → PtpDom) : (s.updPtp d h).sec = s.sec := rfl
@[simp] theorem updPtp_kcp (s : State) (d : Fin 2) (h : PtpDom → PtpDom) : (s.updPtp d h).kcp = s.kcp := rfl
@[simp] theorem updPtp_par (s : State) (d : Fin 2) (h : PtpDom → PtpDom) : (s.updPtp d h).par = s.par := rfl
@[simp] theorem updPtp_plb (s : State) (d : Fin 2) (h : PtpDom → PtpDom) : (s.updPtp d h).plb = s.plb := rfl
@[simp] theorem updPtp_trs (s : State) (d : Fin 2) (h : PtpDom → PtpDom) : (s.updPtp d h).trs = s.trs := rfl
@[simp] theorem updPtp_ldg (s : State) (d : Fin 2) (h : PtpDom → PtpDom) : (s.updPtp d h).ldg = s.ldg := rfl
@[simp] theorem updPtp_trace (s : State) (d : Fin 2) (h : PtpDom → PtpDom) : (s.updPtp d h).trace = s.trace := rfl
@[simp] theorem updPtp_mor (s : State) (d : Fin 2) (h : PtpDom → PtpDom) : (s.updPtp d h).mor = s.mor := rfl
@[simp] theorem updPtp_occ (s : State) (d : Fin 2) (h : PtpDom → PtpDom) : (s.updPtp d h).occ = s.occ := rfl
@[simp] theorem updPtp_scf (s : State) (d : Fin 2) (h : PtpDom → PtpDom) : (s.updPtp d h).scf = s.scf := rfl
@[simp] theorem updPtp_mc (s : State) (d : Fin 2) (h : PtpDom → PtpDom) : (s.updPtp d h).mc = s.mc := rfl
@[simp] theorem updPtp_dma (s : State) (d : Fin 2) (h : PtpDom → PtpDom) : (s.updPtp d h).dma = s.dma := rfl
@[simp] theorem updPtp_regs (s : State) (d : Fin 2) (h : PtpDom → PtpDom) : (s.updPtp d h).regs = s.regs := rfl
@[simp] theorem updPtp_mem (s : State) (d : Fin 2) (h : PtpDom → PtpDom) : (s.updPtp d h).mem = s.mem := rfl
@[simp] theorem updPtp_poison (s : State) (d : Fin 2) (h : PtpDom → PtpDom) : (s.updPtp d h).poison = s.poison := rfl
@[simp] theorem updPtp_ready (s : State) (d : Fin 2) (h : PtpDom → PtpDom) : (s.updPtp d h).ready = s.ready := rfl
@[simp] theorem updPtp_out (s : State) (d : Fin 2) (h : PtpDom → PtpDom) : (s.updPtp d h).out = s.out := rfl
@[simp] theorem updPtp_draws (s : State) (d : Fin 2) (h : PtpDom → PtpDom) : (s.updPtp d h).draws = s.draws := rfl
@[simp] theorem updPtp_pending (s : State) (d : Fin 2) (h : PtpDom → PtpDom) : (s.updPtp d h).pending = s.pending := rfl
@[simp] theorem updPtp_t_read (s : State) (d : Fin 2) (h : PtpDom → PtpDom) (jj : Tender) : (s.updPtp d h).t jj = s.t jj := rfl
@[simp] theorem updPtp_g_read (s : State) (d : Fin 2) (h : PtpDom → PtpDom) (jj : Tender) (q : Fin 32) : (s.updPtp d h).g jj q = s.g jj q := rfl
@[simp] theorem updPtp_reg_read (s : State) (d : Fin 2) (h : PtpDom → PtpDom) (oo : Nat) : (s.updPtp d h).reg oo = s.reg oo := rfl
@[simp] theorem updPtp_f_read (s : State) (d : Fin 2) (h : PtpDom → PtpDom) (y : Fld) (jj : Nat) : (s.updPtp d h).f y jj = s.f y jj := rfl
@[simp] theorem updPtp_fb_read (s : State) (d : Fin 2) (h : PtpDom → PtpDom) (y : Fld) (jj : Nat) : (s.updPtp d h).fb y jj = s.fb y jj := rfl
@[simp] theorem updPtp_control_read (s : State) (d : Fin 2) (h : PtpDom → PtpDom)  : (s.updPtp d h).control  = s.control  := rfl
@[simp] theorem updPtp_emergency_read (s : State) (d : Fin 2) (h : PtpDom → PtpDom)  : (s.updPtp d h).emergency  = s.emergency  := rfl
@[simp] theorem updPtp_following_read (s : State) (d : Fin 2) (h : PtpDom → PtpDom)  : (s.updPtp d h).following  = s.following  := rfl
@[simp] theorem updPtp_portUp_read (s : State) (d : Fin 2) (h : PtpDom → PtpDom)  : (s.updPtp d h).portUp  = s.portUp  := rfl
@[simp] theorem updPtp_rdByte_read (s : State) (d : Fin 2) (h : PtpDom → PtpDom) (oo : Nat) : (s.updPtp d h).rdByte oo = s.rdByte oo := rfl
@[simp] theorem updPtp_logNext_read (s : State) (d : Fin 2) (h : PtpDom → PtpDom)  : (s.updPtp d h).logNext  = s.logNext  := rfl
@[simp] theorem updPtp_mo_read (s : State) (d : Fin 2) (h : PtpDom → PtpDom) (kk : Slot) : (s.updPtp d h).mo kk = s.mo kk := rfl
@[simp] theorem updPtp_port_read (s : State) (d : Fin 2) (h : PtpDom → PtpDom) (kk : Slot) : (s.updPtp d h).port kk = s.port kk := rfl
@[simp] theorem updPtp_ses_read (s : State) (d : Fin 2) (h : PtpDom → PtpDom) (kk : Sess) : (s.updPtp d h).ses kk = s.ses kk := rfl
@[simp] theorem updPtp_dch_read (s : State) (d : Fin 2) (h : PtpDom → PtpDom) (kk : Fin 32) : (s.updPtp d h).dch kk = s.dch kk := rfl
@[simp] theorem updPtp_tile_read (s : State) (d : Fin 2) (h : PtpDom → PtpDom) (kk : Fin 8) : (s.updPtp d h).tile kk = s.tile kk := rfl
@[simp] theorem updPtp_led_read (s : State) (d : Fin 2) (h : PtpDom → PtpDom) (kk : Slot) : (s.updPtp d h).led kk = s.led kk := rfl
@[simp] theorem updPtp_trc_read (s : State) (d : Fin 2) (h : PtpDom → PtpDom) (kk : Slot) : (s.updPtp d h).trc kk = s.trc kk := rfl
@[simp] theorem updPtp_slotOf_read (s : State) (d : Fin 2) (h : PtpDom → PtpDom) (kk : Slot) : (s.updPtp d h).slotOf kk = s.slotOf kk := rfl
@[simp] theorem updPtp_blkState_read (s : State) (d : Fin 2) (h : PtpDom → PtpDom) (kk : Slot) : (s.updPtp d h).blkState kk = s.blkState kk := rfl
@[simp] theorem updPtp_linkUp_read (s : State) (d : Fin 2) (h : PtpDom → PtpDom) (kk : Slot) : (s.updPtp d h).linkUp kk = s.linkUp kk := rfl
@[simp] theorem updPtp_pclkTime_read (s : State) (d : Fin 2) (h : PtpDom → PtpDom)  : (s.updPtp d h).pclkTime  = s.pclkTime  := rfl

/-! #### updDump -/

@[simp] theorem updDump_beacon (s : State) (n : Slot) (h : DumpSlot → DumpSlot) : (s.updDump n h).beacon = s.beacon := rfl
@[simp] theorem updDump_clk (s : State) (n : Slot) (h : DumpSlot → DumpSlot) : (s.updDump n h).clk = s.clk := rfl
@[simp] theorem updDump_tnd (s : State) (n : Slot) (h : DumpSlot → DumpSlot) : (s.updDump n h).tnd = s.tnd := rfl
@[simp] theorem updDump_evt (s : State) (n : Slot) (h : DumpSlot → DumpSlot) : (s.updDump n h).evt = s.evt := rfl
@[simp] theorem updDump_sets (s : State) (n : Slot) (h : DumpSlot → DumpSlot) : (s.updDump n h).sets = s.sets := rfl
@[simp] theorem updDump_prog (s : State) (n : Slot) (h : DumpSlot → DumpSlot) : (s.updDump n h).prog = s.prog := rfl
@[simp] theorem updDump_act (s : State) (n : Slot) (h : DumpSlot → DumpSlot) : (s.updDump n h).act = s.act := rfl
@[simp] theorem updDump_log (s : State) (n : Slot) (h : DumpSlot → DumpSlot) : (s.updDump n h).log = s.log := rfl
@[simp] theorem updDump_sec (s : State) (n : Slot) (h : DumpSlot → DumpSlot) : (s.updDump n h).sec = s.sec := rfl
@[simp] theorem updDump_kcp (s : State) (n : Slot) (h : DumpSlot → DumpSlot) : (s.updDump n h).kcp = s.kcp := rfl
@[simp] theorem updDump_par (s : State) (n : Slot) (h : DumpSlot → DumpSlot) : (s.updDump n h).par = s.par := rfl
@[simp] theorem updDump_plb (s : State) (n : Slot) (h : DumpSlot → DumpSlot) : (s.updDump n h).plb = s.plb := rfl
@[simp] theorem updDump_trs (s : State) (n : Slot) (h : DumpSlot → DumpSlot) : (s.updDump n h).trs = s.trs := rfl
@[simp] theorem updDump_ldg (s : State) (n : Slot) (h : DumpSlot → DumpSlot) : (s.updDump n h).ldg = s.ldg := rfl
@[simp] theorem updDump_trace (s : State) (n : Slot) (h : DumpSlot → DumpSlot) : (s.updDump n h).trace = s.trace := rfl
@[simp] theorem updDump_mor (s : State) (n : Slot) (h : DumpSlot → DumpSlot) : (s.updDump n h).mor = s.mor := rfl
@[simp] theorem updDump_bcn (s : State) (n : Slot) (h : DumpSlot → DumpSlot) : (s.updDump n h).bcn = s.bcn := rfl
@[simp] theorem updDump_scf (s : State) (n : Slot) (h : DumpSlot → DumpSlot) : (s.updDump n h).scf = s.scf := rfl
@[simp] theorem updDump_mc (s : State) (n : Slot) (h : DumpSlot → DumpSlot) : (s.updDump n h).mc = s.mc := rfl
@[simp] theorem updDump_dma (s : State) (n : Slot) (h : DumpSlot → DumpSlot) : (s.updDump n h).dma = s.dma := rfl
@[simp] theorem updDump_regs (s : State) (n : Slot) (h : DumpSlot → DumpSlot) : (s.updDump n h).regs = s.regs := rfl
@[simp] theorem updDump_mem (s : State) (n : Slot) (h : DumpSlot → DumpSlot) : (s.updDump n h).mem = s.mem := rfl
@[simp] theorem updDump_poison (s : State) (n : Slot) (h : DumpSlot → DumpSlot) : (s.updDump n h).poison = s.poison := rfl
@[simp] theorem updDump_ready (s : State) (n : Slot) (h : DumpSlot → DumpSlot) : (s.updDump n h).ready = s.ready := rfl
@[simp] theorem updDump_out (s : State) (n : Slot) (h : DumpSlot → DumpSlot) : (s.updDump n h).out = s.out := rfl
@[simp] theorem updDump_draws (s : State) (n : Slot) (h : DumpSlot → DumpSlot) : (s.updDump n h).draws = s.draws := rfl
@[simp] theorem updDump_pending (s : State) (n : Slot) (h : DumpSlot → DumpSlot) : (s.updDump n h).pending = s.pending := rfl
@[simp] theorem updDump_t_read (s : State) (n : Slot) (h : DumpSlot → DumpSlot) (jj : Tender) : (s.updDump n h).t jj = s.t jj := rfl
@[simp] theorem updDump_g_read (s : State) (n : Slot) (h : DumpSlot → DumpSlot) (jj : Tender) (q : Fin 32) : (s.updDump n h).g jj q = s.g jj q := rfl
@[simp] theorem updDump_reg_read (s : State) (n : Slot) (h : DumpSlot → DumpSlot) (oo : Nat) : (s.updDump n h).reg oo = s.reg oo := rfl
@[simp] theorem updDump_f_read (s : State) (n : Slot) (h : DumpSlot → DumpSlot) (y : Fld) (jj : Nat) : (s.updDump n h).f y jj = s.f y jj := rfl
@[simp] theorem updDump_fb_read (s : State) (n : Slot) (h : DumpSlot → DumpSlot) (y : Fld) (jj : Nat) : (s.updDump n h).fb y jj = s.fb y jj := rfl
@[simp] theorem updDump_control_read (s : State) (n : Slot) (h : DumpSlot → DumpSlot)  : (s.updDump n h).control  = s.control  := rfl
@[simp] theorem updDump_emergency_read (s : State) (n : Slot) (h : DumpSlot → DumpSlot)  : (s.updDump n h).emergency  = s.emergency  := rfl
@[simp] theorem updDump_following_read (s : State) (n : Slot) (h : DumpSlot → DumpSlot)  : (s.updDump n h).following  = s.following  := rfl
@[simp] theorem updDump_portUp_read (s : State) (n : Slot) (h : DumpSlot → DumpSlot)  : (s.updDump n h).portUp  = s.portUp  := rfl
@[simp] theorem updDump_rdByte_read (s : State) (n : Slot) (h : DumpSlot → DumpSlot) (oo : Nat) : (s.updDump n h).rdByte oo = s.rdByte oo := rfl
@[simp] theorem updDump_logNext_read (s : State) (n : Slot) (h : DumpSlot → DumpSlot)  : (s.updDump n h).logNext  = s.logNext  := rfl
@[simp] theorem updDump_mo_read (s : State) (n : Slot) (h : DumpSlot → DumpSlot) (kk : Slot) : (s.updDump n h).mo kk = s.mo kk := rfl
@[simp] theorem updDump_port_read (s : State) (n : Slot) (h : DumpSlot → DumpSlot) (kk : Slot) : (s.updDump n h).port kk = s.port kk := rfl
@[simp] theorem updDump_ses_read (s : State) (n : Slot) (h : DumpSlot → DumpSlot) (kk : Sess) : (s.updDump n h).ses kk = s.ses kk := rfl
@[simp] theorem updDump_dch_read (s : State) (n : Slot) (h : DumpSlot → DumpSlot) (kk : Fin 32) : (s.updDump n h).dch kk = s.dch kk := rfl
@[simp] theorem updDump_tile_read (s : State) (n : Slot) (h : DumpSlot → DumpSlot) (kk : Fin 8) : (s.updDump n h).tile kk = s.tile kk := rfl
@[simp] theorem updDump_led_read (s : State) (n : Slot) (h : DumpSlot → DumpSlot) (kk : Slot) : (s.updDump n h).led kk = s.led kk := rfl
@[simp] theorem updDump_trc_read (s : State) (n : Slot) (h : DumpSlot → DumpSlot) (kk : Slot) : (s.updDump n h).trc kk = s.trc kk := rfl
@[simp] theorem updDump_slotOf_read (s : State) (n : Slot) (h : DumpSlot → DumpSlot) (kk : Slot) : (s.updDump n h).slotOf kk = s.slotOf kk := rfl
@[simp] theorem updDump_blkState_read (s : State) (n : Slot) (h : DumpSlot → DumpSlot) (kk : Slot) : (s.updDump n h).blkState kk = s.blkState kk := rfl
@[simp] theorem updDump_linkUp_read (s : State) (n : Slot) (h : DumpSlot → DumpSlot) (kk : Slot) : (s.updDump n h).linkUp kk = s.linkUp kk := rfl
@[simp] theorem updDump_pclkTime_read (s : State) (n : Slot) (h : DumpSlot → DumpSlot)  : (s.updDump n h).pclkTime  = s.pclkTime  := rfl

/-! #### setG -/

@[simp] theorem setG_beacon (s : State) (i : Tender) (r : Fin 32) (v : Word) : (s.setG i r v).beacon = s.beacon := by
  unfold setG; split <;> rfl
@[simp] theorem setG_clk (s : State) (i : Tender) (r : Fin 32) (v : Word) : (s.setG i r v).clk = s.clk := by
  unfold setG; split <;> rfl
@[simp] theorem setG_evt (s : State) (i : Tender) (r : Fin 32) (v : Word) : (s.setG i r v).evt = s.evt := by
  unfold setG; split <;> rfl
@[simp] theorem setG_sets (s : State) (i : Tender) (r : Fin 32) (v : Word) : (s.setG i r v).sets = s.sets := by
  unfold setG; split <;> rfl
@[simp] theorem setG_prog (s : State) (i : Tender) (r : Fin 32) (v : Word) : (s.setG i r v).prog = s.prog := by
  unfold setG; split <;> rfl
@[simp] theorem setG_act (s : State) (i : Tender) (r : Fin 32) (v : Word) : (s.setG i r v).act = s.act := by
  unfold setG; split <;> rfl
@[simp] theorem setG_log (s : State) (i : Tender) (r : Fin 32) (v : Word) : (s.setG i r v).log = s.log := by
  unfold setG; split <;> rfl
@[simp] theorem setG_sec (s : State) (i : Tender) (r : Fin 32) (v : Word) : (s.setG i r v).sec = s.sec := by
  unfold setG; split <;> rfl
@[simp] theorem setG_kcp (s : State) (i : Tender) (r : Fin 32) (v : Word) : (s.setG i r v).kcp = s.kcp := by
  unfold setG; split <;> rfl
@[simp] theorem setG_par (s : State) (i : Tender) (r : Fin 32) (v : Word) : (s.setG i r v).par = s.par := by
  unfold setG; split <;> rfl
@[simp] theorem setG_plb (s : State) (i : Tender) (r : Fin 32) (v : Word) : (s.setG i r v).plb = s.plb := by
  unfold setG; split <;> rfl
@[simp] theorem setG_trs (s : State) (i : Tender) (r : Fin 32) (v : Word) : (s.setG i r v).trs = s.trs := by
  unfold setG; split <;> rfl
@[simp] theorem setG_ldg (s : State) (i : Tender) (r : Fin 32) (v : Word) : (s.setG i r v).ldg = s.ldg := by
  unfold setG; split <;> rfl
@[simp] theorem setG_trace (s : State) (i : Tender) (r : Fin 32) (v : Word) : (s.setG i r v).trace = s.trace := by
  unfold setG; split <;> rfl
@[simp] theorem setG_mor (s : State) (i : Tender) (r : Fin 32) (v : Word) : (s.setG i r v).mor = s.mor := by
  unfold setG; split <;> rfl
@[simp] theorem setG_occ (s : State) (i : Tender) (r : Fin 32) (v : Word) : (s.setG i r v).occ = s.occ := by
  unfold setG; split <;> rfl
@[simp] theorem setG_bcn (s : State) (i : Tender) (r : Fin 32) (v : Word) : (s.setG i r v).bcn = s.bcn := by
  unfold setG; split <;> rfl
@[simp] theorem setG_scf (s : State) (i : Tender) (r : Fin 32) (v : Word) : (s.setG i r v).scf = s.scf := by
  unfold setG; split <;> rfl
@[simp] theorem setG_mc (s : State) (i : Tender) (r : Fin 32) (v : Word) : (s.setG i r v).mc = s.mc := by
  unfold setG; split <;> rfl
@[simp] theorem setG_dma (s : State) (i : Tender) (r : Fin 32) (v : Word) : (s.setG i r v).dma = s.dma := by
  unfold setG; split <;> rfl
@[simp] theorem setG_regs (s : State) (i : Tender) (r : Fin 32) (v : Word) : (s.setG i r v).regs = s.regs := by
  unfold setG; split <;> rfl
@[simp] theorem setG_mem (s : State) (i : Tender) (r : Fin 32) (v : Word) : (s.setG i r v).mem = s.mem := by
  unfold setG; split <;> rfl
@[simp] theorem setG_poison (s : State) (i : Tender) (r : Fin 32) (v : Word) : (s.setG i r v).poison = s.poison := by
  unfold setG; split <;> rfl
@[simp] theorem setG_ready (s : State) (i : Tender) (r : Fin 32) (v : Word) : (s.setG i r v).ready = s.ready := by
  unfold setG; split <;> rfl
@[simp] theorem setG_out (s : State) (i : Tender) (r : Fin 32) (v : Word) : (s.setG i r v).out = s.out := by
  unfold setG; split <;> rfl
@[simp] theorem setG_draws (s : State) (i : Tender) (r : Fin 32) (v : Word) : (s.setG i r v).draws = s.draws := by
  unfold setG; split <;> rfl
@[simp] theorem setG_pending (s : State) (i : Tender) (r : Fin 32) (v : Word) : (s.setG i r v).pending = s.pending := by
  unfold setG; split <;> rfl
@[simp] theorem setG_reg_read (s : State) (i : Tender) (r : Fin 32) (v : Word) (oo : Nat) : (s.setG i r v).reg oo = s.reg oo := by
  unfold setG; split <;> rfl
@[simp] theorem setG_f_read (s : State) (i : Tender) (r : Fin 32) (v : Word) (y : Fld) (jj : Nat) : (s.setG i r v).f y jj = s.f y jj := by
  unfold setG; split <;> rfl
@[simp] theorem setG_fb_read (s : State) (i : Tender) (r : Fin 32) (v : Word) (y : Fld) (jj : Nat) : (s.setG i r v).fb y jj = s.fb y jj := by
  unfold setG; split <;> rfl
@[simp] theorem setG_control_read (s : State) (i : Tender) (r : Fin 32) (v : Word)  : (s.setG i r v).control  = s.control  := by
  unfold setG; split <;> rfl
@[simp] theorem setG_emergency_read (s : State) (i : Tender) (r : Fin 32) (v : Word)  : (s.setG i r v).emergency  = s.emergency  := by
  unfold setG; split <;> rfl
@[simp] theorem setG_following_read (s : State) (i : Tender) (r : Fin 32) (v : Word)  : (s.setG i r v).following  = s.following  := by
  unfold setG; split <;> rfl
@[simp] theorem setG_portUp_read (s : State) (i : Tender) (r : Fin 32) (v : Word)  : (s.setG i r v).portUp  = s.portUp  := by
  unfold setG; split <;> rfl
@[simp] theorem setG_rdByte_read (s : State) (i : Tender) (r : Fin 32) (v : Word) (oo : Nat) : (s.setG i r v).rdByte oo = s.rdByte oo := by
  unfold setG; split <;> rfl
@[simp] theorem setG_logNext_read (s : State) (i : Tender) (r : Fin 32) (v : Word)  : (s.setG i r v).logNext  = s.logNext  := by
  unfold setG; split <;> rfl
@[simp] theorem setG_mo_read (s : State) (i : Tender) (r : Fin 32) (v : Word) (kk : Slot) : (s.setG i r v).mo kk = s.mo kk := by
  unfold setG; split <;> rfl
@[simp] theorem setG_port_read (s : State) (i : Tender) (r : Fin 32) (v : Word) (kk : Slot) : (s.setG i r v).port kk = s.port kk := by
  unfold setG; split <;> rfl
@[simp] theorem setG_ses_read (s : State) (i : Tender) (r : Fin 32) (v : Word) (kk : Sess) : (s.setG i r v).ses kk = s.ses kk := by
  unfold setG; split <;> rfl
@[simp] theorem setG_dch_read (s : State) (i : Tender) (r : Fin 32) (v : Word) (kk : Fin 32) : (s.setG i r v).dch kk = s.dch kk := by
  unfold setG; split <;> rfl
@[simp] theorem setG_tile_read (s : State) (i : Tender) (r : Fin 32) (v : Word) (kk : Fin 8) : (s.setG i r v).tile kk = s.tile kk := by
  unfold setG; split <;> rfl
@[simp] theorem setG_led_read (s : State) (i : Tender) (r : Fin 32) (v : Word) (kk : Slot) : (s.setG i r v).led kk = s.led kk := by
  unfold setG; split <;> rfl
@[simp] theorem setG_trc_read (s : State) (i : Tender) (r : Fin 32) (v : Word) (kk : Slot) : (s.setG i r v).trc kk = s.trc kk := by
  unfold setG; split <;> rfl
@[simp] theorem setG_slotOf_read (s : State) (i : Tender) (r : Fin 32) (v : Word) (kk : Slot) : (s.setG i r v).slotOf kk = s.slotOf kk := by
  unfold setG; split <;> rfl
@[simp] theorem setG_blkState_read (s : State) (i : Tender) (r : Fin 32) (v : Word) (kk : Slot) : (s.setG i r v).blkState kk = s.blkState kk := by
  unfold setG; split <;> rfl
@[simp] theorem setG_linkUp_read (s : State) (i : Tender) (r : Fin 32) (v : Word) (kk : Slot) : (s.setG i r v).linkUp kk = s.linkUp kk := by
  unfold setG; split <;> rfl
@[simp] theorem setG_pclkTime_read (s : State) (i : Tender) (r : Fin 32) (v : Word)  : (s.setG i r v).pclkTime  = s.pclkTime  := by
  unfold setG; split <;> rfl

/-! #### result -/

@[simp] theorem result_beacon (s : State) (i : Tender) (r : Fin 32) (v : Word) : (s.result i r v).beacon = s.beacon := by
  unfold result setG; split <;> rfl
@[simp] theorem result_clk (s : State) (i : Tender) (r : Fin 32) (v : Word) : (s.result i r v).clk = s.clk := by
  unfold result setG; split <;> rfl
@[simp] theorem result_evt (s : State) (i : Tender) (r : Fin 32) (v : Word) : (s.result i r v).evt = s.evt := by
  unfold result setG; split <;> rfl
@[simp] theorem result_sets (s : State) (i : Tender) (r : Fin 32) (v : Word) : (s.result i r v).sets = s.sets := by
  unfold result setG; split <;> rfl
@[simp] theorem result_prog (s : State) (i : Tender) (r : Fin 32) (v : Word) : (s.result i r v).prog = s.prog := by
  unfold result setG; split <;> rfl
@[simp] theorem result_act (s : State) (i : Tender) (r : Fin 32) (v : Word) : (s.result i r v).act = s.act := by
  unfold result setG; split <;> rfl
@[simp] theorem result_log (s : State) (i : Tender) (r : Fin 32) (v : Word) : (s.result i r v).log = s.log := by
  unfold result setG; split <;> rfl
@[simp] theorem result_sec (s : State) (i : Tender) (r : Fin 32) (v : Word) : (s.result i r v).sec = s.sec := by
  unfold result setG; split <;> rfl
@[simp] theorem result_kcp (s : State) (i : Tender) (r : Fin 32) (v : Word) : (s.result i r v).kcp = s.kcp := by
  unfold result setG; split <;> rfl
@[simp] theorem result_par (s : State) (i : Tender) (r : Fin 32) (v : Word) : (s.result i r v).par = s.par := by
  unfold result setG; split <;> rfl
@[simp] theorem result_plb (s : State) (i : Tender) (r : Fin 32) (v : Word) : (s.result i r v).plb = s.plb := by
  unfold result setG; split <;> rfl
@[simp] theorem result_trs (s : State) (i : Tender) (r : Fin 32) (v : Word) : (s.result i r v).trs = s.trs := by
  unfold result setG; split <;> rfl
@[simp] theorem result_ldg (s : State) (i : Tender) (r : Fin 32) (v : Word) : (s.result i r v).ldg = s.ldg := by
  unfold result setG; split <;> rfl
@[simp] theorem result_trace (s : State) (i : Tender) (r : Fin 32) (v : Word) : (s.result i r v).trace = s.trace := by
  unfold result setG; split <;> rfl
@[simp] theorem result_mor (s : State) (i : Tender) (r : Fin 32) (v : Word) : (s.result i r v).mor = s.mor := by
  unfold result setG; split <;> rfl
@[simp] theorem result_occ (s : State) (i : Tender) (r : Fin 32) (v : Word) : (s.result i r v).occ = s.occ := by
  unfold result setG; split <;> rfl
@[simp] theorem result_bcn (s : State) (i : Tender) (r : Fin 32) (v : Word) : (s.result i r v).bcn = s.bcn := by
  unfold result setG; split <;> rfl
@[simp] theorem result_scf (s : State) (i : Tender) (r : Fin 32) (v : Word) : (s.result i r v).scf = s.scf := by
  unfold result setG; split <;> rfl
@[simp] theorem result_mc (s : State) (i : Tender) (r : Fin 32) (v : Word) : (s.result i r v).mc = s.mc := by
  unfold result setG; split <;> rfl
@[simp] theorem result_dma (s : State) (i : Tender) (r : Fin 32) (v : Word) : (s.result i r v).dma = s.dma := by
  unfold result setG; split <;> rfl
@[simp] theorem result_regs (s : State) (i : Tender) (r : Fin 32) (v : Word) : (s.result i r v).regs = s.regs := by
  unfold result setG; split <;> rfl
@[simp] theorem result_mem (s : State) (i : Tender) (r : Fin 32) (v : Word) : (s.result i r v).mem = s.mem := by
  unfold result setG; split <;> rfl
@[simp] theorem result_poison (s : State) (i : Tender) (r : Fin 32) (v : Word) : (s.result i r v).poison = s.poison := by
  unfold result setG; split <;> rfl
@[simp] theorem result_ready (s : State) (i : Tender) (r : Fin 32) (v : Word) : (s.result i r v).ready = s.ready := by
  unfold result setG; split <;> rfl
@[simp] theorem result_out (s : State) (i : Tender) (r : Fin 32) (v : Word) : (s.result i r v).out = s.out := by
  unfold result setG; split <;> rfl
@[simp] theorem result_draws (s : State) (i : Tender) (r : Fin 32) (v : Word) : (s.result i r v).draws = s.draws := by
  unfold result setG; split <;> rfl
@[simp] theorem result_pending (s : State) (i : Tender) (r : Fin 32) (v : Word) : (s.result i r v).pending = s.pending := by
  unfold result setG; split <;> rfl
@[simp] theorem result_reg_read (s : State) (i : Tender) (r : Fin 32) (v : Word) (oo : Nat) : (s.result i r v).reg oo = s.reg oo := by
  unfold result setG; split <;> rfl
@[simp] theorem result_f_read (s : State) (i : Tender) (r : Fin 32) (v : Word) (y : Fld) (jj : Nat) : (s.result i r v).f y jj = s.f y jj := by
  unfold result setG; split <;> rfl
@[simp] theorem result_fb_read (s : State) (i : Tender) (r : Fin 32) (v : Word) (y : Fld) (jj : Nat) : (s.result i r v).fb y jj = s.fb y jj := by
  unfold result setG; split <;> rfl
@[simp] theorem result_control_read (s : State) (i : Tender) (r : Fin 32) (v : Word)  : (s.result i r v).control  = s.control  := by
  unfold result setG; split <;> rfl
@[simp] theorem result_emergency_read (s : State) (i : Tender) (r : Fin 32) (v : Word)  : (s.result i r v).emergency  = s.emergency  := by
  unfold result setG; split <;> rfl
@[simp] theorem result_following_read (s : State) (i : Tender) (r : Fin 32) (v : Word)  : (s.result i r v).following  = s.following  := by
  unfold result setG; split <;> rfl
@[simp] theorem result_portUp_read (s : State) (i : Tender) (r : Fin 32) (v : Word)  : (s.result i r v).portUp  = s.portUp  := by
  unfold result setG; split <;> rfl
@[simp] theorem result_rdByte_read (s : State) (i : Tender) (r : Fin 32) (v : Word) (oo : Nat) : (s.result i r v).rdByte oo = s.rdByte oo := by
  unfold result setG; split <;> rfl
@[simp] theorem result_logNext_read (s : State) (i : Tender) (r : Fin 32) (v : Word)  : (s.result i r v).logNext  = s.logNext  := by
  unfold result setG; split <;> rfl
@[simp] theorem result_mo_read (s : State) (i : Tender) (r : Fin 32) (v : Word) (kk : Slot) : (s.result i r v).mo kk = s.mo kk := by
  unfold result setG; split <;> rfl
@[simp] theorem result_port_read (s : State) (i : Tender) (r : Fin 32) (v : Word) (kk : Slot) : (s.result i r v).port kk = s.port kk := by
  unfold result setG; split <;> rfl
@[simp] theorem result_ses_read (s : State) (i : Tender) (r : Fin 32) (v : Word) (kk : Sess) : (s.result i r v).ses kk = s.ses kk := by
  unfold result setG; split <;> rfl
@[simp] theorem result_dch_read (s : State) (i : Tender) (r : Fin 32) (v : Word) (kk : Fin 32) : (s.result i r v).dch kk = s.dch kk := by
  unfold result setG; split <;> rfl
@[simp] theorem result_tile_read (s : State) (i : Tender) (r : Fin 32) (v : Word) (kk : Fin 8) : (s.result i r v).tile kk = s.tile kk := by
  unfold result setG; split <;> rfl
@[simp] theorem result_led_read (s : State) (i : Tender) (r : Fin 32) (v : Word) (kk : Slot) : (s.result i r v).led kk = s.led kk := by
  unfold result setG; split <;> rfl
@[simp] theorem result_trc_read (s : State) (i : Tender) (r : Fin 32) (v : Word) (kk : Slot) : (s.result i r v).trc kk = s.trc kk := by
  unfold result setG; split <;> rfl
@[simp] theorem result_slotOf_read (s : State) (i : Tender) (r : Fin 32) (v : Word) (kk : Slot) : (s.result i r v).slotOf kk = s.slotOf kk := by
  unfold result setG; split <;> rfl
@[simp] theorem result_blkState_read (s : State) (i : Tender) (r : Fin 32) (v : Word) (kk : Slot) : (s.result i r v).blkState kk = s.blkState kk := by
  unfold result setG; split <;> rfl
@[simp] theorem result_linkUp_read (s : State) (i : Tender) (r : Fin 32) (v : Word) (kk : Slot) : (s.result i r v).linkUp kk = s.linkUp kk := by
  unfold result setG; split <;> rfl
@[simp] theorem result_pclkTime_read (s : State) (i : Tender) (r : Fin 32) (v : Word)  : (s.result i r v).pclkTime  = s.pclkTime  := by
  unfold result setG; split <;> rfl

/-! #### raiseTo -/

@[simp] theorem raiseTo_beacon (s : State) (i : Tender) (e a : Nat) (w : Word) : (s.raiseTo i e a w).beacon = s.beacon := by
  unfold raiseTo; split <;> rfl
@[simp] theorem raiseTo_clk (s : State) (i : Tender) (e a : Nat) (w : Word) : (s.raiseTo i e a w).clk = s.clk := by
  unfold raiseTo; split <;> rfl
@[simp] theorem raiseTo_tnd (s : State) (i : Tender) (e a : Nat) (w : Word) : (s.raiseTo i e a w).tnd = s.tnd := by
  unfold raiseTo; split <;> rfl
@[simp] theorem raiseTo_sets (s : State) (i : Tender) (e a : Nat) (w : Word) : (s.raiseTo i e a w).sets = s.sets := by
  unfold raiseTo; split <;> rfl
@[simp] theorem raiseTo_prog (s : State) (i : Tender) (e a : Nat) (w : Word) : (s.raiseTo i e a w).prog = s.prog := by
  unfold raiseTo; split <;> rfl
@[simp] theorem raiseTo_act (s : State) (i : Tender) (e a : Nat) (w : Word) : (s.raiseTo i e a w).act = s.act := by
  unfold raiseTo; split <;> rfl
@[simp] theorem raiseTo_log (s : State) (i : Tender) (e a : Nat) (w : Word) : (s.raiseTo i e a w).log = s.log := by
  unfold raiseTo; split <;> rfl
@[simp] theorem raiseTo_sec (s : State) (i : Tender) (e a : Nat) (w : Word) : (s.raiseTo i e a w).sec = s.sec := by
  unfold raiseTo; split <;> rfl
@[simp] theorem raiseTo_kcp (s : State) (i : Tender) (e a : Nat) (w : Word) : (s.raiseTo i e a w).kcp = s.kcp := by
  unfold raiseTo; split <;> rfl
@[simp] theorem raiseTo_par (s : State) (i : Tender) (e a : Nat) (w : Word) : (s.raiseTo i e a w).par = s.par := by
  unfold raiseTo; split <;> rfl
@[simp] theorem raiseTo_plb (s : State) (i : Tender) (e a : Nat) (w : Word) : (s.raiseTo i e a w).plb = s.plb := by
  unfold raiseTo; split <;> rfl
@[simp] theorem raiseTo_trs (s : State) (i : Tender) (e a : Nat) (w : Word) : (s.raiseTo i e a w).trs = s.trs := by
  unfold raiseTo; split <;> rfl
@[simp] theorem raiseTo_ldg (s : State) (i : Tender) (e a : Nat) (w : Word) : (s.raiseTo i e a w).ldg = s.ldg := by
  unfold raiseTo; split <;> rfl
@[simp] theorem raiseTo_trace (s : State) (i : Tender) (e a : Nat) (w : Word) : (s.raiseTo i e a w).trace = s.trace := by
  unfold raiseTo; split <;> rfl
@[simp] theorem raiseTo_mor (s : State) (i : Tender) (e a : Nat) (w : Word) : (s.raiseTo i e a w).mor = s.mor := by
  unfold raiseTo; split <;> rfl
@[simp] theorem raiseTo_occ (s : State) (i : Tender) (e a : Nat) (w : Word) : (s.raiseTo i e a w).occ = s.occ := by
  unfold raiseTo; split <;> rfl
@[simp] theorem raiseTo_bcn (s : State) (i : Tender) (e a : Nat) (w : Word) : (s.raiseTo i e a w).bcn = s.bcn := by
  unfold raiseTo; split <;> rfl
@[simp] theorem raiseTo_scf (s : State) (i : Tender) (e a : Nat) (w : Word) : (s.raiseTo i e a w).scf = s.scf := by
  unfold raiseTo; split <;> rfl
@[simp] theorem raiseTo_mc (s : State) (i : Tender) (e a : Nat) (w : Word) : (s.raiseTo i e a w).mc = s.mc := by
  unfold raiseTo; split <;> rfl
@[simp] theorem raiseTo_dma (s : State) (i : Tender) (e a : Nat) (w : Word) : (s.raiseTo i e a w).dma = s.dma := by
  unfold raiseTo; split <;> rfl
@[simp] theorem raiseTo_regs (s : State) (i : Tender) (e a : Nat) (w : Word) : (s.raiseTo i e a w).regs = s.regs := by
  unfold raiseTo; split <;> rfl
@[simp] theorem raiseTo_mem (s : State) (i : Tender) (e a : Nat) (w : Word) : (s.raiseTo i e a w).mem = s.mem := by
  unfold raiseTo; split <;> rfl
@[simp] theorem raiseTo_poison (s : State) (i : Tender) (e a : Nat) (w : Word) : (s.raiseTo i e a w).poison = s.poison := by
  unfold raiseTo; split <;> rfl
@[simp] theorem raiseTo_ready (s : State) (i : Tender) (e a : Nat) (w : Word) : (s.raiseTo i e a w).ready = s.ready := by
  unfold raiseTo; split <;> rfl
@[simp] theorem raiseTo_out (s : State) (i : Tender) (e a : Nat) (w : Word) : (s.raiseTo i e a w).out = s.out := by
  unfold raiseTo; split <;> rfl
@[simp] theorem raiseTo_draws (s : State) (i : Tender) (e a : Nat) (w : Word) : (s.raiseTo i e a w).draws = s.draws := by
  unfold raiseTo; split <;> rfl
@[simp] theorem raiseTo_pending (s : State) (i : Tender) (e a : Nat) (w : Word) : (s.raiseTo i e a w).pending = s.pending := by
  unfold raiseTo; split <;> rfl
@[simp] theorem raiseTo_t_read (s : State) (i : Tender) (e a : Nat) (w : Word) (jj : Tender) : (s.raiseTo i e a w).t jj = s.t jj := by
  unfold raiseTo; split <;> rfl
@[simp] theorem raiseTo_g_read (s : State) (i : Tender) (e a : Nat) (w : Word) (jj : Tender) (q : Fin 32) : (s.raiseTo i e a w).g jj q = s.g jj q := by
  unfold raiseTo; split <;> rfl
@[simp] theorem raiseTo_reg_read (s : State) (i : Tender) (e a : Nat) (w : Word) (oo : Nat) : (s.raiseTo i e a w).reg oo = s.reg oo := by
  unfold raiseTo; split <;> rfl
@[simp] theorem raiseTo_f_read (s : State) (i : Tender) (e a : Nat) (w : Word) (y : Fld) (jj : Nat) : (s.raiseTo i e a w).f y jj = s.f y jj := by
  unfold raiseTo; split <;> rfl
@[simp] theorem raiseTo_fb_read (s : State) (i : Tender) (e a : Nat) (w : Word) (y : Fld) (jj : Nat) : (s.raiseTo i e a w).fb y jj = s.fb y jj := by
  unfold raiseTo; split <;> rfl
@[simp] theorem raiseTo_control_read (s : State) (i : Tender) (e a : Nat) (w : Word)  : (s.raiseTo i e a w).control  = s.control  := by
  unfold raiseTo; split <;> rfl
@[simp] theorem raiseTo_emergency_read (s : State) (i : Tender) (e a : Nat) (w : Word)  : (s.raiseTo i e a w).emergency  = s.emergency  := by
  unfold raiseTo; split <;> rfl
@[simp] theorem raiseTo_following_read (s : State) (i : Tender) (e a : Nat) (w : Word)  : (s.raiseTo i e a w).following  = s.following  := by
  unfold raiseTo; split <;> rfl
@[simp] theorem raiseTo_portUp_read (s : State) (i : Tender) (e a : Nat) (w : Word)  : (s.raiseTo i e a w).portUp  = s.portUp  := by
  unfold raiseTo; split <;> rfl
@[simp] theorem raiseTo_rdByte_read (s : State) (i : Tender) (e a : Nat) (w : Word) (oo : Nat) : (s.raiseTo i e a w).rdByte oo = s.rdByte oo := by
  unfold raiseTo; split <;> rfl
@[simp] theorem raiseTo_logNext_read (s : State) (i : Tender) (e a : Nat) (w : Word)  : (s.raiseTo i e a w).logNext  = s.logNext  := by
  unfold raiseTo; split <;> rfl
@[simp] theorem raiseTo_mo_read (s : State) (i : Tender) (e a : Nat) (w : Word) (kk : Slot) : (s.raiseTo i e a w).mo kk = s.mo kk := by
  unfold raiseTo; split <;> rfl
@[simp] theorem raiseTo_port_read (s : State) (i : Tender) (e a : Nat) (w : Word) (kk : Slot) : (s.raiseTo i e a w).port kk = s.port kk := by
  unfold raiseTo; split <;> rfl
@[simp] theorem raiseTo_ses_read (s : State) (i : Tender) (e a : Nat) (w : Word) (kk : Sess) : (s.raiseTo i e a w).ses kk = s.ses kk := by
  unfold raiseTo; split <;> rfl
@[simp] theorem raiseTo_dch_read (s : State) (i : Tender) (e a : Nat) (w : Word) (kk : Fin 32) : (s.raiseTo i e a w).dch kk = s.dch kk := by
  unfold raiseTo; split <;> rfl
@[simp] theorem raiseTo_tile_read (s : State) (i : Tender) (e a : Nat) (w : Word) (kk : Fin 8) : (s.raiseTo i e a w).tile kk = s.tile kk := by
  unfold raiseTo; split <;> rfl
@[simp] theorem raiseTo_led_read (s : State) (i : Tender) (e a : Nat) (w : Word) (kk : Slot) : (s.raiseTo i e a w).led kk = s.led kk := by
  unfold raiseTo; split <;> rfl
@[simp] theorem raiseTo_trc_read (s : State) (i : Tender) (e a : Nat) (w : Word) (kk : Slot) : (s.raiseTo i e a w).trc kk = s.trc kk := by
  unfold raiseTo; split <;> rfl
@[simp] theorem raiseTo_slotOf_read (s : State) (i : Tender) (e a : Nat) (w : Word) (kk : Slot) : (s.raiseTo i e a w).slotOf kk = s.slotOf kk := by
  unfold raiseTo; split <;> rfl
@[simp] theorem raiseTo_blkState_read (s : State) (i : Tender) (e a : Nat) (w : Word) (kk : Slot) : (s.raiseTo i e a w).blkState kk = s.blkState kk := by
  unfold raiseTo; split <;> rfl
@[simp] theorem raiseTo_linkUp_read (s : State) (i : Tender) (e a : Nat) (w : Word) (kk : Slot) : (s.raiseTo i e a w).linkUp kk = s.linkUp kk := by
  unfold raiseTo; split <;> rfl
@[simp] theorem raiseTo_pclkTime_read (s : State) (i : Tender) (e a : Nat) (w : Word)  : (s.raiseTo i e a w).pclkTime  = s.pclkTime  := by
  unfold raiseTo; split <;> rfl

/-! #### pairSend -/

@[simp] theorem pairSend_beacon (s : State) (m : String) (l : List Nat) : (s.pairSend m l).beacon = s.beacon := by
  unfold pairSend pairPut; split <;> rfl
@[simp] theorem pairSend_clk (s : State) (m : String) (l : List Nat) : (s.pairSend m l).clk = s.clk := by
  unfold pairSend pairPut; split <;> rfl
@[simp] theorem pairSend_tnd (s : State) (m : String) (l : List Nat) : (s.pairSend m l).tnd = s.tnd := by
  unfold pairSend pairPut; split <;> rfl
@[simp] theorem pairSend_evt (s : State) (m : String) (l : List Nat) : (s.pairSend m l).evt = s.evt := by
  unfold pairSend pairPut; split <;> rfl
@[simp] theorem pairSend_sets (s : State) (m : String) (l : List Nat) : (s.pairSend m l).sets = s.sets := by
  unfold pairSend pairPut; split <;> rfl
@[simp] theorem pairSend_prog (s : State) (m : String) (l : List Nat) : (s.pairSend m l).prog = s.prog := by
  unfold pairSend pairPut; split <;> rfl
@[simp] theorem pairSend_act (s : State) (m : String) (l : List Nat) : (s.pairSend m l).act = s.act := by
  unfold pairSend pairPut; split <;> rfl
@[simp] theorem pairSend_log (s : State) (m : String) (l : List Nat) : (s.pairSend m l).log = s.log := by
  unfold pairSend pairPut; split <;> rfl
@[simp] theorem pairSend_sec (s : State) (m : String) (l : List Nat) : (s.pairSend m l).sec = s.sec := by
  unfold pairSend pairPut; split <;> rfl
@[simp] theorem pairSend_kcp (s : State) (m : String) (l : List Nat) : (s.pairSend m l).kcp = s.kcp := by
  unfold pairSend pairPut; split <;> rfl
@[simp] theorem pairSend_plb (s : State) (m : String) (l : List Nat) : (s.pairSend m l).plb = s.plb := by
  unfold pairSend pairPut; split <;> rfl
@[simp] theorem pairSend_trs (s : State) (m : String) (l : List Nat) : (s.pairSend m l).trs = s.trs := by
  unfold pairSend pairPut; split <;> rfl
@[simp] theorem pairSend_ldg (s : State) (m : String) (l : List Nat) : (s.pairSend m l).ldg = s.ldg := by
  unfold pairSend pairPut; split <;> rfl
@[simp] theorem pairSend_trace (s : State) (m : String) (l : List Nat) : (s.pairSend m l).trace = s.trace := by
  unfold pairSend pairPut; split <;> rfl
@[simp] theorem pairSend_mor (s : State) (m : String) (l : List Nat) : (s.pairSend m l).mor = s.mor := by
  unfold pairSend pairPut; split <;> rfl
@[simp] theorem pairSend_occ (s : State) (m : String) (l : List Nat) : (s.pairSend m l).occ = s.occ := by
  unfold pairSend pairPut; split <;> rfl
@[simp] theorem pairSend_bcn (s : State) (m : String) (l : List Nat) : (s.pairSend m l).bcn = s.bcn := by
  unfold pairSend pairPut; split <;> rfl
@[simp] theorem pairSend_scf (s : State) (m : String) (l : List Nat) : (s.pairSend m l).scf = s.scf := by
  unfold pairSend pairPut; split <;> rfl
@[simp] theorem pairSend_mc (s : State) (m : String) (l : List Nat) : (s.pairSend m l).mc = s.mc := by
  unfold pairSend pairPut; split <;> rfl
@[simp] theorem pairSend_dma (s : State) (m : String) (l : List Nat) : (s.pairSend m l).dma = s.dma := by
  unfold pairSend pairPut; split <;> rfl
@[simp] theorem pairSend_regs (s : State) (m : String) (l : List Nat) : (s.pairSend m l).regs = s.regs := by
  unfold pairSend pairPut; split <;> rfl
@[simp] theorem pairSend_mem (s : State) (m : String) (l : List Nat) : (s.pairSend m l).mem = s.mem := by
  unfold pairSend pairPut; split <;> rfl
@[simp] theorem pairSend_poison (s : State) (m : String) (l : List Nat) : (s.pairSend m l).poison = s.poison := by
  unfold pairSend pairPut; split <;> rfl
@[simp] theorem pairSend_ready (s : State) (m : String) (l : List Nat) : (s.pairSend m l).ready = s.ready := by
  unfold pairSend pairPut; split <;> rfl
@[simp] theorem pairSend_draws (s : State) (m : String) (l : List Nat) : (s.pairSend m l).draws = s.draws := by
  unfold pairSend pairPut; split <;> rfl
@[simp] theorem pairSend_pending (s : State) (m : String) (l : List Nat) : (s.pairSend m l).pending = s.pending := by
  unfold pairSend pairPut; split <;> rfl
@[simp] theorem pairSend_t_read (s : State) (m : String) (l : List Nat) (jj : Tender) : (s.pairSend m l).t jj = s.t jj := by
  unfold pairSend pairPut; split <;> rfl
@[simp] theorem pairSend_g_read (s : State) (m : String) (l : List Nat) (jj : Tender) (q : Fin 32) : (s.pairSend m l).g jj q = s.g jj q := by
  unfold pairSend pairPut; split <;> rfl
@[simp] theorem pairSend_reg_read (s : State) (m : String) (l : List Nat) (oo : Nat) : (s.pairSend m l).reg oo = s.reg oo := by
  unfold pairSend pairPut; split <;> rfl
@[simp] theorem pairSend_f_read (s : State) (m : String) (l : List Nat) (y : Fld) (jj : Nat) : (s.pairSend m l).f y jj = s.f y jj := by
  unfold pairSend pairPut; split <;> rfl
@[simp] theorem pairSend_fb_read (s : State) (m : String) (l : List Nat) (y : Fld) (jj : Nat) : (s.pairSend m l).fb y jj = s.fb y jj := by
  unfold pairSend pairPut; split <;> rfl
@[simp] theorem pairSend_control_read (s : State) (m : String) (l : List Nat)  : (s.pairSend m l).control  = s.control  := by
  unfold pairSend pairPut; split <;> rfl
@[simp] theorem pairSend_emergency_read (s : State) (m : String) (l : List Nat)  : (s.pairSend m l).emergency  = s.emergency  := by
  unfold pairSend pairPut; split <;> rfl
@[simp] theorem pairSend_following_read (s : State) (m : String) (l : List Nat)  : (s.pairSend m l).following  = s.following  := by
  unfold pairSend pairPut; split <;> rfl
@[simp] theorem pairSend_portUp_read (s : State) (m : String) (l : List Nat)  : (s.pairSend m l).portUp  = s.portUp  := by
  unfold pairSend pairPut; split <;> rfl
@[simp] theorem pairSend_rdByte_read (s : State) (m : String) (l : List Nat) (oo : Nat) : (s.pairSend m l).rdByte oo = s.rdByte oo := by
  unfold pairSend pairPut; split <;> rfl
@[simp] theorem pairSend_logNext_read (s : State) (m : String) (l : List Nat)  : (s.pairSend m l).logNext  = s.logNext  := by
  unfold pairSend pairPut; split <;> rfl
@[simp] theorem pairSend_mo_read (s : State) (m : String) (l : List Nat) (kk : Slot) : (s.pairSend m l).mo kk = s.mo kk := by
  unfold pairSend pairPut; split <;> rfl
@[simp] theorem pairSend_port_read (s : State) (m : String) (l : List Nat) (kk : Slot) : (s.pairSend m l).port kk = s.port kk := by
  unfold pairSend pairPut; split <;> rfl
@[simp] theorem pairSend_ses_read (s : State) (m : String) (l : List Nat) (kk : Sess) : (s.pairSend m l).ses kk = s.ses kk := by
  unfold pairSend pairPut; split <;> rfl
@[simp] theorem pairSend_dch_read (s : State) (m : String) (l : List Nat) (kk : Fin 32) : (s.pairSend m l).dch kk = s.dch kk := by
  unfold pairSend pairPut; split <;> rfl
@[simp] theorem pairSend_tile_read (s : State) (m : String) (l : List Nat) (kk : Fin 8) : (s.pairSend m l).tile kk = s.tile kk := by
  unfold pairSend pairPut; split <;> rfl
@[simp] theorem pairSend_led_read (s : State) (m : String) (l : List Nat) (kk : Slot) : (s.pairSend m l).led kk = s.led kk := by
  unfold pairSend pairPut; split <;> rfl
@[simp] theorem pairSend_trc_read (s : State) (m : String) (l : List Nat) (kk : Slot) : (s.pairSend m l).trc kk = s.trc kk := by
  unfold pairSend pairPut; split <;> rfl
@[simp] theorem pairSend_slotOf_read (s : State) (m : String) (l : List Nat) (kk : Slot) : (s.pairSend m l).slotOf kk = s.slotOf kk := by
  unfold pairSend pairPut; split <;> rfl
@[simp] theorem pairSend_blkState_read (s : State) (m : String) (l : List Nat) (kk : Slot) : (s.pairSend m l).blkState kk = s.blkState kk := by
  unfold pairSend pairPut; split <;> rfl
@[simp] theorem pairSend_linkUp_read (s : State) (m : String) (l : List Nat) (kk : Slot) : (s.pairSend m l).linkUp kk = s.linkUp kk := by
  unfold pairSend pairPut; split <;> rfl
@[simp] theorem pairSend_pclkTime_read (s : State) (m : String) (l : List Nat)  : (s.pairSend m l).pclkTime  = s.pclkTime  := by
  unfold pairSend pairPut; split <;> rfl

/-! #### healthOut -/

@[simp] theorem healthOut_beacon (s : State) (b : Bool) : (s.healthOut b).beacon = s.beacon := by
  simp [healthOut]
@[simp] theorem healthOut_clk (s : State) (b : Bool) : (s.healthOut b).clk = s.clk := by
  simp [healthOut]
@[simp] theorem healthOut_tnd (s : State) (b : Bool) : (s.healthOut b).tnd = s.tnd := by
  simp [healthOut]
@[simp] theorem healthOut_evt (s : State) (b : Bool) : (s.healthOut b).evt = s.evt := by
  simp [healthOut]
@[simp] theorem healthOut_sets (s : State) (b : Bool) : (s.healthOut b).sets = s.sets := by
  simp [healthOut]
@[simp] theorem healthOut_prog (s : State) (b : Bool) : (s.healthOut b).prog = s.prog := by
  simp [healthOut]
@[simp] theorem healthOut_act (s : State) (b : Bool) : (s.healthOut b).act = s.act := by
  simp [healthOut]
@[simp] theorem healthOut_log (s : State) (b : Bool) : (s.healthOut b).log = s.log := by
  simp [healthOut]
@[simp] theorem healthOut_sec (s : State) (b : Bool) : (s.healthOut b).sec = s.sec := by
  simp [healthOut]
@[simp] theorem healthOut_kcp (s : State) (b : Bool) : (s.healthOut b).kcp = s.kcp := by
  simp [healthOut]
@[simp] theorem healthOut_plb (s : State) (b : Bool) : (s.healthOut b).plb = s.plb := by
  simp [healthOut]
@[simp] theorem healthOut_trs (s : State) (b : Bool) : (s.healthOut b).trs = s.trs := by
  simp [healthOut]
@[simp] theorem healthOut_ldg (s : State) (b : Bool) : (s.healthOut b).ldg = s.ldg := by
  simp [healthOut]
@[simp] theorem healthOut_trace (s : State) (b : Bool) : (s.healthOut b).trace = s.trace := by
  simp [healthOut]
@[simp] theorem healthOut_mor (s : State) (b : Bool) : (s.healthOut b).mor = s.mor := by
  simp [healthOut]
@[simp] theorem healthOut_occ (s : State) (b : Bool) : (s.healthOut b).occ = s.occ := by
  simp [healthOut]
@[simp] theorem healthOut_bcn (s : State) (b : Bool) : (s.healthOut b).bcn = s.bcn := by
  simp [healthOut]
@[simp] theorem healthOut_scf (s : State) (b : Bool) : (s.healthOut b).scf = s.scf := by
  simp [healthOut]
@[simp] theorem healthOut_mc (s : State) (b : Bool) : (s.healthOut b).mc = s.mc := by
  simp [healthOut]
@[simp] theorem healthOut_dma (s : State) (b : Bool) : (s.healthOut b).dma = s.dma := by
  simp [healthOut]
@[simp] theorem healthOut_regs (s : State) (b : Bool) : (s.healthOut b).regs = s.regs := by
  simp [healthOut]
@[simp] theorem healthOut_mem (s : State) (b : Bool) : (s.healthOut b).mem = s.mem := by
  simp [healthOut]
@[simp] theorem healthOut_poison (s : State) (b : Bool) : (s.healthOut b).poison = s.poison := by
  simp [healthOut]
@[simp] theorem healthOut_ready (s : State) (b : Bool) : (s.healthOut b).ready = s.ready := by
  simp [healthOut]
@[simp] theorem healthOut_draws (s : State) (b : Bool) : (s.healthOut b).draws = s.draws := by
  simp [healthOut]
@[simp] theorem healthOut_pending (s : State) (b : Bool) : (s.healthOut b).pending = s.pending := by
  simp [healthOut]
@[simp] theorem healthOut_t_read (s : State) (b : Bool) (jj : Tender) : (s.healthOut b).t jj = s.t jj := by
  simp [healthOut]
@[simp] theorem healthOut_g_read (s : State) (b : Bool) (jj : Tender) (q : Fin 32) : (s.healthOut b).g jj q = s.g jj q := by
  simp [healthOut]
@[simp] theorem healthOut_reg_read (s : State) (b : Bool) (oo : Nat) : (s.healthOut b).reg oo = s.reg oo := by
  simp [healthOut]
@[simp] theorem healthOut_f_read (s : State) (b : Bool) (y : Fld) (jj : Nat) : (s.healthOut b).f y jj = s.f y jj := by
  simp [healthOut]
@[simp] theorem healthOut_fb_read (s : State) (b : Bool) (y : Fld) (jj : Nat) : (s.healthOut b).fb y jj = s.fb y jj := by
  simp [healthOut]
@[simp] theorem healthOut_control_read (s : State) (b : Bool)  : (s.healthOut b).control  = s.control  := by
  simp [healthOut]
@[simp] theorem healthOut_emergency_read (s : State) (b : Bool)  : (s.healthOut b).emergency  = s.emergency  := by
  simp [healthOut]
@[simp] theorem healthOut_following_read (s : State) (b : Bool)  : (s.healthOut b).following  = s.following  := by
  simp [healthOut]
@[simp] theorem healthOut_portUp_read (s : State) (b : Bool)  : (s.healthOut b).portUp  = s.portUp  := by
  simp [healthOut]
@[simp] theorem healthOut_rdByte_read (s : State) (b : Bool) (oo : Nat) : (s.healthOut b).rdByte oo = s.rdByte oo := by
  simp [healthOut]
@[simp] theorem healthOut_logNext_read (s : State) (b : Bool)  : (s.healthOut b).logNext  = s.logNext  := by
  simp [healthOut]
@[simp] theorem healthOut_mo_read (s : State) (b : Bool) (kk : Slot) : (s.healthOut b).mo kk = s.mo kk := by
  simp [healthOut]
@[simp] theorem healthOut_port_read (s : State) (b : Bool) (kk : Slot) : (s.healthOut b).port kk = s.port kk := by
  simp [healthOut]
@[simp] theorem healthOut_ses_read (s : State) (b : Bool) (kk : Sess) : (s.healthOut b).ses kk = s.ses kk := by
  simp [healthOut]
@[simp] theorem healthOut_dch_read (s : State) (b : Bool) (kk : Fin 32) : (s.healthOut b).dch kk = s.dch kk := by
  simp [healthOut]
@[simp] theorem healthOut_tile_read (s : State) (b : Bool) (kk : Fin 8) : (s.healthOut b).tile kk = s.tile kk := by
  simp [healthOut]
@[simp] theorem healthOut_led_read (s : State) (b : Bool) (kk : Slot) : (s.healthOut b).led kk = s.led kk := by
  simp [healthOut]
@[simp] theorem healthOut_trc_read (s : State) (b : Bool) (kk : Slot) : (s.healthOut b).trc kk = s.trc kk := by
  simp [healthOut]
@[simp] theorem healthOut_slotOf_read (s : State) (b : Bool) (kk : Slot) : (s.healthOut b).slotOf kk = s.slotOf kk := by
  simp [healthOut]
@[simp] theorem healthOut_blkState_read (s : State) (b : Bool) (kk : Slot) : (s.healthOut b).blkState kk = s.blkState kk := by
  simp [healthOut]
@[simp] theorem healthOut_linkUp_read (s : State) (b : Bool) (kk : Slot) : (s.healthOut b).linkUp kk = s.linkUp kk := by
  simp [healthOut]
@[simp] theorem healthOut_pclkTime_read (s : State) (b : Bool)  : (s.healthOut b).pclkTime  = s.pclkTime  := by
  simp [healthOut]

/-! #### w0Gap -/

@[simp] theorem w0Gap_beacon (s : State)  : (s.w0Gap ).beacon = s.beacon := by
  rfl
@[simp] theorem w0Gap_clk (s : State)  : (s.w0Gap ).clk = s.clk := by
  rfl
@[simp] theorem w0Gap_tnd (s : State)  : (s.w0Gap ).tnd = s.tnd := by
  rfl
@[simp] theorem w0Gap_evt (s : State)  : (s.w0Gap ).evt = s.evt := by
  rfl
@[simp] theorem w0Gap_sets (s : State)  : (s.w0Gap ).sets = s.sets := by
  rfl
@[simp] theorem w0Gap_prog (s : State)  : (s.w0Gap ).prog = s.prog := by
  rfl
@[simp] theorem w0Gap_act (s : State)  : (s.w0Gap ).act = s.act := by
  rfl
@[simp] theorem w0Gap_log (s : State)  : (s.w0Gap ).log = s.log := by
  rfl
@[simp] theorem w0Gap_sec (s : State)  : (s.w0Gap ).sec = s.sec := by
  rfl
@[simp] theorem w0Gap_kcp (s : State)  : (s.w0Gap ).kcp = s.kcp := by
  rfl
@[simp] theorem w0Gap_par (s : State)  : (s.w0Gap ).par = s.par := by
  rfl
@[simp] theorem w0Gap_plb (s : State)  : (s.w0Gap ).plb = s.plb := by
  rfl
@[simp] theorem w0Gap_trs (s : State)  : (s.w0Gap ).trs = s.trs := by
  rfl
@[simp] theorem w0Gap_ldg (s : State)  : (s.w0Gap ).ldg = s.ldg := by
  rfl
@[simp] theorem w0Gap_trace (s : State)  : (s.w0Gap ).trace = s.trace := by
  rfl
@[simp] theorem w0Gap_mor (s : State)  : (s.w0Gap ).mor = s.mor := by
  rfl
@[simp] theorem w0Gap_occ (s : State)  : (s.w0Gap ).occ = s.occ := by
  rfl
@[simp] theorem w0Gap_scf (s : State)  : (s.w0Gap ).scf = s.scf := by
  rfl
@[simp] theorem w0Gap_mc (s : State)  : (s.w0Gap ).mc = s.mc := by
  rfl
@[simp] theorem w0Gap_dma (s : State)  : (s.w0Gap ).dma = s.dma := by
  rfl
@[simp] theorem w0Gap_regs (s : State)  : (s.w0Gap ).regs = s.regs := by
  rfl
@[simp] theorem w0Gap_mem (s : State)  : (s.w0Gap ).mem = s.mem := by
  rfl
@[simp] theorem w0Gap_poison (s : State)  : (s.w0Gap ).poison = s.poison := by
  rfl
@[simp] theorem w0Gap_ready (s : State)  : (s.w0Gap ).ready = s.ready := by
  rfl
@[simp] theorem w0Gap_draws (s : State)  : (s.w0Gap ).draws = s.draws := by
  rfl
@[simp] theorem w0Gap_pending (s : State)  : (s.w0Gap ).pending = s.pending := by
  rfl
@[simp] theorem w0Gap_t_read (s : State)  (jj : Tender) : (s.w0Gap ).t jj = s.t jj := by
  rfl
@[simp] theorem w0Gap_g_read (s : State)  (jj : Tender) (q : Fin 32) : (s.w0Gap ).g jj q = s.g jj q := by
  rfl
@[simp] theorem w0Gap_reg_read (s : State)  (oo : Nat) : (s.w0Gap ).reg oo = s.reg oo := by
  rfl
@[simp] theorem w0Gap_f_read (s : State)  (y : Fld) (jj : Nat) : (s.w0Gap ).f y jj = s.f y jj := by
  rfl
@[simp] theorem w0Gap_fb_read (s : State)  (y : Fld) (jj : Nat) : (s.w0Gap ).fb y jj = s.fb y jj := by
  rfl
@[simp] theorem w0Gap_control_read (s : State)   : (s.w0Gap ).control  = s.control  := by
  rfl
@[simp] theorem w0Gap_emergency_read (s : State)   : (s.w0Gap ).emergency  = s.emergency  := by
  rfl
@[simp] theorem w0Gap_following_read (s : State)   : (s.w0Gap ).following  = s.following  := by
  rfl
@[simp] theorem w0Gap_portUp_read (s : State)   : (s.w0Gap ).portUp  = s.portUp  := by
  rfl
@[simp] theorem w0Gap_rdByte_read (s : State)  (oo : Nat) : (s.w0Gap ).rdByte oo = s.rdByte oo := by
  rfl
@[simp] theorem w0Gap_logNext_read (s : State)   : (s.w0Gap ).logNext  = s.logNext  := by
  rfl
@[simp] theorem w0Gap_mo_read (s : State)  (kk : Slot) : (s.w0Gap ).mo kk = s.mo kk := by
  rfl
@[simp] theorem w0Gap_port_read (s : State)  (kk : Slot) : (s.w0Gap ).port kk = s.port kk := by
  rfl
@[simp] theorem w0Gap_ses_read (s : State)  (kk : Sess) : (s.w0Gap ).ses kk = s.ses kk := by
  rfl
@[simp] theorem w0Gap_dch_read (s : State)  (kk : Fin 32) : (s.w0Gap ).dch kk = s.dch kk := by
  rfl
@[simp] theorem w0Gap_tile_read (s : State)  (kk : Fin 8) : (s.w0Gap ).tile kk = s.tile kk := by
  rfl
@[simp] theorem w0Gap_led_read (s : State)  (kk : Slot) : (s.w0Gap ).led kk = s.led kk := by
  rfl
@[simp] theorem w0Gap_trc_read (s : State)  (kk : Slot) : (s.w0Gap ).trc kk = s.trc kk := by
  rfl
@[simp] theorem w0Gap_slotOf_read (s : State)  (kk : Slot) : (s.w0Gap ).slotOf kk = s.slotOf kk := by
  rfl
@[simp] theorem w0Gap_blkState_read (s : State)  (kk : Slot) : (s.w0Gap ).blkState kk = s.blkState kk := by
  rfl
@[simp] theorem w0Gap_linkUp_read (s : State)  (kk : Slot) : (s.w0Gap ).linkUp kk = s.linkUp kk := by
  rfl
@[simp] theorem w0Gap_pclkTime_read (s : State)   : (s.w0Gap ).pclkTime  = s.pclkTime  := by
  rfl

/-! #### failWord -/

@[simp] theorem failWord_beacon (s : State)  : (s.failWord ).beacon = s.beacon := by
  unfold failWord; repeat (first | split | simp)
@[simp] theorem failWord_clk (s : State)  : (s.failWord ).clk = s.clk := by
  unfold failWord; repeat (first | split | simp)
@[simp] theorem failWord_tnd (s : State)  : (s.failWord ).tnd = s.tnd := by
  unfold failWord; repeat (first | split | simp)
@[simp] theorem failWord_evt (s : State)  : (s.failWord ).evt = s.evt := by
  unfold failWord; repeat (first | split | simp)
@[simp] theorem failWord_sets (s : State)  : (s.failWord ).sets = s.sets := by
  unfold failWord; repeat (first | split | simp)
@[simp] theorem failWord_prog (s : State)  : (s.failWord ).prog = s.prog := by
  unfold failWord; repeat (first | split | simp)
@[simp] theorem failWord_act (s : State)  : (s.failWord ).act = s.act := by
  unfold failWord; repeat (first | split | simp)
@[simp] theorem failWord_log (s : State)  : (s.failWord ).log = s.log := by
  unfold failWord; repeat (first | split | simp)
@[simp] theorem failWord_sec (s : State)  : (s.failWord ).sec = s.sec := by
  unfold failWord; repeat (first | split | simp)
@[simp] theorem failWord_kcp (s : State)  : (s.failWord ).kcp = s.kcp := by
  unfold failWord; repeat (first | split | simp)
@[simp] theorem failWord_plb (s : State)  : (s.failWord ).plb = s.plb := by
  unfold failWord; repeat (first | split | simp)
@[simp] theorem failWord_trs (s : State)  : (s.failWord ).trs = s.trs := by
  unfold failWord; repeat (first | split | simp)
@[simp] theorem failWord_ldg (s : State)  : (s.failWord ).ldg = s.ldg := by
  unfold failWord; repeat (first | split | simp)
@[simp] theorem failWord_trace (s : State)  : (s.failWord ).trace = s.trace := by
  unfold failWord; repeat (first | split | simp)
@[simp] theorem failWord_mor (s : State)  : (s.failWord ).mor = s.mor := by
  unfold failWord; repeat (first | split | simp)
@[simp] theorem failWord_occ (s : State)  : (s.failWord ).occ = s.occ := by
  unfold failWord; repeat (first | split | simp)
@[simp] theorem failWord_scf (s : State)  : (s.failWord ).scf = s.scf := by
  unfold failWord; repeat (first | split | simp)
@[simp] theorem failWord_mc (s : State)  : (s.failWord ).mc = s.mc := by
  unfold failWord; repeat (first | split | simp)
@[simp] theorem failWord_dma (s : State)  : (s.failWord ).dma = s.dma := by
  unfold failWord; repeat (first | split | simp)
@[simp] theorem failWord_regs (s : State)  : (s.failWord ).regs = s.regs := by
  unfold failWord; repeat (first | split | simp)
@[simp] theorem failWord_mem (s : State)  : (s.failWord ).mem = s.mem := by
  unfold failWord; repeat (first | split | simp)
@[simp] theorem failWord_poison (s : State)  : (s.failWord ).poison = s.poison := by
  unfold failWord; repeat (first | split | simp)
@[simp] theorem failWord_ready (s : State)  : (s.failWord ).ready = s.ready := by
  unfold failWord; repeat (first | split | simp)
@[simp] theorem failWord_draws (s : State)  : (s.failWord ).draws = s.draws := by
  unfold failWord; repeat (first | split | simp)
@[simp] theorem failWord_pending (s : State)  : (s.failWord ).pending = s.pending := by
  unfold failWord; repeat (first | split | simp)
@[simp] theorem failWord_t_read (s : State)  (jj : Tender) : (s.failWord ).t jj = s.t jj := by
  unfold failWord; repeat (first | split | simp)
@[simp] theorem failWord_g_read (s : State)  (jj : Tender) (q : Fin 32) : (s.failWord ).g jj q = s.g jj q := by
  unfold failWord; repeat (first | split | simp)
@[simp] theorem failWord_reg_read (s : State)  (oo : Nat) : (s.failWord ).reg oo = s.reg oo := by
  unfold failWord; repeat (first | split | simp)
@[simp] theorem failWord_f_read (s : State)  (y : Fld) (jj : Nat) : (s.failWord ).f y jj = s.f y jj := by
  unfold failWord; repeat (first | split | simp)
@[simp] theorem failWord_fb_read (s : State)  (y : Fld) (jj : Nat) : (s.failWord ).fb y jj = s.fb y jj := by
  unfold failWord; repeat (first | split | simp)
@[simp] theorem failWord_control_read (s : State)   : (s.failWord ).control  = s.control  := by
  unfold failWord; repeat (first | split | simp)
@[simp] theorem failWord_emergency_read (s : State)   : (s.failWord ).emergency  = s.emergency  := by
  unfold failWord; repeat (first | split | simp)
@[simp] theorem failWord_following_read (s : State)   : (s.failWord ).following  = s.following  := by
  unfold failWord; repeat (first | split | simp)
@[simp] theorem failWord_portUp_read (s : State)   : (s.failWord ).portUp  = s.portUp  := by
  unfold failWord; repeat (first | split | simp)
@[simp] theorem failWord_rdByte_read (s : State)  (oo : Nat) : (s.failWord ).rdByte oo = s.rdByte oo := by
  unfold failWord; repeat (first | split | simp)
@[simp] theorem failWord_logNext_read (s : State)   : (s.failWord ).logNext  = s.logNext  := by
  unfold failWord; repeat (first | split | simp)
@[simp] theorem failWord_mo_read (s : State)  (kk : Slot) : (s.failWord ).mo kk = s.mo kk := by
  unfold failWord; repeat (first | split | simp)
@[simp] theorem failWord_port_read (s : State)  (kk : Slot) : (s.failWord ).port kk = s.port kk := by
  unfold failWord; repeat (first | split | simp)
@[simp] theorem failWord_ses_read (s : State)  (kk : Sess) : (s.failWord ).ses kk = s.ses kk := by
  unfold failWord; repeat (first | split | simp)
@[simp] theorem failWord_dch_read (s : State)  (kk : Fin 32) : (s.failWord ).dch kk = s.dch kk := by
  unfold failWord; repeat (first | split | simp)
@[simp] theorem failWord_tile_read (s : State)  (kk : Fin 8) : (s.failWord ).tile kk = s.tile kk := by
  unfold failWord; repeat (first | split | simp)
@[simp] theorem failWord_led_read (s : State)  (kk : Slot) : (s.failWord ).led kk = s.led kk := by
  unfold failWord; repeat (first | split | simp)
@[simp] theorem failWord_trc_read (s : State)  (kk : Slot) : (s.failWord ).trc kk = s.trc kk := by
  unfold failWord; repeat (first | split | simp)
@[simp] theorem failWord_slotOf_read (s : State)  (kk : Slot) : (s.failWord ).slotOf kk = s.slotOf kk := by
  unfold failWord; repeat (first | split | simp)
@[simp] theorem failWord_blkState_read (s : State)  (kk : Slot) : (s.failWord ).blkState kk = s.blkState kk := by
  unfold failWord; repeat (first | split | simp)
@[simp] theorem failWord_linkUp_read (s : State)  (kk : Slot) : (s.failWord ).linkUp kk = s.linkUp kk := by
  unfold failWord; repeat (first | split | simp)
@[simp] theorem failWord_pclkTime_read (s : State)   : (s.failWord ).pclkTime  = s.pclkTime  := by
  unfold failWord; repeat (first | split | simp)

/-! #### clusterFailed -/

@[simp] theorem clusterFailed_beacon (s : State)  : (s.clusterFailed ).beacon = s.beacon := by
  unfold clusterFailed; split <;> simp
@[simp] theorem clusterFailed_clk (s : State)  : (s.clusterFailed ).clk = s.clk := by
  unfold clusterFailed; split <;> simp
@[simp] theorem clusterFailed_tnd (s : State)  : (s.clusterFailed ).tnd = s.tnd := by
  unfold clusterFailed; split <;> simp
@[simp] theorem clusterFailed_evt (s : State)  : (s.clusterFailed ).evt = s.evt := by
  unfold clusterFailed; split <;> simp
@[simp] theorem clusterFailed_sets (s : State)  : (s.clusterFailed ).sets = s.sets := by
  unfold clusterFailed; split <;> simp
@[simp] theorem clusterFailed_prog (s : State)  : (s.clusterFailed ).prog = s.prog := by
  unfold clusterFailed; split <;> simp
@[simp] theorem clusterFailed_act (s : State)  : (s.clusterFailed ).act = s.act := by
  unfold clusterFailed; split <;> simp
@[simp] theorem clusterFailed_log (s : State)  : (s.clusterFailed ).log = s.log := by
  unfold clusterFailed; split <;> simp
@[simp] theorem clusterFailed_sec (s : State)  : (s.clusterFailed ).sec = s.sec := by
  unfold clusterFailed; split <;> simp
@[simp] theorem clusterFailed_kcp (s : State)  : (s.clusterFailed ).kcp = s.kcp := by
  unfold clusterFailed; split <;> simp
@[simp] theorem clusterFailed_plb (s : State)  : (s.clusterFailed ).plb = s.plb := by
  unfold clusterFailed; split <;> simp
@[simp] theorem clusterFailed_trs (s : State)  : (s.clusterFailed ).trs = s.trs := by
  unfold clusterFailed; split <;> simp
@[simp] theorem clusterFailed_ldg (s : State)  : (s.clusterFailed ).ldg = s.ldg := by
  unfold clusterFailed; split <;> simp
@[simp] theorem clusterFailed_trace (s : State)  : (s.clusterFailed ).trace = s.trace := by
  unfold clusterFailed; split <;> simp
@[simp] theorem clusterFailed_mor (s : State)  : (s.clusterFailed ).mor = s.mor := by
  unfold clusterFailed; split <;> simp
@[simp] theorem clusterFailed_occ (s : State)  : (s.clusterFailed ).occ = s.occ := by
  unfold clusterFailed; split <;> simp
@[simp] theorem clusterFailed_scf (s : State)  : (s.clusterFailed ).scf = s.scf := by
  unfold clusterFailed; split <;> simp
@[simp] theorem clusterFailed_mc (s : State)  : (s.clusterFailed ).mc = s.mc := by
  unfold clusterFailed; split <;> simp
@[simp] theorem clusterFailed_dma (s : State)  : (s.clusterFailed ).dma = s.dma := by
  unfold clusterFailed; split <;> simp
@[simp] theorem clusterFailed_regs (s : State)  : (s.clusterFailed ).regs = s.regs := by
  unfold clusterFailed; split <;> simp
@[simp] theorem clusterFailed_mem (s : State)  : (s.clusterFailed ).mem = s.mem := by
  unfold clusterFailed; split <;> simp
@[simp] theorem clusterFailed_poison (s : State)  : (s.clusterFailed ).poison = s.poison := by
  unfold clusterFailed; split <;> simp
@[simp] theorem clusterFailed_ready (s : State)  : (s.clusterFailed ).ready = s.ready := by
  unfold clusterFailed; split <;> simp
@[simp] theorem clusterFailed_draws (s : State)  : (s.clusterFailed ).draws = s.draws := by
  unfold clusterFailed; split <;> simp
@[simp] theorem clusterFailed_pending (s : State)  : (s.clusterFailed ).pending = s.pending := by
  unfold clusterFailed; split <;> simp
@[simp] theorem clusterFailed_t_read (s : State)  (jj : Tender) : (s.clusterFailed ).t jj = s.t jj := by
  unfold clusterFailed; split <;> simp
@[simp] theorem clusterFailed_g_read (s : State)  (jj : Tender) (q : Fin 32) : (s.clusterFailed ).g jj q = s.g jj q := by
  unfold clusterFailed; split <;> simp
@[simp] theorem clusterFailed_reg_read (s : State)  (oo : Nat) : (s.clusterFailed ).reg oo = s.reg oo := by
  unfold clusterFailed; split <;> simp
@[simp] theorem clusterFailed_f_read (s : State)  (y : Fld) (jj : Nat) : (s.clusterFailed ).f y jj = s.f y jj := by
  unfold clusterFailed; split <;> simp
@[simp] theorem clusterFailed_fb_read (s : State)  (y : Fld) (jj : Nat) : (s.clusterFailed ).fb y jj = s.fb y jj := by
  unfold clusterFailed; split <;> simp
@[simp] theorem clusterFailed_control_read (s : State)   : (s.clusterFailed ).control  = s.control  := by
  unfold clusterFailed; split <;> simp
@[simp] theorem clusterFailed_emergency_read (s : State)   : (s.clusterFailed ).emergency  = s.emergency  := by
  unfold clusterFailed; split <;> simp
@[simp] theorem clusterFailed_following_read (s : State)   : (s.clusterFailed ).following  = s.following  := by
  unfold clusterFailed; split <;> simp
@[simp] theorem clusterFailed_portUp_read (s : State)   : (s.clusterFailed ).portUp  = s.portUp  := by
  unfold clusterFailed; split <;> simp
@[simp] theorem clusterFailed_rdByte_read (s : State)  (oo : Nat) : (s.clusterFailed ).rdByte oo = s.rdByte oo := by
  unfold clusterFailed; split <;> simp
@[simp] theorem clusterFailed_logNext_read (s : State)   : (s.clusterFailed ).logNext  = s.logNext  := by
  unfold clusterFailed; split <;> simp
@[simp] theorem clusterFailed_mo_read (s : State)  (kk : Slot) : (s.clusterFailed ).mo kk = s.mo kk := by
  unfold clusterFailed; split <;> simp
@[simp] theorem clusterFailed_port_read (s : State)  (kk : Slot) : (s.clusterFailed ).port kk = s.port kk := by
  unfold clusterFailed; split <;> simp
@[simp] theorem clusterFailed_ses_read (s : State)  (kk : Sess) : (s.clusterFailed ).ses kk = s.ses kk := by
  unfold clusterFailed; split <;> simp
@[simp] theorem clusterFailed_dch_read (s : State)  (kk : Fin 32) : (s.clusterFailed ).dch kk = s.dch kk := by
  unfold clusterFailed; split <;> simp
@[simp] theorem clusterFailed_tile_read (s : State)  (kk : Fin 8) : (s.clusterFailed ).tile kk = s.tile kk := by
  unfold clusterFailed; split <;> simp
@[simp] theorem clusterFailed_led_read (s : State)  (kk : Slot) : (s.clusterFailed ).led kk = s.led kk := by
  unfold clusterFailed; split <;> simp
@[simp] theorem clusterFailed_trc_read (s : State)  (kk : Slot) : (s.clusterFailed ).trc kk = s.trc kk := by
  unfold clusterFailed; split <;> simp
@[simp] theorem clusterFailed_slotOf_read (s : State)  (kk : Slot) : (s.clusterFailed ).slotOf kk = s.slotOf kk := by
  unfold clusterFailed; split <;> simp
@[simp] theorem clusterFailed_blkState_read (s : State)  (kk : Slot) : (s.clusterFailed ).blkState kk = s.blkState kk := by
  unfold clusterFailed; split <;> simp
@[simp] theorem clusterFailed_linkUp_read (s : State)  (kk : Slot) : (s.clusterFailed ).linkUp kk = s.linkUp kk := by
  unfold clusterFailed; split <;> simp
@[simp] theorem clusterFailed_pclkTime_read (s : State)   : (s.clusterFailed ).pclkTime  = s.pclkTime  := by
  unfold clusterFailed; split <;> simp

/-! #### raise -/

@[simp] theorem raise_beacon (s : State) (e a : Nat) (w : Word) : (s.raise e a w).beacon = s.beacon := by
  unfold raise; split; · rfl
  · rcases s.routeTarget e with ⟨_, _ | _⟩ <;> simp
@[simp] theorem raise_clk (s : State) (e a : Nat) (w : Word) : (s.raise e a w).clk = s.clk := by
  unfold raise; split; · rfl
  · rcases s.routeTarget e with ⟨_, _ | _⟩ <;> simp
@[simp] theorem raise_tnd (s : State) (e a : Nat) (w : Word) : (s.raise e a w).tnd = s.tnd := by
  unfold raise; split; · rfl
  · rcases s.routeTarget e with ⟨_, _ | _⟩ <;> simp
@[simp] theorem raise_sets (s : State) (e a : Nat) (w : Word) : (s.raise e a w).sets = s.sets := by
  unfold raise; split; · rfl
  · rcases s.routeTarget e with ⟨_, _ | _⟩ <;> simp
@[simp] theorem raise_prog (s : State) (e a : Nat) (w : Word) : (s.raise e a w).prog = s.prog := by
  unfold raise; split; · rfl
  · rcases s.routeTarget e with ⟨_, _ | _⟩ <;> simp
@[simp] theorem raise_act (s : State) (e a : Nat) (w : Word) : (s.raise e a w).act = s.act := by
  unfold raise; split; · rfl
  · rcases s.routeTarget e with ⟨_, _ | _⟩ <;> simp
@[simp] theorem raise_log (s : State) (e a : Nat) (w : Word) : (s.raise e a w).log = s.log := by
  unfold raise; split; · rfl
  · rcases s.routeTarget e with ⟨_, _ | _⟩ <;> simp
@[simp] theorem raise_sec (s : State) (e a : Nat) (w : Word) : (s.raise e a w).sec = s.sec := by
  unfold raise; split; · rfl
  · rcases s.routeTarget e with ⟨_, _ | _⟩ <;> simp
@[simp] theorem raise_kcp (s : State) (e a : Nat) (w : Word) : (s.raise e a w).kcp = s.kcp := by
  unfold raise; split; · rfl
  · rcases s.routeTarget e with ⟨_, _ | _⟩ <;> simp
@[simp] theorem raise_plb (s : State) (e a : Nat) (w : Word) : (s.raise e a w).plb = s.plb := by
  unfold raise; split; · rfl
  · rcases s.routeTarget e with ⟨_, _ | _⟩ <;> simp
@[simp] theorem raise_trs (s : State) (e a : Nat) (w : Word) : (s.raise e a w).trs = s.trs := by
  unfold raise; split; · rfl
  · rcases s.routeTarget e with ⟨_, _ | _⟩ <;> simp
@[simp] theorem raise_ldg (s : State) (e a : Nat) (w : Word) : (s.raise e a w).ldg = s.ldg := by
  unfold raise; split; · rfl
  · rcases s.routeTarget e with ⟨_, _ | _⟩ <;> simp
@[simp] theorem raise_trace (s : State) (e a : Nat) (w : Word) : (s.raise e a w).trace = s.trace := by
  unfold raise; split; · rfl
  · rcases s.routeTarget e with ⟨_, _ | _⟩ <;> simp
@[simp] theorem raise_mor (s : State) (e a : Nat) (w : Word) : (s.raise e a w).mor = s.mor := by
  unfold raise; split; · rfl
  · rcases s.routeTarget e with ⟨_, _ | _⟩ <;> simp
@[simp] theorem raise_occ (s : State) (e a : Nat) (w : Word) : (s.raise e a w).occ = s.occ := by
  unfold raise; split; · rfl
  · rcases s.routeTarget e with ⟨_, _ | _⟩ <;> simp
@[simp] theorem raise_scf (s : State) (e a : Nat) (w : Word) : (s.raise e a w).scf = s.scf := by
  unfold raise; split; · rfl
  · rcases s.routeTarget e with ⟨_, _ | _⟩ <;> simp
@[simp] theorem raise_mc (s : State) (e a : Nat) (w : Word) : (s.raise e a w).mc = s.mc := by
  unfold raise; split; · rfl
  · rcases s.routeTarget e with ⟨_, _ | _⟩ <;> simp
@[simp] theorem raise_dma (s : State) (e a : Nat) (w : Word) : (s.raise e a w).dma = s.dma := by
  unfold raise; split; · rfl
  · rcases s.routeTarget e with ⟨_, _ | _⟩ <;> simp
@[simp] theorem raise_regs (s : State) (e a : Nat) (w : Word) : (s.raise e a w).regs = s.regs := by
  unfold raise; split; · rfl
  · rcases s.routeTarget e with ⟨_, _ | _⟩ <;> simp
@[simp] theorem raise_mem (s : State) (e a : Nat) (w : Word) : (s.raise e a w).mem = s.mem := by
  unfold raise; split; · rfl
  · rcases s.routeTarget e with ⟨_, _ | _⟩ <;> simp
@[simp] theorem raise_poison (s : State) (e a : Nat) (w : Word) : (s.raise e a w).poison = s.poison := by
  unfold raise; split; · rfl
  · rcases s.routeTarget e with ⟨_, _ | _⟩ <;> simp
@[simp] theorem raise_ready (s : State) (e a : Nat) (w : Word) : (s.raise e a w).ready = s.ready := by
  unfold raise; split; · rfl
  · rcases s.routeTarget e with ⟨_, _ | _⟩ <;> simp
@[simp] theorem raise_draws (s : State) (e a : Nat) (w : Word) : (s.raise e a w).draws = s.draws := by
  unfold raise; split; · rfl
  · rcases s.routeTarget e with ⟨_, _ | _⟩ <;> simp
@[simp] theorem raise_pending (s : State) (e a : Nat) (w : Word) : (s.raise e a w).pending = s.pending := by
  unfold raise; split; · rfl
  · rcases s.routeTarget e with ⟨_, _ | _⟩ <;> simp
@[simp] theorem raise_t_read (s : State) (e a : Nat) (w : Word) (jj : Tender) : (s.raise e a w).t jj = s.t jj := by
  unfold raise; split; · rfl
  · rcases s.routeTarget e with ⟨_, _ | _⟩ <;> simp
@[simp] theorem raise_g_read (s : State) (e a : Nat) (w : Word) (jj : Tender) (q : Fin 32) : (s.raise e a w).g jj q = s.g jj q := by
  unfold raise; split; · rfl
  · rcases s.routeTarget e with ⟨_, _ | _⟩ <;> simp
@[simp] theorem raise_reg_read (s : State) (e a : Nat) (w : Word) (oo : Nat) : (s.raise e a w).reg oo = s.reg oo := by
  unfold raise; split; · rfl
  · rcases s.routeTarget e with ⟨_, _ | _⟩ <;> simp
@[simp] theorem raise_f_read (s : State) (e a : Nat) (w : Word) (y : Fld) (jj : Nat) : (s.raise e a w).f y jj = s.f y jj := by
  unfold raise; split; · rfl
  · rcases s.routeTarget e with ⟨_, _ | _⟩ <;> simp
@[simp] theorem raise_fb_read (s : State) (e a : Nat) (w : Word) (y : Fld) (jj : Nat) : (s.raise e a w).fb y jj = s.fb y jj := by
  unfold raise; split; · rfl
  · rcases s.routeTarget e with ⟨_, _ | _⟩ <;> simp
@[simp] theorem raise_control_read (s : State) (e a : Nat) (w : Word)  : (s.raise e a w).control  = s.control  := by
  unfold raise; split; · rfl
  · rcases s.routeTarget e with ⟨_, _ | _⟩ <;> simp
@[simp] theorem raise_emergency_read (s : State) (e a : Nat) (w : Word)  : (s.raise e a w).emergency  = s.emergency  := by
  unfold raise; split; · rfl
  · rcases s.routeTarget e with ⟨_, _ | _⟩ <;> simp
@[simp] theorem raise_following_read (s : State) (e a : Nat) (w : Word)  : (s.raise e a w).following  = s.following  := by
  unfold raise; split; · rfl
  · rcases s.routeTarget e with ⟨_, _ | _⟩ <;> simp
@[simp] theorem raise_portUp_read (s : State) (e a : Nat) (w : Word)  : (s.raise e a w).portUp  = s.portUp  := by
  unfold raise; split; · rfl
  · rcases s.routeTarget e with ⟨_, _ | _⟩ <;> simp
@[simp] theorem raise_rdByte_read (s : State) (e a : Nat) (w : Word) (oo : Nat) : (s.raise e a w).rdByte oo = s.rdByte oo := by
  unfold raise; split; · rfl
  · rcases s.routeTarget e with ⟨_, _ | _⟩ <;> simp
@[simp] theorem raise_logNext_read (s : State) (e a : Nat) (w : Word)  : (s.raise e a w).logNext  = s.logNext  := by
  unfold raise; split; · rfl
  · rcases s.routeTarget e with ⟨_, _ | _⟩ <;> simp
@[simp] theorem raise_mo_read (s : State) (e a : Nat) (w : Word) (kk : Slot) : (s.raise e a w).mo kk = s.mo kk := by
  unfold raise; split; · rfl
  · rcases s.routeTarget e with ⟨_, _ | _⟩ <;> simp
@[simp] theorem raise_port_read (s : State) (e a : Nat) (w : Word) (kk : Slot) : (s.raise e a w).port kk = s.port kk := by
  unfold raise; split; · rfl
  · rcases s.routeTarget e with ⟨_, _ | _⟩ <;> simp
@[simp] theorem raise_ses_read (s : State) (e a : Nat) (w : Word) (kk : Sess) : (s.raise e a w).ses kk = s.ses kk := by
  unfold raise; split; · rfl
  · rcases s.routeTarget e with ⟨_, _ | _⟩ <;> simp
@[simp] theorem raise_dch_read (s : State) (e a : Nat) (w : Word) (kk : Fin 32) : (s.raise e a w).dch kk = s.dch kk := by
  unfold raise; split; · rfl
  · rcases s.routeTarget e with ⟨_, _ | _⟩ <;> simp
@[simp] theorem raise_tile_read (s : State) (e a : Nat) (w : Word) (kk : Fin 8) : (s.raise e a w).tile kk = s.tile kk := by
  unfold raise; split; · rfl
  · rcases s.routeTarget e with ⟨_, _ | _⟩ <;> simp
@[simp] theorem raise_led_read (s : State) (e a : Nat) (w : Word) (kk : Slot) : (s.raise e a w).led kk = s.led kk := by
  unfold raise; split; · rfl
  · rcases s.routeTarget e with ⟨_, _ | _⟩ <;> simp
@[simp] theorem raise_trc_read (s : State) (e a : Nat) (w : Word) (kk : Slot) : (s.raise e a w).trc kk = s.trc kk := by
  unfold raise; split; · rfl
  · rcases s.routeTarget e with ⟨_, _ | _⟩ <;> simp
@[simp] theorem raise_slotOf_read (s : State) (e a : Nat) (w : Word) (kk : Slot) : (s.raise e a w).slotOf kk = s.slotOf kk := by
  unfold raise; split; · rfl
  · rcases s.routeTarget e with ⟨_, _ | _⟩ <;> simp
@[simp] theorem raise_blkState_read (s : State) (e a : Nat) (w : Word) (kk : Slot) : (s.raise e a w).blkState kk = s.blkState kk := by
  unfold raise; split; · rfl
  · rcases s.routeTarget e with ⟨_, _ | _⟩ <;> simp
@[simp] theorem raise_linkUp_read (s : State) (e a : Nat) (w : Word) (kk : Slot) : (s.raise e a w).linkUp kk = s.linkUp kk := by
  unfold raise; split; · rfl
  · rcases s.routeTarget e with ⟨_, _ | _⟩ <;> simp
@[simp] theorem raise_pclkTime_read (s : State) (e a : Nat) (w : Word)  : (s.raise e a w).pclkTime  = s.pclkTime  := by
  unfold raise; split; · rfl
  · rcases s.routeTarget e with ⟨_, _ | _⟩ <;> simp

/-! #### raiseSlot -/

@[simp] theorem raiseSlot_beacon (s : State) (n : Slot) (k a : Nat) (w : Word) : (s.raiseSlot n k a w).beacon = s.beacon := raise_beacon ..
@[simp] theorem raiseSlot_clk (s : State) (n : Slot) (k a : Nat) (w : Word) : (s.raiseSlot n k a w).clk = s.clk := raise_clk ..
@[simp] theorem raiseSlot_tnd (s : State) (n : Slot) (k a : Nat) (w : Word) : (s.raiseSlot n k a w).tnd = s.tnd := raise_tnd ..
@[simp] theorem raiseSlot_sets (s : State) (n : Slot) (k a : Nat) (w : Word) : (s.raiseSlot n k a w).sets = s.sets := raise_sets ..
@[simp] theorem raiseSlot_prog (s : State) (n : Slot) (k a : Nat) (w : Word) : (s.raiseSlot n k a w).prog = s.prog := raise_prog ..
@[simp] theorem raiseSlot_act (s : State) (n : Slot) (k a : Nat) (w : Word) : (s.raiseSlot n k a w).act = s.act := raise_act ..
@[simp] theorem raiseSlot_log (s : State) (n : Slot) (k a : Nat) (w : Word) : (s.raiseSlot n k a w).log = s.log := raise_log ..
@[simp] theorem raiseSlot_sec (s : State) (n : Slot) (k a : Nat) (w : Word) : (s.raiseSlot n k a w).sec = s.sec := raise_sec ..
@[simp] theorem raiseSlot_kcp (s : State) (n : Slot) (k a : Nat) (w : Word) : (s.raiseSlot n k a w).kcp = s.kcp := raise_kcp ..
@[simp] theorem raiseSlot_plb (s : State) (n : Slot) (k a : Nat) (w : Word) : (s.raiseSlot n k a w).plb = s.plb := raise_plb ..
@[simp] theorem raiseSlot_trs (s : State) (n : Slot) (k a : Nat) (w : Word) : (s.raiseSlot n k a w).trs = s.trs := raise_trs ..
@[simp] theorem raiseSlot_ldg (s : State) (n : Slot) (k a : Nat) (w : Word) : (s.raiseSlot n k a w).ldg = s.ldg := raise_ldg ..
@[simp] theorem raiseSlot_trace (s : State) (n : Slot) (k a : Nat) (w : Word) : (s.raiseSlot n k a w).trace = s.trace := raise_trace ..
@[simp] theorem raiseSlot_mor (s : State) (n : Slot) (k a : Nat) (w : Word) : (s.raiseSlot n k a w).mor = s.mor := raise_mor ..
@[simp] theorem raiseSlot_occ (s : State) (n : Slot) (k a : Nat) (w : Word) : (s.raiseSlot n k a w).occ = s.occ := raise_occ ..
@[simp] theorem raiseSlot_scf (s : State) (n : Slot) (k a : Nat) (w : Word) : (s.raiseSlot n k a w).scf = s.scf := raise_scf ..
@[simp] theorem raiseSlot_mc (s : State) (n : Slot) (k a : Nat) (w : Word) : (s.raiseSlot n k a w).mc = s.mc := raise_mc ..
@[simp] theorem raiseSlot_dma (s : State) (n : Slot) (k a : Nat) (w : Word) : (s.raiseSlot n k a w).dma = s.dma := raise_dma ..
@[simp] theorem raiseSlot_regs (s : State) (n : Slot) (k a : Nat) (w : Word) : (s.raiseSlot n k a w).regs = s.regs := raise_regs ..
@[simp] theorem raiseSlot_mem (s : State) (n : Slot) (k a : Nat) (w : Word) : (s.raiseSlot n k a w).mem = s.mem := raise_mem ..
@[simp] theorem raiseSlot_poison (s : State) (n : Slot) (k a : Nat) (w : Word) : (s.raiseSlot n k a w).poison = s.poison := raise_poison ..
@[simp] theorem raiseSlot_ready (s : State) (n : Slot) (k a : Nat) (w : Word) : (s.raiseSlot n k a w).ready = s.ready := raise_ready ..
@[simp] theorem raiseSlot_draws (s : State) (n : Slot) (k a : Nat) (w : Word) : (s.raiseSlot n k a w).draws = s.draws := raise_draws ..
@[simp] theorem raiseSlot_pending (s : State) (n : Slot) (k a : Nat) (w : Word) : (s.raiseSlot n k a w).pending = s.pending := raise_pending ..
@[simp] theorem raiseSlot_t_read (s : State) (n : Slot) (k a : Nat) (w : Word) (jj : Tender) : (s.raiseSlot n k a w).t jj = s.t jj := raise_t_read ..
@[simp] theorem raiseSlot_g_read (s : State) (n : Slot) (k a : Nat) (w : Word) (jj : Tender) (q : Fin 32) : (s.raiseSlot n k a w).g jj q = s.g jj q := raise_g_read ..
@[simp] theorem raiseSlot_reg_read (s : State) (n : Slot) (k a : Nat) (w : Word) (oo : Nat) : (s.raiseSlot n k a w).reg oo = s.reg oo := raise_reg_read ..
@[simp] theorem raiseSlot_f_read (s : State) (n : Slot) (k a : Nat) (w : Word) (y : Fld) (jj : Nat) : (s.raiseSlot n k a w).f y jj = s.f y jj := raise_f_read ..
@[simp] theorem raiseSlot_fb_read (s : State) (n : Slot) (k a : Nat) (w : Word) (y : Fld) (jj : Nat) : (s.raiseSlot n k a w).fb y jj = s.fb y jj := raise_fb_read ..
@[simp] theorem raiseSlot_control_read (s : State) (n : Slot) (k a : Nat) (w : Word)  : (s.raiseSlot n k a w).control  = s.control  := raise_control_read ..
@[simp] theorem raiseSlot_emergency_read (s : State) (n : Slot) (k a : Nat) (w : Word)  : (s.raiseSlot n k a w).emergency  = s.emergency  := raise_emergency_read ..
@[simp] theorem raiseSlot_following_read (s : State) (n : Slot) (k a : Nat) (w : Word)  : (s.raiseSlot n k a w).following  = s.following  := raise_following_read ..
@[simp] theorem raiseSlot_portUp_read (s : State) (n : Slot) (k a : Nat) (w : Word)  : (s.raiseSlot n k a w).portUp  = s.portUp  := raise_portUp_read ..
@[simp] theorem raiseSlot_rdByte_read (s : State) (n : Slot) (k a : Nat) (w : Word) (oo : Nat) : (s.raiseSlot n k a w).rdByte oo = s.rdByte oo := raise_rdByte_read ..
@[simp] theorem raiseSlot_logNext_read (s : State) (n : Slot) (k a : Nat) (w : Word)  : (s.raiseSlot n k a w).logNext  = s.logNext  := raise_logNext_read ..
@[simp] theorem raiseSlot_mo_read (s : State) (n : Slot) (k a : Nat) (w : Word) (kk : Slot) : (s.raiseSlot n k a w).mo kk = s.mo kk := raise_mo_read ..
@[simp] theorem raiseSlot_port_read (s : State) (n : Slot) (k a : Nat) (w : Word) (kk : Slot) : (s.raiseSlot n k a w).port kk = s.port kk := raise_port_read ..
@[simp] theorem raiseSlot_ses_read (s : State) (n : Slot) (k a : Nat) (w : Word) (kk : Sess) : (s.raiseSlot n k a w).ses kk = s.ses kk := raise_ses_read ..
@[simp] theorem raiseSlot_dch_read (s : State) (n : Slot) (k a : Nat) (w : Word) (kk : Fin 32) : (s.raiseSlot n k a w).dch kk = s.dch kk := raise_dch_read ..
@[simp] theorem raiseSlot_tile_read (s : State) (n : Slot) (k a : Nat) (w : Word) (kk : Fin 8) : (s.raiseSlot n k a w).tile kk = s.tile kk := raise_tile_read ..
@[simp] theorem raiseSlot_led_read (s : State) (n : Slot) (k a : Nat) (w : Word) (kk : Slot) : (s.raiseSlot n k a w).led kk = s.led kk := raise_led_read ..
@[simp] theorem raiseSlot_trc_read (s : State) (n : Slot) (k a : Nat) (w : Word) (kk : Slot) : (s.raiseSlot n k a w).trc kk = s.trc kk := raise_trc_read ..
@[simp] theorem raiseSlot_slotOf_read (s : State) (n : Slot) (k a : Nat) (w : Word) (kk : Slot) : (s.raiseSlot n k a w).slotOf kk = s.slotOf kk := raise_slotOf_read ..
@[simp] theorem raiseSlot_blkState_read (s : State) (n : Slot) (k a : Nat) (w : Word) (kk : Slot) : (s.raiseSlot n k a w).blkState kk = s.blkState kk := raise_blkState_read ..
@[simp] theorem raiseSlot_linkUp_read (s : State) (n : Slot) (k a : Nat) (w : Word) (kk : Slot) : (s.raiseSlot n k a w).linkUp kk = s.linkUp kk := raise_linkUp_read ..
@[simp] theorem raiseSlot_pclkTime_read (s : State) (n : Slot) (k a : Nat) (w : Word)  : (s.raiseSlot n k a w).pclkTime  = s.pclkTime  := raise_pclkTime_read ..

/-! #### netSend -/

@[simp] theorem netSend_beacon (s : State) (o : Out) : (s.netSend o).beacon = s.beacon := by
  unfold netSend; split <;> rfl
@[simp] theorem netSend_clk (s : State) (o : Out) : (s.netSend o).clk = s.clk := by
  unfold netSend; split <;> rfl
@[simp] theorem netSend_tnd (s : State) (o : Out) : (s.netSend o).tnd = s.tnd := by
  unfold netSend; split <;> rfl
@[simp] theorem netSend_evt (s : State) (o : Out) : (s.netSend o).evt = s.evt := by
  unfold netSend; split <;> rfl
@[simp] theorem netSend_sets (s : State) (o : Out) : (s.netSend o).sets = s.sets := by
  unfold netSend; split <;> rfl
@[simp] theorem netSend_prog (s : State) (o : Out) : (s.netSend o).prog = s.prog := by
  unfold netSend; split <;> rfl
@[simp] theorem netSend_act (s : State) (o : Out) : (s.netSend o).act = s.act := by
  unfold netSend; split <;> rfl
@[simp] theorem netSend_log (s : State) (o : Out) : (s.netSend o).log = s.log := by
  unfold netSend; split <;> rfl
@[simp] theorem netSend_sec (s : State) (o : Out) : (s.netSend o).sec = s.sec := by
  unfold netSend; split <;> rfl
@[simp] theorem netSend_par (s : State) (o : Out) : (s.netSend o).par = s.par := by
  unfold netSend; split <;> rfl
@[simp] theorem netSend_plb (s : State) (o : Out) : (s.netSend o).plb = s.plb := by
  unfold netSend; split <;> rfl
@[simp] theorem netSend_trs (s : State) (o : Out) : (s.netSend o).trs = s.trs := by
  unfold netSend; split <;> rfl
@[simp] theorem netSend_ldg (s : State) (o : Out) : (s.netSend o).ldg = s.ldg := by
  unfold netSend; split <;> rfl
@[simp] theorem netSend_trace (s : State) (o : Out) : (s.netSend o).trace = s.trace := by
  unfold netSend; split <;> rfl
@[simp] theorem netSend_mor (s : State) (o : Out) : (s.netSend o).mor = s.mor := by
  unfold netSend; split <;> rfl
@[simp] theorem netSend_occ (s : State) (o : Out) : (s.netSend o).occ = s.occ := by
  unfold netSend; split <;> rfl
@[simp] theorem netSend_bcn (s : State) (o : Out) : (s.netSend o).bcn = s.bcn := by
  unfold netSend; split <;> rfl
@[simp] theorem netSend_scf (s : State) (o : Out) : (s.netSend o).scf = s.scf := by
  unfold netSend; split <;> rfl
@[simp] theorem netSend_mc (s : State) (o : Out) : (s.netSend o).mc = s.mc := by
  unfold netSend; split <;> rfl
@[simp] theorem netSend_dma (s : State) (o : Out) : (s.netSend o).dma = s.dma := by
  unfold netSend; split <;> rfl
@[simp] theorem netSend_regs (s : State) (o : Out) : (s.netSend o).regs = s.regs := by
  unfold netSend; split <;> rfl
@[simp] theorem netSend_mem (s : State) (o : Out) : (s.netSend o).mem = s.mem := by
  unfold netSend; split <;> rfl
@[simp] theorem netSend_poison (s : State) (o : Out) : (s.netSend o).poison = s.poison := by
  unfold netSend; split <;> rfl
@[simp] theorem netSend_ready (s : State) (o : Out) : (s.netSend o).ready = s.ready := by
  unfold netSend; split <;> rfl
@[simp] theorem netSend_draws (s : State) (o : Out) : (s.netSend o).draws = s.draws := by
  unfold netSend; split <;> rfl
@[simp] theorem netSend_pending (s : State) (o : Out) : (s.netSend o).pending = s.pending := by
  unfold netSend; split <;> rfl
@[simp] theorem netSend_t_read (s : State) (o : Out) (jj : Tender) : (s.netSend o).t jj = s.t jj := by
  unfold netSend; split <;> rfl
@[simp] theorem netSend_g_read (s : State) (o : Out) (jj : Tender) (q : Fin 32) : (s.netSend o).g jj q = s.g jj q := by
  unfold netSend; split <;> rfl
@[simp] theorem netSend_reg_read (s : State) (o : Out) (oo : Nat) : (s.netSend o).reg oo = s.reg oo := by
  unfold netSend; split <;> rfl
@[simp] theorem netSend_f_read (s : State) (o : Out) (y : Fld) (jj : Nat) : (s.netSend o).f y jj = s.f y jj := by
  unfold netSend; split <;> rfl
@[simp] theorem netSend_fb_read (s : State) (o : Out) (y : Fld) (jj : Nat) : (s.netSend o).fb y jj = s.fb y jj := by
  unfold netSend; split <;> rfl
@[simp] theorem netSend_control_read (s : State) (o : Out)  : (s.netSend o).control  = s.control  := by
  unfold netSend; split <;> rfl
@[simp] theorem netSend_emergency_read (s : State) (o : Out)  : (s.netSend o).emergency  = s.emergency  := by
  unfold netSend; split <;> rfl
@[simp] theorem netSend_following_read (s : State) (o : Out)  : (s.netSend o).following  = s.following  := by
  unfold netSend; split <;> rfl
@[simp] theorem netSend_portUp_read (s : State) (o : Out)  : (s.netSend o).portUp  = s.portUp  := by
  unfold netSend; split <;> rfl
@[simp] theorem netSend_rdByte_read (s : State) (o : Out) (oo : Nat) : (s.netSend o).rdByte oo = s.rdByte oo := by
  unfold netSend; split <;> rfl
@[simp] theorem netSend_logNext_read (s : State) (o : Out)  : (s.netSend o).logNext  = s.logNext  := by
  unfold netSend; split <;> rfl
@[simp] theorem netSend_mo_read (s : State) (o : Out) (kk : Slot) : (s.netSend o).mo kk = s.mo kk := by
  unfold netSend; split <;> rfl
@[simp] theorem netSend_port_read (s : State) (o : Out) (kk : Slot) : (s.netSend o).port kk = s.port kk := by
  unfold netSend; split <;> rfl
@[simp] theorem netSend_dch_read (s : State) (o : Out) (kk : Fin 32) : (s.netSend o).dch kk = s.dch kk := by
  unfold netSend; split <;> rfl
@[simp] theorem netSend_tile_read (s : State) (o : Out) (kk : Fin 8) : (s.netSend o).tile kk = s.tile kk := by
  unfold netSend; split <;> rfl
@[simp] theorem netSend_led_read (s : State) (o : Out) (kk : Slot) : (s.netSend o).led kk = s.led kk := by
  unfold netSend; split <;> rfl
@[simp] theorem netSend_trc_read (s : State) (o : Out) (kk : Slot) : (s.netSend o).trc kk = s.trc kk := by
  unfold netSend; split <;> rfl
@[simp] theorem netSend_slotOf_read (s : State) (o : Out) (kk : Slot) : (s.netSend o).slotOf kk = s.slotOf kk := by
  unfold netSend; split <;> rfl
@[simp] theorem netSend_blkState_read (s : State) (o : Out) (kk : Slot) : (s.netSend o).blkState kk = s.blkState kk := by
  unfold netSend; split <;> rfl
@[simp] theorem netSend_linkUp_read (s : State) (o : Out) (kk : Slot) : (s.netSend o).linkUp kk = s.linkUp kk := by
  unfold netSend; split <;> rfl
@[simp] theorem netSend_pclkTime_read (s : State) (o : Out)  : (s.netSend o).pclkTime  = s.pclkTime  := by
  unfold netSend; split <;> rfl

/-! #### wrBytes -/

@[simp] theorem wrBytes_beacon (b : List Byte) (s : State) (a : Nat) : (s.wrBytes a b).beacon = s.beacon := by
  induction b generalizing s a with
  | nil => rfl
  | cons b bs ih => simp only [wrBytes, ih, wrByte_beacon]
@[simp] theorem wrBytes_clk (b : List Byte) (s : State) (a : Nat) : (s.wrBytes a b).clk = s.clk := by
  induction b generalizing s a with
  | nil => rfl
  | cons b bs ih => simp only [wrBytes, ih, wrByte_clk]
@[simp] theorem wrBytes_tnd (b : List Byte) (s : State) (a : Nat) : (s.wrBytes a b).tnd = s.tnd := by
  induction b generalizing s a with
  | nil => rfl
  | cons b bs ih => simp only [wrBytes, ih, wrByte_tnd]
@[simp] theorem wrBytes_evt (b : List Byte) (s : State) (a : Nat) : (s.wrBytes a b).evt = s.evt := by
  induction b generalizing s a with
  | nil => rfl
  | cons b bs ih => simp only [wrBytes, ih, wrByte_evt]
@[simp] theorem wrBytes_sets (b : List Byte) (s : State) (a : Nat) : (s.wrBytes a b).sets = s.sets := by
  induction b generalizing s a with
  | nil => rfl
  | cons b bs ih => simp only [wrBytes, ih, wrByte_sets]
@[simp] theorem wrBytes_prog (b : List Byte) (s : State) (a : Nat) : (s.wrBytes a b).prog = s.prog := by
  induction b generalizing s a with
  | nil => rfl
  | cons b bs ih => simp only [wrBytes, ih, wrByte_prog]
@[simp] theorem wrBytes_act (b : List Byte) (s : State) (a : Nat) : (s.wrBytes a b).act = s.act := by
  induction b generalizing s a with
  | nil => rfl
  | cons b bs ih => simp only [wrBytes, ih, wrByte_act]
@[simp] theorem wrBytes_log (b : List Byte) (s : State) (a : Nat) : (s.wrBytes a b).log = s.log := by
  induction b generalizing s a with
  | nil => rfl
  | cons b bs ih => simp only [wrBytes, ih, wrByte_log]
@[simp] theorem wrBytes_sec (b : List Byte) (s : State) (a : Nat) : (s.wrBytes a b).sec = s.sec := by
  induction b generalizing s a with
  | nil => rfl
  | cons b bs ih => simp only [wrBytes, ih, wrByte_sec]
@[simp] theorem wrBytes_kcp (b : List Byte) (s : State) (a : Nat) : (s.wrBytes a b).kcp = s.kcp := by
  induction b generalizing s a with
  | nil => rfl
  | cons b bs ih => simp only [wrBytes, ih, wrByte_kcp]
@[simp] theorem wrBytes_par (b : List Byte) (s : State) (a : Nat) : (s.wrBytes a b).par = s.par := by
  induction b generalizing s a with
  | nil => rfl
  | cons b bs ih => simp only [wrBytes, ih, wrByte_par]
@[simp] theorem wrBytes_plb (b : List Byte) (s : State) (a : Nat) : (s.wrBytes a b).plb = s.plb := by
  induction b generalizing s a with
  | nil => rfl
  | cons b bs ih => simp only [wrBytes, ih, wrByte_plb]
@[simp] theorem wrBytes_trs (b : List Byte) (s : State) (a : Nat) : (s.wrBytes a b).trs = s.trs := by
  induction b generalizing s a with
  | nil => rfl
  | cons b bs ih => simp only [wrBytes, ih, wrByte_trs]
@[simp] theorem wrBytes_ldg (b : List Byte) (s : State) (a : Nat) : (s.wrBytes a b).ldg = s.ldg := by
  induction b generalizing s a with
  | nil => rfl
  | cons b bs ih => simp only [wrBytes, ih, wrByte_ldg]
@[simp] theorem wrBytes_trace (b : List Byte) (s : State) (a : Nat) : (s.wrBytes a b).trace = s.trace := by
  induction b generalizing s a with
  | nil => rfl
  | cons b bs ih => simp only [wrBytes, ih, wrByte_trace]
@[simp] theorem wrBytes_mor (b : List Byte) (s : State) (a : Nat) : (s.wrBytes a b).mor = s.mor := by
  induction b generalizing s a with
  | nil => rfl
  | cons b bs ih => simp only [wrBytes, ih, wrByte_mor]
@[simp] theorem wrBytes_occ (b : List Byte) (s : State) (a : Nat) : (s.wrBytes a b).occ = s.occ := by
  induction b generalizing s a with
  | nil => rfl
  | cons b bs ih => simp only [wrBytes, ih, wrByte_occ]
@[simp] theorem wrBytes_bcn (b : List Byte) (s : State) (a : Nat) : (s.wrBytes a b).bcn = s.bcn := by
  induction b generalizing s a with
  | nil => rfl
  | cons b bs ih => simp only [wrBytes, ih, wrByte_bcn]
@[simp] theorem wrBytes_scf (b : List Byte) (s : State) (a : Nat) : (s.wrBytes a b).scf = s.scf := by
  induction b generalizing s a with
  | nil => rfl
  | cons b bs ih => simp only [wrBytes, ih, wrByte_scf]
@[simp] theorem wrBytes_mc (b : List Byte) (s : State) (a : Nat) : (s.wrBytes a b).mc = s.mc := by
  induction b generalizing s a with
  | nil => rfl
  | cons b bs ih => simp only [wrBytes, ih, wrByte_mc]
@[simp] theorem wrBytes_dma (b : List Byte) (s : State) (a : Nat) : (s.wrBytes a b).dma = s.dma := by
  induction b generalizing s a with
  | nil => rfl
  | cons b bs ih => simp only [wrBytes, ih, wrByte_dma]
@[simp] theorem wrBytes_regs (b : List Byte) (s : State) (a : Nat) : (s.wrBytes a b).regs = s.regs := by
  induction b generalizing s a with
  | nil => rfl
  | cons b bs ih => simp only [wrBytes, ih, wrByte_regs]
@[simp] theorem wrBytes_poison (b : List Byte) (s : State) (a : Nat) : (s.wrBytes a b).poison = s.poison := by
  induction b generalizing s a with
  | nil => rfl
  | cons b bs ih => simp only [wrBytes, ih, wrByte_poison]
@[simp] theorem wrBytes_ready (b : List Byte) (s : State) (a : Nat) : (s.wrBytes a b).ready = s.ready := by
  induction b generalizing s a with
  | nil => rfl
  | cons b bs ih => simp only [wrBytes, ih, wrByte_ready]
@[simp] theorem wrBytes_out (b : List Byte) (s : State) (a : Nat) : (s.wrBytes a b).out = s.out := by
  induction b generalizing s a with
  | nil => rfl
  | cons b bs ih => simp only [wrBytes, ih, wrByte_out]
@[simp] theorem wrBytes_draws (b : List Byte) (s : State) (a : Nat) : (s.wrBytes a b).draws = s.draws := by
  induction b generalizing s a with
  | nil => rfl
  | cons b bs ih => simp only [wrBytes, ih, wrByte_draws]
@[simp] theorem wrBytes_pending (b : List Byte) (s : State) (a : Nat) : (s.wrBytes a b).pending = s.pending := by
  induction b generalizing s a with
  | nil => rfl
  | cons b bs ih => simp only [wrBytes, ih, wrByte_pending]
@[simp] theorem wrBytes_t_read (b : List Byte) (s : State) (a : Nat) (jj : Tender) : (s.wrBytes a b).t jj = s.t jj := by
  induction b generalizing s a with
  | nil => rfl
  | cons b bs ih => simp only [wrBytes, ih, wrByte_t_read]
@[simp] theorem wrBytes_g_read (b : List Byte) (s : State) (a : Nat) (jj : Tender) (q : Fin 32) : (s.wrBytes a b).g jj q = s.g jj q := by
  induction b generalizing s a with
  | nil => rfl
  | cons b bs ih => simp only [wrBytes, ih, wrByte_g_read]
@[simp] theorem wrBytes_reg_read (b : List Byte) (s : State) (a : Nat) (oo : Nat) : (s.wrBytes a b).reg oo = s.reg oo := by
  induction b generalizing s a with
  | nil => rfl
  | cons b bs ih => simp only [wrBytes, ih, wrByte_reg_read]
@[simp] theorem wrBytes_f_read (b : List Byte) (s : State) (a : Nat) (y : Fld) (jj : Nat) : (s.wrBytes a b).f y jj = s.f y jj := by
  induction b generalizing s a with
  | nil => rfl
  | cons b bs ih => simp only [wrBytes, ih, wrByte_f_read]
@[simp] theorem wrBytes_fb_read (b : List Byte) (s : State) (a : Nat) (y : Fld) (jj : Nat) : (s.wrBytes a b).fb y jj = s.fb y jj := by
  induction b generalizing s a with
  | nil => rfl
  | cons b bs ih => simp only [wrBytes, ih, wrByte_fb_read]
@[simp] theorem wrBytes_control_read (b : List Byte) (s : State) (a : Nat)  : (s.wrBytes a b).control  = s.control  := by
  induction b generalizing s a with
  | nil => rfl
  | cons b bs ih => simp only [wrBytes, ih, wrByte_control_read]
@[simp] theorem wrBytes_emergency_read (b : List Byte) (s : State) (a : Nat)  : (s.wrBytes a b).emergency  = s.emergency  := by
  induction b generalizing s a with
  | nil => rfl
  | cons b bs ih => simp only [wrBytes, ih, wrByte_emergency_read]
@[simp] theorem wrBytes_following_read (b : List Byte) (s : State) (a : Nat)  : (s.wrBytes a b).following  = s.following  := by
  induction b generalizing s a with
  | nil => rfl
  | cons b bs ih => simp only [wrBytes, ih, wrByte_following_read]
@[simp] theorem wrBytes_portUp_read (b : List Byte) (s : State) (a : Nat)  : (s.wrBytes a b).portUp  = s.portUp  := by
  induction b generalizing s a with
  | nil => rfl
  | cons b bs ih => simp only [wrBytes, ih, wrByte_portUp_read]
@[simp] theorem wrBytes_mo_read (b : List Byte) (s : State) (a : Nat) (kk : Slot) : (s.wrBytes a b).mo kk = s.mo kk := by
  induction b generalizing s a with
  | nil => rfl
  | cons b bs ih => simp only [wrBytes, ih, wrByte_mo_read]
@[simp] theorem wrBytes_port_read (b : List Byte) (s : State) (a : Nat) (kk : Slot) : (s.wrBytes a b).port kk = s.port kk := by
  induction b generalizing s a with
  | nil => rfl
  | cons b bs ih => simp only [wrBytes, ih, wrByte_port_read]
@[simp] theorem wrBytes_ses_read (b : List Byte) (s : State) (a : Nat) (kk : Sess) : (s.wrBytes a b).ses kk = s.ses kk := by
  induction b generalizing s a with
  | nil => rfl
  | cons b bs ih => simp only [wrBytes, ih, wrByte_ses_read]
@[simp] theorem wrBytes_dch_read (b : List Byte) (s : State) (a : Nat) (kk : Fin 32) : (s.wrBytes a b).dch kk = s.dch kk := by
  induction b generalizing s a with
  | nil => rfl
  | cons b bs ih => simp only [wrBytes, ih, wrByte_dch_read]
@[simp] theorem wrBytes_tile_read (b : List Byte) (s : State) (a : Nat) (kk : Fin 8) : (s.wrBytes a b).tile kk = s.tile kk := by
  induction b generalizing s a with
  | nil => rfl
  | cons b bs ih => simp only [wrBytes, ih, wrByte_tile_read]
@[simp] theorem wrBytes_led_read (b : List Byte) (s : State) (a : Nat) (kk : Slot) : (s.wrBytes a b).led kk = s.led kk := by
  induction b generalizing s a with
  | nil => rfl
  | cons b bs ih => simp only [wrBytes, ih, wrByte_led_read]
@[simp] theorem wrBytes_trc_read (b : List Byte) (s : State) (a : Nat) (kk : Slot) : (s.wrBytes a b).trc kk = s.trc kk := by
  induction b generalizing s a with
  | nil => rfl
  | cons b bs ih => simp only [wrBytes, ih, wrByte_trc_read]
@[simp] theorem wrBytes_slotOf_read (b : List Byte) (s : State) (a : Nat) (kk : Slot) : (s.wrBytes a b).slotOf kk = s.slotOf kk := by
  induction b generalizing s a with
  | nil => rfl
  | cons b bs ih => simp only [wrBytes, ih, wrByte_slotOf_read]
@[simp] theorem wrBytes_blkState_read (b : List Byte) (s : State) (a : Nat) (kk : Slot) : (s.wrBytes a b).blkState kk = s.blkState kk := by
  induction b generalizing s a with
  | nil => rfl
  | cons b bs ih => simp only [wrBytes, ih, wrByte_blkState_read]
@[simp] theorem wrBytes_linkUp_read (b : List Byte) (s : State) (a : Nat) (kk : Slot) : (s.wrBytes a b).linkUp kk = s.linkUp kk := by
  induction b generalizing s a with
  | nil => rfl
  | cons b bs ih => simp only [wrBytes, ih, wrByte_linkUp_read]
@[simp] theorem wrBytes_pclkTime_read (b : List Byte) (s : State) (a : Nat)  : (s.wrBytes a b).pclkTime  = s.pclkTime  := by
  induction b generalizing s a with
  | nil => rfl
  | cons b bs ih => simp only [wrBytes, ih, wrByte_pclkTime_read]

/-! #### wrNat -/

@[simp] theorem wrNat_beacon (s : State) (a n x : Nat) : (s.wrNat a n x).beacon = s.beacon := wrBytes_beacon ..
@[simp] theorem wrNat_clk (s : State) (a n x : Nat) : (s.wrNat a n x).clk = s.clk := wrBytes_clk ..
@[simp] theorem wrNat_tnd (s : State) (a n x : Nat) : (s.wrNat a n x).tnd = s.tnd := wrBytes_tnd ..
@[simp] theorem wrNat_evt (s : State) (a n x : Nat) : (s.wrNat a n x).evt = s.evt := wrBytes_evt ..
@[simp] theorem wrNat_sets (s : State) (a n x : Nat) : (s.wrNat a n x).sets = s.sets := wrBytes_sets ..
@[simp] theorem wrNat_prog (s : State) (a n x : Nat) : (s.wrNat a n x).prog = s.prog := wrBytes_prog ..
@[simp] theorem wrNat_act (s : State) (a n x : Nat) : (s.wrNat a n x).act = s.act := wrBytes_act ..
@[simp] theorem wrNat_log (s : State) (a n x : Nat) : (s.wrNat a n x).log = s.log := wrBytes_log ..
@[simp] theorem wrNat_sec (s : State) (a n x : Nat) : (s.wrNat a n x).sec = s.sec := wrBytes_sec ..
@[simp] theorem wrNat_kcp (s : State) (a n x : Nat) : (s.wrNat a n x).kcp = s.kcp := wrBytes_kcp ..
@[simp] theorem wrNat_par (s : State) (a n x : Nat) : (s.wrNat a n x).par = s.par := wrBytes_par ..
@[simp] theorem wrNat_plb (s : State) (a n x : Nat) : (s.wrNat a n x).plb = s.plb := wrBytes_plb ..
@[simp] theorem wrNat_trs (s : State) (a n x : Nat) : (s.wrNat a n x).trs = s.trs := wrBytes_trs ..
@[simp] theorem wrNat_ldg (s : State) (a n x : Nat) : (s.wrNat a n x).ldg = s.ldg := wrBytes_ldg ..
@[simp] theorem wrNat_trace (s : State) (a n x : Nat) : (s.wrNat a n x).trace = s.trace := wrBytes_trace ..
@[simp] theorem wrNat_mor (s : State) (a n x : Nat) : (s.wrNat a n x).mor = s.mor := wrBytes_mor ..
@[simp] theorem wrNat_occ (s : State) (a n x : Nat) : (s.wrNat a n x).occ = s.occ := wrBytes_occ ..
@[simp] theorem wrNat_bcn (s : State) (a n x : Nat) : (s.wrNat a n x).bcn = s.bcn := wrBytes_bcn ..
@[simp] theorem wrNat_scf (s : State) (a n x : Nat) : (s.wrNat a n x).scf = s.scf := wrBytes_scf ..
@[simp] theorem wrNat_mc (s : State) (a n x : Nat) : (s.wrNat a n x).mc = s.mc := wrBytes_mc ..
@[simp] theorem wrNat_dma (s : State) (a n x : Nat) : (s.wrNat a n x).dma = s.dma := wrBytes_dma ..
@[simp] theorem wrNat_regs (s : State) (a n x : Nat) : (s.wrNat a n x).regs = s.regs := wrBytes_regs ..
@[simp] theorem wrNat_poison (s : State) (a n x : Nat) : (s.wrNat a n x).poison = s.poison := wrBytes_poison ..
@[simp] theorem wrNat_ready (s : State) (a n x : Nat) : (s.wrNat a n x).ready = s.ready := wrBytes_ready ..
@[simp] theorem wrNat_out (s : State) (a n x : Nat) : (s.wrNat a n x).out = s.out := wrBytes_out ..
@[simp] theorem wrNat_draws (s : State) (a n x : Nat) : (s.wrNat a n x).draws = s.draws := wrBytes_draws ..
@[simp] theorem wrNat_pending (s : State) (a n x : Nat) : (s.wrNat a n x).pending = s.pending := wrBytes_pending ..
@[simp] theorem wrNat_t_read (s : State) (a n x : Nat) (jj : Tender) : (s.wrNat a n x).t jj = s.t jj := wrBytes_t_read ..
@[simp] theorem wrNat_g_read (s : State) (a n x : Nat) (jj : Tender) (q : Fin 32) : (s.wrNat a n x).g jj q = s.g jj q := wrBytes_g_read ..
@[simp] theorem wrNat_reg_read (s : State) (a n x : Nat) (oo : Nat) : (s.wrNat a n x).reg oo = s.reg oo := wrBytes_reg_read ..
@[simp] theorem wrNat_f_read (s : State) (a n x : Nat) (y : Fld) (jj : Nat) : (s.wrNat a n x).f y jj = s.f y jj := wrBytes_f_read ..
@[simp] theorem wrNat_fb_read (s : State) (a n x : Nat) (y : Fld) (jj : Nat) : (s.wrNat a n x).fb y jj = s.fb y jj := wrBytes_fb_read ..
@[simp] theorem wrNat_control_read (s : State) (a n x : Nat)  : (s.wrNat a n x).control  = s.control  := wrBytes_control_read ..
@[simp] theorem wrNat_emergency_read (s : State) (a n x : Nat)  : (s.wrNat a n x).emergency  = s.emergency  := wrBytes_emergency_read ..
@[simp] theorem wrNat_following_read (s : State) (a n x : Nat)  : (s.wrNat a n x).following  = s.following  := wrBytes_following_read ..
@[simp] theorem wrNat_portUp_read (s : State) (a n x : Nat)  : (s.wrNat a n x).portUp  = s.portUp  := wrBytes_portUp_read ..
@[simp] theorem wrNat_mo_read (s : State) (a n x : Nat) (kk : Slot) : (s.wrNat a n x).mo kk = s.mo kk := wrBytes_mo_read ..
@[simp] theorem wrNat_port_read (s : State) (a n x : Nat) (kk : Slot) : (s.wrNat a n x).port kk = s.port kk := wrBytes_port_read ..
@[simp] theorem wrNat_ses_read (s : State) (a n x : Nat) (kk : Sess) : (s.wrNat a n x).ses kk = s.ses kk := wrBytes_ses_read ..
@[simp] theorem wrNat_dch_read (s : State) (a n x : Nat) (kk : Fin 32) : (s.wrNat a n x).dch kk = s.dch kk := wrBytes_dch_read ..
@[simp] theorem wrNat_tile_read (s : State) (a n x : Nat) (kk : Fin 8) : (s.wrNat a n x).tile kk = s.tile kk := wrBytes_tile_read ..
@[simp] theorem wrNat_led_read (s : State) (a n x : Nat) (kk : Slot) : (s.wrNat a n x).led kk = s.led kk := wrBytes_led_read ..
@[simp] theorem wrNat_trc_read (s : State) (a n x : Nat) (kk : Slot) : (s.wrNat a n x).trc kk = s.trc kk := wrBytes_trc_read ..
@[simp] theorem wrNat_slotOf_read (s : State) (a n x : Nat) (kk : Slot) : (s.wrNat a n x).slotOf kk = s.slotOf kk := wrBytes_slotOf_read ..
@[simp] theorem wrNat_blkState_read (s : State) (a n x : Nat) (kk : Slot) : (s.wrNat a n x).blkState kk = s.blkState kk := wrBytes_blkState_read ..
@[simp] theorem wrNat_linkUp_read (s : State) (a n x : Nat) (kk : Slot) : (s.wrNat a n x).linkUp kk = s.linkUp kk := wrBytes_linkUp_read ..
@[simp] theorem wrNat_pclkTime_read (s : State) (a n x : Nat)  : (s.wrNat a n x).pclkTime  = s.pclkTime  := wrBytes_pclkTime_read ..

end Sys2Proof.Machine.State
end

