-- ==== Sys2Proof/Laws/Own.lean ====
section
/-! SUPPORT. What each update of the state writes, and what it leaves of its own field. -/

namespace Sys2Proof.Machine.State

/-! ### Tenders -/

@[simp] theorem t_setT_same (s : State) (i : Tender) (x : TenderSt) : (s.setT i x).t i = x := by simp [setT, t]
theorem t_setT_other (s : State) (i j : Tender) (x : TenderSt) (h : j ≠ i) : (s.setT i x).t j = s.t j := by
  have : i.val ≠ j.val := fun e => h (Fin.ext e.symm)
  simp [setT, t, Vector.getElem_set_ne, this]
@[simp] theorem t_updT_same (s : State) (i : Tender) (f : TenderSt → TenderSt) : (s.updT i f).t i = f (s.t i) := t_setT_same ..
theorem t_updT_other (s : State) (i j : Tender) (f : TenderSt → TenderSt) (h : j ≠ i) : (s.updT i f).t j = s.t j := t_setT_other _ _ _ _ h
@[simp] theorem t_retire_same (s : State) (i : Tender) :
    (s.retire i).t i = { s.t i with pc := (s.t i).pc + 4, instret := (s.t i).instret + 1 } := t_updT_same ..
theorem t_retire_other (s : State) (i j : Tender) (h : j ≠ i) : (s.retire i).t j = s.t j := t_updT_other _ _ _ _ h
@[simp] theorem t_retireTo_same (s : State) (i : Tender) (p : BitVec 48) :
    (s.retireTo i p).t i = { s.t i with pc := p, instret := (s.t i).instret + 1 } := t_updT_same ..
theorem t_retireTo_other (s : State) (i j : Tender) (p : BitVec 48) (h : j ≠ i) : (s.retireTo i p).t j = s.t j := t_updT_other _ _ _ _ h
@[simp] theorem setG_zero (s : State) (i : Tender) (v : Word) : s.setG i 0 v = s := rfl
theorem t_setG_other (s : State) (i j : Tender) (r : Fin 32) (v : Word) (h : j ≠ i) : (s.setG i r v).t j = s.t j := by
  unfold setG; split
  · rfl
  · exact t_updT_other _ _ _ _ h
/-- Writing a general register changes nothing else of its tender. -/
theorem t_setG_same (s : State) (i : Tender) (r : Fin 32) (v : Word) : (s.setG i r v).t i = { s.t i with g := ((s.setG i r v).t i).g } := by
  unfold setG; split
  · rfl
  · simp
@[simp] theorem setG_pc (s : State) (i : Tender) (r : Fin 32) (v : Word) : ((s.setG i r v).t i).pc = (s.t i).pc := by rw [t_setG_same]
@[simp] theorem setG_instret (s : State) (i : Tender) (r : Fin 32) (v : Word) : ((s.setG i r v).t i).instret = (s.t i).instret := by rw [t_setG_same]
@[simp] theorem setG_run (s : State) (i : Tender) (r : Fin 32) (v : Word) : ((s.setG i r v).t i).run = (s.t i).run := by rw [t_setG_same]
@[simp] theorem setG_prv (s : State) (i : Tender) (r : Fin 32) (v : Word) : ((s.setG i r v).t i).prv = (s.t i).prv := by rw [t_setG_same]
/-- A written general register reads back; g0 reads as zero (03 R35). -/
theorem g_setG_same (s : State) (i : Tender) (r : Fin 32) (v : Word) : (s.setG i r v).g i r = if r = 0 then 0 else v := by
  by_cases h : r = 0 <;> simp [g, setG, h]
theorem g_setG_other (s : State) (i : Tender) (r q : Fin 32) (v : Word) (h : q ≠ r) : (s.setG i r v).g i q = s.g i q := by
  have hv : r.val ≠ q.val := fun e => h (Fin.ext e.symm)
  unfold setG; split
  · rfl
  · simp [g, Vector.getElem_set_ne, hv]
@[simp] theorem g_zero (s : State) (i : Tender) : s.g i 0 = 0 := rfl
@[simp] theorem g_retire (s : State) (i j : Tender) (r : Fin 32) : (s.retire i).g j r = s.g j r := by
  by_cases h : j = i
  · subst h; simp [g]
  · simp [g, t_retire_other _ _ _ h]
@[simp] theorem g_retireTo (s : State) (i j : Tender) (p : BitVec 48) (r : Fin 32) : (s.retireTo i p).g j r = s.g j r := by
  by_cases h : j = i
  · subst h; simp [g]
  · simp [g, t_retireTo_other _ _ _ _ h]

/-! ### Events -/

theorem launch_inflight (s : State) (i : Tender) (e : EvEntry) :
    (s.launch i e).evt.inflight = s.evt.inflight ++ [⟨i, s.beacon, e⟩] := rfl
@[simp] theorem launch_arms (s : State) (i : Tender) (e : EvEntry) : (s.launch i e).evt.arms = s.evt.arms := rfl
/-- The event that a block raises, as it goes on its way (05 R95). -/
theorem raise_inflight (s : State) (e a : Nat) (w : Word) (h : s.emergency = false) :
    (s.raise e a w).evt.inflight =
      s.evt.inflight ++ [⟨(s.routeTarget e).1, s.beacon, ⟨e, s.f F.EVT_ROUTE_prio e, false, false, a % 65536, 1, 0, w⟩⟩] := by
  unfold raise raiseTo
  rcases s.routeTarget e with ⟨_, _ | _⟩ <;> simp [h, launch]
/-- Being about to enter emergency-light mode leaves mirroring as it is. -/
@[simp] theorem clusterFailed_mirroring (s : State) : s.clusterFailed.par.mirroring = s.par.mirroring := by
  have health (u : State) : (u.healthOut true).par.mirroring = u.par.mirroring := by
    unfold healthOut pairSend pairPut; dsimp only [updPar]; split <;> (try split) <;> rfl
  have word (u : State) : u.failWord.par.mirroring = u.par.mirroring := by
    unfold failWord
    split
    · rfl
    · dsimp only [updPar]
      split <;> simp [health]
  unfold clusterFailed
  split
  · rfl
  · simp [word, updPar]
@[simp] theorem raise_arms (s : State) (e a : Nat) (w : Word) : (s.raise e a w).evt.arms = s.evt.arms := by
  unfold raise raiseTo; rcases s.routeTarget e with ⟨_, _ | _⟩ <;> split <;> simp
@[simp] theorem raise_mirroring (s : State) (e a : Nat) (w : Word) : (s.raise e a w).par.mirroring = s.par.mirroring := by
  unfold raise raiseTo; rcases s.routeTarget e with ⟨_, _ | _⟩ <;> split <;> simp

/-! ### Slots, ports, sessions, channels -/

@[simp] theorem mo_updMo_same (s : State) (n : Slot) (f : MorSlot → MorSlot) : (s.updMo n f).mo n = f (s.mo n) := by simp [updMo, mo]
theorem mo_updMo_other (s : State) (n k : Slot) (f : MorSlot → MorSlot) (h : k ≠ n) : (s.updMo n f).mo k = s.mo k := by
  have : n.val ≠ k.val := fun e => h (Fin.ext e.symm)
  simp [updMo, mo, Vector.getElem_set_ne, this]
@[simp] theorem port_updPort_same (s : State) (n : Slot) (f : LinkSt → LinkSt) : (s.updPort n f).port n = f (s.port n) := by
  simp [updPort, port]
@[simp] theorem ses_updSes_same (s : State) (x : Sess) (f : Session → Session) : (s.updSes x f).ses x = f (s.ses x) := by
  simp [updSes, ses]
@[simp] theorem dch_updCh_same (s : State) (c : Fin 32) (f : DmaChan → DmaChan) : (s.updCh c f).dch c = f (s.dch c) := by
  simp [updCh, dch]
@[simp] theorem tile_updTile_same (s : State) (k : Fin 8) (f : PlbTile → PlbTile) : (s.updTile k f).tile k = f (s.tile k) := by
  simp [updTile, setTile, tile]
@[simp] theorem led_setLed_same (s : State) (n : Slot) (x : LdgSlot) : (s.setLed n x).led n = x := by simp [setLed, led]
@[simp] theorem trc_updTrc_same (s : State) (n : Slot) (f : TrcSlot → TrcSlot) : (s.updTrc n f).trc n = f (s.trc n) := by
  simp [updTrc, setTrc, trc]

end Sys2Proof.Machine.State
end

