-- ==== Sys2Proof/Laws/Settle.lean ====
section
/-! SUPPORT. The answers of rows and instructions: when nothing waits to be taken, what is answered under internal reset, and an
instruction behind its checks. -/

namespace Sys2Proof.Machine

theorem State.settleGo_nil (k : Nat) (s : State) (h : s.ready = []) : settleGo k s = s := by
  cases k with
  | zero => rfl
  | succ k => simp [settleGo, h]

/-- With nothing released, settling changes nothing. -/
theorem State.settle_nil (s : State) (h : s.ready = []) : s.settle = s := State.settleGo_nil _ s h

theorem done_nil (s : State) (h : s.ready = []) : done s = .next s := by rw [done, State.settle_nil s h]

theorem live_held (s : State) (e : State → State) (h : s.clk.held = true) : live s e = .next s := by simp [live, h]
theorem row_held (s : State) (e : State → State) (h : s.clk.held = true) : row s e = .next s := by simp [row, h]
theorem live_run (s : State) (e : State → State) (h1 : s.clk.held = false) (h2 : s.emergency = false) (h3 : s.clk.shutDown = false) :
    live s e = done (e s) := by simp [live, h1, h2, h3]
theorem row_run (s : State) (e : State → State) (h1 : s.clk.held = false) (h3 : s.clk.shutDown = false) :
    row s e = done (e s) := by simp [row, h1, h3]

namespace State

/-- An instruction of a tender that does not execute changes nothing. -/
theorem instr_stopped (s : State) (i : Tender) (b : State → State) (h : (s.t i).run ≠ .running) : s.instr i b = s := by simp [instr, h]
/-- An instruction of a tender that executes and can fetch is its body. -/
theorem instr_run (s : State) (i : Tender) (b : State → State) (h : (s.t i).run = .running)
    (hf : s.fetchOk i (s.t i).prv (s.t i).pc.toNat = true) : s.instr i b = b s := by simp [instr, h, hf]
theorem guarded_none (s : State) (i : Tender) (l : List TrapReq) (e : State → State) (h : lowestTrap l = none) : s.guarded i l e = e s := by
  simp [guarded, h]
theorem guarded_some (s : State) (i : Tender) (l : List TrapReq) (e : State → State) (c : Nat) (v : Word) (h : lowestTrap l = some (c, v)) :
    s.guarded i l e = s.trap i c v := by simp [guarded, h]

/-- A trap of a tender with no owner handler is the entry of its handler (03 R52). -/
theorem trap_unhandled (s : State) (i : Tender) (c : Nat) (v : Word) (h : (s.t i).handler = none) : s.trap i c v = s.enterTrap i c v := by
  simp [trap, handlerTrap, h, passTrap]
/-- A trap releases nothing. -/
@[simp] theorem enterTrap_ready (s : State) (i : Tender) (c : Nat) (v : Word) : (s.enterTrap i c v).ready = s.ready := by
  unfold enterTrap
  dsimp only
  split
  · unfold halt
    dsimp only
    split
    · unfold clusterFailed
      split
      · rw [State.raise_ready]; rfl
      · rw [State.failWord_ready]; exact State.raise_ready _ _ _ _
    · rw [State.raise_ready]; rfl
  · simp
/-- An instruction that executes and whose body releases nothing answers its body. -/
theorem instr_done (s t : State) (i : Tender) (b : State → State) (h : s.executes i) (hb : b s = t) (ht : t.ready = []) :
    done (s.instr i b) = .next t := by
  rw [instr_run s i b h.run h.fetch, hb, done_nil _ ht]

end State
end Sys2Proof.Machine
end

