-- ==== Sys2Proof/Laws/Wires.lean ====
section
/-! SUPPORT. What an event, a message to a Buoy, a drive of W1 and a wire fault do, each said once: the links and what is sent for a message, W1 and
the pair link for a drive, MOR_FAULT and the proxy for a fault. -/

namespace Sys2Proof.Machine.State

/-- An event that a block raises is new under way, after whatever else has come since. -/
theorem raises_raise (s u : State) (e a : Nat) (w : Word) (l : List InFlight) (hn : u.emergency = false)
    (hi : u.evt.inflight = s.evt.inflight ++ l) : s.raises (u.raise e a w) e a w :=
  ⟨l, [], ⟨(u.routeTarget e).1, u.beacon, ⟨e, u.f F.EVT_ROUTE_prio e, false, false, a % 65536, 1, 0, w⟩⟩,
    by rw [raise_inflight _ _ _ _ hn, hi], rfl, rfl, rfl⟩

/-! ### Messages to Buoys -/

/-- Frames that leave change the links and what is sent. -/
theorem pumpLink_eq (p : Slot) (k : Nat) : ∀ s : State, ∃ l o, pumpLink p k s = { s with mor := { s.mor with ports := l }, out := o } := by
  induction k with
  | zero => exact fun s => ⟨s.mor.ports, s.out, rfl⟩
  | succ k ih =>
    intro s
    unfold pumpLink
    dsimp only
    split
    · exact ⟨s.mor.ports, s.out, rfl⟩
    · split
      · exact ⟨s.mor.ports, s.out, rfl⟩
      · split
        · obtain ⟨l, o, h⟩ := ih (State.send (updPort s p _) _)
          exact ⟨l, o, h⟩
        · obtain ⟨l, o, h⟩ := ih (updPort s p _)
          exact ⟨l, o, h⟩

/-- A message to a Buoy changes the links and what is sent. -/
theorem toBuoy_eq (s : State) (n : Slot) (m : String) (a : List Nat) :
    ∃ l o, s.toBuoy n m a = { s with mor := { s.mor with ports := l }, out := o } := by
  unfold toBuoy
  split
  · obtain ⟨l, o, h⟩ := pumpLink_eq (s.portOf n) (msgFrames m a) (s.updPort (s.portOf n) (fun l =>
      { l with waiting := l.waiting ++ [(msgClass m, m, a)] }))
    exact ⟨l, o, h⟩
  · exact ⟨s.mor.ports, s.out, rfl⟩

@[simp] theorem toBuoy_mo (s : State) (n k : Slot) (m : String) (a : List Nat) : (s.toBuoy n m a).mo k = s.mo k := by
  obtain ⟨l, o, h⟩ := toBuoy_eq s n m a; rw [h]; rfl
@[simp] theorem toBuoy_regs (s : State) (n : Slot) (m : String) (a : List Nat) : (s.toBuoy n m a).regs = s.regs := by
  obtain ⟨l, o, h⟩ := toBuoy_eq s n m a; rw [h]
@[simp] theorem toBuoy_evt (s : State) (n : Slot) (m : String) (a : List Nat) : (s.toBuoy n m a).evt = s.evt := by
  obtain ⟨l, o, h⟩ := toBuoy_eq s n m a; rw [h]
@[simp] theorem toBuoy_beacon (s : State) (n : Slot) (m : String) (a : List Nat) : (s.toBuoy n m a).beacon = s.beacon := by
  obtain ⟨l, o, h⟩ := toBuoy_eq s n m a; rw [h]
@[simp] theorem toBuoy_clk (s : State) (n : Slot) (m : String) (a : List Nat) : (s.toBuoy n m a).clk = s.clk := by
  obtain ⟨l, o, h⟩ := toBuoy_eq s n m a; rw [h]
@[simp] theorem toBuoy_f_read (s : State) (n : Slot) (m : String) (a : List Nat) (x : Fld) (i : Nat) : (s.toBuoy n m a).f x i = s.f x i := by
  simp only [f, reg, toBuoy_regs]
@[simp] theorem toBuoy_control_read (s : State) (n : Slot) (m : String) (a : List Nat) : (s.toBuoy n m a).control = s.control := by
  simp only [control, fb, toBuoy_f_read]
@[simp] theorem toBuoy_emergency_read (s : State) (n : Slot) (m : String) (a : List Nat) : (s.toBuoy n m a).emergency = s.emergency := by
  simp only [emergency, fb, toBuoy_f_read]

/-! ### W1 -/

@[simp] theorem driveW1_regs (s : State) (n : Slot) (b : Bool) : (s.driveW1 n b).regs = s.regs := by
  unfold driveW1; dsimp only; split <;> simp
@[simp] theorem driveW1_evt (s : State) (n : Slot) (b : Bool) : (s.driveW1 n b).evt = s.evt := by
  unfold driveW1; dsimp only; split <;> simp
@[simp] theorem driveW1_beacon (s : State) (n : Slot) (b : Bool) : (s.driveW1 n b).beacon = s.beacon := by
  unfold driveW1; dsimp only; split <;> simp
@[simp] theorem driveW1_clk (s : State) (n : Slot) (b : Bool) : (s.driveW1 n b).clk = s.clk := by
  unfold driveW1; dsimp only; split <;> simp
@[simp] theorem driveW1_f_read (s : State) (n : Slot) (b : Bool) (x : Fld) (i : Nat) : (s.driveW1 n b).f x i = s.f x i := by
  simp only [f, reg, driveW1_regs]
/-- A drive of W1 shows in the slot's drive and nowhere else in its mooring state. -/
@[simp] theorem driveW1_mo (s : State) (n : Slot) (b : Bool) : (s.driveW1 n b).mo n = { s.mo n with w1pull := b } := by
  unfold driveW1; dsimp only; split <;> simp
/-- A wire that is driven as it was keeps the mooring state. -/
theorem driveW1_same (s : State) (n : Slot) (b : Bool) (hb : (s.mo n).w1pull = b) : (s.driveW1 n b).mor = s.mor := by
  have same : (s.updMo n (fun m => { m with w1pull := b })).mor = s.mor := by
    unfold updMo mo at *
    dsimp only
    have : ({ s.mor.slots[n] with w1pull := b } : MorSlot) = s.mor.slots[n] := by rw [← hb]
    rw [this]; simp
  unfold driveW1
  dsimp only
  split
  · rw [pairSend_mor]; exact same
  · exact same

/-- The state of a wire fault before its event: MOR_FAULT shows it, a W1 goes to the peer, and no wire, event or status changes. -/
theorem wireFault_new (s : State) (n : Slot) (w : Fin 4) (h : s.working) (hc : s.canonical)
    (hb : ¬ (bitOf (s.f F.MOR_FAULT_fault) (4 * n.val + w.val) = true ∧ (w ≠ 1 ∨ bitOf (s.f F.MOR_PROXY_in) n.val = true))) :
    ∃ v : State, s.wireFault n w = v.raise Ev.morWireFault (n.val + 16 * w.val) 0 ∧
      bitOf (v.f F.MOR_FAULT_fault) (4 * n.val + w.val) = true ∧ (w = 1 → bitOf (v.f F.MOR_PROXY_in) n.val = true) ∧
      v.mor = s.mor ∧ v.evt = s.evt ∧ v.beacon = s.beacon ∧ v.clk = s.clk ∧ Regs.wf v.regs = true ∧
      v.control = s.control ∧ v.emergency = s.emergency := by
  have own (u : State) (x : Fld) (v : Nat) (hw : Regs.wf u.regs = true) (hx : x.lo + x.len ≤ 64) (h0 : x.stride = 0)
      (h1 : x.base = 0xC0008 ∨ x.base = 0xC0010) :
      (u.setF x v).control = u.control ∧ (u.setF x v).emergency = u.emergency := by
    unfold control emergency fb
    rw [f_setF_other _ _ _ _ _ _ hw hx, f_setF_other _ _ _ _ _ _ hw hx]
    · exact ⟨rfl, rfl⟩
    all_goals left; rcases h1 with h1 | h1 <;> rw [h1, h0] <;> decide
  have bound (x : Fld) (k : Nat) (hk : k < x.len) (u : State) : (u.f x ||| 2 ^ k) % 2 ^ x.len = u.f x ||| 2 ^ k :=
    Nat.mod_eq_of_lt (Nat.or_lt_two_pow (bits_lt _ _ _) (Nat.pow_lt_pow_right (by omega) hk))
  have set (x k : Nat) : bitOf (x ||| 2 ^ k) k = true := by simp [bitOf]
  let v2 := (s.setF F.MOR_FAULT_fault (s.f F.MOR_FAULT_fault ||| 2 ^ (4 * n.val + w.val))).pairSend "WIRE_FAULT" [n.val, w.val]
  have w2 : Regs.wf v2.regs = true := by simp only [v2, pairSend_regs]; exact setF_wf _ _ _ _ hc.2
  have f2 : bitOf (v2.f F.MOR_FAULT_fault) (4 * n.val + w.val) = true := by
    simp only [v2, pairSend_f_read]
    rw [f_setF_same _ _ _ _ hc.2 (by decide), bound _ _ (by show _ < 64; omega)]
    exact set _ _
  have c2 : v2.control = s.control ∧ v2.emergency = s.emergency := by
    simp only [v2, pairSend_control_read, pairSend_emergency_read]
    exact own _ _ _ hc.2 (by decide) rfl (.inl rfl)
  have o2 : v2.mor = s.mor ∧ v2.evt = s.evt ∧ v2.beacon = s.beacon ∧ v2.clk = s.clk := by
    simp only [v2, pairSend_mor, pairSend_evt, pairSend_beacon, pairSend_clk]; exact ⟨rfl, rfl, rfl, rfl⟩
  have hu : s.wireFault n w = (let s := v2
      let s := if w = 1 then s.setF F.MOR_PROXY_in (s.f F.MOR_PROXY_in ||| 2 ^ n.val) else s
      let s := if w = 1 ∧ (s.mo n).w1pull then s.driveW1 n true else s
      s.raise Ev.morWireFault (n.val + 16 * w.val) 0) := by
    unfold wireFault
    dsimp only
    rw [if_neg]
    rintro (hx | hx)
    · exact hb hx
    · rw [h.released] at hx; cases hx
  by_cases hw : w = 1
  · let v3 := v2.setF F.MOR_PROXY_in (v2.f F.MOR_PROXY_in ||| 2 ^ n.val)
    have f3 : bitOf (v3.f F.MOR_FAULT_fault) (4 * n.val + w.val) = true := by
      rw [f_setF_other _ _ _ _ _ _ w2 (by decide) (by left; decide)]; exact f2
    have p3 : bitOf (v3.f F.MOR_PROXY_in) n.val = true := by
      rw [f_setF_same _ _ _ _ w2 (by decide), bound _ _ (by show _ < 16; omega)]; exact set _ _
    have c3 := own v2 F.MOR_PROXY_in (v2.f F.MOR_PROXY_in ||| 2 ^ n.val) w2 (by decide) rfl (.inr rfl)
    have w3 : Regs.wf v3.regs = true := setF_wf _ _ _ _ w2
    simp only [hw, if_true, true_and] at hu
    by_cases hp : (v3.mo n).w1pull = true
    · refine ⟨v3.driveW1 n true, ?_, by rw [driveW1_f_read]; exact f3, fun _ => by rw [driveW1_f_read]; exact p3, ?_, ?_, ?_, ?_, ?_, ?_, ?_⟩
      · subst hw; rw [hu]; exact congrArg (fun x : State => x.raise _ _ _) (if_pos hp)
      · rw [driveW1_same _ _ _ hp]; exact o2.1
      · rw [driveW1_evt]; exact o2.2.1
      · rw [driveW1_beacon]; exact o2.2.2.1
      · rw [driveW1_clk]; exact o2.2.2.2
      · rw [driveW1_regs]; exact w3
      · unfold control fb; rw [driveW1_f_read]; exact c3.1.trans c2.1
      · unfold emergency fb; rw [driveW1_f_read]; exact c3.2.trans c2.2
    · exact ⟨v3, by subst hw; rw [hu]; exact congrArg (fun x : State => x.raise _ _ _) (if_neg hp), f3, fun _ => p3, o2.1, o2.2.1, o2.2.2.1,
        o2.2.2.2, w3, c3.1.trans c2.1, c3.2.trans c2.2⟩
  · simp only [hw, if_false, false_and] at hu
    exact ⟨v2, hu, f2, fun hx => absurd hx hw, o2.1, o2.2.1, o2.2.2.1, o2.2.2.2, w2, c2.1, c2.2⟩

/-- Where W1 follows its drive again from is kept port by port, and nothing else of the slot changes with it. -/
@[simp] theorem MorSlot.follow_setFollow (m : MorSlot) (p : Nat) (x : Option Nat) : MorSlot.follow (MorSlot.setFollow m p x) p = x := by
  unfold MorSlot.follow MorSlot.setFollow; split <;> simp_all

end Sys2Proof.Machine.State
end

