-- ==== Sys2Proof/Machine/TenderWord.lean ====
section
/-! DEFINITION. The 32-bit words of the Tender ISA (03 R40, R41, "Instruction formats"): which command a word is by its major opcode and its
sub-selector, and what executing a word does, ILLEGAL for a reserved major and for the all-zero word. The table of commands gives its rows no bits,
so this decoder stands beside `decodeTableWord` and is reached by no row. -/

namespace Sys2Proof.Machine

/-- What the outside supplies to an instruction beside its word: ECC of the memory it loads, the levels of a slot's wires, the bits on W3. -/
structure WordIn where
  ecc : Ecc
  levels : Nat
  sampled : Word

/-- Fields of a word. -/
def wMajor (w : BitVec 32) : Nat := w.toNat / 2 ^ 25
def wRd (w : BitVec 32) : Fin 32 := Fin.ofNat 32 (w.toNat / 2 ^ 20)
def wRa (w : BitVec 32) : Fin 32 := Fin.ofNat 32 (w.toNat / 2 ^ 15)
def wRb (w : BitVec 32) : Fin 32 := Fin.ofNat 32 (w.toNat / 2 ^ 10)
def wFn (w : BitVec 32) : BitVec 10 := BitVec.ofNat 10 w.toNat
def wImm (w : BitVec 32) : BitVec 15 := BitVec.ofNat 15 w.toNat
def wImm20 (w : BitVec 32) : BitVec 20 := BitVec.ofNat 20 w.toNat

/-- A word of formats I and M, majors 0x02 to 0x30. -/
def immDecode (i : Tender) (w : BitVec 32) (o : WordIn) : Option Instr :=
  let r := wRd w
  let a := wRa w
  let m := wImm w
  match wMajor w with
  | 0x02 => some (.addi i r a m)
  | 0x03 => some (.andi i r a m)
  | 0x04 => some (.ori i r a m)
  | 0x05 => some (.xori i r a m)
  | 0x06 => some (.slti i r a m)
  | 0x07 => some (.sltiu i r a m)
  | 0x08 => some (.shi i r a m)
  | 0x09 => some (.extu i r a m)
  | 0x0A => some (.exts i r a m)
  | 0x0B => some (.ins i r a m)
  | 0x10 => some (.ldb i r a m o.ecc)
  | 0x11 => some (.ldh i r a m o.ecc)
  | 0x12 => some (.ldw i r a m o.ecc)
  | 0x13 => some (.ldd i r a m o.ecc)
  | 0x14 => some (.ldbu i r a m o.ecc)
  | 0x15 => some (.ldhu i r a m o.ecc)
  | 0x16 => some (.ldwu i r a m o.ecc)
  | 0x17 => some (.ldp i r a m o.ecc)
  | 0x18 => some (.stb i r a m)
  | 0x19 => some (.sth i r a m)
  | 0x1A => some (.stw i r a m)
  | 0x1B => some (.std i r a m)
  | 0x1C => some (.stp i r a m)
  | 0x1F => some (.fence i r a m)
  | 0x20 => some (.beq i r a m)
  | 0x21 => some (.bne i r a m)
  | 0x22 => some (.blt i r a m)
  | 0x23 => some (.bge i r a m)
  | 0x24 => some (.bltu i r a m)
  | 0x25 => some (.bgeu i r a m)
  | 0x29 => some (.jalr i r a m)
  | 0x2C => some (.tsr i r a m)
  | 0x2D => some (.tsw i r a m)
  | 0x2F => some (.brk i r a m)
  | 0x30 => some (.trapi i r a m)
  | _ => none

/-- The row of a system instruction with several sub-operations, by its sub-selector (04 R67 to R82). A reserved sub-selector takes the first row,
whose checks trap on it. -/
def sysDecode (i : Tender) (w : BitVec 32) (o : WordIn) : Option Instr :=
  let d := wRd w
  let a := wRa w
  let b := wRb w
  let f := wFn w
  let n := f.toNat
  match wMajor w with
  | 0x01 => some (.alu i d a b f)
  | 0x1E => some (.amo i d a b f o.ecc)
  | 0x2E => some (.tret i d a b f)
  | 0x40 => some (if n = 1 then .peek i d a b f else .waitEv i d a b f)
  | 0x41 => some (if bitOf n 9 then .raiseDirect i d a b f else .raise i d a b f)
  | 0x42 => some (.stg i d a b f)
  | 0x43 => some (match bits n 6 2 with | 1 => .pegDiscard i d a b f | 2 => .pegCount i d a b f | _ => .pegCommit i d a b f)
  | 0x44 => some (match bits n 0 4 with | 1 => .moorPhase i d a b f | 2 => .moorShift i d a b f o.sampled | _ => .moorRead i d a b f o.levels)
  | 0x45 => some (match n with
    | 1 => .ledgOldest i d a b f
    | 2 => .ledgCount i d a b f
    | 3 => .ledgNextout i d a b f
    | 4 => .ledgSnapshot i d a b f
    | _ => .ledgLookup i d a b f)
  | 0x46 => some (match n with
    | 1 => .dmovQuery i d a b f
    | 2 => .dmovAbort i d a b f
    | 3 => .dmovPaced i d a b f
    | _ => .dmovStart i d a b f)
  | 0x47 => some (if n = 1 then .plmbQuery i d a b f else .plmbIssue i d a b f)
  | 0x48 => some (.dgst i d a b f)
  | 0x49 => some (.sign i d a b f)
  | 0x4A => some (.vrfy i d a b f)
  | 0x4B => some (.logw i d a b f)
  | 0x4C => some (.sendComplete i d a b f)
  | _ => none

/-- The row of an acting instruction (04 R86). -/
def actDecode (i : Tender) (w : BitVec 32) : Option Instr :=
  let d := wRd w
  let a := wRa w
  let b := wRb w
  let f := wFn w
  let n := f.toNat
  match wMajor w with
  | 0x50 => some (match n with
    | 1 => .rsetLinks i d a b f
    | 2 => .rsetMemory i d a b f
    | 3 => .rsetWarm i d a b f
    | 4 => .rsetCold i d a b f
    | 5 => .rsetHold i d a b f
    | 6 => .rsetRelease i d a b f
    | _ => .rsetCore i d a b f)
  | 0x51 => some (match n with
    | 1 => .pwrOff i d a b f
    | 2 => .pwrCycle i d a b f
    | 3 => .pwrCap i d a b f
    | _ => .pwrOn i d a b f)
  | 0x52 => some (if n = 1 then .fencUnfence i d a b f else .fencFence i d a b f)
  | 0x53 => some (match n with
    | 1 => .ocltAt i d a b f
    | 2 => .ocltCancel i d a b f
    | 3 => .ocltRelease i d a b f
    | _ => .ocltStop i d a b f)
  | 0x54 => some (if n = 1 then .rollRestore i d a b f else .rollRollback i d a b f)
  | 0x55 => some (match n with
    | 1 => .quarSlot i d a b f
    | 2 => .quarRelease i d a b f
    | _ => .quarLink i d a b f)
  | _ => none

/-- The command that a word is on a tender, none for a major that R41 does not list. -/
def tenderDecode (i : Tender) (w : BitVec 32) (o : WordIn) : Option Instr :=
  match wMajor w with
  | 0x0C => some (.lui i (wRd w) (wImm20 w))
  | 0x0D => some (.luh i (wRd w) (wImm20 w))
  | 0x0E => some (.auipc i (wRd w) (wImm20 w))
  | 0x28 => some (.jal i (wRd w) (wImm20 w))
  | _ => (immDecode i w o).orElse (fun _ => (sysDecode i w o).orElse (fun _ => actDecode i w))

namespace State

/-- The word at a tender's pc, little-endian in its local memory (03 "Instruction formats"). -/
def fetchWord (s : State) (i : Tender) : BitVec 32 := BitVec.ofNat 32 (s.rdNat (home i (s.t i).pc.toNat) 4)

/-- A tender executes a word: the instruction that it is, or ILLEGAL, which has no other effect, for a reserved major and for the all-zero word
(R40, R41). -/
def runWord (s : State) (i : Tender) (w : BitVec 32) (o : WordIn) : Host.Outcome State Fault Refusal :=
  match tenderDecode i w o with
  | some c => exec c s
  | none => done (s.instr i (fun s => s.trap i Cause.illegal (w.zeroExtend 64)))

/-- A tender executes the word at its pc. -/
def runFetched (s : State) (i : Tender) (o : WordIn) : Host.Outcome State Fault Refusal := s.runWord i (s.fetchWord i) o

end State
end Sys2Proof.Machine
end

