-- ==== Sys2Proof/Tests/Slice0.lean ====
section
/-! SUPPORT. Tests of the model. Ill-formed commands are refused; and for every statement of Certificates/Slice0/Obligations.lean that has
hypotheses, states and operands that meet them, with the effect that the statement gives for them. Each test is one command on a small state. -/

namespace Sys2Proof.Tests

open Sys2Proof.Machine

set_option Elab.async false

/-! ### Small states -/

/-- The keeper with its internal reset released and nothing done since. -/
def idle : State := { State.reset with clk := { State.reset.clk with held := false } }

/-- A state in which a tender runs at ORDER privilege, at its pc. -/
def inOrder (i : Tender) (s : State) : State := s.updT i (fun x => { x with run := .running, prv := true })

/-- The keeper in control with tender 3 running at ORDER. -/
def ord : State := (inOrder 3 idle).setF F.PAR_STATUS_control 1

/-- An owner program of sixteen words of code for tender 3 and slots 0 to 3, which may raise event 0x3F0 and has a handler of it. -/
def prog0 : Program :=
  { pid := 9, version := 1, epoch := 2, digest := [], codeSize := 64, body := [1, 2], image := [], tenders := 8, slots := 15, sessions := 0, sets := 0
    dma := 0, trapPass := false, trapResume := false, raise := 1, budget := 5, gallery := [], lpddr := []
    handlers := [{ event := 0x3F0, slotrel := false, trap := false, offset := 4 }], endings := [] }

/-- Tender 3 runs the owner program's first instruction at HOST. -/
def host : State :=
  { ord with prog := { ord.prog with owned := ord.prog.owned.set 0 (some prog0) } }.updT 3 (fun x =>
    { x with prv := false, pc := 0x20000, prog := some 0 })

/-- The state that a command answers. -/
def after (c : Instr) (s : State) : State := match exec c s with | .next t => t | _ => s

/-- An event with its arg and payload is under way after a command and was not before. -/
def rose (s u : State) (e arg : Nat) (payload : Word) : Bool :=
  decide (u.evt.inflight.take s.evt.inflight.length = s.evt.inflight) &&
    (u.evt.inflight.drop s.evt.inflight.length).any (fun f => decide (f.ev.event = e ∧ f.ev.arg = arg % 65536 ∧ f.ev.payload = payload))

/-- A step is held for a mirrored item, or released where no follower mirrors. -/
def waits (u : State) (h : HeldStep) : Bool := !u.par.mirroring || u.par.queue.any (fun m => decide (m.held = h))

theorem working_of {s : State} (h : s.clk.held = false ∧ s.clk.shutDown = false ∧ s.emergency = false ∧ s.ready = []) : s.working :=
  ⟨h.1, h.2.1, h.2.2.1, h.2.2.2⟩

theorem executes_of {s : State} {i : Tender}
    (h : (s.t i).run = .running ∧ s.fetchOk i (s.t i).prv (s.t i).pc.toNat = true ∧ s.ready = []) : s.executes i := ⟨h.1, h.2.1, h.2.2⟩

theorem idle_working : idle.working := working_of (by decide +kernel)

theorem idle_canonical : idle.canonical := by unfold State.canonical; decide +kernel

theorem ord_working : ord.working ∧ ord.canonical ∧ ord.executes 3 ∧ ord.control = true :=
  ⟨working_of (by decide +kernel), by unfold State.canonical; decide +kernel, executes_of (by decide +kernel), by decide +kernel⟩

theorem host_executes : host.working ∧ host.canonical ∧ host.executes 3 ∧ (host.t 3).prv = false :=
  ⟨working_of (by decide +kernel), by unfold State.canonical; decide +kernel, executes_of (by decide +kernel), by decide +kernel⟩

/-! ### Ill-formed commands -/

/-- Every one of some commands is refused as ill-formed, and every one of the others is well formed. -/
def smoke (bad good : List Instr) : Bool := bad.all (fun c => !c.wf) && good.all (fun c => c.wf)

theorem smoke_1 : smoke
    [.bustimeout 0 0x11 0 0 0, .bustimeout 0 0x14 0 0 0, .postedStoreFail 0 0xFFFFFFFFFFF, .postedStoreFail 0 0x10F800000000,
     .waitEv 0 0 0 0 1, .peek 0 0 0 0 2, .raise 0 0 0 0 512, .raiseDirect 0 0 0 0 0, .pegCommit 0 0 0 0 64, .pegDiscard 0 0 0 0 128,
     .pegCount 0 0 0 0 192, .moorRead 0 0 0 0 1 0, .moorRead 0 0 0 0 0 16, .moorPhase 0 0 0 0 2, .moorShift 0 0 0 0 3 0,
     .ledgLookup 0 0 0 0 1, .ledgOldest 0 0 0 0 2]
    [.bustimeout 0 0x12 0 0 0, .postedStoreFail 0 0x100000000000, .waitEv 0 0 0 0 0, .peek 0 0 0 0 1, .raise 0 0 0 0 0,
     .raiseDirect 0 0 0 0 512, .pegCommit 0 0 0 0 0, .pegDiscard 0 0 0 0 64, .pegCount 0 0 0 0 128, .moorRead 0 0 0 0 0 0,
     .moorPhase 0 0 0 0 1, .moorShift 0 0 0 0 2 0, .ledgLookup 0 0 0 0 0, .ledgOldest 0 0 0 0 1] = true := by decide +kernel

theorem smoke_2 : smoke
    [.ledgCount 0 0 0 0 3, .ledgNextout 0 0 0 0 4, .ledgSnapshot 0 0 0 0 5, .dmovStart 0 0 0 0 1, .dmovQuery 0 0 0 0 2,
     .dmovAbort 0 0 0 0 3, .dmovPaced 0 0 0 0 0, .plmbIssue 0 0 0 0 1, .plmbQuery 0 0 0 0 2, .rsetCore 0 0 0 0 1, .rsetLinks 0 0 0 0 2,
     .rsetMemory 0 0 0 0 3, .rsetWarm 0 0 0 0 4, .rsetCold 0 0 0 0 5]
    [.ledgCount 0 0 0 0 2, .ledgNextout 0 0 0 0 3, .ledgSnapshot 0 0 0 0 4, .dmovStart 0 0 0 0 0, .dmovQuery 0 0 0 0 1,
     .dmovAbort 0 0 0 0 2, .dmovPaced 0 0 0 0 3, .plmbIssue 0 0 0 0 0, .plmbQuery 0 0 0 0 1, .rsetCore 0 0 0 0 0, .rsetLinks 0 0 0 0 1,
     .rsetMemory 0 0 0 0 2, .rsetWarm 0 0 0 0 3, .rsetCold 0 0 0 0 4] = true := by decide +kernel

theorem smoke_3 : smoke
    [.rsetHold 0 0 0 0 6, .rsetRelease 0 0 0 0 7, .pwrOn 0 0 0 0 1, .pwrOff 0 0 0 0 2, .pwrCycle 0 0 0 0 3, .pwrCap 0 0 0 0 4,
     .fencFence 0 0 0 0 1, .fencUnfence 0 0 0 0 2, .ocltStop 0 0 0 0 1, .ocltAt 0 0 0 0 2, .ocltCancel 0 0 0 0 3, .ocltRelease 0 0 0 0 4,
     .rollRollback 0 0 0 0 1, .rollRestore 0 0 0 0 2]
    [.rsetHold 0 0 0 0 5, .rsetRelease 0 0 0 0 6, .pwrOn 0 0 0 0 0, .pwrOff 0 0 0 0 1, .pwrCycle 0 0 0 0 2, .pwrCap 0 0 0 0 3,
     .fencFence 0 0 0 0 0, .fencUnfence 0 0 0 0 1, .ocltStop 0 0 0 0 0, .ocltAt 0 0 0 0 1, .ocltCancel 0 0 0 0 2, .ocltRelease 0 0 0 0 3,
     .rollRollback 0 0 0 0 0, .rollRestore 0 0 0 0 1] = true := by decide +kernel

theorem smoke_4 : smoke
    [.quarLink 0 0 0 0 1, .quarSlot 0 0 0 0 2, .quarRelease 0 0 0 0 3, .actionDone 0 (2 ^ 48) false, .kcpArm 0 {} 256 0 0,
     .kcpArm 0 {} 0 (2 ^ 16) 0, .kcpArm 0 {} 0 0 (2 ^ 32), .kcpRenew 0 {} (2 ^ 32) 0, .kcpRenew 0 {} 0 (2 ^ 32),
     .kcpDisarm 0 {} false (2 ^ 32), .grant 0 0x8000000000000, .grantRenew 0 0x10000000000000, .grantRemove 0 0x18000000000000,
     .kcpLoad 0 {} .program 1 0 [], .kcpLoad 0 {} .program 0 (2 ^ 32) [], .kcpUnbind 0 {} (2 ^ 64), .plbCredit 0 256,
     .trsLoad 0 0xfffffffffffffffe]
    [.quarLink 0 0 0 0 0, .quarSlot 0 0 0 0 1, .quarRelease 0 0 0 0 2, .actionDone 0 0 false, .kcpArm 0 {} 0 0 0, .kcpRenew 0 {} 0 0,
     .kcpDisarm 0 {} false 0, .grant 0 0x0, .grantRenew 0 0x8000000000000, .grantRemove 0 0x10000000000000, .kcpLoad 0 {} .program 0 0 [],
     .kcpUnbind 0 {} 0, .plbCredit 0 0, .trsLoad 0 0x1] = true := by decide +kernel

theorem smoke_5 : smoke
    [.trsBind 0 0xfffffffffffffffd, .trsUnbind 0 0xfffffffffffffffb, .scheduleAck 0 (2 ^ 32), .trcTrig 0 0 0xfffffffffffffff7,
     .trcRearm 0 0 0xffffffffffffff7f, .trcStreamEnable 0 0 0xfffffffffffffffe, .counters 0 [⟨1024, false, 0, 0, 0, 0⟩],
     .alarmWire 0 (2 ^ 32), .stopAck 0 (2 ^ 64), .occDumpStart 0 0xffffffffffff0000, .occDumpAbort 0 0xffffffff0000ffff,
     .stepBoundary 0 (2 ^ 64), .shardAnnounce 0 false (2 ^ 48) 0, .shardAnnounce 0 false 0 (2 ^ 32), .scfDiscard 0 0xfffffffffffbffff]
    [.trsBind 0 0x2, .trsUnbind 0 0x4, .scheduleAck 0 0, .trcTrig 0 0 0x8, .trcRearm 0 0 0x80, .trcStreamEnable 0 0 0x1,
     .counters 0 [⟨1023, false, 0, 0, 0, 0⟩], .alarmWire 0 0, .stopAck 0 0, .occDumpStart 0 0x8000, .occDumpAbort 0 0x80000000,
     .stepBoundary 0 0, .shardAnnounce 0 false 0 0, .scfDiscard 0 0x40000] = true := by decide +kernel

theorem smoke_6 : smoke
    [.scfFull 0 0xfffffffffff7ffff, .scfHoldClear 0 0x20000, .rstPlan 0 0xfffffffffffffffe, .rstCancel 0 0xfffffffffffffffd,
     .calEcho 0 (2 ^ 64), .bcnCalNow 0 0xffffffff0000ffff, .healthWord (2 ^ 64) 0 0 0 0 0, .healthWord 0 (2 ^ 32) 0 0 0 0,
     .healthWord 0 0 (2 ^ 32) 0 0 0, .healthWord 0 0 0 (2 ^ 16) 0 0, .healthWord 0 0 0 0 256 0, .healthWord 0 0 0 0 0 256,
     .avsStep (2 ^ 16) false, .linkNak (.buoy 0) (2 ^ 24), .linkCredit (.buoy 0) (2 ^ 24) (Vector.replicate 16 0), .buoyNote 0 0 0 0 16 [],
     .buoyNote 0 (2 ^ 64) 0 0 0 [], .buoyNote 0 0 (2 ^ 64) 0 0 [], .buoyNote 0 0 0 (2 ^ 64) 0 [], .blkRetrain 0 0 0xfffffffffffffffd,
     .parYield 0 0xfffffffffffffffb, .parResync 0 0xfffffffffffffffd]
    [.scfFull 0 0x80000, .scfHoldClear 0 0, .rstPlan 0 0x1, .rstCancel 0 0x2, .calEcho 0 0, .bcnCalNow 0 0x80000000,
     .healthWord 0 0 0 0 0 0, .avsStep 0 false, .linkNak (.buoy 0) 0, .linkCredit (.buoy 0) 0 (Vector.replicate 16 0), .buoyNote 0 0 0 0 0 [],
     .blkRetrain 0 0 0x2, .parYield 0 0x4, .parResync 0 0x2] = true := by decide +kernel

theorem smoke_7 : smoke
    [.pairLinkUp 256, .flashWrite 0 {} 2 0 [], .flashWrite 0 {} 0 0x100001 [], .flashWrite 0 {} 0 0 (List.replicate 8193 0),
     .kcpFloor 0 {} (2 ^ 64), .kcpAck 0 { ack := 2 ^ 64 } .none, .kcpAttest 0 {} (List.replicate 31 0), .kcpPeg 0 {} 256, .readMem 0 {} (2 ^ 64) 0,
     .readMem 0 {} 0 (2 ^ 64), .kcpSubscribe 0 {} (2 ^ 1024) 0 false false false 0, .kcpSubscribe 0 {} 0 (2 ^ 16) false false false 0,
     .kcpSubscribe 0 {} 0 0 false false false (2 ^ 64), .kcpAct 0 {} 128 0 0 0, .kcpAct 0 {} 0 1024 0 0, .bindJob 0 {} (List.replicate 49 0),
     .kcpBuddy 0 {} (2 ^ 16) 0 0 [] [], .kcpBuddy 0 {} 0 (2 ^ 128) 0 [] [], .kcpBuddy 0 {} 0 0 (2 ^ 128) [] [], .noticeSub 0 {} (2 ^ 128) [],
     .kcpDebug 0 {} 256, .tenderReset 0 {} (2 ^ 32)]
    [.pairLinkUp 0, .flashWrite 0 {} 0 0 [], .kcpFloor 0 {} 0, .kcpAck 0 {} .none, .kcpAttest 0 {} (List.replicate 32 0), .kcpPeg 0 {} 0,
     .readMem 0 {} 0 0, .kcpSubscribe 0 {} 0 0 false false false 0, .kcpAct 0 {} 0 0 0 0, .bindJob 0 {} (List.replicate 48 0),
     .kcpBuddy 0 {} 0 0 0 [] [], .noticeSub 0 {} 0 [], .kcpDebug 0 {} 0, .tenderReset 0 {} 0] = true := by decide +kernel

theorem smoke_8 : smoke
    [.macsecSa 0 {} 256 false 0 [] [] 0, .macsecSa 0 {} 0 false 4 [] [] 0, .macsecSa 0 {} 0 false 0 [] [] (2 ^ 32),
     .ownerCommand 0 {} (2 ^ 16) [], .ethDown 256, .ethUp 256, .macUpgrade 0 0xfffffffffffffff7, .arpRequest false (2 ^ 128) 0 0,
     .arpRequest false 0 0 (2 ^ 48), .patrolScrub (2 ^ 48) .clean, .glbReset 0 0x5754, .glbBlkrst 0 0x42530000,
     .tndReset 0 0xffffffffff000000, .secFloorRaise 0 0xfffffffffffffffe, .secFloorClear 0 0xfffffffffffffffd,
     .registerWrite 0 0x300000 0 true, .registerWrite 0 4 0 true, .registerWrite 0 2 0 false, .lpddrTrainingDone 0 256]
    [.macsecSa 0 {} 0 false 0 [] [] 0, .ownerCommand 0 {} 0 [], .ethDown 0, .ethUp 0, .macUpgrade 0 0x8, .arpRequest false 0 0 0,
     .patrolScrub 0 .clean, .glbReset 0 0x5753, .glbBlkrst 0 0x42520000, .tndReset 0 0x800000, .secFloorRaise 0 0x1,
     .secFloorClear 0 0x2, .registerWrite 0 0 0 true, .lpddrTrainingDone 0 0] = true := by decide +kernel

theorem smoke_9 : smoke
    [.kcpInfo { vid := some 4096 }, .kcpInfo { sec := some ⟨4, 0, 0⟩ }, .kcpInfo { sec := some ⟨0, 4, 0⟩ }, .kcpInfo { sec := some ⟨0, 0, 2 ^ 64⟩ },
     .kcpOpen (.assoc 0 []) { via := .udp false 65536 } [], .kcpClose (.sess 0) { version := 256 }, .kcpRestart 0 { seq := 2 ^ 64 }, .kcpCustody 0 { ack := 2 ^ 64 } true,
     .kcpSeal 0 { version := 256 } false, .kcpRelease 0 { version := 256 }, .regRead 0 { version := 256 } [], .regWrite 0 { version := 256 } [],
     .noticeSubscribe ⟨{ version := 256 }, 0⟩ [], .noticeSubscribed ⟨{}, 2 ^ 128⟩ [], .noticeUnsubscribe ⟨{ version := 256 }, []⟩,
     .podNoticeIn ⟨{ version := 256 }, []⟩]
    [.kcpInfo {}, .kcpOpen (.assoc 0 []) { via := .udp true 65535 } [], .kcpClose (.sess 0) { via := .ether }, .kcpRestart 0 {}, .kcpCustody 0 {} true,
     .kcpSeal 0 {} false, .kcpRelease 0 {}, .regRead 0 {} [], .regWrite 0 {} [], .noticeSubscribe ⟨{}, 0⟩ [], .noticeSubscribed ⟨{}, 0⟩ [],
     .noticeUnsubscribe ⟨{}, []⟩, .podNoticeIn ⟨{ vid := some 4095, sec := some ⟨3, 3, 1⟩ }, []⟩] = true := by decide +kernel
/-! ### Tenders -/

theorem wit_StepRunsFront : step { idle with pending := [.powerFault 3 true, .moduleMonitor] } =
    exec (.powerFault 3 true) { idle with pending := [.moduleMonitor] } := rfl

theorem wit_IdleStepCounts :
    ((State.reset.pending = [] ∧ State.reset.clk.pwrok = true ∧ State.reset.clk.held = true ∧ State.reset.clk.releasing = false) ∧
      idle.clk.held = false ∧ idle.f F.BCN_SLEW_slew = 0 ∧ idle.bcn.hardPend = none ∧ idle.bcn.ppsFall = none ∧ idle.log.intake = [] ∧
      idle.par.yieldPending = false ∧ idle.sec.warmWait = none ∧ idle.ready = []) ∧
    ∀ n, (idle.trc n).staged = [] ∧ (idle.mo n).pulse = none ∧ (idle.mo n).seq = none ∧ (idle.mo n).enterRun = false ∧
      (idle.mo n).maskFrom ≠ (idle.beacon + 1) % 2 ^ 64 := by decide +kernel

theorem test_tick : (match step idle with | .next t => (t.beacon, (t.t 3).cycle) | _ => (0, 0)) = (1, 0) ∧
    (match step ord with | .next t => (t.beacon, (t.t 3).cycle) | _ => (0, 0)) = (1, 1) := by decide +kernel

theorem test_live_wire : (let s := inOrder 16 idle; s.alive 16 = true ∧ s.emergency = false ∧ s.par.liveNext = none ∧
      (let u := (match step s with | .next t => t | _ => s); (u.par.liveLevel, u.par.liveNext, u.out) = (true, some 1601, [.pin "PAIR_LIVE_OUT" true]) ∧
        (let v : State := { u with beacon := 1600 }; (match step v with | .next t => (t.par.liveLevel, t.par.liveNext) | _ => (true, none)) = (false, some 3201)) ∧
        (let v : State := { u with tnd := idle.tnd }; (match step v with | .next t => (t.par.liveLevel, t.par.liveNext) | _ => (true, some 0)) = (false, none)))) := by
  decide +kernel

theorem wit_RestingKept : State.reset.pending.head? ≠ some .internalResetRelease ∧
    (match step { State.reset with pending := [.kcpAck 0 {} .none] } with | .next t => t.clk.held | _ => false) = true := by decide +kernel

theorem test_addi_sign : (after (.addi 3 5 0 0x7FFF) ord).g 3 5 = -1 ∧ ((after (.addi 3 5 0 7) ord).t 3).pc = 4 := by decide +kernel

theorem test_logic_immediates : (after (.andi 3 5 6 0x4001) (ord.setG 3 6 (-1))).g 3 5 = 0x4001 ∧
    (after (.ori 3 5 6 0x4001) ord).g 3 5 = 0x4001 ∧ (after (.xori 3 5 6 0x4001) (ord.setG 3 6 1)).g 3 5 = 0x4000 := by decide +kernel

theorem test_set_less : (after (.slti 3 5 0 0x7FFF) ord).g 3 5 = 0 ∧ (after (.sltiu 3 5 0 0x7FFF) ord).g 3 5 = 1 := by decide +kernel

theorem wit_AluInstruction : aluOp 0x024 0 5 0 = some (-1) ∧ aluOp 0x024 0 (-7) 2 = some (-3) ∧ aluOp 0x026 0 (-7) 2 = some (-1) ∧
    aluOp 0x040 3 0 0 = none ∧ aluOp 0x044 0 0 0 = none ∧ (ord.t 3).handler = none ∧
    (after (.alu 3 5 0 0 0x3FF) ((ord.updT 3 (fun x => { x with tvec := 0x100 })))).t 3 =
      { ord.t 3 with tvec := 0x100, pc := 0x100, tcause := 1, tval := encA 0x01 5 0 0 0x3FF, intrap := true, pprv := true } := by decide +kernel

theorem test_alu_bits : aluOp 0x040 0 1 0 = some 63 ∧ aluOp 0x041 0 0 0 = some 64 ∧ aluOp 0x042 0 0xFF 0 = some 8 ∧
    aluOp 0x043 0 1 0 = some 0x0100000000000000 ∧ aluOp 0x021 0 (-1) (-1) = some 0 ∧ aluOp 0x022 0 (-1) (-1) = some (-2) ∧
    aluOp 0x030 0 (BitVec.intMin 64) (-1) = some (BitVec.intMin 64) := by decide +kernel

theorem wit_FieldInstructions : (after (.shi 3 5 6 0x103F) (ord.setG 3 6 (-1))).g 3 5 = 1 ∧
    (after (.extu 3 5 6 0x107) (ord.setG 3 6 0xABCD0)).g 3 5 = 0xCD ∧ (after (.exts 3 5 6 0x107) (ord.setG 3 6 0xABCD0)).g 3 5 = 0xFFFFFFFFFFFFFFCD ∧
    (after (.ins 3 5 6 0x107) ((ord.setG 3 6 0xABCD0).setG 3 5 (-1))).g 3 5 = 0xFFFFFFFFFFFFFD0F ∧
    ((after (.extu 3 5 6 0x107F) (ord.updT 3 (fun x => { x with tvec := 0x100 }))).t 3).tcause = 1 := by decide +kernel

theorem test_upper_immediates : (after (.lui 3 5 0x80000) ord).g 3 5 = 0xFFFFFFFF80000000 ∧
    (after (.luh 3 5 0x010F1) (ord.setG 3 5 0xFFFFFFFF80000040)).g 3 5 = 0x000010F180000040 ∧
    (after (.auipc 3 5 1) (ord.updT 3 (fun x => { x with pc := 0x40 }))).g 3 5 = 0x1040 := by decide +kernel

theorem wit_BranchesAndJumps : ord.fetchCheck 3 0x20 = none ∧ ord.fetchCheck 3 0xFFFFFFFFFFFFFFFC = some (Cause.address, 0xFFFFFFFFFFFFFFFC) ∧
    ((after (.beq 3 0 0 8) ord).t 3).pc = 0x20 ∧ ((after (.bne 3 0 0 8) ord).t 3).pc = 4 ∧ (after (.jal 3 1 8) ord).g 3 1 = 4 ∧
    ((after (.jalr 3 1 6 1) (ord.setG 3 6 0x102)).t 3).pc = 0x100 ∧
    ((after (.beq 3 0 0 0x7FFF) (ord.updT 3 (fun x => { x with tvec := 0x100 }))).t 3).tcause = Cause.address := by decide +kernel

theorem test_branch_orders : let s := ord.setG 3 6 (-1)
    ((after (.blt 3 6 0 8) s).t 3).pc = 0x20 ∧ ((after (.bltu 3 6 0 8) s).t 3).pc = 4 ∧ ((after (.bge 3 6 0 8) s).t 3).pc = 4 ∧
    ((after (.bgeu 3 6 0 8) s).t 3).pc = 0x20 := by decide +kernel

theorem wit_FetchRule : ord.fetchCheck 3 0x3FFFC = none ∧ ord.fetchCheck 3 0x08000000 = some (Cause.access, 0x08000000) ∧ ord.fetchCheck 3 0x40000 = some (Cause.address, 0x40000) ∧
    host.fetchCheck 3 0x2003C = none ∧ host.fetchCheck 3 0x20040 = some (Cause.access, 0x20040) ∧
    ord.fetchCheck 3 (BitVec.ofNat 64 (2 ^ 48)) = some (Cause.address, BitVec.ofNat 64 (2 ^ 48)) := by decide +kernel

/-! ### Memory, traps and return -/

/-- Tender 3 in control with an address in g6, a value in g7, a trap vector. -/
def mem3 (a v : Word) : State := ((ord.setG 3 6 a).setG 3 7 v).updT 3 (fun x => { x with tvec := 0x100 })

theorem wit_LoadsFromMemory : let s := (mem3 0x20001000 0).store 0x20001000 [0x80, 0xFF, 0, 0, 0, 0, 0, 0x80, 5]
    lowestTrap (s.memChecks 3 .load 0x20001000 16) = none ∧ s.loadState 0x20001000 16 = .ok ∧ s.poisoned 0x20001000 16 = false ∧
    (after (.ldb 3 5 6 0 .clean) s).g 3 5 = 0xFFFFFFFFFFFFFF80 ∧ (after (.ldbu 3 5 6 0 .clean) s).g 3 5 = 0x80 ∧
    (after (.ldh 3 5 6 0 .clean) s).g 3 5 = 0xFFFFFFFFFFFFFF80 ∧ (after (.ldhu 3 5 6 0 .clean) s).g 3 5 = 0xFF80 ∧
    (after (.ldw 3 5 6 4 .clean) s).g 3 5 = 0xFFFFFFFF80000000 ∧ (after (.ldwu 3 5 6 4 .clean) s).g 3 5 = 0x80000000 ∧
    (after (.ldd 3 5 6 0 .clean) s).g 3 5 = 0x800000000000FF80 ∧ (after (.ldp 3 4 6 0 .corrected) s).g 3 5 = 5 := by decide +kernel

theorem wit_StoresToMemory : let s := mem3 0x20001008 0x1122334455667788
    lowestTrap (s.memChecks 3 .store 0x20001000 16) = none ∧ s.loadState 0x20001000 16 = .ok ∧
    (after (.stb 3 7 6 0) s).rdNat 0x20001008 8 = 0x88 ∧ (after (.sth 3 7 6 0) s).rdNat 0x20001008 8 = 0x7788 ∧
    (after (.stw 3 7 6 0) s).rdNat 0x20001008 8 = 0x55667788 ∧ (after (.std 3 7 6 0) s).rdNat 0x20001008 8 = 0x1122334455667788 ∧
    (after (.stp 3 6 6 0x7FF8) s).rdNat 0x20001000 8 = 0x20001008 ∧
    (after (.stp 3 6 6 0x7FF8) s).rdNat 0x20001008 8 = 0x1122334455667788 := by decide +kernel

theorem wit_StoreWritesOnlyItsBytes : F.KCP_CTL_ack_us.lo + F.KCP_CTL_ack_us.len ≤ 64 ∧ idle.canonical :=
  ⟨by decide, idle_canonical⟩

theorem wit_AccessChecks : lowestTrap (ord.memChecks 3 .load 0x50000 4) = some (Cause.address, 0x50000) ∧
    lowestTrap (ord.memChecks 3 .load 0x20000002 4) = some (Cause.align, 0x20000002) ∧
    lowestTrap (host.memChecks 3 .store 0x20000000 4) = some (Cause.access, 0x20000000) ∧
    lowestTrap (ord.memChecks 3 .load 0x08000000 4) = none ∧ ord.loadState (State.home 3 0x20000000) 4 = .ok := by decide +kernel

theorem wit_AtomicCompletes : let s := (mem3 0x20001008 (-1)).store 0x20001008 [1, 0, 0, 0x80]
    let t := fun (fn : BitVec 10) => (after (.amo 3 5 6 7 fn .clean) s).rdNat 0x20001008 4
    lowestTrap (s.memChecks 3 .amo 0x20001008 4) = none ∧ (after (.amo 3 5 6 7 2 .clean) s).g 3 5 = 0xFFFFFFFF80000001 ∧
    t 0x02 = 0xFFFFFFFF ∧ t 0x12 = 0x80000000 ∧ t 0x22 = 0x80000001 ∧ t 0x32 = 0xFFFFFFFF ∧ t 0x42 = 0x7FFFFFFE ∧ t 0x52 = 0x80000001 ∧
    t 0x62 = 0xFFFFFFFF ∧ t 0x72 = 0x80000001 ∧ t 0x82 = 0xFFFFFFFF ∧ t 0x92 = 0x80000001 := by decide +kernel

theorem wit_AccessFailures : (let s := mem3 0x400FFFF8 0;
      isRegSpace 0x400FFFF8 = true ∧ State.eaReg 0x400FFFF8 = none ∧ lowestTrap (s.memChecks 3 .load 0x400FFFF8 8) = none ∧
      lowestTrap (s.memChecks 3 .store 0x400FFFF8 4) = none ∧
      ((after (.ldd 3 6 6 0 .clean) s).t 3).tcause = Cause.regUnassigned ∧ (after (.ldd 3 6 6 0 .clean) s).g 3 6 = 0) ∧
    (let s := mem3 0x40000000 0;
      State.eaReg 0x40000000 ≠ none ∧ lowestTrap (s.memChecks 3 .load 0x40000000 8) = none ∧
      ((after (.bustimeout 3 0x13 5 6 0) s).t 3).tcause = Cause.busTimeout) ∧
    (let a := 0x100000000040; let s := (mem3 0x100000000040 5).setF F.MEM_CH_UP_up (2 ^ 64 - 1); let t := after (.std 3 7 6 0) s; let u := after (.postedStoreFail 3 a) t
      isLpddr a = true ∧ t.rdByte a = 5 ∧ (t.postedFail 3 a).isSome = true ∧ (u.t 3).posterr = true ∧ u.rdByte a = 0 ∧ s.postedFail 3 a = none ∧
      (after (.fence 3 0 0 0x20) t).mc.posted = []) ∧
    (let s := (mem3 0 0).updT 3 (fun x => { x with posterr := true });
      ((after (.fence 3 0 0 0x20) s).t 3).tcause = Cause.postErr ∧ ((after (.fence 3 0 0 0x5F) s).t 3).pc = 4 ∧
      ((after (.fence 3 0 0 0x80) s).t 3).tcause = Cause.illegal) := by decide +kernel

theorem wit_TrapEntryAndHalt : ((mem3 0 0).t 3).intrap = false ∧ ((mem3 0 0).t 3).tvec ≠ 0 ∧ (ord.t 3).tvec = 0 ∧ ord.emergency = false ∧
    ((after (.trapi 3 0 0 5) ord).t 3).run = .halted ∧ ((after (.trapi 3 0 0 5) ord).evt.inflight.map (·.ev.event)) = [0x383] ∧
    (let s := (mem3 0 0).updT 3 (fun x => { x with wdogEn := true });
      ord.ready = [] ∧ (s.t 3).wdogDue ≤ s.beacon ∧ ((after (.watchdog 3) s).t 3).tcause = Cause.watchdog) := by decide +kernel

theorem wit_SoftwareTraps : (∀ x : Sess, (ord.ses x).attached = none) ∧ ((after (.trapi 3 0 0 5) (mem3 0 0)).t 3).tval = 5 ∧
    ((after (.brk 3 0 0 0x7FFF) (mem3 0 0)).t 3).tcause = Cause.brk := by decide +kernel

theorem wit_TrapReturn : (let s := (mem3 0 0).updT 3 (fun x => { x with intrap := true, tpc := 0x20020, pprv := false });
      ((after (.tret 3 0 0 0 0) s).t 3).pc = 0x20020 ∧ ((after (.tret 3 0 0 0 0) s).t 3).prv = false) ∧
    ((after (.tret 3 0 0 0 0) (mem3 0 0)).t 3).tcause = Cause.illegal ∧ (host.t 3).handler = none ∧
    ((after (.tret 3 0 0 0 0) (host.updT 3 (fun x => { x with tvec := 0x100 }))).t 3).tcause = Cause.priv := by decide +kernel

theorem wit_TenderStateRegisters : (after (.tsr 3 5 0 0) ord).g 3 5 = 0x103 ∧ (after (.tsr 3 5 0 1) ord).g 3 5 = 3 ∧
    ((after (.tsw 3 0 6 0x10) (mem3 0x203 0)).t 3).tvec = 0x200 ∧ ((after (.tsw 3 0 6 0x30) (mem3 5 0)).t 3).wdogDue = 8000 ∧
    ((after (.tsw 3 0 6 0x13) (mem3 5 0)).t 3).tcause = Cause.access ∧
    ((after (.tsr 3 5 0 0x10) (host.updT 3 (fun x => { x with tvec := 0x100 }))).t 3).tcause = Cause.priv := by decide +kernel

/-! ### Events, raising, staging -/

/-- An event entry raised by RAISE. -/
def ev0 (event prio : Nat) : EvEntry := ⟨event, prio, true, false, 7, 1, 3, 0xAB⟩

/-- Tender 3 with two entries in its queue; g6 holds the mask of priorities and g7 the timeout. -/
def queued (mask us : Word) : State :=
  ((ord.setG 3 6 mask).setG 3 7 us).updT 3 (fun x => { x with queue := [ev0 0x100 1, ev0 0x101 2, ev0 0x3F0 2] })

theorem wit_EventDelivery : pickEntry ((queued 0 0).t 3).queue 15 = some (ev0 0x101 2) ∧ (after (.peek 3 4 6 7 1) (queued 0 0)).g 3 5 = 0xAB ∧
    ((after (.peek 3 4 6 7 1) (queued 0 0)).t 3).queue.length = 3 ∧ (after (.peek 3 4 6 7 1) (queued 0 0)).g 3 4 = (ev0 0x101 2).word ∧
    (let s := (host.updT 3 (fun x => { x with queue := [ev0 0x100 1] }));
      ((after (.waitEv 3 4 0 0 0) s).t 3).queue = [] ∧ (after (.waitEv 3 4 0 0 0) s).g 3 4 = (ev0 0x100 1).word) ∧
    pickEntry ((queued 8 2).t 3).queue 8 = none ∧ ((after (.waitEv 3 4 6 7 0) (queued 8 0)).t 3).pc = 4 ∧
    ((after (.waitEv 3 4 6 7 0) (queued 8 2)).t 3).wait = some ⟨4, 8, some 3200⟩ ∧
    (let s := { after (.waitEv 3 4 6 7 0) (queued 8 2) with beacon := 3200 };
      s.ready = [] ∧ (s.t 3).run = .asleep ∧ ((after (.waitTimeout 3) s).t 3).run = .running ∧ ((after (.waitTimeout 3) s).t 3).pc = 4) := by
  decide +kernel

theorem wit_DispatcherStartsOwnerHandler :
    (let s := host.updT 3 (fun x => { x with prv := true, pc := 0, queue := [ev0 0x3F0 1] });
      let t := { s with prog := { s.prog with orders := some ⟨1, 0, 1, [], 0, 0⟩ } };
      (t.t 3).run = .running ∧ t.fetchOk 3 true 0 = true ∧ t.prog.orders ≠ none ∧
      pickEntry (t.t 3).queue 15 = some (ev0 0x3F0 1) ∧ t.progOf 3 = some prog0 ∧ (State.ownerHandler prog0 (ev0 0x3F0 1)).isSome = true ∧
      ((after (.waitEv 3 4 0 0 0) t).t 3).pc = 0x20004 ∧ ((after (.waitEv 3 4 0 0 0) t).t 3).handler = some ⟨8000, none⟩) := by decide +kernel

theorem wit_PickIsOldestOfHighest : (∀ e ∈ ((queued 0 0).t 3).queue, e.prio < 4) ∧ pickEntry ((queued 0 0).t 3).queue 2 = some (ev0 0x100 1) := by
  decide +kernel

theorem wit_QueueLosesNoEvent : TenderSt.init.queueWf ∧ ((TenderSt.init.arrive (ev0 0x100 1)).1.queueWf ∧
    (ev0 0x100 1) ∈ (TenderSt.init.arrive (ev0 0x100 1)).1.queue) :=
  ⟨⟨by decide, by decide, by decide⟩, ⟨by decide, by decide, by decide⟩, by decide⟩

theorem test_queue_full : (let x : TenderSt := { TenderSt.init with queue := List.replicate 512 (ev0 0x100 1) };
    let y := (x.arrive (ev0 0x101 2)).1;
    y.queue.length = 512 ∧ y.merges.map (·.event) = [0x101] ∧ (x.arrive (ev0 0x101 2)).2 = true ∧
    (y.dropEntry (ev0 0x100 1)).merges = [] ∧ ((y.dropEntry (ev0 0x100 1)).queue.getLast?.map (·.merged)) = some true) := by decide +kernel

theorem wit_EnqueueTakesTheNextArrival :
    (let s := after (.powerFault 3 true) idle;
      s.clk.held = false ∧ s.clk.shutDown = false ∧ s.ready = [] ∧ (s.t 3).run ≠ .asleep ∧ (nextArrival s.evt.inflight 3).isSome = true ∧
      ((after (.eventEnqueue 3) s).t 3).queue.map (·.event) = [0x3C] ∧ (after (.eventEnqueue 3) s).evt.inflight = []) := by decide +kernel

theorem wit_RaiseInstructions :
    (let s := ord.setG 3 6 0x70100;
      ((after (.raise 3 5 6 7 0) s).evt.inflight.map (·.ev)) = [{ event := 0x100, prio := s.f F.EVT_ROUTE_prio 0x100, sw := true, merged := false
                                                                  arg := 7, count := 1, raiser := 3, payload := 0 }]) ∧
    (let s := ord.setG 3 6 0x70D00;
      ((after (.raiseDirect 3 5 6 7 0x217) s).evt.inflight.map (fun x => (x.target, x.ev.prio))) = [(23, 3)]) ∧
    host.inRaiseSet 3 0x3F0 = true ∧ (after (.raise 3 5 6 7 0) (host.setG 3 6 0x3F0)).evt.inflight.length = 1 := by decide +kernel

/-- Tender 3 at ORDER with the route of an event as the register of a STG and a value. -/
def staging (e : Nat) (v : Word) : State := (ord.setG 3 6 (BitVec.ofNat 64 (0x40031000 + 8 * e))).setG 3 7 v

theorem wit_StagingInstructions :
    (let s := staging 1023 0x37; let t := after (.stg 3 5 6 7 0x43) s;
      (∀ j : Fin 64, s.sets[j] = []) ∧ t.g 3 5 = 0 ∧ (t.sets[3]) = [⟨0x31000 + 8 * 1023, 0x7F, 0x37⟩] ∧
      (let u := after (.pegCommit 3 5 0 0 3) t;
        u.g 3 5 = statusWord St.ok 0 1 ∧ u.reg (0x31000 + 8 * 1023) = 0x37 ∧ u.sets[3] = []) ∧
      (after (.pegDiscard 3 5 0 0 0x43) t).g 3 5 = statusWord St.ok 0 1 ∧ (after (.pegCount 3 5 0 0 0x83) t).g 3 5 = statusWord St.ok 0 1 ∧
      (let v := { t with sets := (t.sets.set 3 []).set 63 t.sets[3] };
        (after (.stg 3 5 6 7 0x43) v).g 3 5 = statusWord St.conflict 0 0)) ∧
    (after (.stg 3 5 6 7 0x43) (staging 0 24)).g 3 5 = statusWord St.refused 0 0 ∧
    (let s := { staging 0 0 with sets := idle.sets.set 3 (List.replicate 64 ⟨0x31010, 0x7F, 0⟩) };
      (after (.stg 3 5 6 7 0x43) s).g 3 5 = statusWord St.full 0 0) := by decide +kernel

/-! ### Block instructions -/

/-- Slot 5 is present. -/
def slot5 (s : State) : State := s.setF F.MOR_STRAP_present 1 5

/-- Tender 3 in control, slot 5 present, with a slot number in g6 and a value in g7; slot 5 in a phase, stopped or not. -/
def moor (a v : Word) (phase : Nat) (stopped : Bool) : State :=
  (slot5 ((ord.setG 3 6 a).setG 3 7 v)).updMo 5 (fun m => { m with phase := phase, stopped := stopped })

theorem wit_MooringInstructions :
    (after (.moorRead 3 9 6 7 0 15) (moor 5 0 2 false)).g 3 9 = statusWord St.ok 0 (15 + 32 + 128) ∧
    (after (.moorPhase 3 9 6 7 1) ((moor 5 3 2 true).setF F.PAR_STATUS_control 0)).g 3 9 = statusWord St.notControl 0 0 ∧
    (after (.moorPhase 3 9 6 7 1) (moor 4 3 2 true)).g 3 9 = statusWord St.noTarget 0 0 ∧
    ((moor 5 3 2 true).dumpAllowed 5 = true ∧ ((after (.moorPhase 3 9 6 7 1) (moor 5 3 2 true)).t 3).run = .waitMoor ∧
      ((after (.moorPhase 3 9 6 7 1) (moor 5 3 2 true)).mo 5).pulse.isSome) ∧
    (let v : State := { (moor 5 3 2 true).updMo 5 (fun m => { m with pulse := some ⟨true, 6800, 10000, false, none, 0, 0, some (3, 9)⟩ }) with
        beacon := 10000 };
      ((v.pulseTick 5).mo 5).phase = 3) ∧
    (let v : State := { (moor 5 3 3 true).updMo 5 (fun m => { m with pulse := some ⟨true, 5200, 8400, true, none, 0, 0, some (3, 9)⟩ }) with
        beacon := 10000 };
      ((v.updT 3 (fun x => { x with run := .waitMoor })).pulseTick 5).g 3 9 = statusWord St.ok 0 0) ∧
    ((after (.moorPhase 3 9 6 7 1) (moor 5 2 3 true)).mo 5).phase = 2 ∧
    (after (.moorPhase 3 9 6 7 1) (moor 5 3 2 false)).g 3 9 = statusWord St.refused 0 0 ∧
    (after (.moorShift 3 9 6 7 2 0) (moor 5 3 2 false)).g 3 9 = statusWord St.refused 0 0 ∧
    (after (.moorShift 3 9 6 7 0x3F2 (-1)) (moor 5 3 3 true)).g 3 9 = -1 ∧
    (after (.moorShift 3 9 6 7 0x2F2 (-1)) (moor 5 3 3 true)).g 3 9 = statusWord St.ok 0 (2 ^ 48 - 1) := by decide +kernel

/-- Slot 2 has two commands open on engine 0x3FF. -/
def led2 : State :=
  let e := fun (p q t : Nat) => (⟨0x3FFF - p, t, q, 1, 0, false⟩ : LdgEntry)
  ((ord.setG 3 6 0xFFF2).setG 3 7 0x10010000).setLed 2 ⟨[e 1 7 50, e 0 9 40], [(3, 2)]⟩

theorem wit_LedgerQueries : State.ledgDst 0x10010000 = true ∧ lowestTrap (led2.blockChecks 3 .store 0x10010000 16 16) = none ∧
    lowestTrap (led2.blockChecks 3 .store 0x10010000 0x40000 16) = none ∧ (after (.ledgLookup 3 9 6 7 0) led2).g 3 9 = statusWord St.empty 0 0 ∧
    (after (.ledgLookup 3 9 6 7 0) (led2.setG 3 6 0x3FFF2)).g 3 9 = statusWord St.ok 0 0 ∧
    (after (.ledgOldest 3 9 6 7 1) led2).g 3 9 = statusWord St.ok 0 (ldgKey 2 0x3FFF) ∧
    (after (.ledgCount 3 9 6 7 2) led2).g 3 9 = statusWord St.ok 0 0 ∧ ((after (.ledgCount 3 9 6 7 2) led2).rdBytes 0x10010000 16).length = 16 := by
  decide +kernel

/-- A DMOV descriptor: 64 elements of a byte from retained SRAM to retained SRAM, with a pace word. -/
def dmov0 (pace : Nat) : List Byte :=
  leBytes 0x20020000 8 ++ leBytes 0x20030000 8 ++ leBytes 64 8 ++ leBytes 1 4 ++ leBytes 1 4 ++ List.replicate 8 0 ++ leBytes pace 8 ++
    List.replicate 16 0

/-- Tender 3 with a request block of these bytes in retained SRAM, its address in g6 and a value in g7. -/
def request (b : List Byte) (v : Word) : State := (((inOrder 3 ord).setG 3 6 0x20010000).setG 3 7 v).store 0x20010000 b

/-- A request block is in place. -/
def blockReady (s : State) (n align : Nat) (b : List Byte) : Bool :=
  decide (lowestTrap (s.blockChecks 3 .load (s.g 3 6) n align) = none ∧ s.loadState (State.home 3 (s.g 3 6).toNat) n = .ok ∧
    s.poisoned (State.home 3 (s.g 3 6).toNat) n = false ∧ b = s.rdBytes (State.home 3 (s.g 3 6).toNat) n)

theorem blockAt_of {s : State} {n align : Nat} {b : List Byte} (h : blockReady s n align b = true) : s.blockAt 3 (s.g 3 6) n align b := by
  simp only [blockReady, decide_eq_true_eq] at h
  exact ⟨h.1, h.2.1, h.2.2.1, h.2.2.2⟩

theorem wit_DmaInstructions :
    (let s := request (dmov0 0) 31; blockReady s 64 64 (dmov0 0) = true ∧
      lowestTrap (s.dmaChecks 3 (encA 0x46 9 6 7 0) (State.dmaParse 3 false (dmov0 0)) (dmov0 0)) = none ∧
      (after (.dmovStart 3 9 6 7 0) s).g 3 9 = statusWord St.accepted 0 0 ∧ ((after (.dmovStart 3 9 6 7 0) s).dch 31).running.isSome = true ∧
      (after (.dmovQuery 3 9 0 7 1) (after (.dmovStart 3 9 6 7 0) s)).g 3 9 = statusWord St.ok 0 0 ∧
      (after (.dmovAbort 3 9 6 7 2) s).g 3 9 = statusWord St.ok 0 0) ∧
    (let b := dmov0 (5 * 256); let s := request b 31; blockReady s 64 64 b = true ∧
      lowestTrap (s.dmaChecks 3 (encA 0x46 9 6 7 3) (State.dmaParse 3 true b) b) = none ∧ s.f F.DMA_CTL_mode ≠ 0 ∧
      (after (.dmovPaced 3 9 6 7 3) s).g 3 9 = statusWord St.accepted 0 0 ∧ ((after (.dmovPaced 3 9 6 7 3) s).dch 31).queue.length = 1 ∧
      (after (.dmovPaced 3 9 6 7 3) (s.setF F.DMA_CTL_mode 0)).g 3 9 = statusWord St.refused 0 0) ∧
    (let d := State.dmaParse 3 false (dmov0 0);
      let s := (request (dmov0 0) 31).updCh 31 (fun c => { c with queue := List.replicate 16 d, running := some d });
      (after (.dmovStart 3 9 6 7 0) s).g 3 9 = statusWord St.full 0 0) := by decide +kernel

/-- A Plumb descriptor: an op of type 6 directed to a tile through rb. -/
def plmb0 (type : Nat) : List Byte := leBytes type 1 ++ List.replicate 63 0

theorem wit_PlumbInstructions :
    (let s := (request (plmb0 6) 15).updTile 7 (fun x => { x with inRot := true }); blockReady s 64 64 (plmb0 6) = true ∧
      (s.tile 7).depth < 64 ∧ (after (.plmbIssue 3 9 6 7 0) s).g 3 9 = statusWord St.accepted 0 s.plbTicket.1 ∧
      ((after (.plmbIssue 3 9 6 7 0) s).tile 7).queue.map (·.ticket) = [s.plbTicket.1]) ∧
    (let s := request (plmb0 1) 15; (s.tile 7).inRot = false ∧ (plbDesc (plmb0 1)).type ≠ 6 ∧
      (after (.plmbIssue 3 9 6 7 0) s).g 3 9 = statusWord St.noTarget 0 0) ∧
    (after (.plmbQuery 3 9 0 7 1) (request (plmb0 1) 16)).g 3 9 = statusWord St.empty 0 0 := by decide +kernel

/-- A DGST of three bytes at 0x2003_0000 in one request, its digest to 0x2003_0100. -/
def dgst0 : List Byte := leBytes 0x20030000 8 ++ leBytes 3 8 ++ leBytes 0 8 ++ leBytes 0x20030100 8 ++ leBytes 3 8 ++ List.replicate 24 0

/-- A VRFY of the digest at 0x2003_0000 with the key at 0x2003_0100 and the signature at 0x2003_0200; a SIGN with key slot 0. -/
def vrfy0 : List Byte := leBytes 0x20030000 8 ++ leBytes 0x20030100 8 ++ leBytes 0x20030200 8 ++ List.replicate 40 0
def sign0 : List Byte := leBytes 0x20030000 8 ++ leBytes 0 8 ++ leBytes 0x20030200 8 ++ List.replicate 40 0

theorem wit_SecurityRequests :
    (let s := (request dgst0 0).store 0x20030000 [0x61, 0x62, 0x63]; blockReady s 64 64 dgst0 = true ∧
      lowestTrap (s.dgstChecks 3 (encA 0x48 9 6 0 0) 0 dgst0) = none ∧ ((after (.dgst 3 9 6 0 0) s).t 3).run = .waitSec ∧
      (after .secRequestDone (after (.dgst 3 9 6 0 0) s)).rdBytes 0x20030100 8 = [0xCB, 0x00, 0x75, 0x3F, 0x45, 0xA3, 0x5E, 0x8B] ∧
      (after .secRequestDone (after (.dgst 3 9 6 0 0) s)).g 3 9 = statusWord St.ok 0 0) ∧
    (let s := request vrfy0 0; blockReady s 64 64 vrfy0 = true ∧ lowestTrap (s.vrfyChecks 3 (encA 0x4A 9 6 0 0) 0 vrfy0) = none ∧
      (after .secRequestDone (after (.vrfy 3 9 6 0 0) s)).g 3 9 = statusWord St.badKey 0 0) ∧
    (let s := request sign0 0; blockReady s 64 64 sign0 = true ∧ lowestTrap (s.signChecks 3 (encA 0x49 9 6 0 0) 0 sign0) = none ∧
      (after (.sign 3 9 6 0 0) s).sec.queue = [⟨3, 9, .sign 0x20030000 0 0x20030200⟩]) := by decide +kernel

/-- A LOGW block of one literal word. -/
def logw0 : List Byte := leBytes 0x123 2 ++ leBytes 5 2 ++ leBytes 0 4 ++ leBytes (2 ^ 63 + 7) 8 ++ leBytes 0xAB 8

theorem wit_LogWriteInstruction :
    (let s := request logw0 0; s.following = false ∧ blockReady s (8 + 16) 8 logw0 = true ∧ zeros (cut logw0 4 4) = true ∧
      (∀ p ∈ State.logwSpecs logw0 1, p.lit = true ∧ p.mbz = true) ∧ s.ringRoom = true) ∧
    (let b := leBytes 0x123 2 ++ leBytes 5 2 ++ leBytes 0 4 ++ leBytes (2 ^ 63) 8 ++ leBytes 0xAB 8; let s := request b 0;
      (∀ p ∈ State.logwSpecs b 1, p.lit = true ∧ p.mbz = true) ∧ (after (.logw 3 9 6 0 1) s).g 3 9 = 1 ∧
      (after (.logw 3 9 6 0 1) s).rdNat (State.ringAddr 1) 8 = 1 ∧ (after (.logw 3 9 6 0 1) s).logNext = 2 ∧
      (let t := { s with log := { s.log with unmirrored := [1] } }; t.ringRoom = false ∧ ((after (.logw 3 9 6 0 1) t).t 3).run = .waitLog)) := by
  decide +kernel

/-- Session 2 is open, with command 5 handed to its handler. -/
def ses2 (s : State) : State :=
  s.updSes 2 (fun x => { x with isOpen := true, rxNext := 6, nextCmd := 6, cmds := [⟨5, 5, 77, .owner 0x8000 [], .handed, 0, [], false, none⟩] })

/-- A SEND of a kind to session 2 for command 5, without a body. -/
def send0 (kind num : Nat) : List Byte := [2, BitVec.ofNat 8 kind, 0, 0, 0, 0, 0, 0] ++ leBytes num 8 ++ leBytes 0x20010000 8 ++ List.replicate 8 0

theorem wit_SendInstructions :
    (let s := ses2 (request (send0 0 5) 0); blockReady s 32 8 (send0 0 5) = true ∧ numAt (send0 0 5) 2 2 = 0 ∧
      lowestTrap (s.sendChecks 3 (encA 0x4C 9 6 0 0) 0 (send0 0 5)) = none ∧ s.cmdOpen 2 5 = true ∧ (s.ses 2).unacked.length < 64 ∧
      (after (.sendComplete 3 9 6 0 0) s).g 3 9 = statusWord St.ok 0 0 ∧ ((after (.sendComplete 3 9 6 0 0) s).ses 2).unacked.length = 1 ∧
      (after (.sendComplete 3 9 6 0 0) (s.setF F.PAR_STATUS_control 0)).g 3 9 = statusWord St.notControl 0 0) ∧
    (after (.sendResponse 3 9 6 0 0) (ses2 (request (send0 1 4) 0))).g 3 9 = statusWord St.noTarget 0 0 ∧
    ((after (.sendResponse 3 9 6 0 0) (ses2 (request (send0 1 5) 0))).ses 2).unacked.map (·.cls) = [5] ∧
    (after (.sendNotice 3 9 6 0 0) (request (send0 2 0) 0)).kcp.noticeNext = 2 := by decide +kernel

/-! ### Acting, arming, binding -/

/-- Tender 3 in control; slot 5 is present, with a link up on port 5 and 64 cores, and armed for every class but in entries of their own. -/
def armed : State :=
  let arms := (List.range 6).foldl (fun (v : Vector ArmEntry 16) c => v.set (Fin.ofNat 16 c) ⟨true, c, 0x20, 0, 1, 80000⟩) idle.evt.arms
  let s := (slot5 (inOrder 3 ord)).updPort 5 (fun p => { p with ident := some ⟨0, 0, 1, 0, 5, 0, 0, [], 0, 64, 1024, 0⟩ })
  { (s.setF F.BLK_STATUS_state 3 5) with evt := { s.evt with arms := arms } }

/-- The operands of a sub-action on slot 5. -/
def operand (x : SubAct) : Word :=
  match x.form with
  | .slotCore => 0x3F0005
  | .slot => 5
  | .mask => 0x20
  | .nothing => 0
def second (x : SubAct) : Word :=
  match x with
  | .pwrCycle => 10
  | .pwrCap => 1
  | .ocltAt => 3200
  | _ => 0
def acting (x : SubAct) : State := (armed.setG 3 6 (operand x)).setG 3 7 (second x)

/-- A sub-action of each class and form; those of ROLL need an image or a plan. -/
def subs : List SubAct := [.rsetCore, .rsetCold, .pwrCycle, .fencFence, .ocltStop, .quarSlot]

/-- The operands of an acting instruction pass the checks of its first step. -/
def opsPass (s : State) (x : SubAct) (mask : Nat) (core : Option Nat) : Bool :=
  decide ((s.t 3).prv = true ∧ s.actTargets x (s.g 3 6).toNat = some (mask, core) ∧ x.secondOk (s.g 3 7).toNat = true)

theorem actsOn_of {s : State} {x : SubAct} {mask : Nat} {core : Option Nat} (h : opsPass s x mask core = true) (hx : x ≠ .rollRestore) :
    s.actsOn 3 x 6 7 mask core := by
  simp only [opsPass, decide_eq_true_eq] at h
  exact ⟨h.1, h.2.1, h.2.2, fun e => absurd e hx⟩

theorem armed_executes : (acting .rsetCore).executes 3 ∧ (acting .rsetCore).canonical :=
  ⟨executes_of (by decide +kernel), by unfold State.canonical; decide +kernel⟩

theorem wit_ArmedActionsAreAccepted : ∀ x ∈ subs, let s := acting x; let core := if x.form = .slotCore then some 0x3F else none
    (opsPass s x 0x20 core = true ∧ s.control = true ∧ s.targetsExist 0x20 core = true ∧ Nat.land 0x20 (s.armedSlots x.cls) = 0x20 ∧
      s.actBusy 0x20 core = false ∧ s.actState x 0x20 (s.g 3 7) = none ∧ s.lastTicket = 0 ∧ s.act.running = []) ∧
    (let u := after (x.instr 3 9 6 7) s;
      u.g 3 9 = statusWord St.accepted 0 1 ∧ rose s u Ev.actAccepted 5 (BitVec.ofNat 64 (1 + x.code.1 * 2 ^ 56)) = true ∧ u.lastTicket = 1) := by
  decide +kernel

theorem wit_UnarmedActionsAreWithheld : ∀ x ∈ subs, let s := { acting x with evt := idle.evt }
    (opsPass s x 0x20 (if x.form = .slotCore then some 0x3F else none) = true ∧ Nat.land 0x20 (s.armedSlots x.cls) ≠ 0x20) ∧
    (let u := after (x.instr 3 9 6 7) s;
      u.g 3 9 = statusWord St.withheld 0 1 ∧ rose s u Ev.actWithheld 5 (BitVec.ofNat 64 (1 + x.code.1 * 2 ^ 56)) = true ∧
      u.act = s.act ∧ u.mor = s.mor) := by decide +kernel

theorem wit_ActionsThatAreNotTaken :
    (after (.rsetCore 3 9 6 7 0) ((acting .rsetCore).setF F.PAR_STATUS_control 0)).g 3 9 = statusWord St.notControl 0 0 ∧
    (let s := acting .ocltCancel; opsPass s .ocltCancel 0 none = true ∧ s.atPending = false ∧
      (after (.ocltCancel 3 9 6 7 2) s).g 3 9 = statusWord St.empty 0 0) ∧
    (let s := (acting .rsetCore).setG 3 6 0x400005; opsPass s .rsetCore 0x20 (some 0x40) = true ∧ s.targetsExist 0x20 (some 0x40) = false ∧
      (after (.rsetCore 3 9 6 7 0) s).g 3 9 = statusWord St.noTarget 0 0) ∧
    (let s := after (.rsetWarm 3 9 6 7 3) (acting .rsetWarm); s.actBusy 0x20 none = true ∧
      (after (.rsetWarm 3 9 6 7 3) s).g 3 9 = statusWord St.busy 0 0) ∧
    (let s := (acting .ocltAt).setG 3 7 3199; s.actState .ocltAt 0x20 3199 = some St.late ∧
      (after (.ocltAt 3 9 6 7 1) s).g 3 9 = statusWord St.late 0 0) ∧
    (let s := (host.setG 3 6 0x10).updT 3 (fun x => { x with tvec := 0x20010 });
      (s.t 3).prv = false ∧ s.actTargets .ocltStop 0x10 = some (0x10, none) ∧ Nat.land 0x10 (s.boundSlots 3) ≠ 0x10 ∧
      ((after (.ocltStop 3 9 6 7 0) s).t 3).tcause = Cause.scope) := by decide +kernel

/-- An accepted action on slot 5. -/
def action (x : SubAct) (phase : ActPhase) : Action :=
  ⟨7, x, 0x20, none, some 3, 0, 0, operand x, second x, 0, phase, 0, 5, 5, 0, 0x20, none⟩

/-- An OCLT AT for slot 5 is pending. -/
def atPending : State := { (acting .ocltCancel).atShow 7 3200 0x20 with act := ⟨[{ action .ocltAt .pending with gb := 3200 }]⟩ }

theorem test_oclt_cancel : let s := atPending; s.atPending = true ∧ s.atReached = false ∧ opsPass s .ocltCancel 0x20 none = true ∧
    (after (.ocltCancel 3 9 6 7 2) s).g 3 9 = statusWord St.accepted 0 1 ∧
    (after (.ocltCancel 3 9 6 7 2) s).fb F.OCC_STATUS_at_pending = false := by decide +kernel

theorem wit_AcceptedActionsDriveTheTray : ∀ x ∈ subs, let s := { acting x with act := ⟨[action x .accepted]⟩ }
    s.actionOf 7 = some (action x .accepted) ∧ (action x .accepted).phase = .accepted ∧
    ((s.actDrive 7).mo 5).w1low = decide (x = .ocltStop) ∧ ((s.actDrive 7).mo 5).quarSlot = decide (x = .quarSlot) ∧
    ((s.actDrive 7).mo 4).phase = 0 := by decide +kernel

/-- The hardware path has stopped slot 4 in this cycle, and OCLT STOP of slot 5 joins it under its ticket. -/
theorem test_stop_joins : let s : State := { acting .ocltStop with act := ⟨[{ action .ocltStop .driving with tender := none, mask := 0x10, left := 0x10, ga := 0 }]⟩, occ := { (acting .ocltStop).occ with stopAt := some ⟨(acting .ocltStop).beacon, 0x10, 7, true⟩ } };
    (s.hwStopNow 0x20).map (·.ticket) = some 7 ∧ (after (.ocltStop 3 9 6 7 0) s).g 3 9 = statusWord St.accepted 0 7 ∧
    ((after (.ocltStop 3 9 6 7 0) s).mo 5).w1low = true ∧ ((after (.ocltStop 3 9 6 7 0) s).mo 4).w1low = (s.mo 4).w1low := by decide +kernel

/-- RSET COLD, HOLD, PWR OFF and CYCLE in run phase begin ENTER_STAGGER; the command given, the wires follow. -/
theorem test_stagger_pulse : (∀ x ∈ [SubAct.rsetHold, .rsetCold, .pwrOff, .pwrCycle],
      let s : State := { (acting x).updMo 5 (fun m => { m with phase := 2 }) with act := ⟨[action x .accepted]⟩ };
      ((s.actDrive 7).mo 5).phase = 2 ∧ ((s.actDrive 7).mo 5).w1pull = true ∧ ((s.actDrive 7).mo 5).pulse.map (·.fall) = some 11200) ∧
    (let s := { (acting .pwrOff).updMo 5 (fun m => { m with phase := 2, w1pull := true, pulse := some ⟨false, 1600, 11200, false, some (.off 0), 0, 0, none⟩ }) with
        beacon := 11200 };
      ((s.pulseTick 5).mo 5).phase = 1 ∧ ((s.pulseTick 5).mo 5).w1pull = true ∧
      (let t := { ({ s.pulseTick 5 with beacon := 12800 } : State).pulseTick 5 with beacon := 16000 }; (t.mo 5).w1pull = false ∧ ((t.pulseTick 5).mo 5).w2 = false ∧
        ((t.pulseTick 5).mo 5).seq = some (.off, some (16000 + State.tickMs)) ∧ ((t.pulseTick 5).mo 5).pulse = none)) := by decide +kernel
/-- Tender 23 runs at ORDER; handle 77 is outstanding; entry 2 holds class 3. -/
def granting : State :=
  let s := inOrder 23 ord
  { s with kcp := { s.kcp with handles := [77, 78] }, evt := { s.evt with arms := s.evt.arms.set 2 ⟨true, 3, 0x20, 1, 6, 15⟩ } }

/-- A value of EVT_GRANT: the handle, the entry, the class, the slots, the operation. -/
def grantWord (handle e cls op : Nat) : Word := BitVec.ofNat 64 (handle + e * 2 ^ 24 + cls * 2 ^ 28 + 0x20 * 2 ^ 32 + op * 2 ^ 51)

theorem wit_GrantPath : (granting.t 23).prv = true ∧ granting.emergency = false ∧ 77 ∈ granting.kcp.handles ∧
    (after (.grant 23 (grantWord 77 15 5 0)) granting).evt.arms[15] = ⟨true, 5, 0x20, 0, 1, 0⟩ ∧
    (after (.grant 23 (grantWord 77 15 5 0)) granting).kcp.handles = [78] ∧
    (after (.grantRenew 23 (grantWord 77 2 3 1)) granting).evt.arms[2] = ⟨true, 3, 0x20, 1, 6, 0⟩ ∧
    (after (.grantRemove 23 (grantWord 77 2 0 2)) granting).evt.arms[2].valid = false ∧
    (after (.grant 23 (grantWord 76 15 5 0)) granting).evt.arms = granting.evt.arms ∧
    (let s := { granting with beacon := 16 }; 15 / 8 * 8 < s.pclkTime ∧ (after (.armExpired 2) s).evt.arms[2].valid = false ∧
      rose s (after (.armExpired 2) s) Ev.armExpired (2 + 3 * 16 + 128) (BitVec.ofNat 64 (6 * 16 + 2 + 0x20 * 2 ^ 32)) = true) := by decide +kernel

theorem granting_executes : granting.executes 23 ∧ granting.working :=
  ⟨executes_of (by decide +kernel), working_of (by decide +kernel)⟩

theorem wit_BindingAndBudget :
    (let s := host.updT 4 (fun x => { x with bindPend := some (some 0) }); (s.t 4).handler = none ∧ s.prog.owned[0] = some prog0) ∧
    (let s := host.updT 3 (fun x => { x with handler := some ⟨1600, none⟩, tvec := 0x200 });
      ((after (.handlerBudgetExpired 3) s).t 3).prv = false ∧
      ((after (.handlerBudgetExpired 3) { s with beacon := 1600 }).t 3).pc = 0x200 ∧
      ((after (.handlerBudgetExpired 3) { s with beacon := 1600 }).t 3).handler = none) := by decide +kernel

/-! ### Mooring and power -/

/-- Slot 5 with a row of its sequence due. -/
def due5 (row : SeqStep) : State := (slot5 ord).updMo 5 (fun m => { m with seq := some (row, some 0), phase := 1, w0 := true, powered := true })

theorem wit_PowerSequenceRows :
    (let s : State := { slot5 ord with mor := { (slot5 ord).mor with released := some 0 }, beacon := 1600000 };
      ord.wireFree 5 = true ∧ 0 + 404 * State.tickUs ≤ s.beacon ∧
      (after (.strapSample true (Vector.ofFn (fun k => BitVec.ofNat 4 k.val))) s).f F.MOR_STRAP_up 15 = 15 ∧
      (after (.strapSample false (Vector.ofFn (fun k => BitVec.ofNat 4 k.val))) s).fb F.MOR_STRAP_present 2 = true ∧
      (after (.strapSample false (Vector.ofFn (fun k => BitVec.ofNat 4 k.val))) s).fb F.MOR_STRAP_present 1 = false ∧
      (after .strapPhaseEnd s).mor.strapsRead = true ∧ ((after .strapPhaseEnd s).mo 5).phase = 1 ∧ ((after .strapPhaseEnd s).mo 4).phase = 0) ∧
    (let s : State := { ord with mor := { ord.mor with unit := (21, some 0) } }; (after .staggerStep s).mor.unit.1 = 22 ∧
      rose s (after .staggerStep s) Ev.staggerStep 0 0 = true) ∧
    (let s : State := { due5 .queued with mor := { (due5 .queued).mor with unit := (22, none) } };
      s.seqReady = false ∧ s.pwrOrder.find? (fun m => s.rowDue m .queued) = some 5 ∧
      ((after .staggerStep s).mo 5).w0 = true ∧ ((after .staggerStep s).mo 5).seq.map (·.1) = some .pwrGood) := by decide +kernel

theorem test_sequence_rows : ((after (.pwrGoodRise 5) (due5 .pwrGood)).mo 5).seq = some (.refclk, some 1600000) ∧
    ((after (.pwrGoodTimeout 5) (due5 .pwrGood)).mo 5).w0 = false ∧ ((after (.refclkEnableStep 5) (due5 .refclk)).mo 5).w3 = true ∧
    ((after (.resetReleaseStep 5) (due5 .resetRise)).mo 5).seq = some (.runEntry, some 163840) ∧
    ((after (.runEntry 5) (due5 .runEntry)).mo 5).phase = 2 ∧ ((after (.coldHoldExpired 5) (due5 .hold)).mo 5).w2 = true ∧
    ((after (.pwrOffDone 5) (due5 .off)).mo 5).seq = none ∧ ((after (.pwrOffDone 5) (due5 .off)).mo 5).powered = false ∧
    ((after (.pwrCycleOffExpired 5) (due5 .cycleOff)).mo 5).seq.map (·.1) = some .queued := by decide +kernel

/-- An action driven on slot 5. -/
def driven (x : SubAct) (left : Nat) : State := { acting x with act := ⟨[{ action x .driving with left := left, mask := left }]⟩ }

theorem test_action_ends : (driven .fencFence 0x20).linkUp 5 = true ∧ (driven .fencFence 0x20).actionOf 7 ≠ none ∧
    rose (driven .fencFence 0x20) (after (.actionDone 5 7 true) (driven .fencFence 0x20)) Ev.actDone 5
      (BitVec.ofNat 64 (7 + 0x52 * 2 ^ 56)) = true ∧
    ((after (.actionDone 5 7 true) (driven .rsetWarm 0x20)).actionOf 7).map (·.left) = some 0x20 ∧
    ((after (.actionDone 5 7 true) (driven .pwrCap 0x60)).actionOf 7).map (·.left) = some 0x40 ∧
    (let s : State := { (driven .rsetWarm 0x20).updMo 5 (fun m => { m with readyFrom := some 0 }) with beacon := 2 ^ 40 };
      (after (.actionReadyTimeout 5) s).act.running = [] ∧ ((after (.actionReadyTimeout 5) s).mo 5).readyFrom = none) := by decide +kernel

theorem wit_MooringFaultRows : rose ord (after (.powerFault 15 true) ord) (slotEv 15 12) 15 0 = true ∧
    (let s := (ord.setF F.PWR_CTL_pmb_en 1).setF F.PWR_STAGE_addr 0x40 5; (after (.pmbusPoll 5 (some (65535, 1, 255))) s).f F.PWR_STAGE_temp 5 = 255 ∧
      rose s (after (.pmbusPoll 5 none) s) Ev.pmbusFault 0 0 = true) ∧ rose ord (after (.pmbusAlert 5) ord) Ev.pmbusFault 0 0 = true ∧
    ord.clk.vddAt = none ∧ (after (.avsStep 755 true) ord).clk.vdd = 755 ∧ rose ord (after (.avsStep 745 false) ord) Ev.pmbusFault 0xFF 0 = true ∧
    rose ord (after (.morWireFault 15 3) ord) Ev.morWireFault 63 0 = true ∧ (after (.morWireFault 15 1) ord).f F.MOR_PROXY_in = 0x8000 ∧
    (let s := ord.updMo 5 (fun m => { m with phase := 2 }); rose s (after (.w1StuckLow 5 false) s) Ev.occReleased 32 0 = true ∧
      ((after (.w1StuckLow 5 false) s).mo 5).masked = 1) ∧
    (let s : State := { ord.updMo 5 (fun m => { m with followSince := (some 0, none), masked := 1 }) with beacon := 160000000 };
      ((after (.w1Unmask 5) s).mo 5).masked = 0) ∧ ((after (.w1ProxyRequest 5 true) ord).mo 5).w1low = true := by decide +kernel

theorem test_pulse_retry :
    (let s : State := { ord.updMo 5 (fun m => { m with phase := 2, pulse := some ⟨true, 0, 9, false, none, 1, 0, some (3, 9)⟩ }) with beacon := 1 };
      ((after (.phasePulseRetry 5) s).mo 5).pulse = some ⟨true, 1, 3201, false, none, 0, 1, some (3, 9)⟩) ∧
    (let s : State := { (ord.updMo 5 (fun m => { m with phase := 2, pulse := some ⟨true, 0, 9, false, none, 1, 1, some (3, 9)⟩ })).updT 3
        (fun x => { x with run := .waitMoor }) with beacon := 1 };
      (after (.phasePulseRetry 5) s).g 3 9 = statusWord St.busy 0 0) := by decide +kernel

/-! ### Stops and dumps -/

/-- Slot 5 in run phase. -/
def running5 (f : MorSlot → MorSlot) : State := (slot5 ord).updMo 5 (fun m => f { m with phase := 2 })

theorem wit_HeartbeatAndStopRows : ((after (.heartbeatEdge 5) (running5 id)).mo 5).hbLost = false ∧
    (let s : State := { running5 id with beacon := 40000 }; rose s (after (.heartbeatLost 5) s) (slotEv 5 1) 5 0 = true ∧
      ((after (.heartbeatLost 5) { s with beacon := 39999 }).mo 5).hbLost = false) ∧
    (let s : State := { running5 (fun m => { m with probeAt := some 0 }) with beacon := 16000 };
      rose s (after (.chipDown 5) s) (slotEv 5 11) 5 0 = true ∧ ((after (.chipDown 5) s).mo 5).chipDown = true) ∧
    (let s := running5 id; rose s (after (.alarmWire 5 (2 ^ 32 - 1)) s) (slotEv 5 0) 21 0 = true ∧
      (after (.alarmWire 5 (2 ^ 32 - 1)) s).f F.TRS_FWD_ERR_discards = 2 ^ 32 - 1) := by decide +kernel

/-- The hardware stop path watches the alarm of slot 5 and stops it. -/
def trigger5 (s : State) : State := (((s.setF F.OCC_CTL_hw_en 1).setF F.OCC_TRIG_src 1).setF F.OCC_TRIG_watch 0x20).setF F.OCC_TRIG_stop 0x20

theorem test_hardware_stop : (let s := trigger5 (armed.updMo 5 (fun m => { m with phase := 2 }));
      Nat.land 0x20 (s.armedSlots 3) = 0x20 ∧ s.mergeStop 0x20 = none ∧ ((after (.alarmWire 5 0) s).mo 5).w1low = true) ∧
    (let s := trigger5 (running5 id); Nat.land 0x20 (s.armedSlots 3) ≠ 0x20 ∧ ((after (.alarmWire 5 0) s).mo 5).w1low = false) := by decide +kernel

/-- A stop of slot 5 is driven. -/
def stopping : State := (driven .ocltStop 0x20).updMo 5 (fun m => { m with phase := 2, w1low := true })

theorem test_stop_ack : stopping.linkUp 5 = true ∧ (after (.stopAck 5 (2 ^ 64 - 1)) stopping).f F.OCC_SNAP_tick 5 = 2 ^ 64 - 1 ∧
    ((after (.stopAck 5 7) stopping).mo 5).stopped = true ∧ rose stopping (after (.stopAck 5 7) stopping) Ev.occStopped 0x20 7 = true ∧
    (let s : State := { stopping with beacon := 32000 }; (after (.stopAckTimeout 7) s).act.running = []) ∧
    (after (.stopAckTimeout 7) stopping).act.running.length = 1 := by decide +kernel

theorem test_oclt_at : (let s : State := { atPending with beacon := 3200 }; rose s (after .ocltAtFire s) Ev.occPodFired 0x20 7 = true ∧
      ((after .ocltAtFire s).mo 5).w1low = true) ∧
    (after (.stopAt 5) atPending).occ.atAcked = 0x20 ∧ (after (.stopAt 5) { atPending with beacon := 1601 }).occ.atAcked = 0 := by decide +kernel

/-- A dump of slot 5 with one unit to read. -/
def dump5 : DumpSlot := ⟨1, true, 0, 0, some [], [⟨List.replicate 16 0, 2, none, []⟩, ⟨List.replicate 16 1, 2, none, []⟩], 0, 0, false, false, [], false, []⟩

theorem wit_DumpRows :
    (after (.occDumpStart 3 0x20) (running5 id)).f F.OCC_DUMP_STAT_state 5 = 1 ∧ (after (.occDumpStart 3 0x20) (running5 id)).occ.reading.isSome = true ∧
    (let s := (running5 id).setF F.LOG_STATUS_sealed 1; (after (.occDumpStart 3 0x20) s).f F.OCC_DUMP_STAT_state 5 = 4 ∧
      rose s (after (.occDumpStart 3 0x20) s) Ev.dumpSlotDone 5 4 = true) ∧
    (let s : State := { running5 id with occ := { idle.occ with dumps := idle.occ.dumps.set 5 (some dump5) } };
      (after (.occDumpAbort 3 0x200000) s).f F.OCC_DUMP_STAT_state 5 = 5 ∧ rose s (after (.occDumpAbort 3 0x200000) s) Ev.dumpSlotDone 5 5 = true) ∧
    (let s : State := { running5 id with occ := { idle.occ with dumps := idle.occ.dumps.set 5 (some dump5), reading := some (5, 0, 0) } };
      (after (.occDumpAbort 3 0x200000) s).occ.dumps[5] = some { dump5 with abort := true } ∧
      ((after (.unitData 5 true [7, 8, 9]) s).occ.dumps[5]).map (fun d => d.units.map (fun x => (x.status, x.data))) =
        some [(some 0, [7, 8]), (none, [])] ∧
      ((after (.unitData 5 false []) s).occ.dumps[5]).map (fun d => d.units.map (·.status)) = some [some 2, none] ∧
      (let t : State := { s with beacon := 16000 }; rose t (after .dumpReadTimeout t) Ev.dumpUnreadable 5 0 = true)) := by decide +kernel

/-! ### Links -/

/-- Port 5 serves slot 5, in a link state and with lanes up. -/
def link5 (state lanes : Nat) : State :=
  (((slot5 ord).setF F.BLK_STATUS_state state 5).setF F.BLK_STATUS_lanes_up lanes 5).setF F.BLK_CTL_en 1 5

/-- An identity as a Buoy of slot 5 announces it. -/
def ident5 (major slot : Nat) : Ident := ⟨0, 0, major, 0, slot, 0x1234567890, 0x77, [], 0, 64, 1024, 16⟩

theorem wit_LinkRows :
    (let s := (link5 1 0).setF F.BLK_CTL_lanes 3 5; s.blkState 5 = 1 ∧ s.lanesUp 5 = 0 ∧ (after (.linkLock 5 1) s).lanesUp 5 = 2 ∧
      (after (.linkLock 5 1) s).blkState 5 = 2) ∧
    (after (.linkFrameError (.buoy 5) (.corrected 65535)) (link5 3 3)).f F.BLK_ERR_corrected 5 = 65535 ∧
    Out.buoy 5 "NAK" [] [2 ^ 24 - 1] ∈ (after (.linkFrameError (.buoy 5) .discarded) (link5 3 3)).out ∧
    (let s := (link5 3 3).updPort 5 (fun p => { p with unacked := [(2 ^ 24 - 1, 0), (0, 0), (1, 0)] });
      ((after (.linkNak (.buoy 5) 0) { s with beacon := 9 }).port 5).unacked = [(1, 9)] ∧
      ((after (.linkCredit (.buoy 5) (2 ^ 24 - 1) (Vector.replicate 16 3)) s).port 5).unacked = [(0, 0), (1, 0)] ∧
      ((after (.linkCredit (.buoy 5) 0 (Vector.replicate 16 3)) s).port 5).credits[15] = 3 ∧
      (after (.linkReplayTimeout (.buoy 5)) { s with beacon := 6400 }).f F.BLK_ERR_replays 5 = 1 ∧
      (after (.linkReplayTimeout (.buoy 5)) { s with beacon := 6399 }).f F.BLK_ERR_replays 5 = 0) := by decide +kernel

/-- The pair link with a frame unacknowledged. -/
def pairWire : State := (ord.setF F.PAR_STATUS_link_up 1).updPar (fun p => { p with wire := { p.wire with rxNext := 7, unacked := [(3, 0), (4, 0)] } })

theorem test_pair_wire : let s := pairWire;
    s.par.wire.waiting = [] ∧ Out.pair "NAK" [6] ∈ (after (.linkFrameError .pair .discarded) s).out ∧
    (after (.linkFrameError .pair .discarded) s).par.wire.discarded = 1 ∧
    (after (.linkFrameError .pair .late) (after (.linkFrameError .pair .discarded) s)).out = (after (.linkFrameError .pair .discarded) s).out ∧
    (after (.linkFrameError .pair .expected) (after (.linkFrameError .pair .discarded) s)).par.wire.rxNak = false ∧
    (after (.linkFrameError .pair .reservedType) s).par.wire.rxNext = 8 ∧ (after (.linkFrameError .pair .reservedClass) s).par.wire.discarded = 1 ∧
    (after (.linkNak .pair 3) { s with beacon := 9 }).par.wire.unacked = [(4, 9)] ∧
    (after (.linkReplayTimeout .pair) { s with beacon := 6400 }).par.wire.unacked = [(3, 6400), (4, 6400)] ∧
    (after (.linkCredit .pair 4 (Vector.replicate 16 2)) s).par.wire.unacked = [] ∧
    (after (.linkCredit .pair 4 (Vector.replicate 16 2)) s).par.wire.credits[15] = s.par.wire.credits[15] + 2 := by decide +kernel

theorem test_buoy_frames : let s := link5 3 3;
    (after (.linkFrameError (.buoy 5) .late) s).f F.BLK_ERR_uncorrectable 5 = 1 ∧
    (after (.linkFrameError (.buoy 5) .late) (s.updPort 5 (fun p => { p with rxNak := true }))).out = s.out ∧
    ((after (.linkFrameError (.buoy 5) .expected) (s.updPort 5 (fun p => { p with rxNak := true }))).port 5).rxNak = false ∧
    ((after (.linkFrameError (.buoy 5) .reservedClass) s).port 5).rxNext = 1 ∧
    rose s (after (.linkFrameError (.buoy 5) .reservedType) s) (slotEv 5 0) 5 0 = true := by decide +kernel

theorem test_lane_rows :
    (let s := link5 3 3; ((after (.laneFail 5 1) s).lanesUp 5 = 1 ∧ ((after (.laneFail 5 1) s).port 5).lostLane[(1 : Fin 2)] = some none ∧
      rose s (after (.laneFail 5 1) s) (slotEv 5 4) 21 0 = true)) ∧
    (let s := (link5 3 1).updPort 5 (fun p => { p with lostLane := p.lostLane.set 1 (some (some 0)) });
      (after (.laneRestored 5) { s with beacon := 160000000 }).lanesUp 5 = 3 ∧ (after (.laneRestored 5) { s with beacon := 159999999 }).lanesUp 5 = 1) ∧
    (let s : State := { (link5 3 3).updPort 5 (fun p => { p with serving := true }) with beacon := 32000 };
      (after (.linkDown 5) s).blkState 5 = 0 ∧ rose s (after (.linkDown 5) s) (slotEv 5 2) 5 0 = true) := by decide +kernel

theorem test_ident : (let s := link5 2 3; s.held 5 = false ∧ (s.mo 5).peerSerial = none ∧
      (after (.buoyIdent 5 (ident5 1 5)) s).blkState 5 = 3 ∧ (after (.buoyIdent 5 (ident5 1 5)) s).f F.BLK_SERIAL_LO_serial_lo 5 = 0x1234567890 ∧
      (after (.buoyIdent 5 (ident5 2 5)) s).f F.BLK_STATUS_qreason 5 = 2 ∧ (after (.buoyIdent 5 (ident5 1 4)) s).f F.BLK_STATUS_qreason 5 = 1 ∧
      rose s (after (.buoyIdent 5 (ident5 1 4)) s) (slotEv 5 6) 5 0 = true) := by decide +kernel

theorem test_note : (let s := link5 3 3; s.linkUp 5 = true ∧
      rose s (after (.buoyNote 5 1 2 3 5 [1]) s) (slotEv 5 13) (5 + 16 * 5) (BitVec.ofNat 64 (State.noteAddr 5 0)) = true ∧
      rose s (after (.buoyNote 5 1 2 3 6 [1]) s) (slotEv 5 0) 5 0 = true) := by decide +kernel

theorem wit_LinkWindowRows : ((after (.blkWinRead 3 9 5) (link5 4 3)).t 3).run = .waitWin ∧
    (after (.blkWinRead 3 9 5) (link5 2 3)).g 3 9 = BitVec.allOnes 64 ∧ (after (.blkWinRead 3 9 5) (link5 2 3)).fb F.BLK_STATUS_win_err 5 = true ∧
    ((after (.blkWinWrite 3 5 8) (link5 3 3)).port 5).waiting = [(0, "WIN_WRITE", [0, 8])] ∧
    (after (.blkRetrain 3 5 3) (link5 3 3)).blkState 5 = 1 ∧
    (let s := after (.blkWinRead 3 9 5) (link5 3 3); (s.port 5).windows = [(0, 0, .tender 3 9)] ∧ (s.t 3).run = .waitWin ∧ s.ready = [] ∧
      (after (.winReply 5 0xAB) s).g 3 9 = 0xAB ∧ ((after (.winReply 5 0xAB) s).t 3).pc = 4 ∧
      (after (.winReplyTimeout 5) { s with beacon := 3200 }).g 3 9 = BitVec.allOnes 64) := by decide +kernel

/-! ### Plumb and truss -/

/-- Tile 7 in rotation and started; a result ring is laid out. -/
def plumb : State := ((ord.updTile 7 (fun x => { x with inRot := true, started := true })).setF F.PLB_CTL_tile_en 0x80).setF F.PLB_CTL_capture_en 1

/-- A descriptor of 64 bytes: type, flags, formats of C and D, one row of one element; its operands are absent but A at 0. -/
def elem (flags slot : Nat) : List Byte :=
  [3, BitVec.ofNat 8 flags, 0, 0, 0, 0, 0, 0, 1, 0, 1, 0, 0, 0, 0, 0] ++ List.replicate 40 0 ++ leBytes (slot * 2 ^ 42) 8

/-- An op of a tile. -/
def op0 (desc : List Byte) (src : PlbSrc) (r : List Byte) (first : Option (Fin 8 × List Byte × Nat)) : PlbOp :=
  ⟨9, desc, src, none, [1, 2, 3, 4], [5, 6, 7, 8], [0, 0, 0, 0], r, true, first, none, 0, 0, 5, false, true⟩

/-- The digest that an op of tile 7 has. -/
def dig0 (o : PlbOp) : Nat := o.d.digest o.key (plbResult o.d o.seed o.a o.b o.c)

def running7 (o : PlbOp) : State := plumb.updTile 7 (fun x => { x with running := some o })

theorem wit_PlumbRows : (let s := plumb.setF F.PLB_ENV_tmax 105; (s.tile 7).started = true ∧
      ((after (.plbEnvSample (Vector.replicate 8 105) (Vector.replicate 8 150)) s).tile 7).inRot = true ∧
      ((after (.plbEnvSample (Vector.replicate 8 105) (Vector.replicate 8 150)) s).tile 7).volt = 150 ∧
      rose s (after (.plbEnvSample (Vector.replicate 8 106) (Vector.replicate 8 150)) s) Ev.plbTileOut 7 2 = true) ∧
    (let s := plumb.updTile 7 (fun x => { x with inRot := false, reason := 0, settled := some 0 });
      let t : State := { s with beacon := s.f F.PLB_ENV_settle_ms * State.tickMs };
      ((after (.tileSettled 7) t).tile 7).queue.map (fun o => (decide (o.src = .selfTest), o.canary)) = [(true, true)]) := by decide +kernel

theorem test_plumb_dequeue : (let o := op0 (elem 1 0) (.issued 3 true) [] none;
      let s := plumb.updTile 7 (fun x => { x with queue := [o] });
      s.plbIdle 7 = true ∧ firstInvalid (s.plbChecks o) = none ∧ (after (.plbOpDequeue 7) s).tile 7 =
        { s.tile 7 with queue := [], running := some (s.plbLoadOp o) }) ∧
    (let o := op0 ((7 : Byte) :: List.replicate 63 0) (.issued 3 true) [] none;
      let s := plumb.updTile 7 (fun x => { x with queue := [o] });
      firstInvalid (s.plbChecks o) = some 0 ∧ ((after (.plbOpDequeue 7) s).tile 7).ops = 1) := by decide +kernel

theorem test_plumb_complete :
    (let o := op0 (elem 1 0) (.issued 3 true) [] none; let m := { o with r := leBytes (dig0 o) 16 };
      o.canary = false ∧ o.d.type = 3 ∧ o.d.cmp = true ∧ dig0 m = leNat (m.r.take 16) ∧
      ((after (.plbOpComplete 7 none .clean) (running7 m)).tile 7).ops = 1) ∧
    (let o := op0 (elem 1 0) (.issued 3 true) (leBytes 1 16) none;
      let s := ((running7 o).updTile 2 (fun x => { x with inRot := true })).setF F.PLB_CTL_confirm 1;
      dig0 o ≠ leNat (o.r.take 16) ∧ State.PlbOp.noConfirm o = false ∧
      (s.updTile 7 (fun x => { x with running := none })).plbConfirmTile 7 = some 2 ∧
      ((after (.plbOpComplete 7 none .clean) s).tile 2).queue.map (fun x => x.first.map (·.1)) = [some 7]) ∧
    (let o := op0 (elem 1 5) (.captured 5 1 2 3 4) (leBytes 1 16) none;
      let c := { o with first := some (2, plbResult o.d o.seed o.a o.b o.c, dig0 o) };
      (after (.plbOpComplete 7 none .clean) (running7 c)).plb.mismatches = [(9, 1, 2, 4)] ∧
      ((after (.plbOpComplete 7 none .clean) (running7 c)).evt.inflight.map (·.ev.event)) = [slotEv 5 Ev.auditMismatch]) := by decide +kernel

/-- Slot 5 has a link and a capture credit of 3 pages. -/
def capturing : State :=
  let s := (plumb.setF F.BLK_STATUS_state 3 5).setF F.PLB_RES_BASE_base 0x100000000000
  { s with plb := { s.plb with credits := s.plb.credits.set 5 [3, 4], key := 5 } }

/-- The header of a sample of a step with a descriptor. -/
def sampleHdr (step : Nat) : List Byte := elem 1 5 ++ leBytes step 8 ++ List.replicate 24 0

theorem test_plumb_sample : capturing.control = true ∧ capturing.linkUp 5 = true ∧ capturing.inRot = [7] ∧
    capturing.plbKeyFor (numAt (sampleHdr (2 ^ 32 - 1)) 0x40 8) = some 5 ∧
    (after (.plbSample 5 (.skipped (2 ^ 32))) capturing).f F.PLB_SLOT_CNT_skipped 5 = 2 ^ 32 - 1 ∧
    (after (.plbSample 5 (.sample (sampleHdr 1) [] [] [] [] true .clean)) capturing).f F.PLB_SLOT_CNT_captured 5 = 1 ∧
    (after (.plbSample 5 (.sample (sampleHdr 1) [] [] [] [] true .clean)) capturing).plb.credits[5] = [4] ∧
    (after (.plbSample 4 (.sample (sampleHdr 1) [] [] [] [] true .clean)) (capturing.setF F.BLK_STATUS_state 3 4)).f F.PLB_SLOT_CNT_skipped 4 = 1 ∧
    (let s := (capturing.setF F.PLB_SLOT_RATE_credits 3 5); s.plbPages + 255 ≤ 1024 ∧ (s.plb.credits[5]).length < s.f F.PLB_SLOT_RATE_credits 5 ∧
      (after (.plbCredit 5 255) s).plb.credits[5] = [3, 4, 255]) := by decide +kernel

theorem test_plumb_key : (let s : State := { plumb with plb := { plumb.plb with keyPending := true }, beacon := 15 };
      s.plbEarlierOps = false ∧ s.plbBoundariesPast = true ∧ (after .keyDrainDone s).plb.keyPending = false ∧
      (after .keyDrainDone s).plb.keyFreeAt = 16) := by decide +kernel

theorem test_plumb_canary : (let o := op0 (canaryDesc 3 (2 ^ 31) 2 5 0) (.issued 3 true) [] none; let s := running7 o; let w := running7 { o with open_ := false };
      o.canary = true ∧ bitOf o.d.offB 31 = true ∧ o.selfCanary = false ∧ tagSlot o.d.tag = 5 ∧
      ((after (.canaryGateTimeout 7) { w with beacon := 3200 }).tile 7).running = none ∧
      ((after (.canaryGateTimeout 7) { w with beacon := 3199 }).tile 7).running.isSome = true ∧
      ((after (.plbCanary 5 9 0) s).evt.inflight.map (·.ev.event)) = [Ev.plbCanaryPass] ∧
      ((after (.plbCanary 5 9 1) s).evt.inflight.map (·.ev.event)) = [Ev.plbCanaryFail]) := by decide +kernel

theorem wit_PlumbAndTrussStores : ((after (.plbTileDisable 3 0x100) plumb).tile 7).inRot = false ∧
    rose plumb (after (.plbTileDisable 3 0x100) plumb) Ev.plbTileOut 7 1 = true ∧ (after (.plbResHeadWrite 3 0x1FFF) plumb).f F.PLB_RES_HEAD_head = 0xFFF ∧
    trsRefusal plumb.jobBound (plumb.trsImage 0) (plumb.trsImage 0) = 1 ∧ (after (.trsLoad 3 1) plumb).f F.TRS_STATUS_reason = 1 ∧
    plumb.jobBound = false ∧ (after (.trsBind 3 2) plumb).f F.TRS_STATUS_reason = 8 := by decide +kernel

/-- A job is loaded and an arrangement is active. -/
def jobLoaded : State :=
  { plumb with trs := { plumb.trs with job := some ⟨6, 1, [], [], 0, []⟩, active := some ⟨2 ^ 32 - 1, 0, [0]⟩ } }

theorem test_truss : (after (.trsBind 3 2) jobLoaded).jobBound = true ∧
    (let s := after (.trsBind 3 2) jobLoaded; (after (.trsUnbind 3 4) s).f F.TRS_STATUS_state = 1 ∧ (after (.trsUnbind 3 4) s).trs.active = none) ∧
    (let s := jobLoaded.setF F.BLK_STATUS_state 3 5; bitOf ((after (.scheduleAck 5 (2 ^ 32 - 1)) s).f F.TRS_DIST_acked) 5 = true ∧
      (after (.scheduleAck 5 7) s).f F.TRS_DIST_acked = 0) := by decide +kernel

/-! ### Ledger, trace, counters -/

/-- Slot 5 has a link and its trace stream flows. -/
def tracing : State := ((slot5 ord).setF F.BLK_STATUS_state 3 5).setF F.TRC_SLOT_CTL_en 1 5

/-- Slot 5 with the command 9 of engine 1023 open in entry 15. -/
def open9 : State := tracing.setLed 5 ⟨[⟨16383, 100, 9, 1, 2, false⟩], []⟩

theorem wit_LedgerAndTraceRows : tracing.linkUp 5 = true ∧ ((tracing.led 5).ofEngine 1023) = [] ∧ (tracing.led 5).free 1023 = some 0 ∧
    ((after (.ledgerBegin 5 1023 7 9 50 1 2 3) tracing).led 5).entries = [⟨16368, 50, 9, 7, 3, false⟩] ∧
    (after (.ledgerBegin 5 1023 7 9 50 1 2 3) open9).f F.LDG_SLOT_CNT_orphan 5 = 1 ∧
    ((after (.ledgerEnd 5 1023 1 9 60 1 0) open9).led 5).entries = [] ∧
    (let s := tracing.setLed 5 ⟨(List.range 16).map (fun i => ⟨16368 + i, 100, i, 1, 2, false⟩), []⟩; (s.led 5).free 1023 = none ∧
      ((after (.ledgerBegin 5 1023 7 99 50 1 2 3) s).led 5).count 1023 = 1 ∧
      rose s (after (.ledgerBegin 5 1023 7 99 50 1 2 3) s) Ev.ldgSaturated (5 + 16 * 1023) 99 = true ∧
      (let t := after (.ledgerBegin 5 1023 7 99 50 1 2 3) s; ((after (.ledgerEnd 5 1023 1 99 60 1 0) t).led 5).count 1023 = 0)) ∧
    (let s : State := { (open9.setF F.LDG_CTL_tmo_en 1).setF F.LDG_TMO_tmo_us 1 2 with beacon := 1700 };
      rose s (after (.ledgerTimeout 5 1023 15) s) (slotEv 5 Ev.ledgerTimeout) (5 + 16 * 1023) (BitVec.ofNat 64 (ldgKey 5 16383 + 9 * 2 ^ 32)) = true ∧
      ((after (.ledgerTimeout 5 1023 15) { s with beacon := 1699 }).led 5) = s.led 5) := by decide +kernel

theorem test_trace_ticks : (let s : State := { tracing with beacon := State.tickS }; s.trace.anchorSec < s.beacon / State.tickS ∧
      ((after .traceAnchorTick s).trc 5).staged.length = 1 ∧ (after .traceAnchorTick s).trace.anchorSec = 1) ∧
    (let s := tracing.updTrc 5 (fun x => { x with loss := some ⟨3, 10, 20, 1⟩ });
      ((after (.traceRoomReturn 5) s).trc 5).staged.length = 2 ∧ ((after (.traceRoomReturn 5) s).trc 5).loss = none ∧
      rose s (after (.traceRoomReturn 5) s) Ev.trcGap 5 3 = true) ∧
    (let s := tracing.updTrc 5 (fun x => { x with draining := some 0 }); rose s (after (.trcReserveDrained 5) s) Ev.trcReserveDrained 5 0 = true) := by
  decide +kernel

theorem test_trace_stores : ((after (.trcTrig 3 5 8) tracing).trc 5).triggers = 1 ∧ rose tracing (after (.trcTrig 3 5 8) tracing) Ev.trcTrigger 5 1 = true ∧
    (let s := tracing.updTrc 5 (fun x => { x with frozen := true, stopped := true }); ((after (.trcRearm 3 5 0x80) s).trc 5).frozen = false ∧
      ((after (.trcRearm 3 5 0x80) s).trc 5).stopped = false) ∧
    (let s := slot5 ord; (after (.trcStreamEnable 3 5 1) s).fb F.TRC_SLOT_CTL_en 5 = true ∧ ((after (.trcStreamEnable 3 5 1) s).trc 5).staged.length = 1) ∧
    ((after (.trcMark (.store 3) 5 0x1122334455667788) tracing).trc 5).staged.map (fun x => x.bytes.drop 8) =
      [[0x44, 0x33, 0x22, 0x11, 0x88, 0x77, 0x66, 0x55]] ∧
    ((after (.trcMark (.firmware 1 2 3) 5 0x1122334400000007) tracing).trc 5).staged.map (fun x => x.bytes.drop 8) = [[0x44, 0x33, 0x22, 0x11, 7, 0, 0, 0]] ∧
    (let s := after (.trcTrig 3 5 8) tracing; ((after (.trcTrig 3 5 8) s).trc 5).triggers = 1) ∧
    (after (.trcHeadWrite 3 5 0x40000001) tracing).f F.TRC_SLOT_HEAD_head 5 = 1 := by decide +kernel

/-- Sighting request 7 is open for slot 5. -/
def sighting : State :=
  ((tracing.setF F.TRC_SIGHT_STAT_state 1 7).setF F.TRC_SIGHT_REQ_slots 0x20 7).setF F.TRC_SIGHT_BASE_sbase 0x100000000000

theorem wit_LensSightingCounterRows : ((after (.lensCredit 3) ord).trace.lens[3]).credits = 1 ∧
    (let s := ord.setF F.TRC_LENS_CTL_up 1; rose s (after .lensDown s) Ev.lensDown 0 0 = true) ∧
    (after .lensLinkUp ({ ord with clk := { ord.clk with refclk := true } }.setF F.TRC_LENS_CTL_en 1)).fb F.TRC_LENS_CTL_up = true ∧
    (sighting.sightOpen 7 5 = true ∧ sighting.trace.sights[7] = [] ∧ (after (.sightAnnounce 7 5 4) sighting).trace.sights[7] = [⟨5, 0, 4, 0⟩] ∧
      (after (.sightAnnounce 7 5 0x100000000) sighting).f F.TRC_SIGHT_STAT_refused 7 = 0x20 ∧
      (let s := after (.sightAnnounce 7 5 4) sighting; (after (.sight 7 5 [1, 2, 3, 4]) s).f F.TRC_SIGHT_STAT_captured 7 = 0x20)) ∧
    (let s := ord.setF F.TRC_CNT_CTL_period_us 2; (after .counterSampleTick s).trace.sampleDue = 3200) ∧
    (after (.counters 5 [⟨1023, false, 1, 2, 3, 4⟩]) tracing).trace.prevCnt = [(5 * 1024 + 1023, 2, 3)] := by decide +kernel

/-! ### Beacon and PTP -/

/-- Slot 5 in run phase with a calibration cell, at a beacon time. -/
def marked (b : Nat) (c : CalSlot) : State := { (running5 id).updCal 5 (fun _ => c) with beacon := b }

/-- Tender 19 runs the time service. -/
def timely (s : State) : State :=
  ({ s with prog := { s.prog with orders := some ⟨1, 0, 1, [], 0, 0⟩ } } : State).updT 19 (fun x => { x with run := .running })

theorem wit_BeaconAndPtpRows : (let s := marked 16384 ⟨true, none, none, some (1023, 0)⟩; s.w0Rests = false ∧
      Out.w0 5 (16384 : Int) (w0Frame 16384 true false true false) ∈ (after .w0Mark s).out ∧ (after .w0Mark s).f F.BCN_SLOT_dly 5 = 1 ∧
      ((after .w0Mark s).bcn.slots[5]).echo = some 32768 ∧ ((after .w0Mark s).bcn.slots[5]).want = false) ∧
    (let s := marked 0 ⟨false, none, some 16384, none⟩; s.followed 5 = true ∧ (after (.calEcho 5 18084) s).f F.BCN_SLOT_rtt 5 = 100 ∧
      ((after (.calEcho 5 18084) s).bcn.slots[5]).target = some (50, 0) ∧ ((after (.calEcho 5 0) s).bcn.slots[5]).target = none) ∧
    (let s : State := { ord.setF F.BCN_CAL_period_s 1 with beacon := State.tickS }; (after .calPeriod s).bcn.calAt = State.tickS ∧
      ((after .calPeriod s).bcn.slots[15]).want = true) ∧
    ((after (.bcnCalNow 3 0x80000005) ord).bcn.slots[15]).want = true ∧ (after (.bcnCalNow 3 0x80000005) ord).f F.BCN_CAL_period_s = 5 ∧
    (let s : State := { ord with bcn := { ord.bcn with waitFrom := some 0 }, beacon := ord.f F.BCN_CTL_wait_s * State.tickS };
      (after .beaconTieWaitExpired s).bcn.waitOver = true ∧ (after .beaconTieWaitExpired { s with beacon := 0 }).bcn.waitOver = decide (ord.f F.BCN_CTL_wait_s = 0)) ∧
    (let s := timely (marked (ord.f F.BCN_CTL_wait_s * State.tickS) ⟨false, none, none, none⟩); let s := { (s.updMo 5 (fun m => { m with phase := 1 })).setF F.PTP_DOM_STAT_state 2 1 with bcn := { s.bcn with waitFrom := some 0 } };
      s.timeService = true ∧ s.inService = false ∧ (after .beaconTieWaitExpired s).bcn.tied = true ∧ (after .beaconTieWaitExpired s).f F.BCN_CTL_tie = 2) := by
  decide +kernel

/-- PTP domain 1 runs with master 77. -/
def ptp1 (state : Nat) (f : PtpDom → PtpDom) : State :=
  (((ord.setF F.PTP_DOM_CFG_en 1 1).setF F.MAC_STATUS_mode 1).setF F.PTP_DOM_STAT_state state 1).updPtp 1 (fun x =>
    f { x with master := some 77, masters := [⟨77, [128], 5, 1, 0⟩] })

theorem test_ptp_sync : (let s : State := { ptp1 3 id with beacon := 500 }; s.fb F.PTP_DOM_CFG_en 1 = true ∧ s.f F.MAC_STATUS_mode ≠ 0 ∧
      (let u := after (.ptpSync 1 77 65535 (-3) none 0) s; (u.ptp 1).sync.map (fun x => (x.1, x.2.2.1, x.2.2.2)) = some (65535, -3, none) ∧
        (u.ptp 1).lastSync = 500 ∧ u.f F.PTP_DOM_STAT_state 1 = 1 ∧ u.fb F.PTP_DOM_STAT_two_step 1 = true) ∧
      (after (.ptpSync 1 78 65535 (-3) none 0) s).ptp 1 = s.ptp 1) ∧
    (let s := ptp1 1 (fun x => { x with sync := some (9, 400, 2, none) });
      ((after (.ptpFollowUp 1 77 9 3 1000) s).ptp 1).sync = some (9, 400, 5, some 1000) ∧ (after (.ptpFollowUp 1 77 8 3 1000) s).ptp 1 = s.ptp 1) ∧
    (let s := ptp1 0 (fun x => { x with master := none }); ((after (.ptpAnnounce 1 77 (2 ^ 64 + 6) [128]) s).ptp 1).master = some 77 ∧
      (after (.ptpAnnounce 1 77 (2 ^ 64 + 6) [128]) s).f F.PTP_DOM_GM_gm 1 = 6 ∧ (after (.ptpAnnounce 1 77 6 [128]) s).f F.PTP_DOM_STAT_state 1 = 1) := by
  decide +kernel

theorem test_ptp_delay : (let s := ptp1 1 (fun x => { x with sync := some (9, 400, 2, some 1000), seq := 65535 });
      (after (.ptpDelayReq 1) s).out = [s.onPort (.delayReq 1 65535 (0 + s.f F.PTP_CORR_tx + s.f F.PTP_MOD_DLY_tx))] ∧
      ((after (.ptpDelayReq 1) s).ptp 1).seq = 0) ∧
    (let s := ptp1 1 (fun x => { x with sync := some (9, 400, 0, some (State.ptpTime ord 400)), req := some (8, 500), good := 15 });
      (after (.ptpDelayResp 1 77 8 0 (State.ptpTime s 500)) s).f F.PTP_DOM_STAT_state 1 = 2 ∧
      (after (.ptpDelayResp 1 77 8 0 (State.ptpTime s 500 + 10)) s).f F.PTP_DOM_DLY_dly 1 = 5 ∧
      ((after (.ptpDelayResp 1 77 8 0 (State.ptpTime s 500)) s).ptp 1).sync = none) ∧
    (let s := ptp1 1 (fun x => { x with sync := some (9, 400, 0, some (State.ptpTime ord 400)), req := some (8, 500), bad := 15 });
      (after (.ptpDelayResp 1 77 8 0 (State.ptpTime s 500 + 2001 * 65536)) s).f F.PTP_DOM_STAT_state 1 = 3 ∧
      (after (.ptpDelayResp 1 77 8 0 (State.ptpTime s 500 + 2000 * 65536)) s).f F.PTP_DOM_STAT_state 1 = 1) := by decide +kernel

theorem test_ptp_loss : (let s : State := { ptp1 2 (fun x => { x with lastSync := 0 }) with beacon := ord.f F.PTP_DOM_CFG_loss_ms 1 * State.tickMs };
      (after (.ptpSyncLoss 1) s).f F.PTP_DOM_STAT_state 1 = 3 ∧ rose s (after (.ptpSyncLoss 1) s) (Ev.ptpLostA + 1) 0 0 = true) ∧
    (let o : Orders := ⟨1, 0, 1, [], 0, 0⟩;
      let s : State := { ((ptp1 2 (fun x => { x with lockedAt := some 0 })).setF F.BCN_CTL_tie 1).setF F.BCN_CTL_prefer 1 with beacon := 60 * State.tickS };
      let t : State := { s.setF F.BCN_CTL_revert 1 with prog := { s.prog with orders := some o } };
      let v := t.updT 19 (fun x => { x with run := .running });
      v.ptpPrefer = 1 ∧ v.timeService = true ∧ (after .ptpRevert v).f F.BCN_CTL_tie = 2 ∧ rose v (after .ptpRevert v) Ev.ptpSwitch 0 (1 + 4 * 2) = true) := by
  decide +kernel

theorem test_pps : (let s := ord.setF F.PTP_PPS_out_en 1; Out.pin "PPS_OUT" true ∈ (after .ppsOutEdge s).out) ∧
    (let s : State := { ord.setF F.PTP_PPS_in_en 1 with beacon := 1100 * State.tickMs }; (after .ppsInEdge s).f F.PTP_PPS_IN_time = 1100 * State.tickMs ∧
      s.bcn.ppsLost = false ∧ rose s (after .ppsInLost s) Ev.ppsInLost 0 0 = true ∧
      (let t : State := { s.setF F.BCN_CTL_tie 3 with bcn := { s.bcn with tied := true } }; (after .ppsInEdge t).f F.BCN_SLEW_slew = wrapInt (-(100 * State.tickMs : Int)) 32)) ∧
    (let s : State := { ord with bcn := { ord.bcn with tsq := [(5, 65535)] } }; (after (.ptpTsqTagRead 3 9) s).g 3 9 = 0x1FFFF ∧
      (after (.ptpTsqTagRead 3 9) s).bcn.tsq = [] ∧ (after (.ptpTsqTagRead 3 9) (after (.ptpTsqTagRead 3 9) s)).g 3 9 = 0) := by decide +kernel

/-! ### Scarf -/

/-- A segment of slot 5, raw as it stands. -/
def seg0 (index : Nat) (durable : Bool) (sentAt : Option Nat) : ScfSeg :=
  ⟨⟨64 * index, 2, 2, 1, 1, 0, 5, true, index, []⟩, [7, 8], durable, 1, sentAt, false, false⟩

/-- The image of step 40 in progress: slot 5 alone holds it, and has announced two segments. -/
def img0 (segs : List ScfSeg) : ScfImage :=
  ⟨40, 6, 9, 1, 0, [], 0x20, 5, 0x20, [(5, 4, 2)], segs, 6, 1, 1, [], [], none, none, true, false, false, []⟩

/-- A job is bound with slot 5 in it, its link is up, Scarf is enabled, and the counterpart is tray 9. -/
def scarf (state : Nat) (g : Option ScfImage) : State :=
  let s := ((((((tracing.setF F.MAC_STATUS_mode 1).setF F.TRS_STATUS_state 2).setF F.TRS_SCHED_grains 1 5).setF F.SCF_CTL_en 1).setF F.SCF_CTL_k 8).setF F.SCF_STATUS_state state)
  { s with scf := { s.scf with img := g, buddy := some 9, assocs := [⟨0, [], 0, List.replicate 32 1, List.replicate 32 2, true, 0⟩] }, trs := { s.trs with job := some ⟨6, 1, [], [], 0, []⟩, active := some ⟨1, 0, [5]⟩ } }

/-- A frame from the counterpart: its kind and its bytes of data come first. -/
def hdr (kind len step seq seg off flags value : Nat) : ReplHdr := ⟨0, 0x5346, 1, kind, 9, 0, 0, step, seq, seg, off, len, flags, value, true⟩

/-- A replication frame left for the counterpart. -/
def sentScf (u : State) (kind step seq seg flags value : Nat) : Bool :=
  u.out.any (fun o => match o with
    | .port _ (.scf 0 h [] _) => decide (h = u.replHeader 0 kind step seq seg 0 flags value 0)
    | _ => false)

/-- A message to the other keeper has left or waits on the pair link. -/
def toPeer (u : State) (o : Out) : Bool := decide (o ∈ u.out) || u.par.wire.waiting.any (fun m => decide (m.what = o))

theorem wit_ScarfImageRows : (let s := scarf 0 none; s.linkUp 5 = true ∧ s.jobBound = true ∧ bitOf s.imageSlots 5 = true ∧
      rose s (after (.stepBoundary 5 (2 ^ 64 - 1)) s) (slotEv 5 Ev.stepBoundary) 5 (BitVec.ofNat 64 (2 ^ 64 - 1)) = true ∧
      (let u := after (.stepBoundary 5 40) s; u.scfState = 1 ∧ u.f F.SCF_SLOT_STAT_state 5 = 2 ∧
        u.scf.img.map (fun g => (g.step, g.seq, g.mask, g.tags)) = some (40, 1, 0x20, 0x20))) ∧
    (let s := scarf 1 (some (img0 [])); (after (.stepBoundary 5 48) s).scf.skipped = some 48 ∧
      rose s (after (.stepBoundary 5 48) s) Ev.scfStepSkipped 0 48 = true) ∧
    (let s := (scarf 1 (some { img0 [] with announced := [] })).setF F.SCF_SLOT_BUDGET_bytes 100 5;
      ((after (.shardAnnounce 5 false 100 2) s).scf.img.map (·.announced)) = some [(5, 100, 2)] ∧
      (after (.shardAnnounce 5 false 101 2) s).scf.img = none ∧ (after (.shardAnnounce 5 true 0 0) s).scfState = 0) := by decide +kernel

theorem test_scarf_segment : (let s := scarf 1 (some { img0 [] with asked := [(5, 0)] });
      ((after (.scfSegment 5 (.raw 3 4 0 [(4, 2, false)] [7, 8])) s).scf.img.map (fun g => g.segs.map (fun x => (x.rcd.index, x.rcd.grain, x.rcd.raw,
        x.durable)))) = some [(0, 3, 2, false)]) ∧
    (let s := scarf 1 (some (img0 [seg0 0 false none]));
      ((after (.segmentDurable 5 0 true) s).scf.img.map (fun g => g.segs.map (·.durable))) = some [true] ∧
      ((after (.segmentDurable 5 0 false) s).scf.img.map (fun g => g.segs.map (fun x => (x.tries, x.rcd.isRaw)))) = some [(2, true)]) := by
  decide +kernel

theorem test_scarf_acks : (let s := scarf 2 (some (img0 [seg0 0 true (some 0), seg0 1 true (some 0)])); s.fromBuddy (hdr 5 0 40 6 1 0 0 0) = true ∧ s.replGood (hdr Rk.segAck 0 40 6 1 0 0 0) Rk.segAck 0 = true ∧
      ((after (.segAck (hdr Rk.segAck 0 40 6 1 0 0 0)) s).scf.img.map (fun g => g.segs.map (·.acked))) = some [false, true] ∧
      (after (.segNak (hdr Rk.segNak 0 40 6 1 0 0 2)) s).f F.SCF_REPL_CNT_naks = 1 ∧ (after (.segNak (hdr Rk.segNak 0 40 6 1 0 0 2)) s).f F.SCF_REPL_CNT_resent = 1 ∧
      (after (.segNak (hdr Rk.segNak 0 40 6 2 0 0 2)) s).f F.SCF_REPL_CNT_resent = 0 ∧
      (let t : State := { s.setF F.SCF_STATUS_buddy_up 1 with beacon := s.f F.SCF_REPL_rto_ms * State.tickMs };
        ((after .segResendTimer t).scf.img.map (fun g => g.segs.map (·.sentAt))) = some [some t.beacon, some t.beacon])) := by decide +kernel

theorem test_scarf_commit : (let s := scarf 3 (some (img0 []));
      toPeer (after (.prepared (hdr Rk.prepared 0 40 6 0 0 0 0)) (s.setF F.PAR_STATUS_link_up 1)) (.pair "PREPARED" [40]) = true ∧
      (after (.prepared (hdr Rk.prepared 0 40 6 0 0 0 0)) { s with scf := { s.scf with peerPrepared := some 40 } }).scfState = 5 ∧
      (after (.prepared (hdr Rk.prepared 0 40 6 0 0 0 0)) { s with scf := { s.scf with peerPrepared := some 40 } }).commitStep 0 = 40 ∧
      (after (.prepared (hdr Rk.prepared 0 40 6 0 0 0 0)) (s.setF F.PAR_STATUS_control 0)).scfState = 4) ∧
    (after (.committed (hdr Rk.committed 0 40 6 0 0 0 0)) (scarf 5 (some (img0 [])))).scfState = 0 ∧
    (after (.peerPrepared 40) (scarf 4 (some (img0 [])))).scfState = 5 ∧
    (let s := scarf 4 (some { img0 [] with preparedAt := some 0 }); let t : State := { s with beacon := s.f F.SCF_CTL_relief_wait_ms * State.tickMs };
      (after .reliefWaitExpired t).fb F.SCF_STATUS_peer_stale = true ∧ (after .reliefWaitExpired t).scfState = 5) ∧
    (let s := (scarf 4 (some (img0 []))).setF F.PAR_STATUS_control 0; (after (.mirroredCommit 40) s).scfState = 5 ∧
      (after (.mirroredCommit 48) s).scf.img = none) ∧
    (after (.scfDiscard 3 0x40000) (scarf 4 (some (img0 [])))).scfState = 0 ∧
    rose (scarf 4 (some (img0 []))) (after (.scfDiscard 3 0x40000) (scarf 4 (some (img0 [])))) Ev.scfDiscard 0 40 = true ∧
    ((scarf 6 (some (img0 []))).setF F.SCF_CTL_hold 1).scfState = 6 ∧
    (after (.scfFull 3 0x80000) { ord with scf := { ord.scf with needFull := false } }).scf.needFull = true := by decide +kernel

/-- The counterpart's image of step 40 is being received. -/
def receiving (prepared : Option (List Byte)) (segs : List RecvSeg) : State :=
  let s := scarf 0 none
  { s with scf := { s.scf with recv := some ⟨6, 40, 1, segs, [], prepared⟩ } }

/-- The same with an image slot laid out in LPDDR5X, where the first of two bytes stands. -/
def landing : State :=
  (((receiving none [⟨3, ⟨64, 2, 2, 1, 1, 0, 5, true, 0, sha384 [7, 8]⟩, [(0, 1)], 0, false⟩]).setF F.SCF_IMG_BASE_base 0x100000000000 3).setF F.MEM_CH_UP_up (2 ^ 64 - 1)).store
    0x100000000040 [7]

/-- A record of two bytes as they stand, with their digest. -/
def rec0 : SegRec := ⟨64, 2, 2, 1, 1, 0, 5, true, 0, sha384 [7, 8]⟩

theorem wit_ScarfPeerAndRestoreRows : (scarf 0 none).fromBuddy { hdr 13 0 0 0 0 0 0 0 with src := 8 } = false ∧
    (after (.keepalive { hdr Rk.keepalive 0 0 0 0 0 0 0 with src := 8 }) (scarf 0 none)).f F.SCF_REPL_CNT_foreign = 1 ∧
    (after (.hello (hdr Rk.hello 32 0 0 0 0 0 0)) (scarf 0 none)).buddyUp = true ∧
    (after (.scfAbort (hdr Rk.abort 0 40 6 0 0 0 0)) (receiving none [])).scf.recv = none ∧
    sentScf (after (.segRef (hdr Rk.segRef 96 40 6 3 0 0 0) rec0.bytes) (receiving none [])) Rk.segNak 40 6 3 0 3 = true ∧
    ((after (.segHead (hdr Rk.segHead 96 40 6 3 0 0 0) rec0.bytes) (receiving none [])).scf.recv.map (fun r => r.segs.map (fun x => (x.no, x.rcd)))) =
      some [(3, rec0)] ∧
    sentScf (after (.segHead (hdr Rk.segHead 96 40 6 3 0 0 0) { rec0 with raw := 4194305 }.bytes) (receiving none [])) Rk.segNak 40 6 3 0 4 = true ∧
    ((after (.segData (hdr Rk.segData 1 40 6 3 0 0 0) [7]) (receiving none [⟨3, rec0, [], 0, false⟩])).scf.recv.map (fun r => r.segs.map (·.parts))) =
      some [[(0, 1)]] := by decide +kernel

theorem test_scarf_data : sentScf (after (.segData (hdr Rk.segData 1 40 6 3 1 0 0) [8]) landing) Rk.segAck 40 6 3 0 0 = true ∧
    sentScf (after (.segData (hdr Rk.segData 1 40 6 3 1 0 0) [8]) (receiving none [⟨3, rec0, [(0, 1)], 0, false⟩])) Rk.segNak 40 6 3 0 2 = true := by
  decide +kernel

theorem test_scarf_peer : sentScf (after (.prepare (hdr Rk.prepare 0 40 6 0 0 0 0) []) (receiving (some []) [])) Rk.prepared 40 6 0 0 0 = true ∧
    (let u := after (.scfCommitFrame (hdr Rk.commit 0 40 6 0 0 0 0)) (receiving (some []) []);
      u.commitStep 1 = 40 ∧ u.scf.recv = none ∧ rose (receiving (some []) []) u Ev.scfBuddyImage 0 0 = true) ∧
    (scarf 0 none).fetchManifest false false = none ∧ sentScf (after (.scfFetch (hdr Rk.fetch 0 0 0 0 0 0 0) []) (scarf 0 none)) Rk.prepare 0 0 0 3 0 = true ∧
    (let s : State := { scarf 0 none with beacon := State.tickMs }; sentScf (after .keepaliveTimer s) Rk.keepalive 0 0 0 0 0 = true) ∧
    (let s := (scarf 0 none).setF F.SCF_STATUS_buddy_up 1; let t : State := { s with beacon := s.f F.SCF_REPL_lost_ms * State.tickMs };
      (after .scfBuddyLost t).buddyUp = false ∧ rose t (after .scfBuddyLost t) Ev.scfBuddyLost 0 0 = true) ∧
    (let s := scarf 0 none; let t : State := { s with scf := { s.scf with helloAt := some 0 }, beacon := 10 * State.tickMs };
      (after .helloRetry t).scf.helloAt = some (10 * State.tickMs)) ∧
    (let s := receiving none [⟨3, rec0, [], 0, false⟩]; let t : State := { s with beacon := s.f F.SCF_REPL_nak_ms * State.tickMs };
      sentScf (after .segIncompleteTimer t) Rk.segNak 40 6 3 0 1 = true) := by decide +kernel

/-- A plan with one source that is another keeper. -/
def planned : State :=
  let s := scarf 0 none
  { s with scf := { s.scf with plan := some ⟨0, [], [⟨8, 8, false, false, [], 0, [], [], [], 0⟩], none⟩ } }

theorem test_scarf_restore : (scarf 0 none).f F.SCF_RST_STATUS_state ≠ 3 ∧ rstValid ((scarf 0 none).rstBytes 0) = false ∧
    (after (.rstPlan 3 1) (scarf 0 none)).f F.SCF_RST_STATUS_reason = 3 ∧ (after (.rstCancel 3 2) planned).scf.plan = none ∧
    Out.assocClose 1 ∈ (after .restoreAssocIdle { planned with beacon := 10 * State.tickS }).out ∧
    (let s := scarf 0 none; let t : State := { s with scf := { s.scf with load := some ⟨7, true, 0x20, [], none, none, 0x20, 0⟩ } };
      rose t (after (.shardLoadAck 5) t) Ev.scfRestoreDone 0 0 = true ∧ (after (.shardLoadAck 5) t).f F.SCF_RST_STATUS_state = 4) := by
  decide +kernel

/-! ### The pair -/

/-- A keeper in control whose pair link is up, mirroring to a follower, with the last word of its peer. -/
def pair (f : ParSt → ParSt) : State :=
  let s := (ord.setF F.PAR_STATUS_link_up 1).setF F.PAR_STATUS_state 2
  { s.setF F.PAR_STATUS_peer_live 1 with par := f { s.par with mirroring := true, lastHealth := some (0, 0) } }

/-- A keeper that follows. -/
def follow (f : ParSt → ParSt) : State := ((pair f).setF F.PAR_STATUS_control 0).setF F.PAR_STATUS_state 1

/-- A beacon time later. -/
def later (b : Nat) (s : State) : State := { s with beacon := b }

theorem wit_PairRows : (after (.healthWordSend false) (pair id)).par.sentT = [0] ∧ (after (.healthWordSend true) (pair id)).par.failing = true ∧
    (let s := pair (fun p => { p with failing := true }); after (.healthWordSend false) s = s) ∧
    (after (.healthWord (2 ^ 64 - 1) 1 2 3 0x0C 0) (follow id)).par.failedBy = some 1 ∧
    (after (.healthWord 5 1 2 3 0x04 0) (pair id)).par.split = true ∧
    (after .pairLiveEdge ord).peerLive = true ∧
    (let s := later (5 * State.tickUs) (pair (fun p => { p with liveEdge := some 0, lastHealth := none })); s.wordsArrive = false ∧
      rose s (after .pairLiveLost s) Ev.peerLost 0 2 = true ∧ (after .pairLiveLost s).fb F.PAR_STATUS_solo = true) ∧
    (let s := follow (fun p => { p with liveLost := true }); (after .healthSilence (later s.silence s)).par.failedBy = some 2) ∧
    (let s := follow id; let t := later s.silence s; t.peerLive = true ∧ (after .healthSilence t).fb F.PAR_STATUS_detached = true ∧
      rose t (after .healthSilence t) Ev.pairLinkDown 0 0 = true) := by decide +kernel

theorem test_takeover : (let s := follow (fun p => { p with failedBy := some 2 });
      (after .takeover s).control = true ∧ (after .takeover s).fb F.PAR_STATUS_solo = true ∧ rose s (after .takeover s) Ev.peerLost 0 2 = true) ∧
    (after .takeback (follow id)).control = true ∧ rose (follow id) (after .takeback (follow id)) Ev.takeback 0 0 = true ∧
    toPeer (after (.mirrorItem (.ticket 5)) (follow id)) (.pair "MIRROR_ACK" []) = true ∧
    (after (.mirrorItem (.record (leBytes 7 8 ++ List.replicate 112 0))) (follow id)).log.held = [7] ∧
    (after (.mirrorItem (.record (leBytes 7 8))) (follow (fun p => { p with recWait := [[1]] }))).par.recWait = [[1], leBytes 7 8] ∧
    (after (.mirrorItem (.buddy true)) (follow id)).scf.peerBuddyLost = true := by decide +kernel

theorem test_mirror : (let s := pair (fun p => { p with queue := [⟨0, .ticket 1, .scfCommit, 0, false⟩, ⟨1, .ticket 5, .nothing, 0, false⟩] });
      (after .mirrorAck s).par.queue = [⟨1, .ticket 5, .nothing, 0, false⟩] ∧
      (let t := later (s.f F.PAR_CFG_lag_us * State.tickUs) s; (after .mirrorLag t).f F.PAR_LAG_lags = 1 ∧ rose t (after .mirrorLag t) Ev.mirrorLag 0 0 = true)) ∧
    (let s := pair (fun p => { p with downSince := some 0 }); (after .followerDetach (later s.silence s)).fb F.PAR_STATUS_detached = true ∧
      (after .followerDetach (later s.silence s)).par.mirroring = false) ∧
    (let s := later (30 * State.tickS) (pair (fun p => { p with healthySince := some 0 })); let s : State := { s with clk := { s.clk with relief := true } }; rose s (after .peerHealthy s) Ev.peerHealthy 0 0 = true) ∧
    (after .ledgerSnapshotPeriod (pair id)).par.queue.map (·.row) = List.replicate 16 10 := by decide +kernel

theorem test_roles : (pair id).quiet = true ∧ (after .roleRequest (pair id)).control = false ∧
    toPeer (after .roleRequest (pair (fun p => { p with mirroring := false }))) (.pair "ROLE_REFUSED" []) = true ∧
    (after (.parResync 3 2) (pair (fun p => { p with mirroring := false }))).fb F.PAR_STATUS_in_sync = true ∧
    (pair id).peerFollows = true ∧ (after (.parYield 3 4) (pair id)).par.yieldPending = true ∧
    (let s := (pair (fun p => { p with split := true })).setF F.PAR_LAST_beacon 50; (after (.splitResolve 49 9) s).control = false ∧
      (after (.splitResolve 51 9) s).control = true ∧ (after (.splitResolve 51 9) s).logNext = 10) ∧
    (let s := (follow (fun p => { p with strapEnd := some 0, lastHealth := none })).setF F.PAR_STATUS_state 0;
      let t := later (s.f F.PAR_CFG_alone_ms * State.tickMs) { s.setF F.PAR_STATUS_peer_live 0 with clk := { s.clk with relief := true } };
      (after .aloneWaitExpired t).control = true) := by decide +kernel

theorem test_pair_link : (let s : State := { ord with mor := { ord.mor with unit := (22, none) }, clk := { ord.clk with refclk := true } }; (after (.pairLinkUp 4) s).f F.PAR_STATUS_lanes = 4 ∧
      rose s (after (.pairLinkUp 4) s) Ev.pairLinkUp 0 0 = true ∧ (after (.pairLinkUp 5) s).fb F.PAR_STATUS_link_up = false) ∧
    (after .pairLinkDown (pair id)).fb F.PAR_STATUS_link_up = false ∧ rose (pair id) (after .pairLinkDown (pair id)) Ev.pairLinkDown 0 0 = true ∧
    (let s := pair (fun p => { p with emergDue := 1, mirroring := false }); (after .emergencyEntry s).emergency = true ∧
      (after .emergencyEntry s).control = true) := by decide +kernel

/-! ### Sessions -/

/-- Session 7 is open for the owner; the port is up and KCP serves over UDP. -/
def serving (f : Session → Session) : State :=
  let s := (((ord.setF F.MAC_STATUS_mode 1).setF F.KCP_PORT_udp_en 1).setF F.KCP_PORT_ip4_en 1).setF F.KCP_CTL_en 1
  s.updSes 7 (fun x => f { x with isOpen := true })

/-- A frame has left the port. -/
def sentPort (u : State) (o : Out) : Bool := u.out.any (fun p => match p with | .port _ q => decide (q = o) | _ => false)

/-- A command of a session, received. -/
def received (c : KcpCmd) (priv : Nat) : State :=
  serving (fun x => { x with priv := priv, slots := 1, cmds := [⟨1, 1, 77, c, .received, 0, [], false, none⟩], rxNext := 2, nextCmd := 2 })

theorem wit_SessionFrames : (let s := serving id; s.kcpServes = true ∧ s.sessTakes {} = true ∧ (s.ses 7).isOpen = true ∧
      frameOf (.kcpDebug 7 { seq := 1 } 15) = some (7, { seq := 1 }, .debug 15) ∧
      (after (.kcpDebug 7 { seq := 0 } 15) s).f F.KCP_CNT_dup = 1 ∧ ((after (.kcpDebug 7 { seq := 0 } 15) s).ses 7).ackDue.isSome = true ∧
      ((after (.kcpDebug 7 { seq := 66 } 15) s).ses 7).rxHeld = [] ∧ ((after (.kcpDebug 7 { seq := 65 } 15) s).ses 7).rxHeld = [(65, .debug 15)] ∧
      ((after (.kcpDebug 7 { seq := 1 } 15) s).ses 7).rxNext = 2 ∧ ((after (.kcpDebug 7 { seq := 1 } 15) s).ses 7).attached = some (15, 1) ∧
      (let held : State := { s.setF F.PAR_STATUS_control 0 with par := { s.par with roleAsked := true } }; held.kcpHolds = true ∧
        (after (.kcpDebug 7 { seq := 1 } 15) held).kcp.heldCmds = [(7, { seq := 1 }, .debug 15)]) ∧
      sentPort (after (.kcpDebug 7 { version := 2 } 15) s) (s.plainOut { version := 2 } 3 0x05 []) = true ∧
      ((after (.kcpClose (.sess 7) { seq := 1 }) s).ses 7).isOpen = false ∧ rose s (after (.kcpClose (.sess 7) { seq := 1 }) s) Ev.sessionClose 7 0 = true) := by decide +kernel

/-- The status with which a command of session 7 completes when it is carried out. -/
def completes (c : KcpCmd) (priv : Nat) : Option Nat :=
  ((((received c priv).heldRun (.cmdExec 7 1)).ses 7).cmds.find? (fun y => decide (y.num = 1 ∧ y.phase = .completed))).map (·.status)

/-- The status with which tender 23's policy completes an arming command of session 7. -/
def policed (c : KcpCmd) (priv : Nat) : Option Nat :=
  let u := (received c priv).heldRun (.cmdExec 7 1)
  (((u.armPolicy 77).ses 7).cmds.find? (fun y => decide (y.num = 1 ∧ y.phase = .completed))).map (·.status)

theorem wit_SessionCommands : ((received (.peg 1) 0).cmdOf 7 1).map (·.phase) = some .received ∧ completes (.flashWrite 0 0 []) 2 = some St.denied ∧
    completes (.peg 1) 0 = some St.ok ∧ completes (.peg 2) 0 = some St.ok ∧ completes (.peg 3) 0 = some St.malformed ∧
    completes (.regRead []) 0 = some St.malformed ∧ completes (.regRead (List.replicate 65 0)) 0 = some St.malformed ∧
    completes (.regWrite []) 0 = some St.malformed ∧ completes (.debug 16) 0 = some St.malformed ∧ completes (.debug 0) 3 = some St.ok ∧
    completes (.macsecSa 4 true 0 (List.replicate 32 0) (List.replicate 12 0) 0) 0 = some St.malformed ∧
    completes (.macsecSa 3 true 3 (List.replicate 32 0) (List.replicate 12 0) 0) 0 = some St.ok ∧
    completes (.arm 6 1 1000) 0 = some St.malformed ∧ completes (.arm 5 1 1000) 0 = none ∧ completes (.disarm false 6) 0 = some St.malformed ∧
    policed (.arm 5 1 0) 0 = some St.refused ∧ policed (.arm 5 1 1000) 0 = none ∧
    policed (.renew 5 1000) 0 = some St.noTarget ∧ policed (.disarm true 5) 0 = some St.noTarget ∧ completes (.tenderReset (2 ^ 24)) 0 = some St.malformed ∧
    completes (.owner 0x7FFF []) 0 = some St.unknown ∧ completes (.flashWrite 0 0 []) 0 = some St.unknown ∧
    completes .restart 0 = some St.unknown := by decide +kernel

theorem test_arm_told : (let u := (received (.arm 5 1 1000) 0).heldRun (.cmdExec 7 1); 77 ∈ u.kcp.handles ∧
      (u.evt.inflight.map (fun f => (f.target, f.ev.event))) = [(23, Ev.kcpCommand)]) ∧
    (let s := received (.arm 5 1 1000) 0; let t : State := { s with evt := { s.evt with arms := Vector.replicate 16 ⟨true, 0, 0, 0, 0, 0⟩ } };
      (((((t.heldRun (.cmdExec 7 1)).armPolicy 77).ses 7).cmds.map (·.status)) = [St.full])) := by decide +kernel

/-! ### Host port and logbook -/

/-- A host's OPEN under owner key 1, which signs it. -/
def open0 : List Byte :=
  let e := 0xc2b785ce56492380d5ab879ca26a085ee509e4872aa7a2517c2a859c2cf7e6c81337c823dcdcab74810215383b2f0ddd
  [0, 1] ++ List.replicate 14 0 ++ beBytes 1 32 ++ P384.encode (some P384.base) ++ List.replicate 15 0 ++ beBytes e 48 ++ beBytes e 48

/-- The owner record holds that key. -/
def owned (s : State) : State :=
  let key := P384.encode (some (0xc75b70b277ef4f2db71f09be22e35a1a4d2ffa89250b1c0178da47caace2f49fca8fad017535091fd58297339f47329b,
    0xa3b7418dc41f460287e23a7381540fa29379f62fc31544b5a378c0addeaf54d19fc2c2405edc1fb09e01d6cc032c06a4))
  { s with sec := { s.sec with owner := some ⟨1, [], [], [⟨0x21, 0, 0, key⟩], [], []⟩ } }

theorem test_open : (owned (serving id)).openRefusal 1 open0 = none := by decide +kernel

theorem wit_HostPortAndLogRows : (serving id).portUp = true ∧ (serving id).headTaken {} = true ∧ (serving id).openRefusal 1 [] = some 7 ∧
    (after (.kcpOpen .host {} []) (serving id)).f F.KCP_CNT_refused = 1 ∧
    rose (serving id) (after (.kcpOpen .host { version := 2 } [3, 31]) (serving id)) Ev.sessionRefused (5 + 31 * 256 + 3 * 8192) 0 = true ∧
    (let s := serving id; let t : State := { s with scf := planned.scf }; ((after (.kcpRefuse 1 3) t).scf.plan.map (fun p => p.srcs.map (·.phase))) = some [3]) ∧
    (let s := ((serving id).setF F.KCP_PORT_ip4_en 1).setF F.KCP_IP4_svc4 5; s.macOf false 5 = some (s.f F.MAC_SVC_addr) ∧
      (4, 9, 8) ∈ (after (.arpRequest false 5 9 8) s).kcp.neighbours ∧
      (let t : State := { s with kcp := { s.kcp with claims := (3, 0) } }; (after .gratuitousArpRepeat t).kcp.claims = (2, State.tickMs))) := by
  decide +kernel

theorem test_session_timers : (let s := serving (fun x => { x with unacked := [⟨1, 7, 0, 0, [], 0, 2⟩, ⟨2, 7, 0, 0, [], 0, 2⟩], txNext := 3 });
      ((after (.kcpAck 7 { ack := 1 } .none) s).ses 7).unacked.map (·.seq) = [2] ∧
      (let t := later (2 * State.tickMs) s; ((after (.kcpRetransmit 7 2) t).ses 7).unacked.map (·.sentAt) = [0, t.beacon])) ∧
    ((after (.kcpIdleAck 7) (later State.tickS (serving id))).ses 7).lastTx = State.tickS ∧
    ((after (.ackDelay 7) (serving (fun x => { x with ackDue := some 0 }))).ses 7).ackDue = none ∧
    (let s := serving id; let t := later (s.f F.KCP_CTL_idle_s * State.tickS) s; ((after (.sessionIdle 7) t).ses 7).isOpen = false) := by decide +kernel

theorem test_event_batch : (let s := serving (fun x => { x with batchDue := some 0, sub := some ⟨2 ^ 0x3C, 0xFFFF, false, false, false, 1⟩ });
      let t := (after (.powerFault 3 true) s);
      (t.recsFrom 1).filter (fun q => State.recMatches ⟨2 ^ 0x3C, 0xFFFF, false, false, false, 1⟩ (t.recordBytes q)) = [] ∧ 0 < t.recMax ∧
      ((after (.eventBatchExpired 7) t).ses 7).batchDue = none) := by decide +kernel

/-- A notice of kind 3, number 2, signed by its session key. -/
def notice0 : List Byte :=
  let e := 0xe141ae58e0a31b60dd1d125136eb28950229430947167f2803e47affedbcccca8c78ecd10a596da615026930ef037ed6
  [3, 0, 0, 0] ++ leBytes 2 4 ++ List.replicate 72 0 ++ beBytes e 48 ++ beBytes e 48

/-- Its sender. -/
def peer0 : NoticePeer :=
  ⟨9, List.replicate 48 0, P384.encode (some (0x492c6586039d4bd28f3caed75fe9dcdb2ed8063db4fd7e2e66c1c2a5d4453d7d72850260797276e249f4ff63cfabdf62,
    0x2143c5dfa3b0ef7d1c4626b935b2fa3f462cc9e9f0b8458bb412445956af9394ef9dc6467dd7f94f24f33a7d2dd59210)), []⟩

theorem test_notices : (let s := serving id; let t : State := { s with kcp := { s.kcp with subscribed := [peer0], subscribers := [peer0] } };
      t.noticeTakes {} = true ∧ State.noticeSigned peer0.key notice0 = true ∧
      rose t (after (.podNoticeIn ⟨{}, notice0⟩) t) Ev.podNoticeIn 0 (BitVec.ofNat 64 (3 + 2 * 2 ^ 32)) = true ∧
      (after (.noticeUnsubscribe ⟨{}, notice0⟩) t).kcp.subscribers = [] ∧
      (let u : State := { t with kcp := { t.kcp with repeats := [⟨1, [7], 2, 0⟩] } }; u.nextHop 9 = some 9 ∧ sentPort (after .noticeRepeat u) (u.noticeFrame 9 [7]) = true)) := by decide +kernel

theorem test_port : (let s := (serving id).setF F.MAC_STATUS_lanes 0xFF; Nat.land (groupOf (s.f F.MAC_STATUS_mode) (s.f F.MAC_STATUS_lanes)) 0xFF ≠ 0 ∧
      (after (.ethDown 0xFF) s).portUp = false ∧ rose s (after (.ethDown 0xFF) s) Ev.ethDown 0 0 = true) ∧
    (let s := (ord.setF F.MAC_CTL_en 1).setF F.MAC_STATUS_module 1;
      let t : State := { s with mor := { s.mor with unit := (22, none) }, clk := { s.clk with refclk := true } };
      t.ethTrains = true ∧ t.portUp = false ∧ (pickMode (max (t.f F.MAC_CTL_max_mode) (t.kcp.ethCap.getD 0)) 0xFF).isSome = true ∧
      (after (.ethUp 0xFF) t).portUp = true) ∧
    (after (.macUpgrade 3 8) (serving id)).portUp = false ∧ (after (.modulePresenceChange true) ord).fb F.MAC_STATUS_module = true ∧
    (let s := (ord.setF F.MAC_STATUS_module 1).setF F.MAC_CTL_cmis_en 1; (after (.moduleInt true) s).fb F.MAC_STATUS_intl = true ∧
      (after .moduleMonitor s).out = [.i2c "module monitors" 0x50]) := by decide +kernel

theorem test_log_mirror : (let s := ((ord.setF F.LOG_CTL_mirror_en 1).setF F.MEM_CH_UP_up (2 ^ 64 - 1)).setF F.LOG_MIRROR_BASE_mbase 0x100000000000;
      let s := s.setF F.DMA_CH_CTL_en 1 22;
      let t : State := { s with log := { s.log with unmirrored := [1] } };
      isLpddr (t.mirrorAddr 1) = true ∧ t.loadState (t.mirrorAddr 1) 128 = .ok ∧ t.mirrorFull = false ∧
      (after (.logMirrorWrite true) t).f F.LOG_MIRRORED_mirrored = 1 ∧ rose t (after (.logMirrorWrite false) t) Ev.logMirrorErr 0 0 = true) := by
  decide +kernel

/-- The logbook holds record 1. -/
def logged : State := { ord.store (State.ringAddr 1) [1, 0, 0, 0, 0, 0, 0, 0, 9] with log := { ord.log with held := [1] } }

theorem test_log_windows : (after (.logWinRead 3 9) logged).g 3 9 = 1 ∧ ((after (.logFwinRead 3 9) logged).log.readers[11]).latch.isSome = true ∧
    (after (.logWinRead 3 9) ord).g 3 9 = 0 := by decide +kernel

theorem test_log_snap : (after (.logSnapWrite 3 31 0x4401) ord).fb F.LOG_SNAP_ignored 31 = true ∧
    (after (.logSnapWrite 3 31 0x4801) ord).fb F.LOG_SNAP_ignored 31 = false := by decide +kernel

theorem test_hour : (let s := later ord.log.hourDue ord; (after .hourTick s).log.hourDue = 2 * ord.log.hourDue) := by decide +kernel

theorem wit_seal : (let s : State := { inOrder 20 ord with log := { ord.log with sealing := some ⟨1, 0, [], false⟩ } };
    s.log.sealing = some ⟨1, 0, [], false⟩ ∧ s.alive 20 = true) := by decide +kernel

/-- A manifest of step 40 and image 1 without segments, signed. -/
def manifest0 : List Byte :=
  let e := beBytes 0x3ee8e005d2bc70c53092a720a524f1b610bbdee684305b432bc5d378fa2e4006f28c81ed0936e65adbd8bae1b872b7d1 48
  [0x53, 0x43, 0x4D, 0x46, 1, 0, 0, 0] ++ leBytes 40 8 ++ leBytes 1 8 ++ List.replicate (0xA00 - 24) 0 ++ e ++ e ++ e

/-- The MANIFEST key of its maker. -/
def maker0 : List Byte :=
  P384.encode (some (0xd8418f893fba827f3fb14b9dbe5c8da325da5b50a08f6d5756c316fa8e1821eecb6ba1cd8b458fbc51da65063edc5c61,
    0x70e699c97ae307f840c6d3700ce07a2854e7f172b4f48c284ae3cc528b2d8bae84d211806e9d0ddeb6f843186cc3615a))

theorem test_manifest : 0xA00 ≤ manifest0.length ∧ manLength manifest0 ≤ manifest0.length ∧ manGood manifest0 maker0 = true := by decide +kernel

/-! ### Memory, reset, power, temperature -/

/-- All channels up. -/
def trained : State := ord.setF F.MEM_CH_UP_up (2 ^ 64 - 1)

theorem wit_MemoryResetAndThermalRows : (after (.phyLockLoss 63) trained).mc.relock = [(63, 0)] ∧
    (let s := later (10 * State.tickMs) (after (.phyLockLoss 63) trained); (after (.phyRelock 63) s).f F.MEM_CH_CNT_retrain 63 = 1 ∧
      (after (.phyRelock 63) s).mc.relock = []) ∧
    (let s := later (10 * State.tickMs) (after (.phyLockLoss 63) trained); (after (.relockTimeout 63) s).mc.lost = some 63 ∧
      rose s (after (.relockTimeout 63) s) Ev.memChannelLost 63 0 = true ∧ (after .redirectionReady (after (.relockTimeout 63) s)).mc.redirected = true) ∧
    (let s := trained.setF F.MEM_CTL_scrub_en 1; let a := 0x100000000040; isLpddr a = true ∧ s.lpState a = .ok ∧
      (after (.patrolScrub a .corrected) s).f F.MEM_CH_CNT_ce (lpChannel a) = 1 ∧ (after (.patrolScrub a .uncorrectable) s).poison = [a / 64] ∧
      rose s (after (.patrolScrub a .uncorrectable) s) Ev.memUe 0 0 = true) ∧
    (let s : State := { ord with mor := { ord.mor with unit := (8, none) } }; s.unitStarted 7 = true ∧
      (after (.lpddrTrainingDone 7 0x81) s).f F.MEM_CH_UP_up = 0x7E * 2 ^ 56) := by decide +kernel

/-- A paced copy of one byte between retained lines. -/
def desc0 (paced : Bool) : DmaDesc := ⟨0x20020000, 0x20030000, 1, 1, 1, 0, 0, 0, false, false, false, paced, 0, 0, 1, 2 ^ 48 - 1, some 3⟩

theorem test_dma_rows : (let s := (ord.setF F.DMA_CH_CTL_en 1 31).updCh 31 (fun c => { c with running := some (desc0 false) });
      s.dmaHeld (desc0 false) = false ∧ s.dmaMeets (desc0 false) 0 = none ∧ (after (.dmaDone 31 ⟨none, none, [], 0⟩ none) s).f F.DMA_CH_STAT_status 31 = 0 ∧
      (after (.dmaDone 31 ⟨none, some 0, [], 0⟩ none) s).f F.DMA_CH_STAT_status 31 = 2 ∧
      rose s (after (.dmaDone 31 ⟨none, none, [], 0⟩ none) s) (Ev.dmaDone + 31) 0 (2 ^ 48 - 1) = true) ∧
    (let s := later State.tickUs ((ord.setF F.DMA_CH_CTL_en 1 31).updCh 31 (fun c => { c with queue := [desc0 true], headSince := some 0 }));
      ((after (.dmaPacedStart 31) s).dch 31).running = some (desc0 true) ∧
      ((after (.dmaPacedStart 31) { s with beacon := State.tickUs - 1 }).dch 31).running = none) ∧
    (let s := ord.updCh 31 (fun c => { c with queue := [desc0 true] }); (after (.dmaModeWrite 3 0) s).f F.DMA_CTL_mode = 0 ∧
      ((after (.dmaModeWrite 3 0) s).dch 31).queue.all (fun d => !d.paced) = true ∧ (after (.dmaModeWrite 3 2) s).f F.DMA_CTL_mode = 1) := by decide +kernel

theorem test_thermal : (let s := ord; let t := s.f F.THM_CTL_trip_c; (after (.thmSample (Vector.replicate 24 (BitVec.ofNat 8 t))) s).fb F.THM_STATUS_tripped = true ∧
      (after (.thmSample (Vector.replicate 24 (BitVec.ofNat 8 (t - 1)))) s).fb F.THM_STATUS_tripped = false ∧
      rose s (after (.thmSample (Vector.replicate 24 (BitVec.ofNat 8 t))) s) Ev.thmTrip 0 0 = true) ∧
    (let s : State := { ord with clk := { ord.clk with tripAt := some 0 } }; (after .thermalShutdown s).clk.shutDown = true ∧
      ((after .thermalShutdown s).t 3).run = .inReset ∧ Out.pin "THERM_TRIP_L" false ∈ (after .thermalShutdown s).out) := by decide +kernel

theorem test_resets : (let s := after (.glbReset 3 0x5753) ord; s.clk.held = true ∧ s.f F.GLB_CAUSE_cause = 2 ∧ s.f F.GLB_CAUSE_warm_count = 1 ∧
      (s.t 3).run = .inReset) ∧
    (after .warmResetPin ord).f F.GLB_CAUSE_cause = 1 ∧ (after .warmResetPin ord).clk.warmHigh = false ∧
    (after .warmResetRelease (after .warmResetPin ord)).clk.warmHigh = true ∧
    (after (.glbBlkrst 3 0x42520012) (ord.setF F.DMA_CTL_mode 0)).f F.DMA_CTL_mode = 1 ∧ (after (.glbBlkrst 3 0x42520013) (ord.setF F.DMA_CTL_mode 0)).f F.DMA_CTL_mode = 0 ∧
    (let s : State := { ord with sec := { ord.sec with flash := { ord.sec.flash with pcc := 6, hours := 9 } } };
      (after (.glbBlkrst 3 0x4252000F) s).f F.LOG_HOURS_pcc = s.flashHour.1 % 2 ^ 32 ∧ (after (.glbBlkrst 3 0x4252000F) s).f F.LOG_HOURS_base = s.flashHour.2 % 2 ^ 32) ∧
    (let s := inOrder 4 ord; ((after (.tndReset 3 0x10) s).t 4).run = .running ∧ rose s (after (.tndReset 3 0x10) s) (Ev.tenderReset + 4) 4
      (BitVec.ofNat 64 (s.f F.TND_TENDER_ENTRY_entry 4)) = true) := by decide +kernel

theorem test_reset_release : (let s := after (.pwrokRise ⟨false, false⟩) (after .pwrokFall ord); (after .internalResetRelease s).clk.held = false ∧
      (after .internalResetRelease s).beacon = 0 ∧ (after .internalResetRelease { s with clk := { s.clk with testMode := true } }).clk.held = true) ∧
    (let s := after .warmResetRelease (after .warmResetPin { ord with beacon := 83 }); let t := later (83 + 50 * State.tickUs) s;
      (after .internalResetRelease s).clk.held = true ∧ (after .internalResetRelease s).clk.releasing = false ∧ (after .internalResetRelease t).clk.releasing = true ∧
      (after .internalResetRelease { t with beacon := t.beacon + 5 }).clk.held = false ∧
      (after .internalResetRelease { t with beacon := t.beacon + 5 }).beacon = 83 + 50 * State.tickUs + 5) := by decide +kernel

theorem test_power : (after .pwrokFall ord).clk.pwrok = false ∧ (after .pwrokFall ord).mem = State.reset.mem ∧
    (after (.pwrokRise ⟨true, false⟩) (after .pwrokFall ord)).fb F.GLB_STATUS_strap = true ∧ (after .refclkLoss ord).clk.refclk = false ∧
    (after .refclkReturn (after .refclkLoss ord)).clk.refclk = true ∧ idle.prog.orders = none ∧ idle.par.emergDue = 0 ∧
    (after (.tendersReleased false) idle).par.emergDue = 1 := by decide +kernel

/-- Program 9 of epoch 2 is bound and floor entry 1 stands for it. -/
def floored (bound : Bool) : State :=
  let s := host.updT 3 (fun x => { x with prv := true, pc := 0, prog := if bound then some 0 else none })
  { s.setF F.SEC_FLOOR_SEL_entry 1 with
    prog := if bound then s.prog else idle.prog, sec := { s.sec with floor := { s.sec.floor with entries := s.sec.floor.entries.set 1 (some (9, 1)) } } }

theorem test_floor : (floored true).epochInForce 1 = some (9, 2) ∧ (after (.secFloorRaise 3 1) (floored true)).sec.floor.entries[1] = some (9, 2) ∧
    (floored false).epochInForce 1 = none ∧ (after (.secFloorClear 3 2) (floored false)).sec.floor.entries[1] = none := by decide +kernel

theorem test_register_write : lowestTrap (ord.memChecks 3 .store (State.regEa 0xF0028) 8) = none ∧ (State.eaReg (State.regEa 0xF0028)).isSome = true ∧
    (after (.registerWrite 3 0xF0028 0x100080000000 true) ord).f F.LOG_MIRROR_BASE_mbase = 0x100080000000 ∧
    ((after (.registerWrite 3 0xF0028 0x100080000000 true) ord).t 3).pc = 4 := by decide +kernel

end Sys2Proof.Tests
end

namespace Sys2Proof.Machine

/-- The acting instruction of a sub-action answers what the sub-action does, settled (04 R84). -/
theorem exec_acting (x : SubAct) (i : Tender) (rd ra rb : Fin 32) (s : State) :
    exec (x.instr i rd ra rb) s = done (s.actInstr i x rd ra rb (BitVec.ofNat 10 x.code.2)) := by
  cases x <;> rfl

/-! ### Sessions at a command's end: what pumping their frames can change, and that records alone send nothing where no session is served -/

/-- Between the two states only the sessions, the pair's state and what is sent differ. -/
def State.sessionsOnly (s t : State) : Prop := ∃ k p o, t = { s with kcp := k, par := p, out := o }

namespace State

theorem sessionsOnly.refl (s : State) : s.sessionsOnly s := ⟨_, _, _, rfl⟩

theorem sessionsOnly.trans {s t u : State} (hst : s.sessionsOnly t) (htu : t.sessionsOnly u) : s.sessionsOnly u := by
  obtain ⟨_, _, _, rfl⟩ := hst
  obtain ⟨_, _, _, rfl⟩ := htu
  exact ⟨_, _, _, rfl⟩

/-- Whether sessions are served is decided by the clock and the registers alone. -/
theorem sessionsOnly.kcpServes {s t : State} (h : s.sessionsOnly t) : t.kcpServes = s.kcpServes := by
  obtain ⟨_, _, _, rfl⟩ := h
  rfl

theorem sessionsOnly.ready {s t : State} (h : s.sessionsOnly t) : t.ready = s.ready := by
  obtain ⟨_, _, _, rfl⟩ := h
  rfl

/-! ### What the sessions' frames change -/

theorem pairPut_sessionsOnly (s : State) (o : Out) : s.sessionsOnly (s.pairPut o) := by
  unfold pairPut
  split
  · exact ⟨_, _, _, rfl⟩
  · exact .refl s

theorem updSes_sessionsOnly (s : State) (x : Sess) (h : Session → Session) : s.sessionsOnly (s.updSes x h) := ⟨_, _, _, rfl⟩

theorem netSend_sessionsOnly (s : State) (o : Out) : s.sessionsOnly (s.netSend o) := by
  unfold netSend
  split
  · exact ⟨_, _, _, rfl⟩
  · exact .refl s

theorem frameOut_sessionsOnly (s : State) (x : Sess) (f : TxFrame) (k : Nat) : s.sessionsOnly (s.frameOut x f k) := by
  unfold frameOut
  exact (netSend_sessionsOnly s _).trans (updSes_sessionsOnly _ x _)

theorem sessShow_sessionsOnly (s : State) (x : Sess) : s.sessionsOnly (s.sessShow x) := by
  unfold sessShow mirrorItem
  split
  · exact sessionsOnly.trans ⟨_, _, _, rfl⟩ (pairPut_sessionsOnly _ _)
  · exact .refl s

theorem pumpSess_sessionsOnly (x : Sess) (k : Nat) (s : State) : s.sessionsOnly (pumpSess x k s) := by
  induction k generalizing s with
  | zero => exact .refl s
  | succ k ih =>
    unfold pumpSess
    split
    · exact .refl s
    · split
      · exact .refl s
      · exact (((updSes_sessionsOnly s x _).trans (frameOut_sessionsOnly _ x _ _)).trans (sessShow_sessionsOnly _ x)).trans (ih _)

theorem sessSend_sessionsOnly (s : State) (x : Sess) (c r d : Nat) (b : List Byte) : s.sessionsOnly (s.sessSend x c r d b) := by
  unfold sessSend
  split
  · exact (updSes_sessionsOnly s x _).trans (pumpSess_sessionsOnly x 64 _)
  · exact .refl s

theorem evPump_sessionsOnly (x : Sess) (b : Bool) (k : Nat) (s : State) : s.sessionsOnly (evPump x b k s) := by
  induction k generalizing s with
  | zero => exact .refl s
  | succ k ih =>
    unfold evPump
    dsimp only
    split
    · exact .refl s
    · split
      · exact .refl s
      · split
        · split
          · exact updSes_sessionsOnly s x _
          · exact ((updSes_sessionsOnly s x _).trans (sessSend_sessionsOnly _ x _ _ _ _)).trans (ih _)
        · exact updSes_sessionsOnly s x _

theorem telemPump_sessionsOnly (x : Sess) (k : Nat) (s : State) : s.sessionsOnly (telemPump x k s) := by
  induction k generalizing s with
  | zero => exact .refl s
  | succ k ih =>
    unfold telemPump
    dsimp only
    split
    · exact .refl s
    · exact ((updSes_sessionsOnly s x _).trans (sessSend_sessionsOnly _ x _ _ _ _)).trans (ih _)

theorem kcpPump_sessionsOnly (s : State) (x : Sess) : s.sessionsOnly (s.kcpPump x) := by
  unfold kcpPump
  split
  · exact ((pumpSess_sessionsOnly x 64 s).trans (evPump_sessionsOnly x false 64 _)).trans (telemPump_sessionsOnly x 64 _)
  · exact .refl s

theorem kcpPumpAll_sessionsOnly (s : State) : s.sessionsOnly s.kcpPumpAll :=
  List.foldlRecOn _ _ (.refl s) (fun t ht x _ => ht.trans (t.kcpPump_sessionsOnly x))

/-- A keeper that serves no sessions pumps none (16 R329). -/
theorem kcpPumpAll_idle (s : State) (h : s.kcpServes = false) : s.kcpPumpAll = s :=
  List.foldlRecOn (motive := (· = s)) _ _ rfl (fun t ht x _ => by rw [ht]; simp [kcpPump, h])

/-! ### Records taken at a command's end -/

theorem settleGo_records_kcpServes (k : Nat) (s : State) (h : ∀ r ∈ s.ready, ∃ q, r = .record q) :
    (settleGo k s).kcpServes = s.kcpServes := by
  induction k generalizing s with
  | zero => rfl
  | succ k ih =>
    unfold settleGo
    split
    · rfl
    · next r rest hr =>
      obtain ⟨q, rfl⟩ := h r (by simp [hr])
      have pump := kcpPumpAll_sessionsOnly { s with ready := rest }
      rw [heldRun, ih _ (fun x hx => h x (by rw [pump.ready] at hx; simp [hr, hx])), pump.kcpServes]
      rfl

theorem settleGo_records_out (k : Nat) (s : State) (h : ∀ r ∈ s.ready, ∃ q, r = .record q) (hs : s.kcpServes = false) :
    (settleGo k s).out = s.out := by
  induction k generalizing s with
  | zero => rfl
  | succ k ih =>
    unfold settleGo
    split
    · rfl
    · next r rest hr =>
      obtain ⟨q, rfl⟩ := h r (by simp [hr])
      rw [heldRun, kcpPumpAll_idle { s with ready := rest } hs]
      exact ih _ (fun x hx => h x (by simp [hr, (show x ∈ rest from hx)])) hs

/-- Where a command releases records alone and the keeper that it leaves serves no sessions, what was sent before the command's end is all that was
sent. -/
theorem settle_records_out (s : State) (h : ∀ r ∈ s.ready, ∃ q, r = .record q) (hs : s.settle.kcpServes = false) : s.settle.out = s.out :=
  settleGo_records_out 4096 s h ((settleGo_records_kcpServes 4096 s h).symm.trans hs)

end State

/-! ### The pair link carries no message to a Buoy -/

/-- What is sent is a message to a Buoy. -/
def Out.toBuoy (o : Out) : Prop := ∃ n msg h l, o = .buoy n msg h l

/-- No message that waits on the pair link is a message to a Buoy: the keeper gives it mirrored items, health and proxy words, copies (14 R285). -/
def PairWire.noBuoy (w : PairWire) : Prop := ∀ m ∈ w.waiting, ¬ m.what.toBuoy

theorem PairWire.next_mem {w : PairWire} {m : PairMsg} (h : w.next = some m) : m ∈ w.waiting := by
  obtain ⟨c, -, hc⟩ := List.exists_of_findSome?_eq_some h
  split at hc
  · exact List.mem_of_find?_eq_some hc
  · cases hc

/-- Once a frame of it has left, a waiting message is what it was, or gone. -/
theorem PairMsg.left_what {m y : PairMsg} {l : List PairMsg} (h : y ∈ m.left l) : ∃ z ∈ l, z.what = y.what := by
  induction l with
  | nil => cases h
  | cons x r ih =>
    rw [PairMsg.left] at h
    split at h
    · next hx =>
      split at h
      · exact ⟨y, List.mem_cons_of_mem _ h, rfl⟩
      · rcases List.mem_cons.1 h with rfl | h
        · exact ⟨x, List.mem_cons_self, by rw [hx]⟩
        · exact ⟨y, List.mem_cons_of_mem _ h, rfl⟩
    · rcases List.mem_cons.1 h with rfl | h
      · exact ⟨y, List.mem_cons_self, rfl⟩
      · obtain ⟨z, hz, hw⟩ := ih h
        exact ⟨z, List.mem_cons_of_mem _ hz, hw⟩

theorem PairWire.pump_noBuoy (now k : Nat) (w : PairWire) (h : w.noBuoy) :
    (PairWire.pump now k w).1.noBuoy ∧ ∀ o ∈ (PairWire.pump now k w).2, ¬ o.toBuoy := by
  induction k generalizing w with
  | zero => exact ⟨h, by simp [pump]⟩
  | succ k ih =>
    unfold pump
    split
    · exact ⟨h, by simp⟩
    · split
      · exact ⟨h, by simp⟩
      · next m hm =>
        obtain ⟨rest, sent⟩ := ih { w with
            txNext := (w.txNext + 1) % 2 ^ 24
            unacked := w.unacked ++ [(w.txNext, now)]
            credits := w.credits.set (Fin.ofNat 16 m.cls) (w.credits[Fin.ofNat 16 m.cls] - 1)
            waiting := m.left w.waiting } (fun y hy => by
              obtain ⟨z, hz, hw⟩ := PairMsg.left_what hy
              exact hw ▸ h z hz)
        refine ⟨rest, fun o ho => ?_⟩
        dsimp only at ho
        split at ho
        · rcases List.mem_append.1 ho with ho | ho
          · exact sent o ho
          · exact List.mem_singleton.1 ho ▸ h m (next_mem hm)
        · exact sent o ho

namespace State

/-! ### Reporting leaves the tray alone -/

/-- From the first state to the second the keeper has reported and no more: running actions, mooring, occult block and arming entries are the same,
events were raised after those under way, and each step released is a record's; no message to a Buoy is sent where none waits on the pair link. -/
structure reported (s t : State) : Prop where
  act : t.act = s.act
  mor : t.mor = s.mor
  occ : t.occ = s.occ
  arms : t.evt.arms = s.evt.arms
  events : ∃ l, t.evt.inflight = s.evt.inflight ++ l
  regs : Regs.wf s.regs = true → Regs.wf t.regs = true ∧ t.emergency = s.emergency
  steps : ∀ h ∈ t.ready, h ∈ s.ready ∨ ∃ q, h = .record q
  buoys : s.par.wire.noBuoy → t.par.wire.noBuoy ∧ ∀ o ∈ t.out, o.toBuoy → o ∈ s.out

theorem reported.refl (s : State) : s.reported s where
  act := rfl
  mor := rfl
  occ := rfl
  arms := rfl
  events := ⟨[], by simp⟩
  regs h := ⟨h, rfl⟩
  steps _ h := .inl h
  buoys h := ⟨h, fun _ ho _ => ho⟩

theorem reported.trans {s t u : State} (a : s.reported t) (b : t.reported u) : s.reported u where
  act := b.act.trans a.act
  mor := b.mor.trans a.mor
  occ := b.occ.trans a.occ
  arms := b.arms.trans a.arms
  events := by
    obtain ⟨l, hl⟩ := a.events
    obtain ⟨r, hr⟩ := b.events
    exact ⟨l ++ r, by rw [hr, hl, List.append_assoc]⟩
  regs h := by
    obtain ⟨ht, he⟩ := a.regs h
    obtain ⟨hu, hf⟩ := b.regs ht
    exact ⟨hu, hf.trans he⟩
  steps h hh := (b.steps h hh).elim (a.steps h) .inr
  buoys h := by
    obtain ⟨ht, ho⟩ := a.buoys h
    obtain ⟨hu, hp⟩ := b.buoys ht
    exact ⟨hu, fun o m n => ho o (hp o m n) n⟩

theorem log_reported (s : State) (l : LogSt) : s.reported { s with log := l } :=
  ⟨rfl, rfl, rfl, rfl, ⟨[], by simp⟩, fun h => ⟨h, rfl⟩, fun _ h => .inl h, fun h => ⟨h, fun _ ho _ => ho⟩⟩

theorem wrByte_reported (s : State) (a : Nat) (b : Byte) : s.reported (s.wrByte a b) :=
  ⟨rfl, rfl, rfl, rfl, ⟨[], by simp⟩, fun h => ⟨h, rfl⟩, fun _ h => .inl h, fun h => ⟨h, fun _ ho _ => ho⟩⟩

theorem wrBytes_reported (b : List Byte) (s : State) (a : Nat) : s.reported (s.wrBytes a b) := by
  induction b generalizing s a with
  | nil => exact .refl s
  | cons b bs ih => exact (wrByte_reported s a b).trans (ih _ _)

theorem wrNat_reported (s : State) (a n x : Nat) : s.reported (s.wrNat a n x) := wrBytes_reported _ s a

/-- A message given to the pair link. -/
theorem pairPut_reported (s : State) (o : Out) (h : ¬ o.toBuoy) : s.reported (s.pairPut o) := by
  unfold pairPut
  split
  · refine ⟨rfl, rfl, rfl, rfl, ⟨[], by simp [pairPump]⟩, fun h => ⟨h, rfl⟩, fun _ h => .inl h, fun hs => ?_⟩
    have put : PairWire.noBuoy { s.par.wire with waiting := s.par.wire.waiting ++ [⟨pairClass o, pairFrames (pairLen o), o⟩] } := by
      intro m hm
      rcases List.mem_append.1 hm with hm | hm
      · exact hs m hm
      · exact List.mem_singleton.1 hm ▸ h
    obtain ⟨rest, sent⟩ := PairWire.pump_noBuoy s.beacon (pairFrames (pairLen o)) _ put
    exact ⟨rest, fun p hp hb => (List.mem_append.1 hp).elim (fun hp => absurd hb (sent p hp)) id⟩
  · exact .refl s

/-- An item mirrored for nothing, or for a record. -/
theorem mirrorItem_reported (s : State) (r : Nat) (m : MirrorMsg) (h : HeldStep) (hh : h = .nothing ∨ ∃ q, h = .record q) :
    s.reported (s.mirrorItem r m h) := by
  unfold mirrorItem
  split
  · have queued : s.reported (s.updPar (fun p => { p with queue := p.queue ++ [⟨r, m, h, s.beacon, false⟩] })) :=
      ⟨rfl, rfl, rfl, rfl, ⟨[], by simp⟩, fun h => ⟨h, rfl⟩, fun _ h => .inl h, fun h => ⟨h, fun _ ho _ => ho⟩⟩
    exact queued.trans (pairPut_reported _ _ (by rintro ⟨_, _, _, _, ho⟩; cases ho))
  · rcases hh with rfl | ⟨q, rfl⟩
    · exact .refl s
    · refine ⟨rfl, rfl, rfl, rfl, ⟨[], by simp⟩, fun h => ⟨h, rfl⟩, fun k hk => ?_, fun h => ⟨h, fun _ ho _ => ho⟩⟩
      exact (List.mem_append.1 hk).imp_right (fun hk => ⟨q, List.mem_singleton.1 hk⟩)

theorem raiseTo_reported (s : State) (i : Tender) (e a : Nat) (w : Word) : s.reported (s.raiseTo i e a w) := by
  unfold raiseTo
  split
  · exact .refl s
  · exact ⟨rfl, rfl, rfl, rfl, ⟨_, rfl⟩, fun h => ⟨h, rfl⟩, fun _ h => .inl h, fun h => ⟨h, fun _ ho _ => ho⟩⟩

/-- An event that is no tender's own is raised along its route and never fails the tender cluster (03 R56). -/
theorem raise_of_lt (s : State) (e a : Nat) (w : Word) (h : e < 0x380) :
    s.raise e a w = s.raiseTo (tenderOf (s.f F.EVT_ROUTE_tender e)) e a w := by
  have route : s.routeTarget e = (tenderOf (s.f F.EVT_ROUTE_tender e), false) := if_neg (by omega)
  simp only [raise, route]
  unfold raiseTo
  split <;> simp_all

/-! ### Writing a record -/

theorem emergency_setF_ringHigh (s : State) (h : Regs.wf s.regs = true) : (s.setF F.LOG_STATUS_ring_high 1).emergency = s.emergency :=
  congrArg (fun v : Nat => decide (v = 1)) (f_setF_other s F.LOG_STATUS_ring_high F.GLB_STATUS_emergency 1 0 0 h (by decide) (.inl (by decide)))

theorem setF_ringHigh_reported (s : State) : s.reported (s.setF F.LOG_STATUS_ring_high 1) :=
  ⟨rfl, rfl, rfl, rfl, ⟨[], by simp⟩, fun h => ⟨setF_wf _ _ _ _ h, emergency_setF_ringHigh s h⟩, fun _ h => .inl h,
    fun h => ⟨h, fun _ ho _ => ho⟩⟩

theorem ringRise_reported (s : State) : s.reported s.ringRise := by
  unfold ringRise
  split
  · rw [raise_of_lt _ _ _ _ (by decide)]
    exact ((log_reported s _).trans (setF_ringHigh_reported _)).trans (raiseTo_reported _ _ _ _ _)
  · exact .refl s

theorem logEnter_reported (s : State) (d : LogDraft) : s.reported (s.logEnter d) := by
  unfold logEnter
  extract_lets n v w _ l
  have written : s.reported { w with log := l } :=
    ((wrBytes_reported (d.bytes n) s (ringAddr n)).trans (wrNat_reported v logNextAddr 8 (n + 1))).trans (log_reported w l)
  have mirrored := mirrorItem_reported { w with log := l } 0 (.record (d.bytes n)) (.record n) (.inr ⟨n, rfl⟩)
  exact (written.trans mirrored).trans (ringRise_reported _)

theorem logSo_reported (s : State) (d : LogDraft) : s.reported (s.logSo d) := by
  unfold logSo logTender
  by_cases hf : s.following = true
  · simp only [hf, if_true]
    exact pairPut_reported _ _ (by rintro ⟨_, _, _, _, ho⟩; cases ho)
  · by_cases hr : s.ringRoom = true
    · simp only [hf, hr, if_true]
      exact logEnter_reported s d
    · simp only [hf, hr]
      exact log_reported s _

/-! ### Withholding -/

theorem newTicket_reported (s : State) : s.reported s.newTicket.2 :=
  (wrNat_reported s _ _ _).trans (mirrorItem_reported _ _ _ _ (.inl rfl))

/-- The record that a tender's acting instruction writes (04 R84). -/
theorem actRecord_reported (s : State) (a : Action) (k : Nat) (h : a.tender.isSome) : s.reported (s.actRecord a k) := by
  obtain ⟨i, hi⟩ := Option.isSome_iff_exists.1 h
  simp only [actRecord, hi]
  exact logSo_reported s _

/-- The action that an acting instruction of a tender would begin, as its record and its report name it (04 R84). -/
def actionBy (s : State) (i : Tender) (x : SubAct) (q : ActIssue) (mask : Nat) (core : Option Nat) (tk : Nat) : Action :=
  { ticket := tk, sub := x, mask := mask, core := core, tender := some i, iword := q.iword, pc := q.pc, ga := q.ga, gb := q.gb
    arming := s.armWord x.cls mask ((lowestBit mask 16).getD 0), phase := .accepted, result := 0, first := (lowestBit mask 16).getD 0
    recSlot := (lowestBit mask 16).getD 0, since := s.beacon, left := mask, cmd := q.cmd }

/-- The ticket, the record and the report of an action that is withheld (04 R87). -/
def withhold (s : State) (i : Tender) (x : SubAct) (q : ActIssue) (mask : Nat) (core : Option Nat) : State :=
  let a := s.actionBy i x q mask core ((s.lastTicket + 1) % 2 ^ 48)
  (s.newTicket.2.actRecord a Ev.actWithheld).actEvent a Ev.actWithheld 0

theorem withhold_reported (s : State) (i : Tender) (x : SubAct) (q : ActIssue) (mask : Nat) (core : Option Nat) :
    s.reported (s.withhold i x q mask core) :=
  (s.newTicket_reported.trans (actRecord_reported _ _ _ rfl)).trans (raiseTo_reported _ _ _ _ _)

theorem actionBy_payload (s : State) (i : Tender) (x : SubAct) (q : ActIssue) (mask : Nat) (core : Option Nat) (tk : Nat) (h : tk < 2 ^ 48) :
    (s.actionBy i x q mask core tk).payload 0 = BitVec.ofNat 64 (tk + x.code.1 * 2 ^ 56) := by
  have major : x.code.1 < 2 ^ 7 := by cases x <;> decide
  simp only [Action.payload, Action.major, actionBy, place, Nat.shiftLeft_eq, Nat.mod_eq_of_lt major, Nat.mod_eq_of_lt h]
  simp

/-- An event raised towards a tender outside emergency-light mode is new under way (04 R65). -/
theorem raises_raiseTo {s v : State} (h : s.reported v) (hv : v.emergency = false) (i : Tender) (e a : Nat) (w : Word) :
    s.raises (v.raiseTo i e a w) e a w := by
  obtain ⟨l, hl⟩ := h.events
  refine ⟨l, [], ⟨i, v.beacon, ⟨e, v.f F.EVT_ROUTE_prio e, false, false, a % 65536, 1, 0, w⟩⟩, ?_, rfl, rfl, rfl⟩
  rw [← hl, raiseTo, if_neg (by simp [hv]), launch_inflight]

theorem withhold_raises (s : State) (i : Tender) (x : SubAct) (q : ActIssue) (mask : Nat) (core : Option Nat) (hr : Regs.wf s.regs = true)
    (he : s.emergency = false) : s.raises (s.withhold i x q mask core) Ev.actWithheld ((lowestBit mask 16).getD 0)
      (BitVec.ofNat 64 ((s.lastTicket + 1) % 2 ^ 48 + x.code.1 * 2 ^ 56)) := by
  rw [← actionBy_payload s i x q mask core _ (Nat.mod_lt _ (by decide))]
  have kept := s.newTicket_reported.trans
    (actRecord_reported _ (s.actionBy i x q mask core ((s.lastTicket + 1) % 2 ^ 48)) Ev.actWithheld rfl)
  exact raises_raiseTo kept ((kept.regs hr).2.trans he) i _ _ _

/-- A tender of a keeper in control meets an acting instruction whose operands pass their checks, on targets that exist and are not all armed for its
class (04 R84 steps 1 to 4). -/
structure unarmedActing (s : State) (i : Tender) (x : SubAct) (ra rb : Fin 32) (mask : Nat) (core : Option Nat) : Prop where
  executes : s.executes i
  normal : s.emergency = false
  acts : s.actsOn i x ra rb mask core
  control : s.control = true
  cancels : x = .ocltCancel → s.atPending = true ∧ s.atReached = false
  present : s.targetsExist mask core = true
  unarmed : mask.land (s.armedSlots x.cls) ≠ mask

/-- Where an acting instruction of a tender comes from: its word, pc and operands, and no session's command. -/
def issueBy (s : State) (i : Tender) (x : SubAct) (rd ra rb : Fin 32) : ActIssue :=
  ⟨(encA x.code.1 rd ra rb (BitVec.ofNat 10 x.code.2)).toNat, (s.t i).pc.toNat, s.g i ra, s.g i rb, none⟩

/-- An acting instruction whose operands pass the checks of R84 step 1 is issued, and its status word is its result. -/
theorem actInstr_issue (s : State) (i : Tender) (x : SubAct) (rd ra rb : Fin 32) (mask : Nat) (core : Option Nat) (he : s.executes i)
    (ho : s.actsOn i x ra rb mask core) :
    s.actInstr i x rd ra rb (BitVec.ofNat 10 x.code.2) =
      (s.actIssue i x (s.issueBy i x rd ra rb)).2.result i rd (s.actIssue i x (s.issueBy i x rd ra rb)).1 := by
  obtain ⟨order, targets, range, block⟩ := ho
  have fn : (BitVec.ofNat 10 x.code.2).toNat = x.code.2 := by cases x <;> rfl
  unfold actInstr
  rw [instr_run s i _ he.run he.fetch]
  refine guarded_none s i _ _ ?_
  simp only [fn, targets, range, order]
  by_cases hx : x = .rollRestore
  · simpa [trapIf, lowestTrap, hx] using block hx
  · simp [trapIf, lowestTrap, hx]

/-- An unarmed acting instruction is withheld (04 R84 step 4, R87). -/
theorem actIssue_withheld {s : State} {i : Tender} {x : SubAct} {ra rb : Fin 32} {mask : Nat} {core : Option Nat}
    (h : s.unarmedActing i x ra rb mask core) (rd : Fin 32) : s.actIssue i x (s.issueBy i x rd ra rb) =
      (statusWord St.withheld 0 ((s.lastTicket + 1) % 2 ^ 48), s.withhold i x (s.issueBy i x rd ra rb) mask core) := by
  have pending : ¬ (x = .ocltCancel ∧ (s.atPending = false ∨ s.atReached = true)) := by
    rintro ⟨rfl, hp⟩
    obtain ⟨yes, no⟩ := h.cancels rfl
    simp [yes, no] at hp
  have targets : s.actTargets x (s.issueBy i x rd ra rb).ga.toNat = some (mask, core) := h.acts.targets
  simp only [actIssue, targets, Option.getD_some, h.control, h.present, pending, h.unarmed]
  rfl

end State

/-- Where no message to a Buoy waits on the pair link, an unarmed acting instruction is withheld with its status, ticket and report, and the tray, the
running actions and the arming entries stay (02 R28, 04 R84, R87). -/
theorem unarmedActing_withheld {s : State} {i : Tender} {x : SubAct} {rd ra rb : Fin 32} {mask : Nat} {core : Option Nat}
    (h : s.unarmedActing i x ra rb mask core) (hrd : rd ≠ 0) (wf : Regs.wf s.regs = true) (pair : s.par.wire.noBuoy) :
    let tk := (s.lastTicket + 1) % 2 ^ 48
    ∃ u : State, exec (x.instr i rd ra rb) s = .next u.settle ∧ u.g i rd = statusWord St.withheld 0 tk ∧
      s.raises u Ev.actWithheld ((lowestBit mask 16).getD 0) (BitVec.ofNat 64 (tk + x.code.1 * 2 ^ 56)) ∧
      u.act = s.act ∧ u.mor = s.mor ∧ u.occ = s.occ ∧ u.evt.arms = s.evt.arms ∧
      (∀ n msg b l, .buoy n msg b l ∈ u.out → .buoy n msg b l ∈ s.out) ∧ ∀ k ∈ u.ready, ∃ q, k = .record q := by
  intro tk
  let v := s.withhold i x (s.issueBy i x rd ra rb) mask core
  have kept : s.reported v := s.withhold_reported i x _ mask core
  have answer := State.actInstr_issue s i x rd ra rb mask core h.executes h.acts
  rw [State.actIssue_withheld h rd] at answer
  refine ⟨v.result i rd (statusWord St.withheld 0 tk), by rw [exec_acting, answer]; rfl, ?_, ?_, ?_, ?_, ?_, ?_, ?_, ?_⟩
  · rw [State.result, State.g_retire, State.g_setG_same, if_neg hrd]
  · unfold State.raises
    rw [State.result_evt]
    exact s.withhold_raises i x _ mask core wf h.normal
  · rw [State.result_act, kept.act]
  · rw [State.result_mor, kept.mor]
  · rw [State.result_occ, kept.occ]
  · rw [State.result_evt, kept.arms]
  · intro n msg b l sent
    rw [State.result_out] at sent
    exact (kept.buoys pair).2 _ sent ⟨n, msg, b, l, rfl⟩
  · intro k hk
    rw [State.result_ready] at hk
    exact (kept.steps k hk).resolve_left (by rw [h.executes.settled]; exact List.not_mem_nil)

/-! ### An unarmed stop, with and without a Buoy message on the pair link -/

/-- A keeper in control with tender 3 at ORDER, slot 5 present, its mask in g6, and nothing armed; it serves no sessions. A follower mirrors over a
link with credit, on which the given messages wait. -/
def stopper (l : List PairMsg) : State :=
  let s := (State.reset.updT 3 (fun x => { x with run := .running, prv := true })).setG 3 6 0x20
  let s := ((s.setF F.PAR_STATUS_control 1).setF F.PAR_STATUS_link_up 1).setF F.MOR_STRAP_present 1 5
  let w := { PairWire.init with credits := Vector.replicate 16 4, waiting := l }
  { s with par := { s.par with mirroring := true, wire := w } }

theorem stopper_unarmed (l : List PairMsg) : (stopper l).unarmedActing 3 .ocltStop 6 7 0x20 none :=
  have h : (stopper []).unarmedActing 3 .ocltStop 6 7 0x20 none :=
    { executes := ⟨by decide +kernel, by decide +kernel, rfl⟩
      normal := by decide +kernel
      acts := ⟨by decide +kernel, by decide +kernel, by decide +kernel, nofun⟩
      control := by decide +kernel
      cancels := nofun
      present := by decide +kernel
      unarmed := by decide +kernel }
  { executes := ⟨h.executes.run, h.executes.fetch, h.executes.settled⟩
    normal := h.normal
    acts := ⟨h.acts.order, h.acts.targets, h.acts.range, nofun⟩
    control := h.control
    cancels := nofun
    present := h.present
    unarmed := h.unarmed }

/-- With nothing waiting on the pair link the stop is withheld: `unarmedActing_withheld` speaks of states that exist. -/
theorem stopper_withheld : ∃ u : State, exec (.ocltStop 3 9 6 7 0) (stopper []) = .next u.settle ∧ u.mor = (stopper []).mor := by
  obtain ⟨u, answer, -, -, -, mor, -⟩ :=
    unarmedActing_withheld (rd := 9) (stopper_unarmed []) (by decide) (by decide +kernel) (fun m hm => absurd hm List.not_mem_nil)
  exact ⟨u, answer, mor⟩

/-- `stopper` with a message to the Buoy of port 5 on its pair link. -/
def buoyOnPair : State := stopper [⟨0, 1, .buoy 5 "ACTION" [] []⟩]

/-- `buoyOnPair` after OCLT STOP of slot 5. -/
def buoyOnPairStopped : State := buoyOnPair.actInstr 3 .ocltStop 9 6 7 (BitVec.ofNat 10 SubAct.ocltStop.code.2)

theorem buoyOnPair_out : buoyOnPair.out = [] := by decide +kernel

/-- The withheld stop is mirrored, and the Buoy message ahead of it leaves with the frame. -/
theorem buoyOnPairStopped_sends : .buoy 5 "ACTION" [] [] ∈ buoyOnPairStopped.out := by decide +kernel

theorem buoyOnPairStopped_rests : buoyOnPairStopped.ready = [] ∧ buoyOnPairStopped.kcpServes = false := by decide +kernel

/-- Refutes O38: the statement takes any state of the pair link, also one with a message to a Buoy among those that wait there (the keeper puts none
there). The mirrored ticket or record of the withheld action lets the head of that queue leave, so a message to a Buoy is sent that was not sent
before. -/
theorem not_unarmedActionsAreWithheld : ¬ Obligations.UnarmedActionsAreWithheld := by
  unfold Obligations.UnarmedActionsAreWithheld
  intro h
  have s := stopper_unarmed [⟨0, 1, .buoy 5 "ACTION" [] []⟩]
  obtain ⟨u, answer, -, -, -, -, -, -, noBuoy, records⟩ :=
    h buoyOnPair 3 .ocltStop 9 6 7 0x20 none s.executes s.normal s.acts s.control s.cancels s.present s.unarmed (by decide)
  obtain ⟨settled, unserved⟩ := buoyOnPairStopped_rests
  have same : buoyOnPairStopped = u.settle := by
    rw [exec_acting, ← buoyOnPairStopped, done_nil _ settled] at answer
    exact Host.Outcome.next.inj answer
  have sent : u.out = buoyOnPairStopped.out := by
    rw [same] at unserved ⊢
    exact (u.settle_records_out records unserved).symm
  have before : .buoy 5 "ACTION" [] [] ∈ buoyOnPair.out := noBuoy _ _ _ _ (by rw [sent]; exact buoyOnPairStopped_sends)
  rw [buoyOnPair_out] at before
  exact List.not_mem_nil before

end Sys2Proof.Machine

namespace Sys2Proof.Machine

open State

/-! ### WAIT delivers an event to the dispatcher -/

namespace State

/-- The checks of WAIT and PEEK pass for their own selector, an even rd and a legal priority mask (04 R67). -/
theorem waitChecks_pass (s : State) (i : Tender) (code : Nat) (rd ra rb : Fin 32) (fn : BitVec 10) (hfn : fn.toNat = code)
    (hrd : rd.val % 2 = 0) (hm : (s.g i ra).toNat < 16) : lowestTrap (s.waitChecks i code rd ra rb fn) = none := by
  have selector : ¬ (fn.toNat ≠ code ∨ rd.val % 2 = 1) := by omega
  have mask : ¬ 16 ≤ (s.g i ra).toNat := by omega
  simp [waitChecks, trapIf, selector, mask, lowestTrap]

/-- A change of a tender that leaves its general registers leaves what they read. -/
theorem g_updT_of_g (s : State) (i : Tender) (f : TenderSt → TenderSt) (r : Fin 32) (h : (f (s.t i)).g = (s.t i).g) :
    (s.updT i f).g i r = s.g i r := by
  simp only [g, t_updT_same, h]

/-- The program that runs on a tender depends on what the tender holds of it and on the programs loaded. -/
theorem progOf_congr {s u : State} {i : Tender} (old : (u.t i).old = (s.t i).old) (prog : (u.t i).prog = (s.t i).prog)
    (loaded : u.prog = s.prog) : u.progOf i = s.progOf i := by
  simp only [progOf, old, prog, loaded]

/-- What a WAIT leaves that delivers an event, before the dispatcher: the event in its registers and out of the queue (04 R67, R68). -/
def delivered (s : State) (i : Tender) (rd : Fin 32) (e : EvEntry) : State := (s.giveEvent i rd e).updT i (fun x => x.dropEntry e)

theorem deliverEvent_eq (s : State) (i : Tender) (rd : Fin 32) (e : EvEntry) :
    s.deliverEvent i rd e = (s.delivered i rd e).dispatcher i e := rfl

/-- A delivery changes the registers, the pc, the count of retired instructions and the queue of its tender, and nothing else of it. -/
theorem delivered_t (s : State) (i : Tender) (rd : Fin 32) (e : EvEntry) : (s.delivered i rd e).t i = { s.t i with
    g := ((s.delivered i rd e).t i).g, pc := (s.t i).pc + 4, instret := (s.t i).instret + 1
    queue := ((s.t i).dropEntry e).queue, merges := ((s.t i).dropEntry e).merges } := by
  simp only [delivered, giveEvent, t_updT_same, t_retire_same]
  rw [t_setG_same, t_setG_same s]
  rfl

/-- Between the two states only the tenders differ. -/
def tendersOnly (s u : State) : Prop := u = { s with tnd := u.tnd }

theorem tendersOnly.trans {s u v : State} (hu : s.tendersOnly u) (hv : u.tendersOnly v) : s.tendersOnly v := by
  unfold tendersOnly at *
  rw [hv, hu]

theorem updT_tendersOnly (s : State) (i : Tender) (f : TenderSt → TenderSt) : s.tendersOnly (s.updT i f) := rfl

theorem setG_tendersOnly (s : State) (i : Tender) (r : Fin 32) (v : Word) : s.tendersOnly (s.setG i r v) := by
  unfold setG
  split
  · rfl
  · exact updT_tendersOnly ..

theorem delivered_tendersOnly (s : State) (i : Tender) (rd : Fin 32) (e : EvEntry) : s.tendersOnly (s.delivered i rd e) :=
  (((setG_tendersOnly s ..).trans (setG_tendersOnly ..)).trans (updT_tendersOnly ..)).trans (updT_tendersOnly ..)

/-- At ORDER outside a trap, with Standing Orders in force, the dispatcher of an event of RAISE starts its owner handler and writes no record
(05 R96, R97). -/
theorem dispatcher_raised {s : State} {i : Tender} {e : EvEntry} (orders : s.prog.orders ≠ none) (raised : e.sw = true)
    (order : (s.t i).prv = true) (untrapped : (s.t i).intrap = false) : s.dispatcher i e = s.ownerStart i e := by
  simp [dispatcher, orders, raised, order, untrapped]

/-- The state in which an owner handler of a program starts on an event (05 R97). -/
def inHandler (s : State) (i : Tender) (e : EvEntry) (p : Program) (h : HandlerEnt) : State :=
  ((s.setG i 2 e.word).setG i 3 e.payload).updT i (fun x => { x with
    pc := BitVec.ofNat 48 (ownerBase + h.offset / 4 * 4), prv := false, handler := some ⟨s.beacon + p.budget * tickUs, none⟩ })

theorem ownerStart_named {s : State} {i : Tender} {e : EvEntry} {p : Program} {h : HandlerEnt} (prog : s.progOf i = some p)
    (named : ownerHandler p e = some h) : s.ownerStart i e = s.inHandler i e p h := by
  simp only [ownerStart, prog, named, inHandler]

/-- An owner handler finds the event word in g2 and the payload in g3 (05 R97). -/
theorem inHandler_g (s : State) (i : Tender) (e : EvEntry) (p : Program) (h : HandlerEnt) :
    (s.inHandler i e p h).g i 2 = e.word ∧ (s.inHandler i e p h).g i 3 = e.payload := by
  unfold inHandler
  constructor
  · rw [g_updT_of_g _ _ _ _ rfl, g_setG_other _ _ _ _ _ (by decide), g_setG_same, if_neg (by decide)]
  · rw [g_updT_of_g _ _ _ _ rfl, g_setG_same, if_neg (by decide)]

/-- The start of an owner handler sets its tender's privilege, pc and handler, writes g2 and g3, and leaves the rest of the tender. -/
theorem inHandler_t (s : State) (i : Tender) (e : EvEntry) (p : Program) (h : HandlerEnt) : (s.inHandler i e p h).t i = { s.t i with
    g := ((s.inHandler i e p h).t i).g, pc := BitVec.ofNat 48 (ownerBase + h.offset / 4 * 4), prv := false,
    handler := some ⟨s.beacon + p.budget * tickUs, none⟩ } := by
  simp only [inHandler, t_updT_same]
  rw [t_setG_same, t_setG_same s]

theorem inHandler_tendersOnly (s : State) (i : Tender) (e : EvEntry) (p : Program) (h : HandlerEnt) :
    s.tendersOnly (s.inHandler i e p h) :=
  ((setG_tendersOnly s ..).trans (setG_tendersOnly ..)).trans (updT_tendersOnly ..)

end State

theorem exec_waitEv (i : Tender) (rd ra rb : Fin 32) (fn : BitVec 10) (s : State) :
    exec (.waitEv i rd ra rb fn) s = execWaitEv i rd ra rb fn s := rfl

/-- WAIT of a tender that executes, with an even rd and a legal priority mask, delivers the entry that it picks (04 R67). -/
theorem exec_waitEv_delivers {s : State} {i : Tender} {rd ra rb : Fin 32} {e : EvEntry} (he : s.executes i) (hrd : rd.val % 2 = 0)
    (hm : (s.g i ra).toNat < 16) (pick : pickEntry (s.t i).queue (prioMask (s.g i ra).toNat) = some e) :
    exec (.waitEv i rd ra rb 0) s = done (s.deliverEvent i rd e) := by
  have pass := waitChecks_pass s i 0 rd ra rb 0 rfl hrd hm
  rw [exec_waitEv, execWaitEv, instr_run s i _ he.run he.fetch, guarded_none _ _ _ _ pass]
  simp only [pick]

/-- Settles O24: the delivery leaves the tender at ORDER with its program, the dispatcher starts the owner handler of that program, and neither
touches memory or register space. -/
theorem dispatcherStartsOwnerHandler : Obligations.DispatcherStartsOwnerHandler := by
  unfold Obligations.DispatcherStartsOwnerHandler
  intro s i rd ra rb e p h executes even mask pick order untrapped orders raised prog named
  let v := s.delivered i rd e
  let u := v.inHandler i e p h
  have tender : v.t i = _ := s.delivered_t i rd e
  have started : u.t i = _ := v.inHandler_t i e p h
  have delivery : s.tendersOnly v := s.delivered_tendersOnly i rd e
  have frame : u = { s with tnd := u.tnd } := delivery.trans (v.inHandler_tendersOnly i e p h)
  have loaded : v.prog = s.prog := by rw [delivery]
  have program : v.progOf i = some p := (progOf_congr (by rw [tender]) (by rw [tender]) loaded).trans prog
  have starts : s.deliverEvent i rd e = u := by
    rw [deliverEvent_eq, dispatcher_raised (by rw [loaded]; exact orders) raised (by rw [tender]; exact order)
      (by rw [tender]; exact untrapped), ownerStart_named program named]
  have settled : u.ready = [] := by
    rw [frame]
    exact executes.settled
  have now : v.beacon = s.beacon := by rw [delivery]
  obtain ⟨word, payload⟩ := v.inHandler_g i e p h
  refine ⟨u, ?_, ?_, ?_, word, payload, ?_, ?_, ?_, ?_⟩
  · rw [exec_waitEv_delivers executes even (by omega) (by rw [mask]; exact pick), starts, done_nil _ settled]
  · rw [started]
  · rw [started, ownerBase]
  · rw [started, now, tickUs]
  · rw [started, tender]
  · rw [frame]
  · rw [frame]

/-! ### Bindings and budgets of owner programs -/

/-- A row of a keeper whose blocks run answers its effect, settled. -/
theorem live_working {s : State} (h : s.working) (effect : State → State) : live s effect = done (effect s) :=
  live_run s effect h.released h.normal h.cool

/-- A row without effect on a keeper whose blocks run changes nothing. -/
theorem live_unchanged {s : State} (h : s.working) {effect : State → State} (he : effect s = s) : live s effect = .next s := by
  rw [live_working h, he, done_nil s h.settled]

namespace State

/-! ### What reporting leaves of tenders and memory -/

@[simp] theorem pairPut_t_read (s : State) (o : Out) (j : Tender) : (s.pairPut o).t j = s.t j := by
  unfold pairPut
  split <;> rfl

@[simp] theorem pairPut_mem (s : State) (o : Out) : (s.pairPut o).mem = s.mem := by
  unfold pairPut
  split <;> rfl

@[simp] theorem mirrorItem_t_read (s : State) (r : Nat) (m : MirrorMsg) (h : HeldStep) (j : Tender) : (s.mirrorItem r m h).t j = s.t j := by
  unfold mirrorItem
  split
  · simp
  · split <;> rfl

@[simp] theorem mirrorItem_mem (s : State) (r : Nat) (m : MirrorMsg) (h : HeldStep) : (s.mirrorItem r m h).mem = s.mem := by
  unfold mirrorItem
  split
  · simp
  · split <;> rfl

@[simp] theorem log_t_read (s : State) (l : LogSt) (j : Tender) : ({ s with log := l } : State).t j = s.t j := rfl

@[simp] theorem ringRise_t_read (s : State) (j : Tender) : s.ringRise.t j = s.t j := by
  unfold ringRise
  split
  · rw [raise_t_read, setF_t_read, log_t_read]
  · rfl

@[simp] theorem logEnter_t_read (s : State) (d : LogDraft) (j : Tender) : (s.logEnter d).t j = s.t j := by
  unfold logEnter
  extract_lets n v w _ l
  rw [ringRise_t_read, mirrorItem_t_read, log_t_read, wrNat_t_read, wrBytes_t_read]

@[simp] theorem logSo_t_read (s : State) (d : LogDraft) (j : Tender) : (s.logSo d).t j = s.t j := by
  unfold logSo logTender
  by_cases hf : s.following = true
  · simp [hf]
  · by_cases hr : s.ringRoom = true
    · simp [hf, hr]
    · simp only [hf, hr]; rfl

/-! ### The end of an owner handler (05 R97) -/

/-- Asking for the unbinding of a program changes what is pending on a tender, and nothing else of it (05 R92). -/
theorem unbindProg_t (s : State) (p : Nat) (j : Tender) : ∃ b, (s.unbindProg p).t j = { s.t j with bindPend := b } := by
  have pend (u : State) (i : Tender) (b : Option (Option Nat)) (hu : ∃ c, u.t j = { s.t j with bindPend := c }) :
      ∃ c, (u.updT i (fun x => { x with bindPend := b })).t j = { s.t j with bindPend := c } := by
    obtain ⟨c, hc⟩ := hu
    by_cases hj : j = i
    · subst hj
      exact ⟨b, by rw [t_updT_same, hc]⟩
    · exact ⟨c, by rw [t_updT_other _ _ _ _ hj, hc]⟩
  unfold unbindProg
  dsimp only
  rw [raise_t_read]
  refine List.foldlRecOn (motive := fun (u : State) => ∃ c, u.t j = { s.t j with bindPend := c }) _ _ ⟨(s.t j).bindPend, rfl⟩ ?_
  intro u hu i _
  dsimp only
  split
  · exact pend u i _ hu
  · split
    · exact pend u i _ hu
    · exact hu

/-- The end of an owner handler leaves its tender without one; the program's unbinding may be asked for, and nothing else of the tender changes. -/
theorem handlerEnded_t (s : State) (i : Tender) (ws : List Word) :
    ∃ b, (s.handlerEnded i ws).t i = { s.t i with handler := none, bindPend := b } := by
  unfold handlerEnded
  extract_lets a l
  have ended : l.t i = { s.t i with handler := none } := by rw [logSo_t_read, t_updT_same]
  split
  · split
    · exact ⟨_, ended⟩
    · extract_lets ends c
      have counted : c.t i = { s.t i with handler := none } := ended
      split
      · obtain ⟨b, hb⟩ := c.unbindProg_t _ i
        exact ⟨b, by rw [hb, counted]⟩
      · exact ⟨_, counted⟩
  · exact ⟨_, ended⟩

theorem dropWaits_t (s : State) (i j : Tender) : (s.dropWaits i).t j = s.t j := rfl

/-- Within its budget an owner handler goes on. -/
theorem budgetOver_within {s : State} {i : Tender} {h : Handler} (running : (s.t i).handler = some h) (early : s.beacon < h.due) :
    s.budgetOver i = s := by
  simp only [budgetOver, running, early, if_true]

/-- An owner handler past its budget is ended; a tender that runs or waits at HOST goes on at ORDER at TS_TVEC. -/
theorem budgetOver_ends {s : State} {i : Tender} {h : Handler} (running : (s.t i).handler = some h) (due : h.due ≤ s.beacon) :
    ((s.budgetOver i).t i).handler = none ∧
      (s.alive i = true → (s.t i).prv = false → ((s.budgetOver i).t i).prv = true ∧ ((s.budgetOver i).t i).pc = (s.t i).tvec.truncate 48 ∧
        ((s.budgetOver i).t i).run = .running ∧ ((s.budgetOver i).t i).intrap = (s.t i).intrap) := by
  obtain ⟨b, hb⟩ := s.handlerEnded_t i []
  have alive : (s.handlerEnded i []).alive i = s.alive i := by simp only [State.alive, hb]
  have prv : ((s.handlerEnded i []).t i).prv = (s.t i).prv := by rw [hb]
  simp only [budgetOver, running, Nat.not_lt.2 due, if_false, alive, prv]
  split
  · simp [dropWaits_t, hb]
  · next stays => exact ⟨by rw [hb], fun ha hp => absurd ⟨ha, by simp [hp]⟩ stays⟩

/-! ### A binding (05 R92) -/

/-- What is read of memory depends on memory alone. -/
theorem rdBytes_congr {s u : State} (h : u.mem = s.mem) (a n : Nat) : u.rdBytes a n = s.rdBytes a n := by
  simp only [rdBytes, rdByte, h]

/-- While an owner handler runs, a binding waits. -/
theorem bindingDone_waits {s : State} {i : Tender} (running : (s.t i).handler.isSome = true) : s.bindingDone i = s := by
  unfold bindingDone
  split
  · rfl
  · exact if_pos running

/-- A binding that takes effect leaves its tender with the program wanted and nothing pending, and where that is a loaded program its code and data
stand in the tender's owner region. -/
theorem bindingDone_takes {s : State} {i : Tender} {want : Option Nat} (wf : Memory.wf s.mem = true)
    (pend : (s.t i).bindPend = some want) (idle : (s.t i).handler = none) :
    (s.bindingDone i).t i = { s.t i with prog := want, bindPend := none, old := none } ∧
      ∀ k p, want = some k → s.prog.owned[Fin.ofNat 16 k] = some p →
        (s.bindingDone i).rdBytes (home i ownerBase) p.body.length = p.body := by
  generalize result : s.bindingDone i = u
  unfold bindingDone at result
  rw [pend] at result
  split at result
  · contradiction
  · next _ same =>
    obtain rfl := Option.some.inj same
    rw [if_neg (by simp [idle])] at result
    extract_lets before taken imaged _ freed _ at result
    clear_value before
    have took : taken.t i = { s.t i with prog := want, bindPend := none, old := none } := t_updT_same ..
    have image : imaged.t i = taken.t i ∧ ∀ k p, want = some k → s.prog.owned[Fin.ofNat 16 k] = some p →
        imaged.rdBytes (home i ownerBase) p.body.length = p.body := by
      unfold imaged
      refine ⟨?_, ?_⟩
      · split
        · split
          · exact wrBytes_t_read ..
          · rfl
        · rfl
      · rintro k p rfl loaded
        have held : taken.prog.owned[Fin.ofNat 16 k] = some p := loaded
        simp only [held]
        exact rdBytes_wrBytes_same p.body taken _ wf
    have free : freed.t i = imaged.t i ∧ freed.mem = imaged.mem := by
      unfold freed
      split
      · split <;> exact ⟨rfl, rfl⟩
      · exact ⟨rfl, rfl⟩
    have report : u.t i = freed.t i ∧ u.mem = freed.mem := by
      subst result
      split
      · split
        · split
          · exact ⟨mirrorItem_t_read .., mirrorItem_mem ..⟩
          · exact ⟨rfl, rfl⟩
        · exact ⟨rfl, rfl⟩
      · exact ⟨rfl, rfl⟩
    obtain ⟨imagedT, imagedBytes⟩ := image
    obtain ⟨freedT, freedMem⟩ := free
    obtain ⟨reportT, reportMem⟩ := report
    refine ⟨by rw [reportT, freedT, imagedT, took], fun k p named loaded => ?_⟩
    rw [rdBytes_congr (reportMem.trans freedMem), imagedBytes k p named loaded]

end State

theorem exec_bindingTakesEffect (i : Tender) (s : State) :
    exec (.bindingTakesEffect i) s = live s (fun s => s.bindingDone i) := rfl

theorem exec_handlerBudgetExpired (i : Tender) (s : State) :
    exec (.handlerBudgetExpired i) s = live s (fun s => s.budgetOver i) := rfl

/-- Settles O42: on a keeper whose blocks run both rows answer their effect, which waits for the handler's end or its deadline. -/
theorem bindingAndBudget : Obligations.BindingAndBudget := by
  unfold Obligations.BindingAndBudget
  intro s i working canonical
  obtain ⟨wf, -⟩ := canonical
  refine ⟨fun want pend => ⟨fun idle => ?_, fun running => ?_⟩, fun h handler => ⟨fun early => ?_, fun due => ?_⟩⟩
  · obtain ⟨tender, image⟩ := bindingDone_takes wf pend idle
    refine ⟨s.bindingDone i, ?_, by rw [tender], by rw [tender], fun k p named loaded => ?_⟩
    · rw [exec_bindingTakesEffect, live_working working, done]
    · exact image k.val p named (by simpa using loaded)
  · rw [exec_bindingTakesEffect, live_unchanged working (bindingDone_waits running)]
  · rw [exec_handlerBudgetExpired, live_unchanged working (budgetOver_within handler early)]
  · refine ⟨s.budgetOver i, ?_, budgetOver_ends handler due⟩
    rw [exec_handlerBudgetExpired, live_working working, done]

end Sys2Proof.Machine
